-- ==== Sys2Proof/Word.lean ====
section
/-! DEFINITION. The words of the tag: the 32-bit register word, the byte, and their plainest arithmetic (R6 to R9). -/

namespace Sys2Proof

/-- A 32-bit register word (R12). -/
abbrev Word := BitVec 32

/-- One byte. -/
abbrev Byte := BitVec 8

namespace Word

/-- Bit `n` of a word, bit 0 the least significant (R6). -/
def bit (w : Word) (n : Nat) : Bool := w.getLsbD n

/-- The field of bits `hi` to `lo`, as a number (R6). -/
def field (w : Word) (hi lo : Nat) : Nat := (w.toNat / 2 ^ lo) % 2 ^ (hi + 1 - lo)

/-- The word whose bit `n` alone is 1. -/
def oneBit (n : Nat) : Word := BitVec.ofNat 32 (2 ^ n)

/-- The word with the number `v` placed at bit `lo`. -/
def place (v lo : Nat) : Word := BitVec.ofNat 32 (v * 2 ^ lo)

/-- The word with ones in bits `hi` to `lo`. -/
def maskOf (hi lo : Nat) : Word := BitVec.ofNat 32 ((2 ^ (hi + 1 - lo) - 1) * 2 ^ lo)

end Word

/-- A flag as a number: 1 for true. -/
def bitNat (b : Bool) : Nat := if b then 1 else 0

/-- `a / b` rounded up. -/
def ceilDiv (a b : Nat) : Nat := (a + (b - 1)) / b

/-- A number brought down to `top` when it lies above it (a saturating report). -/
def saturate (top v : Nat) : Nat := if v ≤ top then v else top

/-- A number brought into `lo .. hi` (values outside the range act as the nearer end). -/
def clampTo (lo hi v : Nat) : Nat := if v < lo then lo else if hi < v then hi else v

/-- The low `n` bytes of a number, least significant first (R7). -/
def leBytes : Nat → Nat → List Byte
  | 0, _ => []
  | n + 1, v => BitVec.ofNat 8 (v % 256) :: leBytes n (v / 256)

/-- The number whose bytes, least significant first, are `bs` (R7). -/
def leNat : List Byte → Nat
  | [] => 0
  | b :: bs => b.toNat + 256 * leNat bs

/-- `n` bytes of 0. -/
def zeroBytes (n : Nat) : List Byte := List.replicate n 0#8

/-- `n` bytes of `bs` from position `at0`; positions past the end read 0. -/
def slice (bs : List Byte) (at0 n : Nat) : List Byte :=
  let part := (bs.drop at0).take n
  part ++ zeroBytes (n - part.length)

/-- Byte `k` of `bs`, 0 past its end. -/
def byteAt (bs : List Byte) (k : Nat) : Nat := (bs.getD k 0#8).toNat

end Sys2Proof
end

