-- ==== Sys2Proof/Types.lean ====
section
/-! DEFINITION. The names and small records that commands and state share: traffic classes, ports, frame ends, records (R17 to R22), and the operand records of the commands. -/

namespace Sys2Proof

/-- The four traffic classes of the Stream Port (R209, R20 codes 0 to 3). -/
inductive Cls where
  | knell | event | mgmt | peal
  deriving DecidableEq, Repr

/-- The class code of R209. -/
def Cls.code : Cls → Nat
  | .knell => 0 | .event => 1 | .mgmt => 2 | .peal => 3

/-- How a frame ends (R251): it passes its end check, is poisoned, or fails otherwise; or the 16 bytes
of its header and the bytes of its trailer as they arrived, from which the tag finds which. -/
inductive FrameEnd where
  | good | poisoned | failed
  | raw (header trailer : List Byte)
  deriving DecidableEq, Repr

/-- The part of a cut-through frame that a frame command reports: the whole frame at once, its
header while the rest is still to come, or the end of the frame whose header was reported. -/
inductive FramePhase where
  | whole (e : FrameEnd)
  | header
  | finish (e : FrameEnd)
  deriving DecidableEq, Repr

/-- A port to the register map (R261, R476): the register port, a session context, or the
requests of one requester without SV (hosts 0 to 47). -/
inductive Port where
  | regp
  | session (ctx : Nat)
  | host (n : Nat)
  deriving DecidableEq, Repr

/-- The two entropy sources (R392). -/
inductive Src where
  | a | b
  deriving DecidableEq, Repr

/-- The header fields of a MGMT request that every opcode shares (R257), and how its frame ended. -/
structure MgmtHdr where
  /-- byte 1: host number 0 to 47, or 63 for the switch die; bits 7:6 reserved -/
  requester : Byte
  /-- bytes 2-3 -/
  tag : BitVec 16
  /-- byte 4: the context number when SV is 1 -/
  session : Option Nat
  /-- the end check of the request frame -/
  ending : FrameEnd
  /-- the body as it arrived, where it may differ from the one that the operands make -/
  bodyRaw : Option (List Byte) := none
  deriving DecidableEq, Repr

/-- The header of a record frame (R252). -/
structure EventHdr where
  typ : Byte
  first : Bool
  last : Bool
  bodyLen : Nat
  source : Nat
  seq : Word
  ssn : Word
  deriving DecidableEq, Repr

/-- The header of a COPY frame (R276). -/
structure CopyHdr where
  origin : Nat
  attempt : Nat
  cid : Word
  dest : BitVec 64
  deriving DecidableEq, Repr

/-- The header of a PACK frame (R277). -/
structure PackHdr where
  acker : Nat
  result : Nat
  origin : Nat
  cid : Word
  stroke : Nat
  deriving DecidableEq, Repr

/-- What the gauge front end reads at one update (R180, R181), in mV, µW, 10 nW and 10 µAh. -/
structure GaugeReading where
  holdMv : Nat
  storeMv : Nat
  frMv : Nat
  fieldUw : Nat
  harv10nw : Nat
  drawn10uah : Nat
  deriving DecidableEq, Repr

/-- What a sector pulse programs (R117): a sector of a data line, or a cell of a toll copy. -/
inductive PulseTarget where
  | line (bank line : Nat)
  | toll (counter : Nat) (copyB : Bool)
  deriving DecidableEq, Repr

/-- A record header without its stroke number, which stage S7 assigns (R18, R41). -/
structure Hdr where
  typ : Byte
  flags : Byte
  length : Nat
  source : BitVec 16
  part : Nat
  /-- bits 7:6 of byte 7 -/
  degree : Nat
  /-- bits 5:3 of byte 7 -/
  cls : Nat
  seq : Word
  /-- SSN, or the bracket when Flags.BRACKET is 1 -/
  ssn : Word
  /-- 0 until assigned (R41) -/
  stroke : Nat
  time : Nat
  deriving DecidableEq, Repr

/-- What a tracking sample measures: the open-circuit voltage in 0.1 mV and the net harvest power in 10 nW
(R178, R180). -/
structure Tracked where
  voc : Nat
  harv : Nat
  deriving DecidableEq, Repr

/-- A record: header, payload without padding (plaintext, or as stored when Flags.ENC is 0), and
the trailer fields (R17, R22). -/
structure Rec where
  hdr : Hdr
  payload : List Byte
  crc : Word
  link : BitVec 64
  gcm : BitVec 128
  /-- the link that this one follows in its partition's chain (R67): no byte of the record, and what an
  export that begins with the record gives (R454) -/
  prev : BitVec 64 := 0#64
  deriving DecidableEq, Repr

end Sys2Proof
end

