-- ==== Sys2Proof/Syntax.lean ====
section
/-! DEFINITION. The commands: one constructor per row of spec/opcode_table.json, in its order. Rows that name a register write carry the port and the value written; timer rows carry what the spec lets differ. -/

namespace Sys2Proof

/-- A command from outside the block, or an event of its own engines and timers. -/
inductive Instr where
  -- Stream Port link
  /-- sequence number, class, SOF, EOF, payload length in bytes, piggyback acknowledgement -/
  | dataPacket (seq : BitVec 12) (cls : Cls) (sof eof : Bool) (len : Nat) (ack : Option (BitVec 12))
  /-- what arrived at a packet boundary, or on a lane in training: the lane, how many TS2 sets the tag has
  sent when it ends, the bytes (R206 to R208, R227). With no bytes it is the row's plain event: a packet
  that fails -/
  | badPacket (lane : Nat := 0) (sent : Nat := 0) (raw : List Byte := [])
  | ackPacket (seq : BitVec 12)
  | nakPacket (seq : BitVec 12)
  /-- the MGMT and PEAL limits, the only ones the tag uses (R212) -/
  | creditPacket (mgmt peal : BitVec 16)
  /-- request number, type, suspected lanes, width cap (R211) -/
  | linkReqPacket (num : Byte) (typ : Byte) (lanes : BitVec 4) (cap : Nat)
  /-- lane, training ID, REQ_ECHO, width cap, window offered (R227) -/
  | ts1 (lane : Nat) (trainId reqEcho : Byte) (cap window : Nat)
  /-- lane, training ID, width cap, partner's receive set, RESUME, next expected, window, and how
  many TS2 sets the tag has sent when this one ends (R228) -/
  | ts2 (lane : Nat) (trainId : Byte) (cap : Nat) (rxSet : BitVec 4) (resume : Bool)
      (next : BitVec 12) (window sent : Nat)
  | ackTimer
  | replayTimeout
  | linkReqRepeat
  | ts1PhaseTimer
  | trainingPhaseTimeout
  | retrainTimeout
  | noValidSymbolTimeout
  | errorWindowLinkDown
  /-- lanes whose IDLE bits differed, 0 when found by CRC (R237) -/
  | laneFault (lanes : BitVec 4)
  | graceExpiry
  | clockLocked
  | packetBoundaryTransmit
  | retrain (p : Port) (v : Word)
  | fullRetrain (p : Port) (v : Word)
  | stmEn (p : Port) (en : Bool)
  -- frames and in-band management
  | eventFrame (ph : FramePhase) (h : EventHdr) (body : List Byte)
  /-- address, width code of R259 -/
  | regRead (h : MgmtHdr) (addr : Nat) (width : Nat)
  | regWrite (h : MgmtHdr) (addr : Nat) (width : Nat) (data : BitVec 64)
  /-- stroke number, mode, partition code or origin tag index, OPEN (R263) -/
  | recRead (h : MgmtHdr) (stroke : Nat) (mode : Nat) (arg : Nat) (opened : Bool)
  | recWrite (h : MgmtHdr) (typ : Byte) (first last : Bool) (seq : Word) (payload : List Byte)
  /-- method, rights requested, the host's ephemeral public key, 64 bytes (R449) -/
  | sessionOpenHello (h : MgmtHdr) (method : Nat) (rights : Byte) (point : List Byte)
  | sessionOpenProve (h : MgmtHdr) (sig : List Byte)
  | sessionClose (h : MgmtHdr)
  | lease (h : MgmtHdr) (part : Nat) (op : Nat) (seconds : Nat)
  | stagePull (h : MgmtHdr)
  | leaseExpiry (part : Nat)
  | pealSend
  | pealRetryWaitExpiry (stroke : Nat)
  | packFrame (e : FrameEnd) (h : PackHdr)
  | pealCopyFrame (ph : FramePhase) (h : CopyHdr) (body : List Byte)
  | knellMirrorStart
  -- commit pipeline and array
  | seal
  | commitGroup
  | sectorPulseDone (t : PulseTarget) (ok : Bool)
  | bankFail (bank : Nat)
  | checkpointInterval
  | checkpointEntryCount
  | checkpoint
  | ckptReq (p : Port) (v : Word)
  | scrubReq (p : Port) (v : Word)
  /-- bank, extent, lines found with a low margin, strokes of records whose check fails, and
  (partition, stroke) of each record at which the chain breaks (R120) -/
  | scrubExtent (bank ext : Nat) (low : List Nat) (damaged : List Nat) (breaks : List (Nat × Nat))
  | staticLevelMove (bank : Nat)
  | cmtTollInc (p : Port) (v : Word)
  | keepAliveEnergyLow
  -- Knell
  | vauxFail
  | force (p : Port) (v : Word)
  | knellOpeningFrame (ph : FramePhase) (body : List Byte)
  | knellDataFrame (e : FrameEnd) (body : List Byte)
  | dirWaitExpiry
  | intakeMsExpiry
  | knellSegmentStart
  | kSign
  | kIndex
  | knellArm
  | consReq (p : Port) (v : Word)
  | knlEn (p : Port) (en : Bool)
  -- energy and scheduling
  | shedStep (step : Nat)
  | shedStep6
  | shedStep7
  | shedLeave
  /-- source code of R171, and whether it is usable now -/
  | supplyChange (src : Nat) (usable : Bool)
  | holdTopUp
  /-- time of the rise from 4.0 V to 4.8 V, µs -/
  | holdCapDone (riseUs : Nat)
  | holdCapTimeout
  | cellMeasure (mv : Nat)
  | vbatDetect (mv : Nat)
  /-- open-circuit voltage, 0.1 mV -/
  | harvColdStart (voc : Nat)
  | trackingSample (sample : Tracked)
  | mpptSample (p : Port) (v : Word)
  | gaugeUpdate (g : GaugeReading)
  /-- queue number, 0 Commit to 7 Scrub -/
  | jobAdmit (queue : Nat)
  /-- die temperature, signed, 1/64 °C -/
  | derateBandChange (temp : Int)
  | domainIdleGate (dom : Nat)
  | longDarknessCutoff
  | ship (p : Port) (v : Word)
  -- field air interface
  | fieldDetect
  | snifferSample (seen : Bool)
  /-- whether a command was being received (R300) -/
  | fieldInterrupted (receiving : Bool)
  | fieldGone
  /-- target (0-3 session flags, 4 SL), action, bank, bit pointer, mask bits, truncate -/
  | select (target action bank pointer : Nat) (mask : List Bool) (truncate : Bool)
  /-- DR, M, TRext, Sel, session, target B, Q, and the Tari (0.25 µs) and link frequency (kHz)
  measured from the preamble -/
  | query (dr : Bool) (m : Nat) (trext : Bool) (sel session : Nat) (targetB : Bool) (q tari blf : Nat)
  /-- session, UpDn: 0 unchanged, 1 Q + 1, 2 Q - 1 -/
  | queryAdjust (session updn : Nat)
  | queryRep (session : Nat)
  | ack (rn : BitVec 16)
  | nak
  | reqRn (rn : BitVec 16)
  | t2Expiry
  /-- with a handle, a Gweuno command that is whole but for its code, its subcommand or a reserved bit
  (R338) -/
  | invalidCommand (gweuno : Option (BitVec 16) := none)
  | read (handle : BitVec 16) (bank word count : Nat)
  /-- the data word is cover-coded, as it comes on the air (R329) -/
  | write (handle : BitVec 16) (bank word : Nat) (data : BitVec 16)
  | blockWrite (handle : BitVec 16) (bank word : Nat) (data : List (BitVec 16))
  | lock (handle : BitVec 16) (mask action : BitVec 10)
  | access (handle : BitVec 16) (password : Word)
  /-- method (1 TAM1, 2 MAM1), KeyID, the interrogator's challenge, its response (MAM1) -/
  | authenticate (handle : BitVec 16) (method keyId : Nat) (challenge response : List Byte)
  | kill (handle : BitVec 16)
  | passwordLockoutEnd
  | s1PersistenceExpiry
  /-- 2, 3: the session flag; 4: SL -/
  | flagPersistenceExpiry (flag : Nat)
  -- Gweuno
  | gRecRead (handle : BitVec 16) (mode part stroke offset count : Nat)
  | gGauge (handle : BitVec 16)
  | gShipRead (handle : BitVec 16) (fromSeconds maxSamples : Nat)
  | gStageWrite (handle : BitVec 16) (item : Nat) (flags : Byte) (version : Word) (body : List Byte)
  | gExportOpen (handle : BitVec 16) (part stroke count : Nat)
  | gExportChunk (handle : BitVec 16) (index count : Nat)
  | gExportClose (handle : BitVec 16)
  | gWake (handle : BitVec 16) (reason : Byte)
  | wakeTest (p : Port) (v : Word)
  | wakeRelease (p : Port) (v : Word)
  | wakePulseEnd
  | wakeLevelTimeout
  | userMapBuilt
  -- Snare
  /-- channel, HIGH rather than LOW, and the event time: the first tick of the run, on the sampling grid -/
  | channelEvent (ch : Nat) (high : Bool) (tick : Nat)
  /-- per channel: the samples that its ring kept for the capture, pre-trigger ones first -/
  | postWindowEnd (waves : List (Nat × List Byte))
  | ringStagingDone
  | snrForce (p : Port) (v : Word)
  | calReq (p : Port) (v : Word)
  | periodicCalibration
  /-- offsets before and after trimming and ADC offset in 0.1 mV, gain error in 0.01 %, blind
  interval in µs (R386, R388) -/
  | calibration (before after adcOffset gain : Int) (blindUs : Nat)
  | snrEn (p : Port) (en : Bool)
  -- entropy
  /-- the 1,024 samples of a window, of which the release before has taken the first 128 already where there
  was one, and the first 128 of the next window -/
  | blockRelease (src : Src) (window : BitVec 1024) (next : BitVec 128 := BitVec.ofNat 128 (2 ^ 128 / 3))
  /-- source, test (0 RCT, 1 APT, 2 known answer), run length or count, window number -/
  | healthTestFail (src : Src) (test : Nat) (count window : Nat)
  | entIdleGate (src : Src)
  /-- source, known answer right, the two windows -/
  | entSelftest (src : Src) (kat : Bool) (w0 w1 : BitVec 1024)
  | rawStart (p : Port) (v : Word)
  | rawStop (p : Port) (v : Word)
  /-- the samples captured, packed; the RCT and APT failures that the source reports, which the samples show
  too -/
  | rawCaptureEnd (bytes : List Byte) (rctFails aptFails : Nat)
  | rawRelease (p : Port) (v : Word)
  | entDataRead (p : Port) (second : Bool)
  -- guards and sessions
  | grdApply (p : Port) (v : Word)
  | guardUpdate
  | postedWriteDrain (master : Nat)
  | guardFaultAudit (master : Nat)
  | sessionIdleTimeout (ctx : Nat)
  | helloExpiry (ctx : Nat)
  | closeSel (p : Port) (v : Word)
  | closeAll (p : Port) (v : Word)
  -- register port
  | status
  /-- the data word; none when the transaction ends within it (R469) -/
  | regpWrite (addr : Nat) (data : Option Word)
  | regpRead (addr : Nat) (whole : Bool)
  | writeInc (addr : Nat) (data : List Word) (cut : Bool)
  /-- how many words, and which of them, by number, the transaction cut off or the board controller clocked
  while TAG_RDY was low (R469) -/
  | readInc (addr : Nat) (words : Nat) (cut : List Nat)
  | readRep (addr : Nat) (words : Nat) (cut : List Nat)
  | badOpcode (op : Byte)
  | glbKey (p : Port) (v : Word)
  | glbReset (p : Port) (v : Word)
  | glbLock (p : Port) (v : Word)
  | rcRead (p : Port) (off : Nat)
  | registerWrite (p : Port) (addr : Nat) (v : Word)
  | mbxRead (p : Port)
  | mbxStage (p : Port)
  | mbxAbort (p : Port)
  | timeCommit (p : Port) (len : Nat)
  | timeRtcLoad
  | partMapCommit (p : Port) (len : Nat)
  | mbxRecWrite (len : Nat)
  | pealPeersCommit (p : Port) (len : Nat)
  | keyLoad (p : Port) (len : Nat)
  | bivikOpen (p : Port) (len : Nat)
  | selftestReq (p : Port) (len : Nat)
  /-- lines of the bank with a low margin, spare lines that fail their pattern, and whether a pulse
  timed out (R535) -/
  | bankSelftest (low : List Nat) (badSpares : Nat) (timeout : Bool)
  -- logger, clocks, chassis
  | loggerTick
  /-- die temperature, 1/64 °C -/
  | loggerSample (temp : Int)
  | flushReq (p : Port) (v : Word)
  | sampleNow (p : Port) (v : Word)
  | crystalSwitch
  | crystalFail
  | clockBackup
  | chassisSample (high : Bool)
  | chassisChange
  -- start-ups and resets
  /-- whether TAG_VAUX is above the trip level; the power source at start (R29 byte 5) -/
  | powerOn (vaux : Bool) (src : Nat)
  | vauxReturn
  /-- power source that ends CUTOFF: 0 TAG_VAUX, 2 a field, 4 a cold start -/
  | cutoffExit (src : Nat)
  | resetAssert
  | pinReset
  | keyedReset
  | darkStartup
  | storeFull
  /-- channel, and the first tick of the run inside its threshold -/
  | channelEventEnd (ch : Nat) (tick : Nat)
  deriving DecidableEq, Repr

end Sys2Proof
end

