-- ==== Sys2Proof/Decode.lean ====
section
/-! DEFINITION. Words of the opcode table: none of its 186 rows gives bits, so no word spells a command. The register port's opcodes are bytes of a transaction on TAG_SDI, and `portCommand` reads them (R464, R465). -/

namespace Sys2Proof

/-- The command that a word spells by the table's bits. The table gives every command by name with
no bits, so there is none. -/
def decodeTableWord (_nbits _w : Nat) : Option Instr := none

/-- The whole words of a burst's data bytes, little-endian (R464). -/
def burstWords : List Byte → List Word
  | a :: b :: c :: d :: t => (d ++ c ++ b ++ a) :: burstWords t
  | _ => []

/-- The command of a register-port opcode with its address and the bytes clocked after the address, TAG_RDY
being high throughout (R464, R465); a last word that is not whole is cut off (R469). -/
def opcodeCommand (op : Byte) (addr : Nat) (data : List Byte) : Instr :=
  let words := burstWords data
  let cut := data.length % 4 != 0
  let clocked := (data.length + 3) / 4
  let late := if cut then [words.length] else []
  match op.toNat with
  | 0x00 => .status
  | 0x02 => .regpWrite addr words.head?
  | 0x03 => .regpRead addr (!words.isEmpty)
  | 0x0A => .writeInc addr words cut
  | 0x0B => .readInc addr clocked late
  | 0x0C => .readRep addr clocked late
  | _ => .badOpcode op

/-- The command that a transaction's bytes on TAG_SDI are (R464, R465): none where the transaction ends before
its opcode or its address is whole. STATUS and an unlisted opcode have no address. -/
def portCommand (sdi : List Byte) : Option Instr := match sdi with
  | [] => none
  | op :: a0 :: a1 :: data => some (opcodeCommand op (a1 ++ a0).toNat data)
  | op :: _ => match opcodeCommand op 0 [] with
    | .status => some .status
    | .badOpcode b => some (.badOpcode b)
    | _ => none

end Sys2Proof
end

