-- ==== Sys2Proof/Config.lean ====
section
/-! DEFINITION. What one tag fixes at manufacture, the published algorithms the spec names without retelling them (R23, R67, R335), and the free values: each an opaque constant that no proof can look into. -/

namespace Sys2Proof.Config

/-- Device identifier (R33 bytes 0-7). -/
opaque deviceId : BitVec 64
/-- Switch package serial number, 32 ASCII characters (R33 bytes 20-51). -/
opaque serial : BitVec 256
/-- Attestation public key, X then Y, as 64 bytes read little-endian (R33 bytes 64-127). -/
opaque attestPub : BitVec 512
/-- Attestation private key (R439). -/
opaque attestKey : BitVec 256
/-- Tag time at manufacture (R33 bytes 8-15). -/
opaque manufactureTime : BitVec 64

/-- The AES-256-GCM authentication tag under the key numbered `key` (0 device sealing key, 1
Carillon key, 2 export key) over a nonce, the additional data and the plaintext (R23, R53). -/
opaque gcmTag : Nat → List Byte → List Byte → List Byte → BitVec 128
/-- AES-256-GCM encryption under the key numbered `key` with a nonce (R23, R53). -/
opaque gcmSeal : Nat → List Byte → List Byte → List Byte
/-- The inverse of `gcmSeal`. -/
opaque gcmOpen : Nat → List Byte → List Byte → List Byte
/-- The ECDSA P-256 signature of a byte string with the attestation key, r then s (R165, R450);
the second argument is the entropy block of the nonce. -/
opaque sign : List Byte → BitVec 256 → List Byte
/-- ECDSA P-256 verification: public key (64 bytes), message, signature (64 bytes). -/
opaque verify : List Byte → List Byte → List Byte → Bool
/-- The P-256 Diffie-Hellman shared secret of the tag's private value and a partner's point. -/
opaque ecdh : BitVec 256 → List Byte → List Byte
/-- The P-256 public point of a private value. -/
opaque ecPoint : BitVec 256 → List Byte
/-- The tag's answer of TAM1 (method 1) and of MAM1 (method 2) of ISO/IEC 29167-10: method, key,
interrogator's challenge and the tag's random bits (R335). -/
opaque tagAnswer : Nat → List Byte → List Byte → List Bool → List Byte
/-- The interrogator's response that completes MAM1: key, interrogator's challenge and the tag's
random bits (R335). -/
opaque peerAnswer : List Byte → List Byte → List Bool → List Byte
/-- AES-128 of a 16-byte block under a 16-byte key: counter mode of field chunks (R457). -/
opaque aes128 : List Byte → List Byte → List Byte
/-- The key unwrap of a KEY_LOAD container: the wrapping key's slot, the wrapped bytes (R443, R444). -/
opaque unwrap : Nat → List Byte → Option (List Byte)

/-- A natural number that the spec leaves open. -/
opaque freeNat : Nat → Nat

end Sys2Proof.Config
end

