-- ==== Sys2Proof/Machine/RegMap.lean ====
section
/-! DEFINITION. The register map (R491 to R509 and the field tables of each block): for every register its reset value, its bits by access code (R12), and the boundary at which each configuration field applies (R480). -/

namespace Sys2Proof.Machine

/-- The boundaries named in the "Applies at" columns; a field without a row applies immediately. -/
inductive Boundary where
  | commitGroup | checkpoint | scrub | knlArmed | admission | fieldDetect | loggerSample
  | loggerTick | rtcSecond | harvTick | track | gauge | charger | training | freshTraining
  | linkDown | snrArm | snrArmed | calPeriod | entBlock | rawStart | sesOpen | sesIdle | request
  | wakeAssert | wakeTrigger | fdigGate | sniffer
  deriving DecidableEq, Repr

/-- The blocks of R491, the first eleven in the bit order of GLB_CFG_PEND (R488). -/
inductive Block where
  | pwr | cmt | knl | stm | peal | fld | snr | ent | grd | ses | log | glb | mbx
  deriving DecidableEq, Repr

/-- The bit of a block in GLB_CFG_PEND and GLB_LOCK (R488, R493). -/
def Block.pendBit : Block → Option Nat
  | .pwr => some 0 | .cmt => some 1 | .knl => some 2 | .stm => some 3 | .peal => some 4
  | .fld => some 5 | .snr => some 6 | .ent => some 7 | .grd => some 8 | .ses => some 9
  | .log => some 10 | .glb => none | .mbx => none

/-- One register: its offset, block, reset value and the masks of its fields by access code; bits in
no mask are RO. -/
structure RegDesc where
  off : Nat
  block : Block
  reset : Word := 0#32
  rw : Word := 0#32
  rwk : Word := 0#32
  wo : Word := 0#32
  wok : Word := 0#32
  w1k : Word := 0#32
  rc : Word := 0#32
  bounds : List (Word × Boundary) := []
  deriving DecidableEq, Repr

/-- All 32 bits. -/
def allBits : Word := 0xFFFF_FFFF#32

/-- GLB (R488, R492, R493). -/
def glbTable : List RegDesc :=
  [ { off := 0x000, block := .glb, reset := 0x4B54_3438#32 },
    { off := 0x004, block := .glb, reset := 0x0001_0001#32 },
    { off := 0x008, block := .glb, wo := allBits },
    { off := 0x00C, block := .glb, wok := allBits },
    { off := 0x010, block := .glb },
    { off := 0x014, block := .glb, rc := 0x1FF#32 },
    { off := 0x018, block := .glb },
    { off := 0x01C, block := .glb, rc := 0x7F#32 },
    { off := 0x020, block := .glb, reset := 0x7F#32, rwk := 0x7F#32 },
    { off := 0x024, block := .glb },
    { off := 0x028, block := .glb, w1k := allBits } ]

/-- PWR (R201). -/
def pwrTable : List RegDesc :=
  [ { off := 0x060, block := .pwr, reset := 3#32, rw := 3#32, wo := 4#32, wok := 8#32,
      bounds := [(2#32, .harvTick)] },
    { off := 0x064, block := .pwr, reset := 0x0014_000F#32, rwk := 0xC0FF_000F#32,
      bounds := [(0xC000_0000#32, .knlArmed), (0x00FF_0000#32, .admission),
        (0xA#32, .fieldDetect), (4#32, .loggerSample)] },
    { off := 0x068, block := .pwr, reset := 0x0004_0008#32, rwk := 0x00FF_001F#32,
      bounds := [(0x00FF_001F#32, .track)] },
    { off := 0x06C, block := .pwr, reset := 0x420#32, rwk := 0xFFFF_0F30#32,
      bounds := [(0xFFFF_0000#32, .gauge), (0x0F30#32, .charger)] },
    { off := 0x070, block := .pwr, rc := 0xFFF#32 },
    { off := 0x074, block := .pwr }, { off := 0x078, block := .pwr },
    { off := 0x07C, block := .pwr }, { off := 0x080, block := .pwr },
    { off := 0x084, block := .pwr }, { off := 0x088, block := .pwr },
    { off := 0x08C, block := .pwr }, { off := 0x090, block := .pwr },
    { off := 0x094, block := .pwr }, { off := 0x098, block := .pwr },
    { off := 0x09C, block := .pwr, rwk := 0xF_FFF0#32 },
    { off := 0x0A0, block := .pwr },
    { off := 0x0A4, block := .pwr, rc := allBits },
    { off := 0x0A8, block := .pwr } ]

/-- CMT (R131). -/
def cmtTable : List RegDesc :=
  [ { off := 0x0E0, block := .cmt, reset := 3#32, rw := 3#32, wo := 0xC0#32,
      bounds := [(3#32, .scrub)] },
    { off := 0x0E4, block := .cmt, reset := 0x033C_1000#32, rwk := 0x1FFF_1FFF#32,
      bounds := [(0x1F00_0000#32, .commitGroup), (0x00FF_1FFF#32, .checkpoint)] },
    { off := 0x0E8, block := .cmt, rc := 0x3FF#32 },
    { off := 0x0EC, block := .cmt }, { off := 0x0F0, block := .cmt },
    { off := 0x0F4, block := .cmt }, { off := 0x0F8, block := .cmt },
    { off := 0x0FC, block := .cmt, rc := allBits }, { off := 0x100, block := .cmt, rc := allBits },
    { off := 0x104, block := .cmt, rc := allBits }, { off := 0x108, block := .cmt, rc := allBits },
    { off := 0x10C, block := .cmt, rw := 0x1F#32 },
    { off := 0x110, block := .cmt }, { off := 0x114, block := .cmt },
    { off := 0x118, block := .cmt, wok := allBits },
    { off := 0x11C, block := .cmt }, { off := 0x120, block := .cmt } ]

/-- KNL (R170). -/
def knlTable : List RegDesc :=
  [ { off := 0x160, block := .knl, reset := 1#32, rw := 1#32, wo := 4#32, wok := 2#32 },
    { off := 0x164, block := .knl, reset := 0x0A14_4000#32, rwk := 0x9FFF_FF00#32,
      bounds := [(0x9FFF_FF00#32, .knlArmed)] },
    { off := 0x168, block := .knl, rc := 0x3FF#32 },
    { off := 0x16C, block := .knl }, { off := 0x170, block := .knl },
    { off := 0x174, block := .knl }, { off := 0x178, block := .knl },
    { off := 0x17C, block := .knl }, { off := 0x180, block := .knl },
    { off := 0x184, block := .knl } ]

/-- STM (R246, R247). -/
def stmTable : List RegDesc :=
  [ { off := 0x1A0, block := .stm, reset := 1#32, rwk := 1#32, wo := 4#32, wok := 8#32 },
    { off := 0x1A4, block := .stm, reset := 0x1900_0100#32, rwk := 0xFFCF_07FF#32,
      bounds := [(0xFFC0_0000#32, .linkDown), (0x000F_0000#32, .training),
        (0x07FF#32, .freshTraining)] },
    { off := 0x1A8, block := .stm, reset := 0x8020_1000#32, rwk := 0xFFFF_FFC0#32,
      bounds := [(0xFFFF_FFC0#32, .freshTraining)] },
    { off := 0x1AC, block := .stm, rc := 0xFFF#32 },
    { off := 0x1B0, block := .stm }, { off := 0x1B4, block := .stm },
    { off := 0x1B8, block := .stm }, { off := 0x1BC, block := .stm, rw := 3#32 },
    { off := 0x1C0, block := .stm }, { off := 0x1C4, block := .stm },
    { off := 0x1C8, block := .stm },
    { off := 0x1CC, block := .stm, rc := allBits }, { off := 0x1D0, block := .stm, rc := allBits },
    { off := 0x1D4, block := .stm, rc := allBits }, { off := 0x1D8, block := .stm, rc := allBits },
    { off := 0x1DC, block := .stm, rc := allBits }, { off := 0x1E0, block := .stm, rc := allBits },
    { off := 0x1E4, block := .stm, rc := allBits }, { off := 0x1E8, block := .stm, rc := allBits } ]

/-- PEAL (R289, R290). -/
def pealTable : List RegDesc :=
  [ { off := 0x220, block := .peal, rw := 1#32, wok := 2#32, bounds := [(1#32, .commitGroup)] },
    { off := 0x224, block := .peal, rwk := 0x3F#32, bounds := [(0x3F#32, .commitGroup)] },
    { off := 0x228, block := .peal, rwk := allBits, bounds := [(allBits, .commitGroup)] },
    { off := 0x22C, block := .peal, rwk := 0xFFF#32, bounds := [(0xFFF#32, .commitGroup)] },
    { off := 0x230, block := .peal, rc := 0x3FF#32 },
    { off := 0x234, block := .peal },
    { off := 0x238, block := .peal, rc := allBits }, { off := 0x23C, block := .peal, rc := allBits },
    { off := 0x240, block := .peal, rc := allBits }, { off := 0x244, block := .peal, rc := allBits },
    { off := 0x248, block := .peal }, { off := 0x24C, block := .peal },
    { off := 0x250, block := .peal, rc := allBits } ]

/-- FLD (R320, R362). -/
def fldTable : List RegDesc :=
  [ { off := 0x2A0, block := .fld, reset := 1#32, rwk := 1#32, wok := 2#32, wo := 4#32,
      bounds := [(1#32, .fieldDetect)] },
    { off := 0x2A4, block := .fld, reset := 0x200A_0500#32, rwk := 0xF0FF_FF00#32,
      bounds := [(0xF000_0000#32, .fieldDetect), (0x00FF_0000#32, .fdigGate),
        (0xFF00#32, .sniffer)] },
    { off := 0x2A8, block := .fld, reset := 0x643C_0001#32, rwk := 0xFFFF_0017#32,
      bounds := [(0xFF00_0010#32, .wakeAssert), (0x00FF_0007#32, .wakeTrigger)] },
    { off := 0x2AC, block := .fld, rc := 0x3FF#32 },
    { off := 0x2B0, block := .fld }, { off := 0x2B4, block := .fld }, { off := 0x2B8, block := .fld },
    { off := 0x2BC, block := .fld, rc := allBits }, { off := 0x2C0, block := .fld, rc := allBits },
    { off := 0x2C4, block := .fld, rc := allBits }, { off := 0x2C8, block := .fld, rc := allBits },
    { off := 0x2CC, block := .fld, reset := 0x80B#32, rwk := 0xF0F#32,
      bounds := [(0xF0F#32, .fieldDetect)] },
    { off := 0x2D0, block := .fld, rc := 0x3FF#32 },
    { off := 0x2D4, block := .fld },
    { off := 0x2D8, block := .fld, rc := allBits }, { off := 0x2DC, block := .fld, rc := allBits },
    { off := 0x2E0, block := .fld, rc := allBits },
    { off := 0x2E4, block := .fld }, { off := 0x2E8, block := .fld, reset := 0x30C#32 } ]

/-- The two registers of Snare channel `n` (R391). -/
def snrChannel (n : Nat) : List RegDesc :=
  [ { off := 0x360 + 8 * n, block := .snr, reset := 0x10#32, rwk := 0xF7#32,
      bounds := [(0xF7#32, .snrArm)] },
    { off := 0x364 + 8 * n, block := .snr, reset := 0x3FF#32, rwk := 0x03FF_03FF#32,
      bounds := [(0x03FF_03FF#32, .snrArm)] } ]

/-- SNR (R390, R391). -/
def snrTable : List RegDesc :=
  [ { off := 0x320, block := .snr, rw := 1#32, wo := 0xFF00#32, wok := 0x1_0000#32,
      bounds := [(1#32, .snrArm)] },
    { off := 0x324, block := .snr, reset := 0x0800_0104#32, rwk := 0x3FFF_0F07#32,
      bounds := [(0x3F00_0003#32, .snrArmed), (0x00FF_0F04#32, .snrArm)] },
    { off := 0x328, block := .snr, reset := 0x0018_00FF#32, rwk := 0x00FF_00FF#32,
      bounds := [(0x00FF_00FF#32, .calPeriod)] },
    { off := 0x32C, block := .snr, rc := 0x7FF#32 },
    { off := 0x330, block := .snr }, { off := 0x334, block := .snr }, { off := 0x338, block := .snr },
    { off := 0x33C, block := .snr },
    { off := 0x340, block := .snr, rc := allBits }, { off := 0x344, block := .snr, rc := allBits },
    { off := 0x348, block := .snr } ] ++ snrChannel 0 ++ snrChannel 1 ++ snrChannel 2 ++
  snrChannel 3 ++ snrChannel 4 ++ snrChannel 5 ++ snrChannel 6 ++ snrChannel 7

/-- ENT (R418). -/
def entTable : List RegDesc :=
  [ { off := 0x3E0, block := .ent, rw := 1#32, wok := 2#32, wo := 0xC#32,
      bounds := [(1#32, .rawStart)] },
    { off := 0x3E4, block := .ent, reset := 1#32, rwk := 1#32, bounds := [(1#32, .entBlock)] },
    { off := 0x3E8, block := .ent, rc := 0x1FF#32 },
    { off := 0x3EC, block := .ent },
    { off := 0x3F0, block := .ent, rc := allBits }, { off := 0x3F4, block := .ent, rc := allBits },
    { off := 0x3F8, block := .ent }, { off := 0x3FC, block := .ent },
    { off := 0x400, block := .ent, rc := allBits }, { off := 0x404, block := .ent, rc := allBits },
    { off := 0x408, block := .ent }, { off := 0x40C, block := .ent }, { off := 0x410, block := .ent } ]

/-- GRD (R459, R460). The shadow registers GRD_RBASE and GRD_RCFG are held in the guard state. -/
def grdTable : List RegDesc :=
  [ { off := 0x420, block := .grd, wok := 0x17F#32 },
    { off := 0x424, block := .grd, rw := 0x70F#32 },
    { off := 0x428, block := .grd, rw := 0xFFFF_FFF0#32 },
    { off := 0x42C, block := .grd, reset := 0xA6B0_0000#32, rw := 0xEFF0_FFFF#32 },
    { off := 0x430, block := .grd, rc := 0x77F#32 },
    { off := 0x434, block := .grd }, { off := 0x438, block := .grd }, { off := 0x43C, block := .grd },
    { off := 0x440, block := .grd },
    { off := 0x444, block := .grd, rc := 0x0FFF_FFFF#32 } ]

/-- SES (R461, R462). -/
def sesTable : List RegDesc :=
  [ { off := 0x4A0, block := .ses, wok := 3#32 },
    { off := 0x4A4, block := .ses, reset := 0x3C0A_0101#32, rwk := 0xFFFF_0707#32,
      bounds := [(0xFF00_0000#32, .sesIdle), (0x00FF_0700#32, .sesOpen), (7#32, .request)] },
    { off := 0x4A8, block := .ses, rc := 0x1FF#32 },
    { off := 0x4AC, block := .ses },
    { off := 0x4B0, block := .ses, rw := 0x3F#32 },
    { off := 0x4B4, block := .ses }, { off := 0x4B8, block := .ses },
    { off := 0x4BC, block := .ses, rc := allBits }, { off := 0x4C0, block := .ses, rc := allBits } ]

/-- MBX (R489), banked per port: the values are held in the port's mailbox set. -/
def mbxTable : List RegDesc :=
  [ { off := 0x520, block := .mbx, rw := 0x00FF_FFFF#32 },
    { off := 0x524, block := .mbx, wo := allBits },
    { off := 0x528, block := .mbx }, { off := 0x52C, block := .mbx },
    { off := 0x530, block := .mbx, rw := allBits }, { off := 0x534, block := .mbx, rw := allBits },
    { off := 0x538, block := .mbx, rw := allBits }, { off := 0x53C, block := .mbx, rw := allBits } ]

/-- LOG (R508, R509). -/
def logTable : List RegDesc :=
  [ { off := 0x560, block := .log, reset := 1#32, rw := 1#32, wo := 0xC#32,
      bounds := [(1#32, .loggerTick)] },
    { off := 0x564, block := .log, reset := 0x0258_FB03#32, rwk := 0xFFFF_FF03#32,
      bounds := [(0xFFFF_FF03#32, .loggerSample)] },
    { off := 0x568, block := .log, reset := 2#32, rwk := 0xFFFF_0006#32,
      bounds := [(0xFFFF_0006#32, .rtcSecond)] },
    { off := 0x56C, block := .log, rc := 0xFF#32 },
    { off := 0x570, block := .log }, { off := 0x574, block := .log },
    { off := 0x578, block := .log, rc := allBits }, { off := 0x57C, block := .log, rc := allBits },
    { off := 0x580, block := .log, rc := 0xFFFF#32 } ]

/-- Every register of the map, in address order (R491). -/
def regTable : List RegDesc :=
  glbTable ++ pwrTable ++ cmtTable ++ knlTable ++ stmTable ++ pealTable ++ fldTable ++ snrTable ++
  entTable ++ grdTable ++ sesTable ++ mbxTable ++ logTable

/-- The register at a base offset; none at a reserved location (R13). -/
def regDesc (off : Nat) : Option RegDesc := regTable.find? (fun d => d.off == off)

/-- The reset value at an offset; 0 where nothing is (R13). -/
def regReset (off : Nat) : Word := match regDesc off with
  | some d => d.reset
  | none => 0#32

/-- The bits whose last written value a read returns: RW and RW/K fields (R12). -/
def RegDesc.config (d : RegDesc) : Word := d.rw ||| d.rwk

/-- The bits of a register that wait for a boundary when written (R480). -/
def RegDesc.buffered (d : RegDesc) : Word := d.bounds.foldl (fun m b => m ||| b.1) 0#32

/-- The bits of a register that apply at boundary `b`. -/
def RegDesc.at (d : RegDesc) (b : Boundary) : Word :=
  d.bounds.foldl (fun m p => if p.2 = b then m ||| p.1 else m) 0#32

/-- A key, lock, command or write-once register (R473): it has a WO, W1 or /K field. -/
def RegDesc.special (d : RegDesc) : Bool :=
  (d.rwk ||| d.wo ||| d.wok ||| d.w1k) != 0#32

/-- A register whose fields are all RO or RC (R473). -/
def RegDesc.readOnly (d : RegDesc) : Bool :=
  (d.rw ||| d.rwk ||| d.wo ||| d.wok ||| d.w1k) == 0#32

end Sys2Proof.Machine
end

