-- ==== Sys2Proof/Machine/Records.lean ====
section
/-! DEFINITION. The small records that State is made of: committed records, pipeline entries, slots, packets, jobs, sessions, captures. -/

namespace Sys2Proof.Machine

/-- A committed record and where it lies: the logical sector of its header in its partition (R76), or
the slot and image offset of a Knell record (R149). `intact` is 0 once a check has found it damaged. -/
structure Stored where
  record : Rec
  sector : Nat
  /-- Knell slot, for records of partition 4 -/
  slot : Nat := 0
  intact : Bool := true
  /-- banks whose copy of an Identity, Keys or Knell record has been found damaged (R60, R441) -/
  badBanks : List Nat := []
  deriving DecidableEq, Repr

/-- What one partition's commit state is (R110): head and tail logical sectors, the newest record. -/
structure Part where
  /-- size in force in units of 64 KiB (R520) -/
  size : Nat
  /-- extents in service -/
  extents : Nat
  /-- next free logical sector at the head -/
  head : Nat
  /-- logical extents that hold content, oldest first -/
  used : List Nat
  newestStroke : Nat
  newestLink : BitVec 64
  /-- extents lost to bank failure (R110) -/
  lost : Nat
  deriving DecidableEq, Repr

/-- A void (R80): partition, first logical sector, length. -/
structure Void where
  part : Nat
  sector : Nat
  len : Nat
  deriving DecidableEq, Repr

/-- Kind of an index-journal entry (R107). -/
inductive EntryKind where
  | record | extent | move
  deriving DecidableEq, Repr

/-- One slot of the index journal: an entry with the validity of its two copies (R106, R107). -/
structure Entry where
  slot : Nat
  kind : EntryKind
  part : Nat
  /-- sector count of a record; logical extent of an extent entry -/
  count : Nat
  /-- logical sector of a record; new physical extent code -/
  sector : Nat
  /-- released physical extent code, 0xFFFF when none; 0 for record entries -/
  released : Nat
  stroke : Nat
  seq : Word
  source : BitVec 16
  typ : Byte
  cls : Nat
  crc : Word
  okA : Bool
  okB : Bool
  deriving DecidableEq, Repr

/-- One cell of a toll copy (R97): its index in the ring, the value it holds, and whether its CRC and
its inverse check. Its 32 bytes are `tollCellBytes`. -/
structure TollCell where
  index : Nat
  value : Nat
  valid : Bool
  deriving DecidableEq, Repr

/-- The ring of one copy of a toll counter (R96, R105): its bank, the number of the ring in the bank's
toll area (0 to 15 counter rings, 16 to 21 spare rings), the stored updates made on it, and the cells
programmed, newest first. -/
structure TollRing where
  bank : Nat
  ring : Nat
  used : Nat
  cells : List TollCell
  deriving DecidableEq, Repr

/-- One toll counter (R96): the rings of copies A and B, none for a copy that is lost, and whether the
counter is worn (R105). -/
structure Toll where
  ringA : Option TollRing
  ringB : Option TollRing
  worn : Bool
  deriving DecidableEq, Repr

/-- The stored value of a copy: the highest value among its valid cells (R97); none when no cell is
valid. -/
def TollRing.value (r : TollRing) : Option Nat :=
  (r.cells.filter (fun c => c.valid)).foldl (fun m c => match m with
    | none => some c.value
    | some v => some (max v c.value)) none

/-- The stored value of copy A, none when the copy is lost or holds no valid cell. -/
def Toll.valA (t : Toll) : Option Nat := t.ringA.bind TollRing.value
/-- The stored value of copy B. -/
def Toll.valB (t : Toll) : Option Nat := t.ringB.bind TollRing.value
/-- Copy A can be read. -/
def Toll.haveA (t : Toll) : Bool := t.valA.isSome
/-- Copy B can be read. -/
def Toll.haveB (t : Toll) : Bool := t.valB.isSome
/-- The value of copy A, 0 without one. -/
def Toll.a (t : Toll) : Nat := t.valA.getD 0
/-- The value of copy B, 0 without one. -/
def Toll.b (t : Toll) : Nat := t.valB.getD 0
/-- Stored updates on the ring of copy A. -/
def Toll.usedA (t : Toll) : Nat := match t.ringA with | some r => r.used | none => 0
/-- Stored updates on the ring of copy B. -/
def Toll.usedB (t : Toll) : Nat := match t.ringB with | some r => r.used | none => 0

/-- A save-ring entry (R102). -/
structure Save where
  shadow : Nat
  stamp : Nat
  bracket : Word
  journalPos : Nat
  seqs : List Word
  clean : Bool
  entCodes : Byte
  deriving DecidableEq, Repr

/-- One copy of the save ring (R102): its bank, and its entries, newest first, each with whether its
CRC checks. -/
structure SaveRing where
  bank : Nat
  entries : List (Save × Bool)
  deriving DecidableEq, Repr

/-- The line tag of a line (R73): cycle count, owning partition (0x0F for a line that none owns),
logical extent, and the checkpoint epoch at which the extent was assigned. -/
structure LineTag where
  cycles : Nat
  part : Nat
  ext : Nat
  epoch : Nat
  deriving DecidableEq, Repr

/-- The tag of a line that has never been programmed. -/
def freshTag : LineTag := { cycles := 0, part := 0x0F, ext := 0, epoch := 0 }

/-- A line to be programmed: its place, and whose it is (R72, R73). -/
structure Prog where
  bank : Nat
  line : Nat
  part : Nat
  ext : Nat
  deriving DecidableEq, Repr

/-- What one extent entry has changed since the checkpoint, so that recovery can roll it back (R92,
R113): the record that first needed the extent, the extent, its codes before and after, the extents
in use before, and the records and voids that it reclaimed. -/
structure ExtChange where
  stroke : Nat
  part : Nat
  ext : Nat
  old : Nat
  new : Nat
  used : List Nat
  recs : List Stored
  voids : List Void
  deriving DecidableEq, Repr

/-- An entry of the stream table (R36). -/
structure Stream where
  source : BitVec 16
  cls : Nat
  expected : Word
  deriving DecidableEq, Repr

/-- A partition entry of the CORE body of a checkpoint (R110). -/
structure CorePart where
  link : BitVec 64
  stroke : Nat
  floor : Nat
  head : Nat
  tail : Nat
  extents : Nat
  lost : Nat
  deriving DecidableEq, Repr

/-- A complete checkpoint set (R109, R110, R560): its epoch, where it begins in the ring, the strokes of its
records, and what it saves. -/
structure Ckpt where
  epoch : Nat
  offset : Nat
  sectors : Nat
  strokes : List Nat
  strokeHead : Nat
  stampFloor : Nat
  bracket : Word
  journalPos : Nat
  banks : Byte
  seqs : List Word
  parts : List CorePart
  streams : List Stream
  deriving DecidableEq, Repr

/-- What happens to the party that waits for a record's commit point or abandonment. -/
inductive Hook where
  | none
  /-- MGMT REC_WRITE: the request header (R265) -/
  | mgmtWrite (h : MgmtHdr)
  /-- mailbox item REC_WRITE of the register port (R521) -/
  | mbxWrite
  /-- mailbox item TIME: the port whose COMMIT ends at this record (R515) -/
  | timeSet (p : Port)
  /-- field write: the FJOURNAL value of its entry (R350) -/
  | fieldWrite (fj : Nat)
  /-- stored Peal copy to be answered STORED: origin index and origin stroke (R286) -/
  | copy (origin stroke : Nat)
  /-- key slot, and the port that loads it (R445) -/
  | keySlot (slot : Nat) (p : Port) (actor : BitVec 16)
  | segment
  | manifest (slot : Nat)
  | batch
  /-- last record of the set of a capture -/
  | captureEnd
  | degrade
  deriving DecidableEq, Repr

/-- A record between S1 and the commit point (R83 to R86). -/
structure PipeRec where
  /-- order of S1 -/
  id : Nat
  record : Rec
  sectors : Nat
  /-- first logical sector reserved at S2 -/
  sector : Nat
  /-- Knell slot of a segment or manifest -/
  slot : Nat
  /-- new extents reserved: logical extent and physical code -/
  newExtents : List (Nat × Nat)
  runAhead : Bool
  /-- S5 passed -/
  checked : Bool
  /-- S6 granted, with the grant's cost in nJ -/
  granted : Option Nat
  /-- S7 passed -/
  sealed : Bool
  hook : Hook
  /-- the stream's expected value before this record; none when it was not checked under R37 -/
  prevExpected : Option (Option Word)
  /-- its frame is open in this class -/
  openFrame : Option Cls
  /-- Drumhead credits it holds, with their class -/
  credits : Option (Cls × Nat)
  /-- derating band in which its grant was made (R190) -/
  band : Nat := 0
  deriving DecidableEq, Repr

/-- What a queued or granted job does (R186). -/
inductive JobKind where
  | recGrant (id : Nat)
  | checkpoint
  | kIndex
  | knell
  | kSign (slot : Nat)
  | bivik (p : Port)
  | exportSeal
  | peal (stroke : Nat)
  | selftest (req unit : Nat)
  | calibrate (ch reason : Nat)
  | scrub
  | levelMove
  | batch
  | loggerSample
  | fieldWrite
  deriving DecidableEq, Repr

/-- A job: its order of arrival, queue (0 Commit to 7 Scrub), cost in nJ and thermal weight. -/
structure Job where
  id : Nat
  queue : Nat
  cost : Nat
  weight : Nat
  kind : JobKind
  deriving DecidableEq, Repr

/-- An open Bivik container as the tag holds it (R456). -/
structure Bivik where
  header : List Byte
  sig : List Byte
  strokes : List Nat
  /-- bytes of each record in the container -/
  sizes : List Nat
  sealed : Bool
  created : Nat
  part : Nat
  deriving DecidableEq, Repr

/-- One port's mailbox set (R489). -/
structure Mbx where
  sel : Word := 0#32
  valid : Bool := false
  busy : Bool := false
  detail : Nat := 0
  result : Nat := 0
  len : Nat := 0
  d0 : Word := 0#32
  d1 : Word := 0#32
  d2 : Word := 0#32
  d3 : Word := 0#32
  inbuf : List Byte := []
  /-- item and bytes of the snapshot (R485) -/
  snap : Option (Nat × List Byte) := none
  container : Option Bivik := none
  /-- strokes of the records that the last BIVIK_OPEN found (R455) -/
  chosen : List Nat := []
  /-- LENGTH of a REC_WRITE COMMIT that waits for room at S1 (R85, R521) -/
  waitLen : Option Nat := none
  deriving DecidableEq, Repr

/-- State of a session context that is not FREE (R462). -/
inductive CtxState where
  | hello | opened | field
  deriving DecidableEq, Repr

/-- A session context in use (R448). -/
structure Ctx where
  state : CtxState
  requester : Nat
  /-- 0 PLAIN, 1 OWNER, 2 MAM1 -/
  method : Nat
  rights : Byte
  asked : Byte
  key : BitVec 256
  challenge : BitVec 256
  tagPoint : List Byte
  hostPoint : List Byte
  /-- time of the last request that named it -/
  lastUse : Nat
  mbx : Mbx
  deriving DecidableEq, Repr

/-- A partition lease (R269). -/
structure Lease where
  host : Nat
  ctx : Nat
  endAt : Nat
  deriving DecidableEq, Repr

/-- A LEASE request that waits for its commit-group boundary (R270). -/
structure LeaseReq where
  hdr : MgmtHdr
  part : Nat
  op : Nat
  seconds : Nat
  deriving DecidableEq, Repr

/-- The first latched guard fault (R434). -/
structure FaultInfo where
  imprecise : Bool
  master : Nat
  requester : Nat
  reason : Nat
  s : Bool
  w : Bool
  r : Bool
  addr : Word
  deriving DecidableEq, Repr

/-- The coalesced GUARD_FAULT audit of one master (R32). -/
structure FaultAudit where
  master : Nat
  count : Nat
  addr : Word
  requester : Nat
  deriving DecidableEq, Repr

/-- A posted register write in a master's buffer (R427, R429). -/
structure Posted where
  master : Nat
  port : Port
  requester : Nat
  addr : Nat
  width : Nat
  data : BitVec 64
  deriving DecidableEq, Repr

/-- A DATA packet of the tag's transmitter (R209, R210). -/
structure TxPkt where
  seq : BitVec 12
  cls : Cls
  sof : Bool
  eof : Bool
  payload : List Byte
  deriving DecidableEq, Repr

/-- Why a request for a training stands (R231, R232). -/
inductive ReqWhy where
  /-- STM_CTRL.RETRAIN or FULL_RETRAIN -/
  | control
  /-- bad packets in a row -/
  | crc
  /-- lanes whose IDLE bits differ -/
  | idle
  /-- four replays without acknowledgement progress -/
  | stalled
  deriving DecidableEq, Repr

/-- The packet the transmitter sent last. -/
inductive Sent where
  | nak (seq : BitVec 12) (reason : Nat)
  | credit (knell event mgmt peal : Nat)
  | ack (seq : BitVec 12)
  | linkReq (num typ : Nat) (lanes : BitVec 4)
  | replay (p : TxPkt)
  | data (p : TxPkt) (ack : Option (BitVec 12))
  /-- IDLE words, with nothing to send or at the end of a training (R206, R228) -/
  | idle (words : Nat)
  deriving DecidableEq, Repr

/-- A record sent to peers and not settled (R279). -/
structure Unsettled where
  stroke : Nat
  typ : Byte
  degree : Nat
  set : BitVec 64
  got : BitVec 64
  /-- number of the last send -/
  attempt : Nat
  /-- COPY frames sent for it -/
  sends : Nat
  /-- tag time of the first send -/
  firstSent : Nat
  /-- a retry is due and shed (R281) -/
  due : Bool
  slot : Option Nat
  deriving DecidableEq, Repr

/-- A committed record that waits to be mirrored, with the degree and set fixed at its commit (R278). -/
structure Backlog where
  stroke : Nat
  degree : Nat
  set : BitVec 64
  slot : Option Nat
  deriving DecidableEq, Repr

/-- A Knell slot (R150). -/
structure Slot where
  /-- 0 EMPTY, 1 CAPTURING, 2 PENDING, 3 COMPLETE, 4 LOST -/
  state : Nat
  oneImage : Bool
  number : Nat
  firstStroke : Nat
  segments : Nat
  manifest : Nat
  deriving DecidableEq, Repr

/-- An empty slot. -/
def emptySlot : Slot :=
  { state := 0, oneImage := false, number := 0, firstStroke := 0, segments := 0, manifest := 0 }

/-- The gauge before its first update. -/
def zeroGauge : GaugeReading :=
  { holdMv := 0, storeMv := 0, frMv := 0, fieldUw := 0, harv10nw := 0, drawn10uah := 0 }

/-- One section of a bundle directory (R137). -/
structure Section where
  code : Nat
  priority : Nat
  offset : Nat
  length : Nat
  crc : Word
  deriving DecidableEq, Repr

/-- One section outcome of the manifest (R165). -/
structure SectionOut where
  position : Nat
  outcome : Nat
  priority : Nat
  storedAt : Nat
  storedLen : Nat
  deriving DecidableEq, Repr

/-- The plan of a Knell, kept in AON until consolidation (R160). -/
structure Plan where
  slot : Nat
  number : Nat
  trigger : Nat
  endCode : Nat
  cut : Bool
  overwrote : Bool
  downshift : Bool
  bankFail : Bool
  width : Nat
  announced : Nat
  stored : Nat
  limit : Nat
  avail : Nat
  capUf : Nat
  temp : Int
  time : Nat
  bracket : Word
  imageA : Bool
  imageB : Bool
  atBoot : Bool
  outcomes : List SectionOut
  deriving DecidableEq, Repr

/-- The intake of a running Knell (R139 to R147). -/
structure Intake where
  trigger : Nat
  /-- an opening frame has its header in -/
  opening : Bool
  /-- 0 none, 1 valid, 2 bad -/
  directory : Nat
  sections : List Section
  /-- section positions kept, in section-table order -/
  kept : List Nat
  /-- next expected bundle offset -/
  expected : Nat
  /-- stored bundle bytes received so far -/
  bytes : List Byte
  /-- credits held for kept bytes: stored length up to the frame's end, credits -/
  heldCredits : List (Nat × Nat)
  /-- bytes already cut into segments -/
  cutBytes : Nat
  segsMade : Nat
  segsDone : Nat
  target : Nat
  claimed : Option Nat
  slotWas : Slot
  eline : Nat
  plan : Plan
  done : Bool
  deriving DecidableEq, Repr

/-- A Snare event that has begun and not ended on a channel. -/
structure ChanEvent where
  ch : Nat
  high : Bool
  start : Nat
  /-- length in ticks, once it has ended -/
  length : Option Nat := none
  deriving DecidableEq, Repr

/-- One channel of a capture (R380): its events in the capture, and the first of them. -/
structure ChanEntry where
  ch : Nat
  low : Bool
  high : Bool
  count : Nat
  /-- tick of the first event -/
  first : Nat
  /-- HIGH rather than LOW, of the first event -/
  firstHigh : Bool
  /-- length of the first event in ticks, none while it lasts -/
  length : Option Nat
  deriving DecidableEq, Repr

/-- An open or closed capture (R367 to R381). -/
structure Capture where
  number : Word
  /-- 1 COMPARE, 2 FORCED -/
  cause : Nat
  mask : BitVec 8
  stored : BitVec 8
  /-- the flags of R379 byte 7 -/
  flags : Byte
  /-- tag time of the trigger -/
  time : Nat
  tick : Nat
  calCh : Nat
  secondaries : Nat
  /-- marker delay beyond tMK in ticks -/
  late : Nat
  bracket : Word
  /-- pre-trigger and post-trigger samples per stored channel -/
  pre : Nat
  post : Nat
  tied : Bool
  /-- it opened after Knell entry and is lost (R384) -/
  lost : Bool
  chans : List ChanEntry
  /-- tag-time stamp and bracket at the close -/
  closeTime : Nat
  closeBracket : Word
  /-- extreme codes and conditions at the close, by channel: valid, code, still out (R380) -/
  ends : List (Bool × Byte × Bool)
  /-- SNR_CHn_THR in force at the close, by channel (R380) -/
  thr : List Word := []
  /-- SNARE_WAVE payloads still to pass S1 -/
  waves : List (List Byte)
  /-- SNARE_TRIG has passed S1 -/
  trigDone : Bool
  deriving DecidableEq, Repr

/-- Who asks the entropy pool for blocks, in the order of R406. -/
inductive EntUse where
  /-- HELLO of a host: the request header, context, method, rights, point -/
  | hello (h : MgmtHdr) (ctx : Nat)
  | kSign (slot : Nat)
  | bivik (p : Port)
  | fieldExport
  deriving DecidableEq, Repr

/-- A waiting entropy request of priorities 2 to 4. -/
structure EntReq where
  prio : Nat
  use : EntUse
  deriving DecidableEq, Repr

/-- One noise source (R415). -/
structure Source where
  /-- 0 OFF, 1 STARTUP, 2 RUNNING, 3 TEST, 4 RAW, 5 FAILED -/
  state : Nat := 0
  fast : Bool := false
  code : Nat := 0
  rctMax : Nat := 0
  aptMax : Nat := 0
  run : Nat := 0
  last : Bool := false
  windows : Nat := 0
  /-- the first 128 samples of the next window, which have passed the repetition-count test (R396) -/
  lead : Option (BitVec 128) := none
  lastRelease : Nat := 0
  /-- it has woken and released no block yet (R409) -/
  woken : Bool := false
  deriving DecidableEq, Repr

/-- A raw capture (R413, R414). -/
structure Raw where
  src : Src
  running : Bool
  /-- `clk.up` at which the capture began -/
  since : Nat := 0
  /-- RAW_STOP was written: the capture ends at the next sample -/
  stop : Bool
  bytes : List Byte
  rct : Nat
  apt : Nat
  deriving DecidableEq, Repr

/-- A self-test request and a result (R532, R536). -/
structure TestResult where
  req : Nat
  unit : Nat
  outcome : Nat
  detail : Nat
  begun : Nat
  back : Nat
  value : Nat
  deriving DecidableEq, Repr

/-- One shipping-log sample (R30). -/
structure Sample where
  seconds : Nat
  flags : Byte
  temp : Int
  storeMv : Nat
  vbatMv : Nat
  harv : Nat
  voc : Nat
  deriving DecidableEq, Repr

/-- A field-journal entry (R348). -/
structure FJEntry where
  pos : Nat
  count : Nat
  target : Nat
  addr : Nat
  data : List Byte
  value : Nat
  seq : Word
  applied : Bool
  deriving DecidableEq, Repr

/-- The last reply backscattered, or none. -/
inductive Reply where
  | none
  | rn16 (v : BitVec 16)
  | ident (bits : List Bool)
  | data (bytes : List Byte)
  | done
  | error (code : Nat)
  deriving DecidableEq, Repr

/-- What a start-up knows when it begins: its cause and source (R523), the run-ahead records that
were lost, whether any record was, and what AON and the commit engine kept (R524, R531). -/
structure StartFacts where
  cause : Nat
  src : Nat
  lost : Nat
  rolled : Bool
  /-- the commit engine's retained state is intact -/
  retained : Bool
  /-- AON kept power (R113, R114) -/
  aonKept : Bool
  /-- the start-up follows a device reset: a pending partition map takes effect (R64) -/
  device : Bool
  deriving DecidableEq, Repr

/-- The facts of a dark start-up held in AON (R527). -/
structure DarkFacts where
  cause : Nat
  src : Nat
  action : Nat
  abandoned : Nat
  bootCount : Nat
  stroke : Nat
  ckptStroke : Nat
  /-- chain breaks of strokes that recovery could not claim (R116): partition and first unbound record -/
  breaks : List (Nat × Nat)
  deriving DecidableEq, Repr

/-- A range lost to a bank failure (R519). -/
structure LossRange where
  part : Nat
  bank : Nat
  lower : Nat
  upper : Nat
  deriving DecidableEq, Repr

end Sys2Proof.Machine
end

