-- ==== Sys2Proof/Machine/Sha256.lean ====
section
/-! DEFINITION. The SHA-256 hash, which the spec names without retelling it (R67, R395): the published algorithm of FIPS 180-4 (PRESUMED, log entry 5). -/

namespace Sys2Proof.Machine

/-- The round constants: the first 32 fraction bits of the cube roots of the first 64 primes. -/
def shaConstants : List Word :=
  [0x428A2F98#32, 0x71374491#32, 0xB5C0FBCF#32, 0xE9B5DBA5#32,
    0x3956C25B#32, 0x59F111F1#32, 0x923F82A4#32, 0xAB1C5ED5#32] ++
  [0xD807AA98#32, 0x12835B01#32, 0x243185BE#32, 0x550C7DC3#32,
    0x72BE5D74#32, 0x80DEB1FE#32, 0x9BDC06A7#32, 0xC19BF174#32] ++
  [0xE49B69C1#32, 0xEFBE4786#32, 0x0FC19DC6#32, 0x240CA1CC#32,
    0x2DE92C6F#32, 0x4A7484AA#32, 0x5CB0A9DC#32, 0x76F988DA#32] ++
  [0x983E5152#32, 0xA831C66D#32, 0xB00327C8#32, 0xBF597FC7#32,
    0xC6E00BF3#32, 0xD5A79147#32, 0x06CA6351#32, 0x14292967#32] ++
  [0x27B70A85#32, 0x2E1B2138#32, 0x4D2C6DFC#32, 0x53380D13#32,
    0x650A7354#32, 0x766A0ABB#32, 0x81C2C92E#32, 0x92722C85#32] ++
  [0xA2BFE8A1#32, 0xA81A664B#32, 0xC24B8B70#32, 0xC76C51A3#32,
    0xD192E819#32, 0xD6990624#32, 0xF40E3585#32, 0x106AA070#32] ++
  [0x19A4C116#32, 0x1E376C08#32, 0x2748774C#32, 0x34B0BCB5#32,
    0x391C0CB3#32, 0x4ED8AA4A#32, 0x5B9CCA4F#32, 0x682E6FF3#32] ++
  [0x748F82EE#32, 0x78A5636F#32, 0x84C87814#32, 0x8CC70208#32,
    0x90BEFFFA#32, 0xA4506CEB#32, 0xBEF9A3F7#32, 0xC67178F2#32]

/-- The eight working words, in the order a to h. -/
structure ShaState where
  a : Word
  b : Word
  c : Word
  d : Word
  e : Word
  f : Word
  g : Word
  h : Word
  deriving DecidableEq, Repr

/-- The first 32 fraction bits of the square roots of the first 8 primes. -/
def shaStart : ShaState :=
  { a := 0x6A09E667#32, b := 0xBB67AE85#32, c := 0x3C6EF372#32, d := 0xA54FF53A#32
    e := 0x510E527F#32, f := 0x9B05688C#32, g := 0x1F83D9AB#32, h := 0x5BE0CD19#32 }

/-- The two functions that extend a block to the 64 words of its schedule. -/
def shaSmall0 (x : Word) : Word := x.rotateRight 7 ^^^ x.rotateRight 18 ^^^ x >>> 3
def shaSmall1 (x : Word) : Word := x.rotateRight 17 ^^^ x.rotateRight 19 ^^^ x >>> 10

/-- One more word of the schedule, which stands newest first. -/
def shaExtend (w : List Word) : List Word :=
  (shaSmall1 (w.getD 1 0#32) + w.getD 6 0#32 + shaSmall0 (w.getD 14 0#32) + w.getD 15 0#32) :: w

/-- The schedule of a block of 16 words. -/
def shaSchedule (block : List Word) : List Word :=
  ((List.range 48).foldl (fun w _ => shaExtend w) block.reverse).reverse

/-- One round, with its constant and its word of the schedule. -/
def shaRound (s : ShaState) (k w : Word) : ShaState :=
  let big1 := s.e.rotateRight 6 ^^^ s.e.rotateRight 11 ^^^ s.e.rotateRight 25
  let choose := (s.e &&& s.f) ^^^ (~~~ s.e &&& s.g)
  let t1 := s.h + big1 + choose + k + w
  let big0 := s.a.rotateRight 2 ^^^ s.a.rotateRight 13 ^^^ s.a.rotateRight 22
  let major := (s.a &&& s.b) ^^^ (s.a &&& s.c) ^^^ (s.b &&& s.c)
  { a := t1 + (big0 + major), b := s.a, c := s.b, d := s.c, e := s.d + t1, f := s.e, g := s.f, h := s.g }

/-- Word by word sum of two states. -/
def ShaState.plus (s t : ShaState) : ShaState :=
  { a := s.a + t.a, b := s.b + t.b, c := s.c + t.c, d := s.d + t.d
    e := s.e + t.e, f := s.f + t.f, g := s.g + t.g, h := s.h + t.h }

/-- One block of 16 words. -/
def shaBlock (s : ShaState) (block : List Word) : ShaState :=
  s.plus ((shaConstants.zip (shaSchedule block)).foldl (fun t p => shaRound t p.1 p.2) s)

/-- A message with its end mark, zeros up to a whole block, and its length in bits, most significant byte
first. -/
def shaPad (bs : List Byte) : List Byte :=
  bs ++ 0x80#8 :: zeroBytes ((119 - bs.length % 64) % 64) ++ (leBytes 8 (8 * bs.length)).reverse

/-- Word `i` of a byte string, most significant byte first. -/
def shaWord (bs : List Byte) (i : Nat) : Word := BitVec.ofNat 32 (leNat (slice bs (4 * i) 4).reverse)

/-- The blocks of a padded message, one after another. -/
def shaBlocks (s : ShaState) (bs : List Byte) (blocks : Nat) : ShaState := match blocks with
  | 0 => s
  | n + 1 => shaBlocks (shaBlock s ((List.range 16).map (fun i => shaWord bs i))) (bs.drop 64) n

/-- SHA-256 of a byte string; output byte 0 is the most significant byte of the value. -/
def sha256 (bs : List Byte) : BitVec 256 :=
  let m := shaPad bs
  let s := shaBlocks shaStart m (m.length / 64)
  s.a ++ s.b ++ s.c ++ s.d ++ s.e ++ s.f ++ s.g ++ s.h

end Sys2Proof.Machine
end

