-- ==== Sys2Proof/Machine/Layout.lean ====
section
/-! DEFINITION. Byte layouts and check sums: record headers and trailers (R17 to R24), CRC-32C, the completion of a record at S7 (R67, R94), and what a tag holds from manufacture (R33, R323, R324, R440). -/

namespace Sys2Proof

/-- The bytes of a 32-bit word. -/
def wordBytes (w : Word) : List Byte := leBytes 4 w.toNat

/-- The 32 bytes of a record header (R18). -/
def Hdr.bytes (h : Hdr) : List Byte :=
  [h.typ, h.flags] ++ leBytes 2 h.length ++ leBytes 2 h.source.toNat ++
  [BitVec.ofNat 8 h.part, BitVec.ofNat 8 (h.degree * 64 + h.cls * 8)] ++
  wordBytes h.seq ++ wordBytes h.ssn ++ leBytes 8 h.stroke ++ leBytes 8 h.time

/-- The 32 bytes of a trailer (R22). -/
def Rec.trailer (r : Rec) : List Byte :=
  wordBytes r.crc ++ leBytes 8 r.link.toNat ++ leBytes 16 r.gcm.toNat ++ zeroBytes 4

/-- True when the bits `f` are set in a Flags byte. -/
def Hdr.has (h : Hdr) (f : Byte) : Bool := h.flags &&& f != 0#8

/-- The 12-byte GCM nonce (R23); byte 11 is 0 under the device key and 1 under the Carillon key. -/
def Hdr.nonce (h : Hdr) (last : Nat) : List Byte :=
  leBytes 8 h.time ++ leBytes 2 h.source.toNat ++ [BitVec.ofNat 8 h.part, BitVec.ofNat 8 last]

end Sys2Proof

namespace Sys2Proof.Machine

/-- One step of the bitwise CRC-32C (reflected polynomial 0x82F63B78). -/
def crcBit (c : Word) : Word :=
  if c.getLsbD 0 then (c >>> 1) ^^^ 0x82F6_3B78#32 else c >>> 1

/-- CRC-32C over one byte. -/
def crcByte (c : Word) (b : Byte) : Word :=
  let c := c ^^^ b.setWidth 32
  crcBit (crcBit (crcBit (crcBit (crcBit (crcBit (crcBit (crcBit c)))))))

/-- CRC-32C of a byte string (R22): initial value and final inversion all ones. PRESUMED, the
published algorithm (log entry 6). -/
def crc32c (bs : List Byte) : Word := ~~~ (bs.foldl crcByte 0xFFFF_FFFF#32)

/-- The number that a 256-bit value's first `n` output bytes make, as a byte string: SHA-256 output
byte 0 is the most significant byte of the value. -/
def digestBytes (d : BitVec 256) (n : Nat) : List Byte := (leBytes 32 d.toNat).reverse.take n

/-- Pads a byte string with 0 to a multiple of 32 bytes (R17). -/
def pad32 (bs : List Byte) : List Byte := bs ++ zeroBytes ((32 - bs.length % 32) % 32)

/-- Sectors of a record with a payload of `len` bytes (R17). -/
def sectorsOf (len : Nat) : Nat := ceilDiv (len + 64) 32

/-- A signed number as `n` little-endian bytes. -/
def leSigned (n : Nat) (v : Int) : List Byte := leBytes n (v % (2 ^ (8 * n) : Int)).toNat

/-- The bits of the Flags byte (R19). -/
def flagEnc : Byte := 0x01#8
def flagPeer : Byte := 0x02#8
def flagFirst : Byte := 0x04#8
def flagLast : Byte := 0x08#8
def flagBracket : Byte := 0x10#8
def flagUnsync : Byte := 0x20#8
def flagNew : Byte := 0x40#8

/-- FIRST and LAST as flag bits. -/
def setFlags (first last : Bool) : Byte :=
  (if first then flagFirst else 0#8) ||| (if last then flagLast else 0#8)

/-- The chain link of a record after the link `prev` (R67). -/
def chainLink (prev : BitVec 64) (h : Hdr) (gcm : BitVec 128) : BitVec 64 :=
  BitVec.ofNat 64 (leNat (digestBytes
    (sha256 (leBytes 8 prev.toNat ++ h.bytes ++ leBytes 16 gcm.toNat)) 8))

/-- Completes a record at S7 (R23, R67, R22, R94): stroke number, mirror degree, GCM tag, chain
link and CRC. -/
def completeRec (r : Rec) (stroke degree : Nat) (prev : BitVec 64) : Rec :=
  let h := { r.hdr with stroke := stroke, degree := degree }
  let pay := pad32 r.payload
  let enc := h.has flagEnc
  let gcm := Config.gcmTag 0 (h.nonce 0) (h.bytes ++ (if enc then [] else pay))
    (if enc then pay else [])
  let link := chainLink prev h gcm
  let stored := if enc then Config.gcmSeal 0 (h.nonce 0) pay else pay
  let crc := crc32c (h.bytes ++ stored ++ leBytes 8 link.toNat ++ leBytes 16 gcm.toNat ++ zeroBytes 4)
  { hdr := h, payload := r.payload, crc := crc, link := link, gcm := gcm, prev := prev }

/-- The identifier bank at manufacture (R323): word 0 is never stored, PC with length 6, then
0x4B54, 0x3438 and the device identifier, most significant byte first. -/
def identHome : List Byte :=
  zeroBytes 2 ++ [0x30#8, 0x00#8, 0x4B#8, 0x54#8, 0x34#8, 0x38#8] ++
    (leBytes 8 Config.deviceId.toNat).reverse ++ zeroBytes 48

/-- The TID bank (R324). -/
def tidHome : List Byte :=
  [0xE2#8, 0x83#8, 0x6A#8, 0x48#8] ++ (leBytes 8 Config.deviceId.toNat).reverse ++
    [0x00#8, 0x01#8, 0x00#8, 0x00#8]

/-- The genesis link of a partition at a repartition count (R68). -/
def genesisAt (part repart : Nat) : BitVec 64 :=
  BitVec.ofNat 64 (leNat (digestBytes (sha256
    ([BitVec.ofNat 8 part] ++ leBytes 8 Config.deviceId.toNat ++ leBytes 4 repart)) 8))

/-- The KEY_SLOT payload (R440). -/
def keySlotPayload (slot kind mode epoch : Nat) (key : List Byte) : List Byte :=
  [BitVec.ofNat 8 slot, BitVec.ofNat 8 kind, BitVec.ofNat 8 mode, 0#8] ++ leBytes 4 epoch ++
    digestBytes (sha256 key) 4 ++ zeroBytes 4 ++ key

/-- The IDENTITY payload (R33), with the die revision of GLB_REV. -/
def identityPayload : List Byte :=
  leBytes 8 Config.deviceId.toNat ++ leBytes 8 Config.manufactureTime.toNat ++ leBytes 2 1 ++
    zeroBytes 2 ++ leBytes 32 Config.serial.toNat ++ zeroBytes 12 ++ leBytes 64 Config.attestPub.toNat

/-- `bs` followed by its CRC-32C. -/
def sealed32 (bs : List Byte) : List Byte := bs ++ wordBytes (crc32c bs)

/-- The 32 bytes of a slot of the index journal (R107). -/
def entryBytes (e : Entry) : List Byte := sealed32 (match e.kind with
  | .extent => [0x02#8, BitVec.ofNat 8 e.part] ++ leBytes 2 e.count ++ leBytes 2 e.sector ++
      leBytes 2 e.released ++ leBytes 8 e.stroke ++ zeroBytes 12
  | k => [if k = .move then 0x03#8 else 0x01#8, BitVec.ofNat 8 e.part] ++ leBytes 2 e.count ++
      leBytes 4 e.sector ++ leBytes 8 e.stroke ++ wordBytes e.seq ++ leBytes 2 e.source.toNat ++
      [e.typ, BitVec.ofNat 8 e.cls] ++ wordBytes e.crc)

/-- The entry that a slot's bytes hold (R107): none when the kind is reserved or the CRC fails. -/
def entryOf (slot : Nat) (bs : List Byte) : Option Entry :=
  let body := bs.take 28
  let e : Entry := {
    slot := slot, kind := .record, part := byteAt bs 1, count := leNat (slice bs 2 2)
    sector := leNat (slice bs 4 4), released := 0, stroke := leNat (slice bs 8 8)
    seq := BitVec.ofNat 32 (leNat (slice bs 16 4)), source := BitVec.ofNat 16 (leNat (slice bs 20 2))
    typ := bs.getD 22 0#8, cls := byteAt bs 23 % 8, crc := BitVec.ofNat 32 (leNat (slice bs 24 4))
    okA := true, okB := true }
  if bs.length ≠ 32 ∨ bs ≠ sealed32 body then none
  else match byteAt bs 0 with
    | 1 => some e
    | 2 => some { e with
        kind := .extent, count := leNat (slice bs 2 2), sector := leNat (slice bs 4 2)
        released := leNat (slice bs 6 2), seq := 0#32, source := 0#16, typ := 0#8, cls := 0, crc := 0#32 }
    | 3 => some { e with kind := .move }
    | _ => none

/-- The 32 bytes of a toll cell (R97). -/
def tollCellBytes (counter : Nat) (copyB : Bool) (c : TollCell) : List Byte :=
  sealed32 (leBytes 4 c.value ++ wordBytes (~~~ (BitVec.ofNat 32 c.value)) ++
    [BitVec.ofNat 8 counter, if copyB then 1#8 else 0#8] ++ leBytes 2 c.index ++ zeroBytes 16)

/-- The toll cell that 32 bytes hold for a counter and copy (R97): valid when its CRC and its inverse
both check. -/
def tollCellOf (bs : List Byte) : TollCell :=
  let v := leNat (slice bs 0 4)
  { index := leNat (slice bs 10 2), value := v
    valid := bs == sealed32 (bs.take 28) && slice bs 4 4 == wordBytes (~~~ (BitVec.ofNat 32 v)) }

/-- The 96 bytes of a save-ring entry (R102). -/
def saveBytes (v : Save) : List Byte :=
  sealed32 (leBytes 8 v.shadow ++ leBytes 8 v.stamp ++ wordBytes v.bracket ++ leBytes 4 v.journalPos ++
    (v.seqs.flatMap wordBytes ++ zeroBytes 36).take 36 ++ [if v.clean then 1#8 else 0#8] ++
    zeroBytes 3 ++ [v.entCodes] ++ zeroBytes 27)

/-- The 16 bytes of a line tag (R73). -/
def lineTagBytes (t : LineTag) : List Byte :=
  sealed32 (leBytes 4 t.cycles ++ [BitVec.ofNat 8 t.part, 0#8] ++ leBytes 2 t.ext ++ leBytes 4 t.epoch)

/-- The parity bit of a 64-bit value (R100): the exclusive-or of its bits, so that the value and its parity
bit together hold an even number of ones (DESIGN CHOICE, log entry 113: R100 names no sense). -/
def parity64 (v : Nat) : Bool := (List.range 64).foldl (fun p i => xor p (v.testBit i)) false

/-- A record that manufacture commits (R33): the first of its stream, which no stream table knows
(R36). -/
def factoryRec (typ flags : Byte) (part loc stroke time : Nat) (payload : List Byte) : Rec :=
  completeRec
    { hdr := { typ := typ, flags := flags ||| flagFirst ||| flagLast ||| flagBracket ||| flagNew
               length := payload.length, source := BitVec.ofNat 16 loc, part := part, degree := 0
               cls := 6, seq := 0#32, ssn := 0#32, stroke := 0, time := time }
      payload := payload, crc := 0#32, link := 0#64, gcm := 0#128 }
    stroke 0 (genesisAt part 0)

/-- The IDENTITY record, stroke number 1 (R33). -/
def identityRec : Rec :=
  factoryRec 0x90#8 0#8 0 0 1 Config.manufactureTime.toNat identityPayload

/-- The KEY_SLOT payload of the attestation key (R439). -/
def attestPayload : List Byte := keySlotPayload 1 3 0 0 (leBytes 32 Config.attestKey.toNat).reverse

/-- The KEY_SLOT record of slot 1, stroke number 2 (R33). -/
def attestRec : Rec :=
  factoryRec 0xA0#8 flagEnc 1 6 2 (Config.manufactureTime.toNat + 1) attestPayload

end Sys2Proof.Machine
end

