-- ==== Sys2Proof/Machine/State.lean ====
section
/-! DEFINITION. The state of the tag: every register, store, engine and pin the spec names, as plain data in blocks, with the queue of waiting commands; and the state at reset. The value after a field's := is its value at reset. -/

namespace Sys2Proof.Machine

/-- Why the block stops with a fault. No meaning of this model raises it: the spec gives every
command an effect or none, and both are next states (log entry 3). Safe. -/
inductive Fault where
  /-- reserved for a command that the spec would stop; raised by no meaning; safe -/
  | unreachable
  deriving DecidableEq, Repr

/-- Why a command has no meaning here. -/
inductive Refusal where
  /-- the command of this mnemonic is not modelled; raised by its arm of exec alone; safe -/
  | notModelled (mnemonic : String)
  deriving DecidableEq, Repr

/-- Clocks (R25, R40, R494, R511, R515). Times are in units of 2^-24 s. -/
structure Clk where
  /-- tag time of the RTC, 64 bits: seconds in bits 63:24, fraction in bits 23:0 -/
  rtc : Nat := 0
  /-- model's own: time passed since manufacture, by which ages and idle times are measured -/
  up : Nat := 0
  /-- the last tag-time stamp (R25) -/
  lastStamp : Nat := 0
  /-- highest SSN seen, modulo-2^32 order (R40) -/
  bracket : Word := 0#32
  /-- a switch event has been seen since manufacture -/
  bracketSeen : Bool := false
  /-- the RTC has not been set since AON lost all power (R19 bit 5) -/
  unsync : Bool := false
  /-- a TIME commit waits for the next RTC second: its value, `up` when it was accepted, its port and
  the source of its setter (R515) -/
  rtcLoad : Option (Nat × Nat × Port × BitVec 16) := none
  deriving DecidableEq, Repr

/-- The register map's own storage (R480) and the register port (R471, R476). -/
structure RegFile where
  /-- last written values and event bits, where they differ from the reset values, by offset -/
  cur : List (Nat × Word) := []
  /-- configuration in force, where it differs from the reset values -/
  inForce : List (Nat × Word) := []
  /-- bits written and not yet in force -/
  pend : List (Nat × Word) := []
  /-- ports on which the unlock key is armed -/
  keyArmed : List Port := []
  /-- ports whose previous register write was rejected (R261) -/
  prevReject : List Port := []
  /-- ports of which a posted write was refused as it drained, to be told in their next completion (R433) -/
  notices : List Port := []
  /-- RESULT of the transaction last completed on the register port (R472) -/
  result : Nat := 0
  /-- GLB_LOCK (R496) -/
  locked : Word := 0#32
  /-- GLB_LOCK has taken its one write -/
  lockUsed : Bool := false
  /-- GLB_CAUSE (R494) -/
  cause : Word := 0#32
  /-- GLB READY (R526) -/
  ready : Bool := false
  /-- bytes the register port drove in the last transaction, status byte first -/
  sdo : List Byte := []
  /-- the register port's mailbox set -/
  mbx : Mbx := {}
  deriving DecidableEq, Repr

/-- What the array and its toll and spare areas hold without power (R71 to R107). -/
structure Arr where
  /-- sizes in force, in units of 64 KiB, by partition code (R58) -/
  sizes : List Nat := [1, 1, 16, 98, 68, 16, 8, 32, 4, 4, 8]
  /-- an accepted map that waits for a reset: sizes, owner epoch, setter's source (R64, R65) -/
  mapPending : Option (List Nat × Nat × BitVec 16) := none
  /-- owner epoch in which a map was last accepted (R63) -/
  mapEpoch : Option Nat := none
  /-- the 32 toll counters (R96) -/
  tolls : List Toll := []
  /-- spare rings left in each bank (R96, R105) -/
  spareRings : List Nat := [6, 6, 6, 6]
  /-- the two copies of the save ring, none for a copy that is lost (R102), and the index of its next
  entry -/
  saveA : Option SaveRing := some ⟨0, []⟩
  saveB : Option SaveRing := some ⟨2, []⟩
  saveIndex : Nat := 0
  /-- index-journal slots that hold entries, oldest first (R106) -/
  journal : List Entry := []
  /-- checkpoint sets still held, newest first (R560) -/
  ckpts : List Ckpt := []
  /-- committed records, oldest first -/
  recs : List Stored := []
  voids : List Void := []
  /-- logical extents that moved from their first placement: partition * 65536 + logical extent,
  then the physical extent code (R76) -/
  extMap : List (Nat × Nat) := []
  /-- free extents of each bank, ascending (R78) -/
  free : List (List Nat) := [List.range' 752 32, List.range' 752 32, List.range' 752 32,
    List.range' 752 32]
  /-- line tags of the lines that have been programmed: bank * 65536 + line, then the tag (R72, R73) -/
  tags : List (Nat × LineTag) := []
  /-- checkpoint epoch at which an extent was assigned, where it is not 0: its code, then the epoch (R73) -/
  extEpochs : List (Nat × Nat) := []
  spareUsed : List Nat := [0, 0, 0, 0]
  /-- spare maps: bank * 65536 + line, then the spare line's number plus 1: the copies in the banks' own
  spare-map areas and those in the areas of banks b + 2 (R118) -/
  spareMap : List (Nat × Nat) := []
  spareMapB : List (Nat × Nat) := []
  /-- extents of fixed placement that moved to a free extent when they were retired (R119): old code,
  new code -/
  fixedMap : List (Nat × Nat) := []
  /-- what the extent entries since the checkpoint have changed, oldest first (R92, R113) -/
  changes : List ExtChange := []
  /-- extents out of service: bank, extent (R119) -/
  retired : List (Nat × Nat) := []
  /-- bank states: 0 ACTIVE, 1 UNDER_TEST, 2 FAILED -/
  banks : List Nat := [0, 0, 0, 0]
  /-- wear figures of failed banks, frozen at the failure (R518): mean, lowest, highest, spare lines
  used, extents retired -/
  frozenWear : List (Option (List Nat)) := [none, none, none, none]
  /-- ranges lost to bank failures (R127, R519) -/
  losses : List LossRange := []
  deriving DecidableEq, Repr

/-- The commit engine's working state (R83 to R124). -/
structure Cmt where
  /-- stroke toll shadow: its two copies, each with its parity bit (R100) -/
  shadow : Nat := 2
  shadowB : Nat := 2
  par : Bool := parity64 2
  parB : Bool := parity64 2
  parts : List Part := []
  pipe : List PipeRec := []
  /-- internal records that wait for room at S1: type, payload and the rest of Hook and header -/
  s1wait : List (Rec × Hook) := []
  /-- audit records held in AON until CORE can commit them (R31) -/
  auditHeld : List (Rec × Hook) := []
  nextId : Nat := 0
  jpos : Nat := 0
  entriesSince : Nat := 0
  commitsSince : Nat := 0
  ckptDue : Bool := false
  lastCkptUp : Nat := 0
  scrubReq : Bool := false
  /-- time of the last static move of each bank (R122) -/
  lastMove : List (Option Nat) := [none, none, none, none]
  scrubPos : Nat := 0
  recovering : Bool := false
  rebuilding : Bool := false
  /-- the tail of a rebuild that is still to run (R125 steps 7 and 8): the chain breaks to commit -/
  rebuildTail : Option (List (Nat × Nat)) := none
  /-- recovery has ended since CORE's registers were reset: CMT_WEAR and CMT_SPARE are loaded (R130) -/
  loaded : Bool := false
  headPart : Nat := 0
  streams : List Stream := []
  /-- next source sequence of local sources 0 to 8 (R35, R102); for sources 1, 4 and 7 that of their
  KNELL, FIELD and PEAL streams -/
  localSeq : List Word := []
  /-- next source sequence of the INTERNAL streams of local sources 1, 4 and 7, which R102 does not save
  (log entry 73) -/
  innerSeq : List Word := [0#32, 0#32, 0#32]
  /-- a state change since the last keep-alive save (R184) -/
  dirty : Bool := false
  /-- repeats made so far of the pulse on each target (R117) -/
  pulseRetries : List (PulseTarget × Nat) := []
  /-- retirements with their time, by bank (R124) -/
  retires : List (Nat × Nat) := []
  wear90 : List Bool := [false, false, false, false]
  deriving DecidableEq, Repr

/-- The Knell engine (R133 to R170). -/
structure Kn where
  /-- 0 DISARMED .. 8 DARK (R167) -/
  state : Nat := 0
  slots : List Slot := List.replicate 8 emptySlot
  intake : Option Intake := none
  plans : List Plan := []
  /-- slots whose bundle is still to be mirrored -/
  mirrorPend : List Nat := []
  /-- slot of the current or last Knell (KNL_STATE), and of the last one that closed (KNL_LAST) -/
  lastSlot : Nat := 0
  closedSlot : Nat := 0
  lastTrigger : Nat := 0
  lastEnd : Nat := 0
  lastSegs : Nat := 0
  /-- announced and stored bytes of the last Knell (R170) -/
  lastAnnounced : Nat := 0
  lastStored : Nat := 0
  /-- K-SIGN waits for its entropy block -/
  signWait : Option Nat := none
  /-- outcome of dropped sections in the running Knell: 2 energy, 3 size (R146) -/
  dropCode : Nat := 2
  /-- number of the last Knell that claimed a slot, 0 for none -/
  trigNum : Nat := 0
  /-- consolidation may draw on TAG_VBAT before the long-darkness cut-off (R162) -/
  cellCons : Bool := false
  deriving DecidableEq, Repr

/-- Energy sources, gauge, domains and the scheduler (R171 to R201). -/
structure Pwr where
  /-- 0 before the first start-up; 1 WIRED .. 6 CUTOFF -/
  mode : Nat := 0
  /-- shedding steps applied, 1 to 7 -/
  step : Nat := 0
  /-- sources usable now, by source code -/
  usable : List Bool := [false, false, false, false, false, false]
  vauxOk : Bool := false
  gauge : GaugeReading := zeroGauge
  cellMv : Nat := 0
  cellState : Nat := 0
  capUf : Nat := 0
  holdMeasuring : Bool := false
  pumpOn : Bool := false
  storeFull : Bool := false
  temp : Int := 0
  band : Nat := 0
  domOn : List Bool := List.replicate 20 false
  jobs : List Job := []
  grants : List Job := []
  deferred : List Nat := []
  waiting : List Nat := []
  darkSince : Option Nat := none
  shipReq : Bool := false
  mpptReq : Bool := false
  harvRunning : Bool := false
  voc : Nat := 0
  target : Nat := 0
  deriving DecidableEq, Repr

/-- The Stream Port's link layer (R202 to R247). -/
structure Stm where
  /-- 0 OFF, 1 CLKWAIT, 2 TS1, 3 TS2, 4 ACTIVE, 5 DISABLED (R243) -/
  st : Nat := 0
  held : Bool := false
  /-- `up` at which the grace timer ends (R235) -/
  graceEnd : Nat := 0
  /-- a LINK_REQ of the tag outstanding: number, type, lanes (R231) -/
  req : Option (Nat × Nat × BitVec 4) := none
  /-- what it was made for (R232) -/
  reqWhy : List ReqWhy := []
  reqNum : Nat := 0
  rxLanes : BitVec 4 := 0#4
  txLanes : BitVec 4 := 0#4
  /-- lanes with a latched fault (R229) -/
  excluded : BitVec 4 := 0#4
  retraining : Bool := false
  full : Bool := false
  /-- consecutive valid TS1 and TS2 sets by lane -/
  ts1 : List Nat := [0, 0, 0, 0]
  ts2 : List Nat := [0, 0, 0, 0]
  /-- candidate lanes of this training, those of every attempt of a retrain, and whether one of them failed
  so that the receive set is narrower than it would be (R229, R233) -/
  cand : BitVec 4 := 0#4
  candAll : BitVec 4 := 0#4
  laneFailed : Bool := false
  trainId : Nat := 0
  pWindow : Nat := 0
  cap : Nat := 4
  /-- lane sets before this retrain -/
  oldRx : BitVec 4 := 0#4
  oldTx : BitVec 4 := 0#4
  /-- the tag offers RESUME in its TS2 sets (R230) -/
  resumeOk : Bool := false
  /-- a link down has happened since the last ACTIVE -/
  wasDown : Bool := false
  /-- a withdrawn FULL_RETRAIN request whose reason may still hold (R232) -/
  reeval : Bool := false
  /-- receive width in the last period of ACTIVE -/
  widthLast : Nat := 0
  deriving DecidableEq, Repr

/-- The Stream Port's packet and credit state (R209 to R226). -/
structure Lnk where
  expected : BitVec 12 := 0#12
  nakSent : Bool := false
  next : BitVec 12 := 0#12
  oldest : BitVec 12 := 0#12
  window : Nat := 0
  replay : List TxPkt := []
  /-- packets of the store still to be sent again -/
  cursor : Nat := 0
  noProgress : Nat := 0
  unacked : Nat := 0
  ackPending : Bool := false
  nakPending : Option Nat := none
  creditPending : Bool := false
  linkReqPending : Bool := false
  txQ : List TxPkt := []
  /-- failures among the last 4,096 packets, newest first -/
  errHist : List Bool := []
  badRun : Nat := 0
  /-- credit limits given, consumed and held by class code -/
  rxLimit : List Nat := [0, 0, 0, 0]
  /-- the limits as the last CREDIT packet gave them (R223) -/
  rxSent : List Nat := [0, 0, 0, 0]
  rxUsed : List Nat := [0, 0, 0, 0]
  txMgmtLimit : BitVec 16 := 0#16
  txPealLimit : BitVec 16 := 0#16
  txMgmtUsed : BitVec 16 := 0#16
  txPealUsed : BitVec 16 := 0#16
  /-- credits of the frame open in each class -/
  openFrame : List (Option Nat) := [none, none, none, none]
  /-- by class: the open frame stores nothing, and its packets' credits return as they arrive (R224) -/
  discard : List Bool := [false, false, false, false]
  /-- credits of the frames that ended, oldest first, by class -/
  doneFrames : List (List Nat) := [[], [], [], []]
  sent : Option Sent := none
  /-- credits whose space is free and not yet given back because of a rule (R239) -/
  withheld : List Nat := [0, 0, 0, 0]
  /-- KNELL credits wait until the limits of the other classes have reached their pools (R239) -/
  knellLast : Bool := false
  /-- credits of each class that occupy Drumhead, and how many of them from before the last fresh training
  are still to come free before a limit rises again (R223) -/
  rxHeld : List Nat := [0, 0, 0, 0]
  rxOld : List Nat := [0, 0, 0, 0]
  /-- the first CREDIT packet of this training has been sent: the limits are in force (R223) -/
  credited : Bool := false
  /-- a CREDIT packet of the switch die has come since the last fresh training (R223) -/
  txCredited : Bool := false
  deriving DecidableEq, Repr

/-- Peal and in-band management (R257 to R291). -/
structure Peal where
  peers : List (BitVec 64) := [0#64, 0#64, 0#64, 0#64, 0#64, 0#64]
  /-- peer sets last written (R291), and whether they wait for the boundary -/
  peersWant : List (BitVec 64) := [0#64, 0#64, 0#64, 0#64, 0#64, 0#64]
  peersWait : Bool := false
  /-- local source of the party that last wrote the tag index or the Carillon ID (R562) -/
  setter : Nat := 5
  unsettled : List Unsettled := []
  backlog : List Backlog := []
  /-- MGMT requests that wait for READY (R262) -/
  mgmtWait : List Instr := []
  /-- stroke heads at the arrival of the STAGE_PULL requests that wait, in order (R272) -/
  pullHeads : List Nat := []
  /-- credits of the REC_WRITE frames that wait, in order (R224) -/
  writeCredits : List Nat := []
  /-- the stroke numbers that the REC_READ requests that wait found at their arrival, in order (R45) -/
  readFound : List (Option Nat) := []
  /-- leases of partitions 8 and 9 -/
  lease8 : Option Lease := none
  lease9 : Option Lease := none
  leaseWait : List LeaseReq := []
  /-- EVENT and COPY frames that wait for room at S1 (R85) -/
  eventWait : List Instr := []
  copyWait : List Instr := []
  /-- PEAL_STAGE.PULLS -/
  pulls : Nat := 0
  deriving DecidableEq, Repr

/-- The field engine's air interface (R292 to R320) and its memory view (R321 to R362). -/
structure Fld where
  /-- 0 OFF .. 6 SECURED (R312) -/
  st : Nat := 0
  /-- inventoried flags S0 to S3, true for B (R296) -/
  inv : List Bool := [false, false, false, false]
  sl : Bool := false
  slot : Nat := 0
  q : Nat := 0
  session : Nat := 0
  rn16 : BitVec 16 := 0#16
  handle : BitVec 16 := 0#16
  /-- a field is present -/
  present : Bool := false
  /-- the rectifier has raised the field tank, which feeds FRF, FDIG and their noise source while no source
  of R171 is usable (R298, R299) -/
  tank : Bool := false
  /-- the trim of the field clock, as the last wired start-up measured it; none: that of manufacture (R295) -/
  trim : Option Nat := none
  /-- what feeds FRF and FDIG: 0 rectifier, 1 TAG_STORE, 2 TAG_VBAT (R320) -/
  supply : Nat := 0
  buf : List (Src × List Bool) := []
  ready : Bool := false
  link : Word := 0#32
  /-- 0 none, 1 OPEN, 2 SECURED-0, 3 SECURED-P, 4 SECURED-A (R332) -/
  priv : Nat := 0
  pwCount : Nat := 0
  lockout : Bool := false
  wake : Bool := false
  wakeCause : Nat := 0
  wakeStart : Option Nat := none
  wakeLevel : Bool := false
  gwReason : Byte := 0#8
  deriving DecidableEq, Repr

/-- More of the field engine: sessions, containers and the last reply. -/
structure FldX where
  /-- field session context that holds the keys of MAM1 (R335) -/
  ctx : Option Nat := none
  /-- the open container of G_EXPORT (R345) -/
  container : Option Bivik := none
  /-- record read in order by G_REC_READ: its stroke and the next sector offset (R341) -/
  recRead : Option (Nat × Nat) := none
  reply : Reply := .none
  /-- the user-bank map is built (R328) -/
  mapBuilt : Bool := false
  /-- G_EXPORT OPEN waits for its nonce: partition, first stroke, count, strokes of the records found -/
  exportPend : Option (Nat × Nat × Nat × List Nat) := none
  /-- FLD_WAKE.COUNT (R318) -/
  wakeSeen : Nat := 0
  deriving DecidableEq, Repr

/-- Field memory (R321 to R331) and the field journal (R348 to R354). -/
structure FMem where
  reserved : List Byte := zeroBytes 8
  ident : List Byte := zeroBytes 64
  tid : List Byte := zeroBytes 16
  user0 : List Byte := zeroBytes 64
  lock : BitVec 10 := 0x30C#10
  journal : List FJEntry := []
  /-- next journal sector (R348) -/
  head : Nat := 0
  deriving DecidableEq, Repr

/-- Snare (R363 to R391). -/
structure Snr where
  armed : Bool := false
  /-- 0 OFF, 1 ARMED, 2 HELD, 3 STAGING, 4 STOPPED (R375) -/
  ring : Nat := 0
  /-- `clk.up` at which each channel's ADC started (R376) -/
  ringSince : List Nat := [0, 0, 0, 0, 0, 0, 0, 0]
  /-- the open capture (R368) -/
  capture : Option Capture := none
  /-- the capture whose samples the rings hold -/
  tied : Option Word := none
  /-- number of the last capture, held in AON (R369) -/
  capNum : Word := 0#32
  /-- closed captures that have not passed S1 in full, oldest first (R377, R378) -/
  waiting : List Capture := []
  /-- what SNR_LAST shows: trigger mask, stored mask, secondaries, flags -/
  last : BitVec 8 × BitVec 8 × Nat × Byte := (0#8, 0#8, 0, 0#8)
  faulty : BitVec 8 := 0#8
  /-- channel events that have begun and not ended (R366) -/
  events : List ChanEvent := []
  /-- channel events that may still count towards a coincidence (R367) -/
  recent : List ChanEvent := []
  /-- the first arming since the wired start-up has still to calibrate the channels in use (R385, R526) -/
  calFirst : Bool := false
  /-- channels still to be calibrated before the Snare may arm (R385) -/
  startCals : List Nat := []
  /-- the channel being calibrated, and the reason (R388) -/
  calBusy : Option (Nat × Nat) := none
  /-- tag time at the start of its blind interval -/
  calStart : Nat := 0
  /-- SNR_BLIND, in µs -/
  blindUs : Nat := 0
  /-- the ended blind intervals that a capture may still overlap: channel, then `clk.up` at its begin and end
  (R381, R386) -/
  blinds : List (Nat × Nat × Nat) := []
  /-- levels of the droop marker in the frame sent last, one for each core cycle (R370) -/
  marker : List Bool := []
  /-- the marker frame sent last: number, mask, and the tick at which it ends (R370) -/
  markerSent : Option (Word × BitVec 8) := none
  markerEnd : Nat := 0
  deriving DecidableEq, Repr

/-- The entropy source (R392 to R418) and the self-test queue (R532 to R536). -/
structure Ent where
  a : Source := {}
  b : Source := {}
  /-- blocks held for host use, oldest first (at most 16) -/
  pool : List (Src × BitVec 256) := []
  fifo : List (Src × Word) := []
  waiting : List EntReq := []
  raw : Option Raw := none
  rawReq : Option Src := none
  deriving DecidableEq, Repr

/-- The self-test queue and the last results (R532, R536). -/
structure SelfTest where
  /-- request number, unit, source of the request -/
  queue : List (Nat × Nat) := []
  results : List TestResult := []
  next : Nat := 1
  current : Option (Nat × Nat) := none
  /-- tag time at which the current test began -/
  begun : Nat := 0
  deriving DecidableEq, Repr

/-- The access guards (R419 to R438) and sessions (R448 to R457). -/
structure Grd where
  /-- live and shadow regions: master * 16 + region ↦ (base, configuration), where not default -/
  live : List (Nat × Word × Word) := []
  shadow : List (Nat × Word × Word) := []
  /-- APPLY requests in order: masters still to update, and LOAD_DEFAULT -/
  applyQ : List (List Nat × Bool) := []
  fault : Option FaultInfo := none
  /-- GRD_NOTICE_ADDR (R433) -/
  noticeAddr : Word := 0#32
  audits : List FaultAudit := []
  /-- time of each master's last GUARD_FAULT record (R32) -/
  auditAt : List (Nat × Nat) := []
  posted : List Posted := []
  deriving DecidableEq, Repr

/-- Host and field sessions and the key store (R439 to R457). -/
structure Ses where
  ctxs : List (Nat × Ctx) := []
  /-- LOADED slots 1 to 7 with their KEY_SLOT payloads (R439, R440) -/
  keys : List (Nat × List Byte) := [(1, attestPayload)]
  /-- DAMAGED slots (R441) -/
  damaged : List Nat := []
  /-- last KEY_LOAD rejection: code and slot -/
  keyRej : Nat × Nat := (0, 0)
  /-- contexts released by the expiry of HELLO, with their requester (R451) -/
  expired : List (Nat × Nat) := []
  deriving DecidableEq, Repr

/-- The logger, clocks and chassis (R508 to R512). -/
structure Log where
  chassisHigh : Bool := false
  /-- consecutive samples of TAG_CHASSIS that differ from the level -/
  chassisDiff : Nat := 0
  chassisAt : Nat := 0
  batch : List Sample := []
  batchInterval : Nat := 600
  /-- logger ticks to the next scheduled sample -/
  nextDue : Nat := 0
  /-- 0 internal oscillator, 1 crystal starting, 2 crystal, 3 crystal failed -/
  xtal : Nat := 0
  /-- the core runs from the backup oscillator (R511) -/
  backup : Bool := false
  flushReq : Bool := false
  sampleNow : Bool := false
  /-- a field has been seen since the last sample (R30) -/
  fieldSeen : Bool := false
  /-- SAMPLE_NOW has passed its logger tick: one extra sample is due (R509) -/
  extra : Bool := false
  /-- tag time of a CUTOFF exit, until the level found then has been compared (R512) -/
  chassisExit : Option Nat := none
  deriving DecidableEq, Repr

/-- Start-ups and resets (R523 to R531). -/
structure Boot where
  /-- the start-up that waits for an admission (R527) -/
  darkPending : Option StartFacts := none
  dark : Option DarkFacts := none
  /-- TAG_RESET_N asserted and recognised -/
  resetLow : Bool := false
  /-- a GLB_RESET device reset has been written: its writer's source and interface (R530) -/
  keyedPending : Option (BitVec 16 × Nat) := none
  /-- its orderly stop has begun -/
  keyedStop : Bool := false
  /-- the RESET_KEYED record of that stop, until S1 has room for it (R85) -/
  keyedAudit : Option Rec := none
  /-- S1 accepts nothing (step 6, resets) -/
  s1Stopped : Bool := false
  deriving DecidableEq, Repr

/-- The state of the block, and the commands that wait, first in first out. -/
structure State where
  clk : Clk
  rf : RegFile
  arr : Arr
  cmt : Cmt
  kn : Kn
  pwr : Pwr
  stm : Stm
  lnk : Lnk
  peal : Peal
  fld : Fld
  fldx : FldX
  fmem : FMem
  snr : Snr
  ent : Ent
  st : SelfTest
  grd : Grd
  ses : Ses
  log : Log
  boot : Boot
  /-- model's own: counts the free values taken (DESIGN CHOICE) -/
  fresh : Nat
  pending : List Instr
  deriving DecidableEq, Repr

/-- The commit state of a partition of a new tag, in units of 64 KiB (R58, R77). -/
def newPart (size head newest : Nat) (link : BitVec 64) : Part :=
  { size := size, extents := 16 * size, head := head, used := [0], newestStroke := newest,
    newestLink := link, lost := 0 }

/-- The ring of a copy on a new tag: manufacture has programmed value 0 into cell 0 and then, with
`used` stored updates, the value `v` into the next cell (log entry 74). -/
def newRing (bank ring v used : Nat) : TollRing :=
  { bank := bank, ring := ring, used := used
    cells := (if used = 0 then [] else [⟨1, v, true⟩]) ++ [⟨0, if used = 0 then v else 0, true⟩] }

/-- A toll counter of a new tag (R96): its copies lie in two banks. -/
def newToll (c v used : Nat) : Toll :=
  { ringA := some (newRing (c % 4) (c / 4) v used), ringB := some (newRing ((c + 2) % 4) (8 + c / 4) v used)
    worn := false }

/-- Where manufacture left the two records of R33. -/
def factoryStored (r : Rec) : Stored := { record := r, sector := 0 }

/-- The index entry of a record that manufacture committed (R107). -/
def factoryEntry (slot : Nat) (r : Rec) : Entry :=
  { slot := slot, kind := .record, part := r.hdr.part, count := sectorsOf r.hdr.length, sector := 0
    released := 0, stroke := r.hdr.stroke, seq := r.hdr.seq, source := r.hdr.source
    typ := r.hdr.typ, cls := r.hdr.cls, crc := r.crc, okA := true, okB := true }

/-- Next source sequences after manufacture: the commit engine and the key store have used one
number each (R33, R35). -/
def factorySeqs : List Word := [1#32, 0#32, 0#32, 0#32, 0#32, 0#32, 1#32, 0#32, 0#32]

/-- The save with which manufacture ends (log entry 1). -/
def factorySave : Save :=
  { shadow := 2, stamp := Config.manufactureTime.toNat + 1, bracket := 0#32, journalPos := 2
    seqs := factorySeqs, clean := true, entCodes := 0#8 }

/-- The streams of the two records of R33, the latest first (R36). -/
def factoryStreams : List Stream :=
  [{ source := 6#16, cls := 6, expected := 1#32 }, { source := 0#16, cls := 6, expected := 1#32 }]

/-- The machine right after reset: a tag as manufacture leaves it (R33), without power and with no
command waiting. POWER_ON starts it (log entry 2). -/
def State.reset : State :=
  { clk := { lastStamp := Config.manufactureTime.toNat + 1 }
    rf := {}
    arr := {
      tolls := newToll 0 2 1 :: (List.range' 1 31).map (fun c => newToll c 0 0)
      saveA := some ⟨0, [(factorySave, true)]⟩, saveB := some ⟨2, [(factorySave, true)]⟩
      saveIndex := 1
      recs := [factoryStored identityRec, factoryStored attestRec]
      journal := [factoryEntry 0 identityRec, factoryEntry 1 attestRec] }
    cmt := {
      parts := [newPart 1 (sectorsOf identityPayload.length) 1 identityRec.link,
        newPart 1 (sectorsOf attestPayload.length) 2 attestRec.link, newPart 16 0 0 0#64,
        newPart 98 0 0 0#64, newPart 68 0 0 0#64, newPart 16 0 0 0#64, newPart 8 0 0 0#64,
        newPart 32 0 0 0#64, newPart 4 0 0 0#64, newPart 4 0 0 0#64, newPart 8 0 0 0#64]
      jpos := 2, entriesSince := 2, commitsSince := 2, headPart := 1, localSeq := factorySeqs
      streams := factoryStreams }
    kn := {}, pwr := {}, stm := {}, lnk := {}, peal := {}, fld := {}, fldx := {}
    fmem := { ident := identHome, tid := tidHome }
    snr := {}, ent := {}, st := {}, grd := {}, ses := {}, log := {}, boot := {}
    fresh := 0, pending := [] }

end Sys2Proof.Machine
end

