-- ==== Sys2Proof/Machine/Ops.lean ====
section
/-! DEFINITION. The shared operations on plain data: sparse maps in canonical form, lists by index, byte layouts, check sums, times, and the register storage. -/

namespace Sys2Proof.Machine

/-- The value at `k` of a sparse map whose unlisted keys hold `d`. -/
def nget {α : Type} (m : List (Nat × α)) (k : Nat) (d : α) : α :=
  match m with
  | [] => d
  | (k', v) :: t => if k = k' then v else nget t k d

/-- Writes `v` at `k`: keys stay rising, and a key that holds `d` is not listed. -/
def nset {α : Type} [DecidableEq α] (m : List (Nat × α)) (k : Nat) (v d : α) : List (Nat × α) :=
  match m with
  | [] => if v = d then [] else [(k, v)]
  | (k', v') :: t =>
    if k < k' then (if v = d then (k', v') :: t else (k, v) :: (k', v') :: t)
    else if k = k' then (if v = d then t else (k, v) :: t)
    else (k', v') :: nset t k v d

/-- Replaces element `i` of a list; no change past its end. -/
def setNth {α : Type} (l : List α) (i : Nat) (v : α) : List α :=
  match l, i with
  | [], _ => []
  | _ :: t, 0 => v :: t
  | x :: t, i + 1 => x :: setNth t i v

/-- Applies `f` to element `i` of a list. -/
def modNth {α : Type} (l : List α) (i : Nat) (f : α → α) : List α :=
  match l, i with
  | [], _ => []
  | x :: t, 0 => f x :: t
  | x :: t, i + 1 => x :: modNth t i f

/-- Element `i` of a list of numbers, 0 past its end. -/
def nth (l : List Nat) (i : Nat) : Nat := l.getD i 0

/-- The sum of a list. -/
def total (l : List Nat) : Nat := l.foldl (fun a b => a + b) 0

/-- The number of seconds in one unit of time is 2^-24 (R10, tag time). -/
def second : Nat := 16777216

/-- A number of microseconds in time units, rounded down. -/
def usUnits (us : Nat) : Nat := us * 16777216 / 1000000

/-- A 64-bit tag time as its low 64 bits. -/
def time64 (t : Nat) : Nat := t % 2 ^ 64

namespace State

/-- The register word last written, or the event and counter bits held, at an offset. -/
def reg (s : State) (off : Nat) : Word := nget s.rf.cur off (regReset off)

/-- Stores a register word. -/
def setReg (s : State) (off : Nat) (v : Word) : State :=
  { s with rf.cur := nset s.rf.cur off v (regReset off) }

/-- The configuration word in force at an offset (R480). -/
def force (s : State) (off : Nat) : Word := nget s.rf.inForce off (regReset off)

/-- Puts a configuration word into force. -/
def setForce (s : State) (off : Nat) (v : Word) : State :=
  { s with rf.inForce := nset s.rf.inForce off v (regReset off) }

/-- The bits of a register that wait for their boundary. -/
def pendBits (s : State) (off : Nat) : Word := nget s.rf.pend off 0#32

/-- Replaces the waiting bits. -/
def setPend (s : State) (off : Nat) (v : Word) : State :=
  { s with rf.pend := nset s.rf.pend off v 0#32 }

/-- A field of the configuration in force. -/
def cfg (s : State) (off hi lo : Nat) : Nat := (s.force off).field hi lo

/-- A one-bit field of the configuration in force. -/
def cfgBit (s : State) (off n : Nat) : Bool := (s.force off).bit n

/-- Brings one register's fields of boundary `b` into force. -/
def applyAt (s : State) (b : Boundary) (off : Nat) : State :=
  match regDesc off with
  | none => s
  | some d =>
    let m := d.at b &&& s.pendBits off
    if m = 0#32 then s
    else (s.setForce off ((s.force off &&& ~~~ m) ||| (s.reg off &&& m))).setPend off
      (s.pendBits off &&& ~~~ m)

/-- The boundary `b` is reached: buffered fields of that boundary come into force (R480). -/
def boundary (s : State) (b : Boundary) : State :=
  (s.rf.pend.map (fun p => p.1)).foldl (fun s off => s.applyAt b off) s

/-- A block's registers return to their reset values. -/
def resetRegs (s : State) (keep : Nat → Bool) : State :=
  { s with
    rf.cur := s.rf.cur.filter (fun p => keep p.1)
    rf.inForce := s.rf.inForce.filter (fun p => keep p.1)
    rf.pend := s.rf.pend.filter (fun p => keep p.1) }

/-- Time passes: the RTC and the model's own clock advance together. -/
def elapse (s : State) (units : Nat) : State :=
  { s with clk.rtc := time64 (s.clk.rtc + units), clk.up := s.clk.up + units }

/-- Takes the next free value's number. -/
def takeFresh (s : State) : State := { s with fresh := s.fresh + 1 }

end State

end Sys2Proof.Machine
end

