-- ==== Sys2Proof/Machine/Flags.lean ====
section
/-! DEFINITION. Events and counters: how a status bit is set, how it reaches the Tocsin (R495), how counters saturate (R478), and how status bits are read and cleared. -/

namespace Sys2Proof.Machine

/-- The Tocsin sources: bit number, status register and alerting bits (R495). -/
def alertTable : List (Nat × Nat × Word) :=
  [ (0, 0x014, 0x30#32), (1, 0x0E8, 0xA0#32), (2, 0x168, 0x200#32), (3, 0x1AC, 0x120#32),
    (4, 0x32C, 0x200#32), (5, 0x3E8, 0x6#32), (6, 0x430, 0x78#32) ]

/-- The alerting bits of a source. -/
def alertMask (src : Nat) : Word := match alertTable.find? (fun e => e.1 == src) with
  | some e => e.2.2
  | none => 0#32

/-- The source whose status register lies at `off`. -/
def alertSource (off : Nat) : Option Nat :=
  (alertTable.find? (fun e => e.2.1 == off)).map (fun e => e.1)

namespace State

/-- Sets bits of a status register, and the Tocsin source when one of them alerts (R495). -/
def raiseBits (s : State) (off : Nat) (m : Word) : State :=
  let s := s.setReg off (s.reg off ||| m)
  match alertSource off with
  | none => s
  | some src =>
    if m &&& alertMask src = 0#32 then s
    else s.setReg 0x01C (s.reg 0x01C ||| Word.oneBit src)

/-- Sets bit `n` of a status register. -/
def raise (s : State) (off n : Nat) : State := s.raiseBits off (Word.oneBit n)

/-- Adds `n` to the counter in bits `hi` to `lo` of a register; it saturates (R12, R478). -/
def countBy (s : State) (off hi lo n : Nat) : State :=
  let top := 2 ^ (hi + 1 - lo) - 1
  let v := saturate top ((s.reg off).field hi lo + n)
  s.setReg off ((s.reg off &&& ~~~ (Word.maskOf hi lo)) ||| Word.place v lo)

/-- Adds one to a counter that fills a register. -/
def count (s : State) (off : Nat) : State := s.countBy off 31 0 1

/-- True when TAG_ALERT_N, the Tocsin, is asserted (R495). -/
def tocsin (s : State) : Bool := (s.reg 0x01C &&& s.force 0x020) != 0#32

/-- Releases source `src` when none of its alerting bits is 1 (R495). -/
def releaseAlert (s : State) (src : Nat) : State :=
  match alertTable.find? (fun e => e.1 == src) with
  | none => s
  | some e =>
    if s.reg e.2.1 &&& e.2.2 = 0#32 then s.setReg 0x01C (s.reg 0x01C &&& ~~~ (Word.oneBit src))
    else s

/-- The read of an RC register (R477): its event bits clear; a counter falls by the value sampled;
a status register releases its Tocsin source, and a read of GLB_ALERT every source that holds no
alerting bit (R495). -/
def clearOnRead (s : State) (off : Nat) (clear : Word) : State :=
  if off = 0x01C then
    (alertTable.map (fun e => e.1)).foldl (fun s n => s.releaseAlert n) s
  else
    let s := s.setReg off (s.reg off &&& ~~~ clear)
    match alertSource off with
    | none => s
    | some src => s.releaseAlert src

end State

end Sys2Proof.Machine
end

