-- ==== Sys2Proof/Machine/Operands.lean ====
section
/-! DEFINITION. The operands that configuration registers give: each field in force, with values outside its range brought to the nearer end as its table says. -/

namespace Sys2Proof.Machine.State

/-- PWR_CFG.RESERVE_UJ (R201), in µJ. -/
def reserveUj (s : State) : Nat := clampTo 12 255 (s.cfg 0x064 23 16)
/-- PWR_CFG.KNELL_TRIP: the trip level in mV (R201). -/
def tripMv (s : State) : Nat := 2900 - 50 * s.cfg 0x064 31 30
/-- PWR_CFG.CUTOFF_EN. -/
def cutoffEn (s : State) : Bool := s.cfgBit 0x064 0
/-- PWR_CFG.STORE_ASSIST. -/
def storeAssist (s : State) : Bool := s.cfgBit 0x064 1
/-- PWR_CFG.VBAT_LOG. -/
def vbatLog (s : State) : Bool := s.cfgBit 0x064 2
/-- PWR_CFG.VBAT_ASSIST. -/
def vbatAssist (s : State) : Bool := s.cfgBit 0x064 3
/-- PWR_HARV_CFG.FRACTION: the regulation fraction in units of 2.5 % (R178). -/
def harvFraction (s : State) : Nat := 12 + saturate 16 (s.cfg 0x068 4 0)
/-- PWR_STORE_CFG.CAP_MF. -/
def storeMf (s : State) : Nat := s.cfg 0x06C 31 16
/-- PWR_STORE_CFG.VMAX in mV (R175, R201). -/
def storeVmax (s : State) : Nat := 3600 + 100 * saturate 8 (s.cfg 0x06C 11 8)
/-- CMT_CFG.VERIFY_RETRY (R131). -/
def verifyRetry (s : State) : Nat := clampTo 1 7 (s.cfg 0x0E4 27 24)
/-- CMT_CFG.RA_DIS (R84). -/
def raDis (s : State) : Bool := s.cfgBit 0x0E4 28
/-- CMT_CFG.CKPT_SEC in seconds (R108, R131). -/
def ckptSeconds (s : State) : Nat := 10 * clampTo 6 255 (s.cfg 0x0E4 23 16)
/-- CMT_CFG.CKPT_ENTRIES (R131). -/
def ckptEntries (s : State) : Nat := clampTo 1024 6144 (s.cfg 0x0E4 12 0)
/-- CMT_CTRL.SCRUB_EN. -/
def scrubEn (s : State) : Bool := s.cfgBit 0x0E0 0
/-- CMT_CTRL.STATIC_WL. -/
def staticWl (s : State) : Bool := s.cfgBit 0x0E0 1
/-- PEAL_CTRL.EN. -/
def pealEn (s : State) : Bool := s.cfgBit 0x220 0
/-- PEAL_CFG.TAG_INDEX (R57). -/
def tagIndex (s : State) : Nat := s.cfg 0x224 5 0
/-- PEAL_CID (R273). -/
def cid (s : State) : Word := s.force 0x228

end Sys2Proof.Machine.State
end

