-- ==== Sys2Proof/Machine/Energy.lean ====
section
/-! DEFINITION. Energy and heat: the gauge figures (R180, R181), counted energy and reserve (R182, R183), job costs (R186) and the admission rule (R185, R187). Energies are in nJ unless a name says otherwise. -/

namespace Sys2Proof.Machine

/-- Cost of one sector pulse in nJ by derating band (R186, R190). -/
def eSec (band : Nat) : Nat := match band with
  | 0 => 210 | 1 => 230 | 2 => 250 | _ => 280

/-- Cost of one line in nJ by derating band (R143, R190). -/
def eLine (band : Nat) : Nat := match band with
  | 0 => 2345 | 1 => 2505 | 2 => 2665 | _ => 2905

/-- Cost of a record grant (R186). -/
def recordCost (band : Nat) (runAhead : Bool) (sectors : Nat) : Nat :=
  3000 + eSec band * (if runAhead then 2 else sectors)

/-- Cost of a field write of `k` sectors (R186). -/
def fieldWriteCost (band k : Nat) : Nat := 600 + eSec band * (2 * k + 4)

/-- Cost of a checkpoint, K-INDEX included (R186). -/
def ckptCost : Nat := 480000

/-- Highest thermal weight that the band dispatches from a queue (R190). -/
def bandLimit (band queue : Nat) : Nat := match band with
  | 0 => 3 | 1 => 2 | 2 => 1 | _ => if queue ≤ 1 then 1 else 0

/-- The derating band of a die temperature in 1/64 °C, before hysteresis (R190). -/
def bandOf (temp : Int) : Nat :=
  if temp ≤ 95 * 64 then 0 else if temp ≤ 100 * 64 then 1 else if temp ≤ 110 * 64 then 2 else 3

/-- Lower edge of a band in 1/64 °C. -/
def bandEdge (band : Nat) : Int := match band with
  | 0 => -100000 | 1 => 95 * 64 | 2 => 100 * 64 | _ => 110 * 64

/-- The band in force after a reading: it rises at once and falls only when the die is 2 °C or more
below the lower edge of the band left (R190). -/
def nextBand (band : Nat) (temp : Int) : Nat :=
  let b := bandOf temp
  if band ≤ b then b
  else if temp ≤ bandEdge band - 128 then max b (bandOf (temp + 128)) else band

namespace State

/-- E_HOLD in µJ (R180, R181). -/
def eHoldUj (s : State) : Nat :=
  let v := s.pwr.gauge.holdMv - 10
  s.pwr.capUf * (v * v - 2200 * 2200) / 2 / 1000000

/-- E_STORE in µJ (R180, R181). -/
def eStoreUj (s : State) : Nat :=
  let v := s.pwr.gauge.storeMv - 10
  s.storeMf * (v * v - 1800 * 1800) / 2000

/-- E_FR in units of 0.01 µJ (R180; DEDUCED step, log entry 8). -/
def eFr10nj (s : State) : Nat :=
  let v := s.pwr.gauge.frMv - 10
  7 * (v * v - 1400 * 1400) / 100000

/-- A source that is usable now (R171). -/
def usableSrc (s : State) (code : Nat) : Bool := s.pwr.usable.getD code false

/-- Counted energy of a set of sources in nJ (R182): HOLD, field reservoir, STORE, and the cell. -/
def counted (s : State) (hold fr store cell : Bool) : Nat :=
  let e := (if hold && s.usableSrc 1 then s.eHoldUj * 1000 else 0) +
    (if fr && s.usableSrc 2 then s.eFr10nj * 10 else 0) +
    (if store && s.usableSrc 3 then s.eStoreUj * 1000 else 0)
  e * 85 / 100 + (if cell && s.usableSrc 5 && s.pwr.cellState == 1 then 5000000 else 0)

/-- The field reservoir alone feeds the tag: no TAG_VAUX and no assist source (R183, R329). -/
def fieldOnly (s : State) : Bool := s.fld.present && !s.usableSrc 0 && s.fld.supply == 0

/-- The keep-alive reserve in nJ (R183). -/
def eRes (s : State) : Nat :=
  if s.fieldOnly && !s.usableSrc 1 then (match s.pwr.band with | 0 => 2200 | 1 => 2360 | 2 => 2520 | _ => 2760)
  else 1000 * s.reserveUj

/-- The sum of the outstanding grants in nJ (R188): records, jobs and the running Knell. -/
def eGrant (s : State) : Nat :=
  total (s.cmt.pipe.map (fun p => p.granted.getD 0)) + total (s.pwr.grants.map (fun j => j.cost))

/-- Consolidation may draw on TAG_VBAT (R162): KNL_CFG.CONS_VBAT, or the long-darkness cut-off is
about to act. -/
def consCell (s : State) : Bool := s.cfgBit 0x164 31 || s.kn.cellCons

/-- Which sources a job may draw on without TAG_VAUX: HOLD, field reservoir, STORE, cell (R185). -/
def queueSources (s : State) (j : Job) : Bool × Bool × Bool × Bool :=
  match j.queue with
  | 0 => (true, true, true, (j.kind == .batch && s.vbatLog) || (j.kind == .kIndex && s.consCell))
  | 1 => (true, true, s.storeAssist, s.vbatAssist)
  | 2 => (false, false, true, s.vbatLog)
  | 3 => (true, true, true, (match j.kind with | .kSign _ => s.consCell | _ => false))
  | 4 => (true, true, true, s.vbatAssist)
  | _ => (false, false, false, false)

/-- Counted energy of the sources allowed to a job. -/
def countedFor (s : State) (j : Job) : Nat :=
  let (h, f, st, c) := s.queueSources j
  s.counted h f st c

/-- A Knell runs: the engine is in a state from OPEN to CLOSE (R167). -/
def knellRunning (s : State) : Bool := 2 ≤ s.kn.state && s.kn.state ≤ 5

/-- TAG_VAUX is above the trip level (R193). -/
def wired (s : State) : Bool := s.usableSrc 0 && s.pwr.vauxOk

/-- The tag's AON runs: it has started and is not in CUTOFF. -/
def aonRuns (s : State) : Bool := s.pwr.mode != 0 && s.pwr.mode != 6

/-- A domain is on (R194). -/
def domOn (s : State) (d : Nat) : Bool := s.pwr.domOn.getD d false

/-- Turns a domain on or off. -/
def setDom (s : State) (d : Nat) (on : Bool) : State :=
  { s with pwr.domOn := setNth s.pwr.domOn d on }

/-- Wakes the domains that `f` names; the domain of a FAILED bank stays gated (R194). -/
def wakeDoms (s : State) (f : Nat → Bool) : State :=
  { s with pwr.domOn := (List.range 20).map (fun d =>
      s.domOn d || (f d && !(9 ≤ d && d ≤ 12 && nth s.arr.banks (d - 9) == 2))) }

/-- A pin keeps a domain on while the tag is wired and below step 5 (R196). -/
def pinned (s : State) (d : Nat) : Bool :=
  4 ≤ d && s.wired && s.pwr.step < 5 && s.cfgBit 0x09C d

/-- PWR_DOM_PIN keeps its domains on (R196). -/
def wakePinned (s : State) : State :=
  { s with pwr.domOn := (List.range 20).map (fun d => s.domOn d || s.pinned d) }

/-- The pipeline record that stands first at S6: every earlier record is granted, and it has passed
S5 (R86). -/
def gateRecord (pipe : List PipeRec) : Option PipeRec := match pipe with
  | [] => none
  | p :: t => if p.granted.isSome then gateRecord t else if p.checked then some p else none

/-- The grant job of a record. -/
def recJob (s : State) (p : PipeRec) : Job :=
  { id := p.id, queue := if p.record.hdr.cls = 4 then 1 else 0
    cost := recordCost s.pwr.band p.runAhead p.sectors, weight := 1
    kind := if p.hook == .batch then .batch else .recGrant p.id }

/-- Cost of the open batch's record grant (R186). -/
def batchCost (s : State) : Nat := recordCost s.pwr.band false (sectorsOf (8 + 16 * s.log.batch.length))

/-- A waiting job with the cost that it has now: the open batch grows while it waits, and its sector
pulses cost what the band in force says (R186, R190). -/
def costNow (s : State) (j : Job) : Job := if j.kind = .batch then { j with cost := s.batchCost } else j

/-- The head of a queue (R185): in the commit queue, the earlier of the record at S6 and the first
job. -/
def queueHead (s : State) (q : Nat) : Option Job :=
  let job := (s.pwr.jobs.find? (fun j => j.queue == q)).map s.costNow
  match gateRecord s.cmt.pipe with
  | none => job
  | some p =>
    let r := s.recJob p
    if r.queue = q then
      match job with
      | some j => if j.id < r.id then some j else some r
      | none => some r
    else job

/-- The outcome of one admission decision (R187). -/
inductive Verdict where
  | grant | defer | refuse | skip | wait
  deriving DecidableEq, Repr

/-- Costs of the waiting heads of the queues above `q` (R187): those that heat does not defer. -/
def higherClaims (s : State) (q : Nat) : Nat :=
  total ((List.range q).map (fun k => match s.queueHead k with
    | some j => if bandLimit s.pwr.band k < j.weight then 0 else j.cost
    | none => 0))

/-- The admission rule (R187), without its effect. At Knell and in step 6 no job is admitted (R189,
R192); queues 6 to 8 are admitted only with TAG_VAUX (R185). -/
def verdict (s : State) (j : Job) : Verdict :=
  if bandLimit s.pwr.band j.queue < j.weight then .defer
  else if s.wired && !s.knellRunning then .grant
  else if 6 ≤ s.pwr.step && s.pwr.step < 7 then .wait
  else if 5 ≤ j.queue then .wait
  else
    let need := j.cost + s.eRes + s.eGrant + s.higherClaims j.queue
    if need ≤ s.countedFor j then .grant
    else if j.queue = 1 then .refuse
    else if j.queue = 2 then .skip
    else .wait

/-- A number removed from a list. -/
def without (l : List Nat) (n : Nat) : List Nat := l.filter (fun x => x != n)

/-- Marks what the scheduler last decided for the head `id` of a queue (PWR_SCHED, R201). -/
def markHead (s : State) (id : Nat) (v : Verdict) : State :=
  let d := without s.pwr.deferred id
  let w := without s.pwr.waiting id
  { s with
    pwr.deferred := if v = .defer then d ++ [id] else d
    pwr.waiting := if v = .wait then w ++ [id] else w }

/-- The head of queue `q` is deferred for heat (R191, R201). -/
def deferred (s : State) (q : Nat) : Bool := (s.queueHead q).any (fun j => s.pwr.deferred.contains j.id)

/-- The head of queue `q` waits for energy (R201). -/
def waiting (s : State) (q : Nat) : Bool := (s.queueHead q).any (fun j => s.pwr.waiting.contains j.id)

/-- The queue that the next decision falls on when queue `q` is to be served (R185): a head of a higher
queue that can be granted comes first. -/
def servedQueue (s : State) (q : Nat) : Nat :=
  ((List.range q).find? (fun k => match s.queueHead k with
    | some j => s.verdict j == .grant
    | none => false)).getD q

/-- Queues a job at the end of its queue. A job wakes CORE (R194); in step 7 it does so when it is
admitted (R192). -/
def enqueue (s : State) (queue cost weight : Nat) (kind : JobKind) : State :=
  { s with
    pwr.jobs := s.pwr.jobs ++
      [{ id := s.cmt.nextId, queue := queue, cost := cost, weight := weight, kind := kind }]
    pwr.domOn := if s.pwr.step = 7 then s.pwr.domOn else setNth s.pwr.domOn 4 true
    cmt.nextId := s.cmt.nextId + 1 }

/-- Removes a queued job. -/
def dropJob (s : State) (id : Nat) : State :=
  { s with pwr.jobs := s.pwr.jobs.filter (fun j => j.id != id) }

/-- Records a job's grant and takes it from its queue. -/
def grantJob (s : State) (j : Job) : State :=
  let s := s.dropJob j.id
  { s with pwr.grants := s.pwr.grants ++ [j] }

/-- A granted job ends and releases the rest of its grant (R188). -/
def endJob (s : State) (kind : JobKind) : State :=
  { s with pwr.grants := s.pwr.grants.filter (fun j => j.kind != kind) }

/-- Removes the queued jobs of a kind. -/
def dropKind (s : State) (kind : JobKind) : State :=
  { s with pwr.jobs := s.pwr.jobs.filter (fun j => j.kind != kind) }

/-- A job of this kind has been granted and has not ended. -/
def isGranted (s : State) (kind : JobKind) : Bool := s.pwr.grants.any (fun j => j.kind == kind)

/-- A job of this kind waits in its queue or runs. -/
def hasJob (s : State) (kind : JobKind) : Bool :=
  s.pwr.jobs.any (fun j => j.kind == kind) || s.isGranted kind

/-- The scheduler's decision on a job that a command brings and runs whole (R185, R187, R191): the job
was granted before, or is granted now; otherwise it waits in its queue, behind the earlier jobs there and
the heads of higher queues that can be granted. -/
def dispatch (s : State) (job : Job) : State × Bool :=
  if s.isGranted job.kind then (s.endJob job.kind, true)
  else
    let s := s.boundary .admission
    let (first, id) := match s.queueHead job.queue with
      | none => (true, job.id)
      | some j => (j.kind == job.kind, j.id)
    let v := s.verdict job
    let turn := first && s.servedQueue job.queue == job.queue
    let s := if first then s.markHead id v else s
    if turn && v = .grant then (s.dropKind job.kind, true)
    else (if s.hasJob job.kind then s else s.enqueue job.queue job.cost job.weight job.kind, false)

/-- A GOOD cell feeds AON: no source before it is usable (R172, R184). -/
def cellFeeds (s : State) : Bool :=
  s.usableSrc 5 && s.pwr.cellState == 1 && !(List.range 5).any (fun c => s.usableSrc c)

end State

end Sys2Proof.Machine
end

