-- ==== Sys2Proof/Machine/Array.lean ====
section
/-! DEFINITION. The custody array (R71 to R107): placement of logical extents, wear, the free pool, toll counters, the save ring and the index journal. -/

namespace Sys2Proof.Machine

/-- Sizes at manufacture in units of 64 KiB (R58). -/
def homeSizes : List Nat := [1, 1, 16, 98, 68, 16, 8, 32, 4, 4, 8]

/-- The partitions whose extents the pool serves, in placement order (R561). -/
def pooled : List Nat := [2, 3, 5, 6, 7, 8, 9, 10]

/-- A physical extent code (R76). -/
def extCode (bank ext : Nat) : Nat := bank * 16384 + ext

/-- Bank of a physical extent code. -/
def codeBank (code : Nat) : Nat := code / 16384

/-- Extent number within the bank of a physical extent code. -/
def codeExt (code : Nat) : Nat := code % 2048

/-- Physical code of a logical extent on a new tag (R77, R561). -/
def homeCode (part k : Nat) : Nat :=
  extCode ((k + part) % 4)
    (8 + total ((pooled.filter (fun q => q < part)).map (fun q => 4 * nth homeSizes q)) + k / 4)

/-- The code that stands for no physical extent (R107). -/
def noExtent : Nat := 0xFFFF

/-- Key of a logical extent in the extent map. -/
def extKey (part k : Nat) : Nat := part * 65536 + k

/-- Sectors of an extent. -/
def extSectors : Nat := 128

/-- True for the Latest partitions (R58). -/
def isLatest (part : Nat) : Bool := part = 8 || part = 9

/-- The partition of a record type (R26). -/
def partOf (typ : Byte) : Nat := match typ.toNat with
  | 0x02 => 3 | 0x03 => 2 | 0x04 => 3 | 0x05 => 10 | 0x06 => 10 | 0x07 => 10
  | 0x10 => 3 | 0x11 => 3 | 0x20 => 4 | 0x21 => 4
  | 0x30 => 5 | 0x31 => 5 | 0x32 => 5 | 0x40 => 6 | 0x50 => 7 | 0x60 => 8 | 0x70 => 9
  | 0x80 => 10 | 0x90 => 0 | 0xA0 => 1 | 0xB0 => 3 | _ => 3

/-- The defined record types (R26). -/
def definedType (typ : Byte) : Bool :=
  [0x01, 0x02, 0x03, 0x04, 0x05, 0x06, 0x07, 0x10, 0x11, 0x20, 0x21, 0x30, 0x31, 0x32, 0x40, 0x50,
   0x60, 0x70, 0x80, 0x90, 0xA0, 0xB0].contains typ.toNat

/-- Position of a record class among the mirrorable ones, which is also its field in PEAL_DEGREE and
its set in PEAL_PEERS (R28, R275). -/
def mirrorIndex (typ : Byte) : Option Nat := match typ.toNat / 16 with
  | 1 => some 0 | 2 => some 1 | 3 => some 2 | 4 => some 3 | 8 => some 4 | 11 => some 5 | _ => none

namespace State

/-- Physical code of a logical extent now; `noExtent` for an extent of a Latest partition that
compaction has released (R82). -/
def codeOf (s : State) (part k : Nat) : Nat := nget s.arr.extMap (extKey part k) (homeCode part k)

/-- Puts a logical extent at a physical code. -/
def setCode (s : State) (part k code : Nat) : State :=
  { s with arr.extMap := nset s.arr.extMap (extKey part k) code (homeCode part k) }

/-- The banks in service. -/
def liveBanks (s : State) : List Nat := (List.range 4).filter (fun b => nth s.arr.banks b != 2)

/-- The banks in service in the rotation of a partition, which starts at its code (R77, R126; log
entry 34). -/
def bankRing (s : State) (part : Nat) : List Nat :=
  ((List.range 4).map (fun j => (part + j) % 4)).filter (fun b => nth s.arr.banks b != 2)

/-- Bank of logical extent `k` (R77); with a failed bank, the surviving banks in rotation (R126). -/
def bankFor (s : State) (part k : Nat) : Nat :=
  let l := s.bankRing part
  l.getD (k % l.length) 0

/-- The bank that a logical extent lies in, or would lie in (R77). -/
def bankAt (s : State) (part k : Nat) : Nat :=
  if s.codeOf part k = noExtent then s.bankFor part k else codeBank (s.codeOf part k)

/-- The line tag of a line (R73). -/
def lineTag (s : State) (bank line : Nat) : LineTag := nget s.arr.tags (bank * 65536 + line) freshTag

/-- Cycle count of a line (R72). -/
def lineCycles (s : State) (bank line : Nat) : Nat := (s.lineTag bank line).cycles

/-- The checkpoint epoch at which an extent was assigned (R73). -/
def extEpoch (s : State) (code : Nat) : Nat := nget s.arr.extEpochs code 0

/-- One program operation on a line adds one cycle and writes the line tag with it (R72, R73). -/
def touchLine (s : State) (p : Prog) : State :=
  let tag : LineTag := {
    cycles := s.lineCycles p.bank p.line + 1, part := p.part, ext := p.ext
    epoch := if p.part = 0x0F then 0 else s.extEpoch (extCode p.bank (p.line / 16)) }
  { s with arr.tags := nset s.arr.tags (p.bank * 65536 + p.line) tag freshTag }

/-- The sum of the cycle counts of an extent's lines, 16 times its mean. -/
def extCycles (s : State) (bank ext : Nat) : Nat :=
  total ((List.range 16).map (fun l => s.lineCycles bank (ext * 16 + l)))

/-- Number of logical extents of a partition in service. -/
def extentsOf (s : State) (p : Nat) : Nat := match s.cmt.parts[p]? with
  | some x => x.extents
  | none => 0

/-- The logical extents of the pooled partitions that lie in a bank: partition, logical extent and
physical extent number. -/
def inService (s : State) (bank : Nat) : List (Nat × Nat × Nat) :=
  pooled.flatMap (fun p => ((List.range (s.extentsOf p)).filter (fun k =>
    s.codeOf p k != noExtent && codeBank (s.codeOf p k) == bank)).map (fun k =>
      (p, k, codeExt (s.codeOf p k))))

/-- Where an extent of fixed placement lies now: retirement may have moved it (R119). -/
def fixedCode (s : State) (code : Nat) : Nat := nget s.arr.fixedMap code code

/-- The extents of a bank with fixed placement, where they are now: Identity, Keys and the Knell images
(R119, R561). -/
def fixedExtents (s : State) (bank : Nat) : List Nat :=
  let k := nth s.arr.sizes 4
  (((List.range 8 ++ List.range' (1056 - 4 * k) (4 * k)).map (fun e =>
    s.fixedCode (extCode bank e))).filter (fun c => c != noExtent)).map codeExt

/-- The wear figures of a bank now (R123, R518): mean cycle count of its extents, Identity, Keys and Knell
excluded; lowest and highest count of a line, those of Identity, Keys and Knell included; spare lines used;
extents retired. -/
def wearNow (s : State) (bank : Nat) : List Nat :=
  let es := (s.inService bank).map (fun e => e.2.2) ++ s.arr.free.getD bank []
  let sums := total (es.map (fun e => s.extCycles bank e))
  let cycles := (s.fixedExtents bank ++ es).flatMap (fun e => (List.range 16).map (fun l => s.lineCycles bank (e * 16 + l)))
  [sums / (16 * max 1 es.length), cycles.foldl min (cycles.headD 0), cycles.foldl max 0,
    nth s.arr.spareUsed bank, (s.arr.retired.filter (fun r => r.1 == bank)).length]

/-- The wear figures that a bank reports; those of a FAILED bank are frozen (R518). -/
def wearStats (s : State) (bank : Nat) : List Nat :=
  (s.arr.frozenWear.getD bank none).getD (s.wearNow bank)

/-- The wear gauge of a bank, in % (R123). -/
def wearOf (s : State) (bank : Nat) : Nat := saturate 255 (nth (s.wearStats bank) 0 / 1000)

/-- CMT_STATUS.WEAR_90 when a bank's gauge first reaches 90 % (R123). -/
def checkWear (s : State) : State :=
  if !(s.arr.tags.any (fun c => 90000 ≤ c.2.cycles)) then s
  else (List.range 4).foldl (fun s b =>
    if s.cmt.wear90.getD b true || s.wearOf b < 90 then s
    else ({ s with cmt.wear90 := setNth s.cmt.wear90 b true }).raise 0x0E8 1) s

/-- Programs lines: each takes a cycle, and the wear gauges may reach 90 % (R72, R123). -/
def touchAll (s : State) (ls : List Prog) : State :=
  (ls.foldl (fun s p => s.touchLine p) s).checkWear

/-- The lines of an extent, for one that holds logical extent `k` of a partition. -/
def extentLines (part k code : Nat) : List Prog :=
  (List.range 16).map (fun l => ⟨codeBank code, codeExt code * 16 + l, part, k⟩)

/-- The free extent of a bank with the lowest mean cycle count, the lowest-numbered among equals
(R78, R561); `taken` are reserved and not to be taken again. -/
def pickFree (s : State) (bank : Nat) (taken : List Nat) : Option Nat :=
  ((s.arr.free.getD bank []).filter (fun e => !taken.contains (extCode bank e))).foldl
    (fun best e => match best with
      | none => some e
      | some b => if s.extCycles bank e < s.extCycles bank b then some e else some b) none

/-- Takes an extent out of the free pool. -/
def takeFree (s : State) (code : Nat) : State :=
  { s with arr.free := modNth s.arr.free (codeBank code) (fun l => without l (codeExt code)) }

/-- Returns an extent to the free pool of its bank, in number order; no extent is none to return. -/
def giveFree (s : State) (code : Nat) : State :=
  if code = noExtent then s
  else { s with arr.free := modNth s.arr.free (codeBank code) (fun l =>
      (l.filter (fun e => e < codeExt code)) ++ [codeExt code] ++
      (l.filter (fun e => codeExt code < e))) }

/-- Free-pool extents that records in the pipeline have reserved. -/
def reserved (s : State) : List Nat :=
  s.cmt.pipe.flatMap (fun p => p.newExtents.map (fun e => e.2))

/-- The partition's commit state. -/
def part (s : State) (p : Nat) : Part := s.cmt.parts.getD p
  { size := 0, extents := 0, head := 0, used := [], newestStroke := 0, newestLink := 0#64, lost := 0 }

/-- Changes one partition's commit state. -/
def modPart (s : State) (p : Nat) (f : Part → Part) : State :=
  { s with cmt.parts := modNth s.cmt.parts p f }

/-- Records of one partition, oldest first. -/
def recsOf (s : State) (p : Nat) : List Stored :=
  s.arr.recs.filter (fun r => r.record.hdr.part == p)

/-- The lowest stroke number a partition holds, 0 when it holds none (R42). -/
def floorOf (s : State) (p : Nat) : Nat :=
  (s.recsOf p).foldl (fun m r =>
    if m = 0 then r.record.hdr.stroke else min m r.record.hdr.stroke) 0

/-- Extents that take a new owner have the epoch of this checkpoint interval (R73). -/
def stampEpoch (s : State) (codes : List Nat) (epoch : Nat) : State :=
  { s with arr.extEpochs := codes.foldl (fun m c => nset m c epoch 0) s.arr.extEpochs }

/-- Physical lines that sectors `first .. first + n - 1` of a partition touch, with reserved extents
taken first. -/
def linesOf (s : State) (p first n : Nat) (news : List (Nat × Nat)) : List Prog :=
  let secs := (s.part p).extents * extSectors
  let keys := (List.range n).map (fun i => ((first + i) % max 1 secs) / 8)
  (keys.eraseDups).map (fun ln =>
    let k := ln / 16
    let code := match news.find? (fun e => e.1 == k) with
      | some e => e.2
      | none => s.codeOf p k
    ⟨codeBank code, codeExt code * 16 + ln % 16, p, k⟩)

/-- The banks' copies of the lines that sectors of Identity or Keys touch (R60, R561), in the banks in
service. -/
def fixedLines (s : State) (part first n : Nat) : List Prog :=
  let lines := ((List.range n).map (fun i => (first + i) / 8)).eraseDups
  s.liveBanks.flatMap (fun b => lines.map (fun l =>
    let k := l / 16
    let code := s.fixedCode (extCode b (part * 4 + k))
    ⟨codeBank code, codeExt code * 16 + l % 16, part, k⟩))

/-- The slot's images' first extents in their banks (R60, R561). -/
def slotImages (s : State) (slot : Nat) : List (Nat × Nat) :=
  let k := nth s.arr.sizes 4
  let base := 1056 - 4 * k
  let a := slot % 4
  let b := (slot + 1) % 4
  let rank := fun (bank : Nat) => ((List.range slot).filter (fun x =>
    x % 4 == bank || (x + 1) % 4 == bank)).length
  [(a, base + rank a * k), (b, base + rank b * k)]

/-- Lines that sectors of a slot's image touch, in the images in surviving banks. -/
def knellLines (s : State) (slot first n : Nat) : List Prog :=
  let lines := ((List.range n).map (fun i => (first + i) / 8)).eraseDups
  ((s.slotImages slot).filter (fun im => nth s.arr.banks im.1 != 2)).flatMap (fun im =>
    lines.map (fun l =>
      let code := s.fixedCode (extCode im.1 (im.2 + l / 16))
      ⟨codeBank code, codeExt code * 16 + l % 16, 4, slot * nth s.arr.sizes 4 + l / 16⟩))

/-- Sectors of one Knell image (R61). -/
def imageSectors (s : State) : Nat := nth s.arr.sizes 4 * extSectors

/-- The logical sector of a Knell record in its partition, whose slots follow one another (log entry
75). -/
def knellSector (s : State) (slot sector : Nat) : Nat := slot * s.imageSectors + sector

/-- A toll counter (R96). -/
def toll (s : State) (c : Nat) : Toll := s.arr.tolls.getD c
  { ringA := none, ringB := none, worn := true }

/-- The stored value of a counter: that of copy B while both copies can be read, so that an update
shows only once copy B is verified (R98); none when no copy holds a valid cell. -/
def tollStored (s : State) (c : Nat) : Option Nat :=
  let t := s.toll c
  if t.haveA && t.haveB then t.valB else if t.haveA then t.valA else t.valB

/-- The stored value that a read returns (R98). -/
def tollValue (s : State) (c : Nat) : Nat := (s.tollStored c).getD 0

/-- The genesis link of a partition (R68). -/
def genesis (s : State) (p : Nat) : BitVec 64 := genesisAt p (s.tollValue 5)

/-- Rated stored updates of a ring (R105). -/
def tollLife : Nat := 10000000

/-- Number of the first line of a bank's toll area among the bank's lines (R75, R96; log entry 74). -/
def tollArea : Nat := 40960

/-- The line of a cell of a ring (R96): 16 lines of 8 cells. -/
def cellLine (r : TollRing) (index : Nat) : Prog :=
  ⟨r.bank, tollArea + r.ring * 16 + index / 8, 0x0F, 0⟩

/-- The next cell of a ring takes a value (R97, R98). -/
def TollRing.put (r : TollRing) (v : Nat) : TollRing :=
  let i := (r.used + 1) % 128
  { r with used := r.used + 1, cells := ⟨i, v, true⟩ :: r.cells.filter (fun c => c.index != i) }

/-- Programs the next cell of copy A of a counter with a value. -/
def tollWriteA (s : State) (c v : Nat) : State :=
  match (s.toll c).ringA with
  | none => s
  | some r =>
    let s := { s with arr.tolls := setNth s.arr.tolls c { s.toll c with ringA := some (TollRing.put r v) } }
    s.touchAll [cellLine r ((r.used + 1) % 128)]

/-- Programs the next cell of copy B of a counter with a value. -/
def tollWriteB (s : State) (c v : Nat) : State :=
  match (s.toll c).ringB with
  | none => s
  | some r =>
    let s := { s with arr.tolls := setNth s.arr.tolls c { s.toll c with ringB := some (TollRing.put r v) } }
    s.touchAll [cellLine r ((r.used + 1) % 128)]

/-- A spare ring of bank `b` that takes over a copy with its value (R105). -/
def spareRing (s : State) (b v : Nat) : TollRing :=
  { bank := b, ring := 22 - nth s.arr.spareRings b, used := 0, cells := [⟨0, v, true⟩] }

/-- Moves copy A or B of a counter to a spare ring with the value `v`: of its own bank, else of another
bank that does not hold the other copy. Without one the counter is worn, and goes on with the copy that
remains: the other one, or this one on its ring when there is no other (R105). -/
def tollMove (s : State) (c : Nat) (copyB : Bool) (v : Nat) : State :=
  let t := s.toll c
  let bankOf := fun (r : Option TollRing) => match r with | some x => x.bank | none => 4
  let own := bankOf (if copyB then t.ringB else t.ringA)
  let other := bankOf (if copyB then t.ringA else t.ringB)
  let spare := fun b => b < 4 && 0 < nth s.arr.spareRings b && nth s.arr.banks b != 2
  let pick := if spare own then some own
    else (s.liveBanks.filter (fun b => spare b && b != other)).head?
  match pick with
  | some b =>
    let r := s.spareRing b v
    let t := if copyB then { t with ringB := some r } else { t with ringA := some r }
    let s := { s with
      arr.tolls := setNth s.arr.tolls c t
      arr.spareRings := modNth s.arr.spareRings b (fun n => n - 1) }
    (s.touchAll [cellLine r 0]).raise 0x0E8 9
  | none =>
    let was := t.worn
    let last := other = 4 && own < 4 && nth s.arr.banks own != 2
    let t := if last then { t with worn := true }
      else if copyB then { t with ringB := none, worn := true }
      else { t with ringA := none, worn := true }
    let s := { s with arr.tolls := setNth s.arr.tolls c t }
    if last && was then s else if c < 8 then s.raise 0x0E8 7 else s.raise 0x0E8 9

/-- Moves a copy whose ring has had its rated updates (R105). -/
def tollAge (s : State) (c : Nat) : State :=
  let s := if tollLife ≤ (s.toll c).usedA then s.tollMove c false (s.toll c).a else s
  if tollLife ≤ (s.toll c).usedB then s.tollMove c true (s.toll c).b else s

/-- A stored update: copy A, then copy B (R98). -/
def tollUpdate (s : State) (c v : Nat) : State :=
  ((s.tollWriteA c v).tollWriteB c v).tollAge c

/-- The stored stroke toll of counters 0 and 1 (R99). -/
def storedStroke (s : State) : Nat := s.tollValue 0 + 4294967296 * s.tollValue 1

/-- The stored update of the stroke toll; no write when nothing has committed (R101). -/
def strokeUpdate (s : State) : State :=
  if s.storedStroke = s.cmt.shadow then s
  else
    let s := s.tollUpdate 0 (s.cmt.shadow % 4294967296)
    if s.tollValue 1 = s.cmt.shadow / 4294967296 then s
    else s.tollUpdate 1 (s.cmt.shadow / 4294967296)

/-- The two failing test codes of the entropy sources, as byte 64 of a save (R102). -/
def entCodes (s : State) : Byte := BitVec.ofNat 8 (s.ent.a.code + 16 * s.ent.b.code)

/-- What a keep-alive save writes (R102). -/
def saveEntry (s : State) (clean : Bool) : Save :=
  { shadow := s.cmt.shadow, stamp := s.clk.lastStamp, bracket := s.clk.bracket, journalPos := s.cmt.jpos
    seqs := s.cmt.localSeq, clean := clean, entCodes := s.entCodes }

/-- The lines of entry `i` of a save ring: three sectors of the 48 lines of its area (R96, R102). -/
def saveLines (bank i : Nat) : List Prog :=
  (((List.range 3).map (fun j => (3 * i + j) / 8)).eraseDups).map (fun l =>
    ⟨bank, tollArea + 352 + l, 0x0F, 0⟩)

/-- One copy of the save ring takes an entry; the ring holds 128 (R102). -/
def saveRing (r : Option SaveRing) (v : Save) : Option SaveRing :=
  r.map (fun x => { x with entries := ((v, true) :: x.entries).take 128 })

/-- The newest valid entry of one copy: its position from the newest on, and the entry. -/
def newestIn (r : Option SaveRing) : Option (Nat × Save) := match r with
  | none => none
  | some x => (((List.range x.entries.length).zip x.entries).find? (fun e => e.2.2)).map (fun e =>
      (e.1, e.2.1))

/-- The newest valid save-ring entry of the two copies (R102, R113). -/
def newestSave (s : State) : Option Save :=
  match newestIn s.arr.saveA, newestIn s.arr.saveB with
  | some a, some b => some (if b.1 < a.1 then b.2 else a.2)
  | some a, none => some a.2
  | none, some b => some b.2
  | none, none => none

/-- A keep-alive save (R102, R184): the stroke toll and one save-ring entry in each copy. -/
def keepAlive (s : State) (clean : Bool) : State :=
  let s := s.strokeUpdate
  let v := s.saveEntry clean
  let lines := fun (r : Option SaveRing) => match r with
    | some x => saveLines x.bank s.arr.saveIndex
    | none => []
  let s := s.touchAll (lines s.arr.saveA ++ lines s.arr.saveB)
  { s with
    arr.saveA := saveRing s.arr.saveA v
    arr.saveB := saveRing s.arr.saveB v
    arr.saveIndex := (s.arr.saveIndex + 1) % 128
    cmt.dirty := false }

/-- Logical extent of partition 2 that holds journal slot `slot` of copy A (R106). -/
def journalExtA (slot : Nat) : Nat := slot / 128

/-- The partner extent of copy B, in another bank (R106; DESIGN CHOICE of its place, log entry 9). -/
def journalExtB (slot : Nat) : Nat := 64 + (slot / 128 + 1) % 64

/-- Physical line of a journal slot. -/
def journalLine (s : State) (k slot : Nat) : Prog :=
  let code := s.codeOf 2 k
  ⟨codeBank code, codeExt code * 16 + slot % 128 / 8, 2, k⟩

/-- Programs entries into the next journal slots, copy A and then copy B; each line programmed takes
one cycle for the group (R87, R106). -/
def journal (s : State) (es : List Entry) : State :=
  let es := (List.range es.length).zip es |>.map (fun p =>
    { p.2 with slot := (s.cmt.jpos + p.1) % 8192 })
  let slots := es.map (fun e => e.slot)
  let la := (slots.map (fun sl => s.journalLine (journalExtA sl) sl)).eraseDups
  let lb := (slots.map (fun sl => s.journalLine (journalExtB sl) sl)).eraseDups
  let s := (s.touchAll la).touchAll lb
  { s with
    arr.journal := s.arr.journal.filter (fun e => !slots.contains e.slot) ++ es
    cmt.jpos := (s.cmt.jpos + es.length) % 8192
    cmt.entriesSince := s.cmt.entriesSince + es.length }

end State

/-- The journal entry of a committed record (R107). -/
def recordEntry (r : Rec) (sector : Nat) (kind : EntryKind) : Entry :=
  { slot := 0, kind := kind, part := r.hdr.part, count := sectorsOf r.hdr.length, sector := sector,
    released := 0, stroke := r.hdr.stroke, seq := r.hdr.seq, source := r.hdr.source,
    typ := r.hdr.typ, cls := r.hdr.cls, crc := r.crc, okA := true, okB := true }

/-- The journal entry of a new extent (R107). -/
def extentEntry (part k code released stroke : Nat) : Entry :=
  { slot := 0, kind := .extent, part := part, count := k, sector := code, released := released,
    stroke := stroke, seq := 0#32, source := 0#16, typ := 0#8, cls := 0, crc := 0#32,
    okA := true, okB := true }

end Sys2Proof.Machine
end

