-- ==== Sys2Proof/Machine/Commit.lean ====
section
/-! DEFINITION. The commit pipeline (R83 to R95): creating records, S1 to S3, abandonment, sealing, and the part of a commit that the array sees. -/

namespace Sys2Proof.Machine

/-- Types stored as plaintext (R24). -/
def plainType (typ : Byte) : Bool := [0x90, 0x03, 0x50].contains typ.toNat

/-- Audit codes whose outcome byte is 0 (R31). -/
def auditRefuses (code : Nat) : Bool := [1, 3, 5, 6, 7, 9].contains code

/-- The AUDIT payload (R31). -/
def auditPayload (code : Nat) (actor : BitVec 16) (iface obj : Nat) (detail : List Byte) :
    List Byte :=
  leBytes 2 code ++ leBytes 2 actor.toNat ++
  [BitVec.ofNat 8 iface, if auditRefuses code then 0#8 else 1#8, 0#8, 0#8] ++ leBytes 8 obj ++
  (detail ++ zeroBytes 16).take 16

/-- The GAP payload of one range list (R51). -/
def gapPayload (source : BitVec 16) (cls reason : Nat) (ranges : List (Word × Word)) : List Byte :=
  leBytes 2 source.toNat ++ [BitVec.ofNat 8 cls, BitVec.ofNat 8 reason] ++
  leBytes 2 ranges.length ++ [0#8, 0#8] ++
  ranges.flatMap (fun r => wordBytes r.1 ++ wordBytes r.2)

/-- The void sector (R80). -/
def voidBytes (len : Nat) : List Byte :=
  let b := [0#8, 0#8] ++ leBytes 2 len ++ zeroBytes 24
  b ++ wordBytes (crc32c b)

/-- The item ID of a STAGE_CFG payload (R271). -/
def stageItem (payload : List Byte) : Nat := leNat (slice payload 0 2)

/-- Bank, first sector and sector count of a USER_DATA payload (R327). -/
def userRange (payload : List Byte) : Nat × Nat × Nat :=
  (byteAt payload 0, leNat (slice payload 2 2), byteAt payload 4)

/-- A USER_DATA payload carries the window sector. -/
def userCarries (payload : List Byte) (bank sector : Nat) : Bool :=
  let (b, f, p) := userRange payload
  b = bank && f ≤ sector && sector < f + p

/-- The lock state as the four bytes of its window, most significant byte first (log entry 10). -/
def lockBytes (l : BitVec 10) : List Byte :=
  [BitVec.ofNat 8 (l.toNat / 256), BitVec.ofNat 8 (l.toNat % 256), 0#8, 0#8]

/-- The content of a window sector that no record carries (R327). -/
def sectorHome (bank sector : Nat) : List Byte := match bank with
  | 1 => slice identHome (32 * sector) 32
  | 4 => slice (lockBytes 0x30C#10) 0 32
  | _ => zeroBytes 32

/-- Bytes `data` laid over `base` from position `at0`. -/
def overlay (base : List Byte) (at0 : Nat) (data : List Byte) : List Byte :=
  base.take at0 ++ data ++ base.drop (at0 + data.length)

/-- A record of a Latest partition is superseded by those committed after it (R59, R271, R327). -/
def supersededBy (r : Rec) (later : List Rec) : Bool :=
  if r.hdr.typ = 0x60#8 then
    later.any (fun x => x.hdr.typ == 0x60#8 && stageItem x.payload == stageItem r.payload)
  else if r.hdr.typ != 0x70#8 then false
  else
    let (b, f, p) := userRange r.payload
    (List.range p).all (fun i =>
      later.any (fun x => x.hdr.typ == 0x70#8 && userCarries x.payload b (f + i)))

/-- The newest record that carries a window sector (R327, R351). -/
def carrier (recs : List Rec) (bank sector : Nat) : Option Rec :=
  (recs.filter (fun r => r.hdr.typ == 0x70#8 && userCarries r.payload bank sector)).getLast?

/-- Content of a window sector of the field user area in the pipeline and the array: the newest
record that carries it (R327, R351). -/
def carriedSector (recs : List Rec) (bank sector : Nat) : Option (List Byte) :=
  (carrier recs bank sector).map
    (fun r => slice r.payload (16 + 32 * (sector - (userRange r.payload).2.1)) 32)

/-- Content of a window sector after the records `recs` (R327). -/
def sectorAfter (recs : List Rec) (bank sector : Nat) : List Byte :=
  (carriedSector recs bank sector).getD (sectorHome bank sector)

/-- The USER_DATA payload of a field write (R327, R351): the sectors as `recs` leave them, with the
entry's words laid over them. -/
def userPayload (e : FJEntry) (recs : List Rec) : List Byte :=
  let first := e.addr * 2 / 32
  let last := (e.addr * 2 + e.data.length - 1) / 32
  let p := last + 1 - first
  let base := (List.range p).flatMap (fun i => sectorAfter recs e.target (first + i))
  [BitVec.ofNat 8 e.target, 1#8] ++ leBytes 2 first ++ [BitVec.ofNat 8 p, 0#8, 0#8, 0#8] ++
    leBytes 4 e.value ++ zeroBytes 4 ++ overlay base (e.addr * 2 - 32 * first) e.data

/-- A record as it enters the pipeline. -/
def newPipe (id : Nat) (r : Rec) (n first slot : Nat) (news : List (Nat × Nat))
    (runAhead checked : Bool) (hook : Hook) (prevExp : Option (Option Word))
    (openFrame : Option Cls) (credits : Option (Cls × Nat)) : PipeRec :=
  { id := id, record := r, sectors := n, sector := first, slot := slot, newExtents := news
    runAhead := runAhead, checked := checked, granted := none, sealed := false, hook := hook
    prevExpected := prevExp, openFrame := openFrame, credits := credits }

/-- Where the next number of a stream stands that the save of R102 does not hold: the INTERNAL streams
of the sources that have a second one (log entry 73). -/
def innerIndex (loc cls : Nat) : Option Nat := match cls, loc with
  | 6, 1 => some 0 | 6, 4 => some 1 | 6, 7 => some 2 | _, _ => none

/-- Puts a record into a list in stroke order. -/
def insertStored (l : List Stored) (r : Stored) : List Stored := match l with
  | [] => [r]
  | x :: t => if r.record.hdr.stroke < x.record.hdr.stroke then r :: x :: t else x :: insertStored t r

namespace State

/-- The source ID of a local source under the tag's index (R34). -/
def source (s : State) (loc : Nat) : BitVec 16 := BitVec.ofNat 16 (s.tagIndex * 1024 + loc)

/-- The next tag-time stamp (R25): strictly above the last one. -/
def nextStamp (s : State) : Nat := max s.clk.rtc (s.clk.lastStamp + 1)

/-- Takes a stamp; taking one is a state change (R184). -/
def stamp (s : State) : State :=
  { s with clk.lastStamp := s.nextStamp, cmt.dirty := true }

/-- The Flags bits that every new record gets: ENC by type, TIME_UNSYNC (R19, R24). -/
def baseFlags (s : State) (typ : Byte) : Byte :=
  (if plainType typ then 0#8 else flagEnc) ||| (if s.clk.unsync then flagUnsync else 0#8)

/-- Next source sequence of a stream of a local source, as the source counts it (R35). -/
def nextSeq (s : State) (loc cls : Nat) : Word := match innerIndex loc cls with
  | some i => s.cmt.innerSeq.getD i 0#32
  | none => s.cmt.localSeq.getD loc 0#32

/-- Sets the next source sequence of a stream of a local source. -/
def setSeq (s : State) (loc cls : Nat) (w : Word) : State := match innerIndex loc cls with
  | some i => { s with cmt.innerSeq := setNth s.cmt.innerSeq i w, cmt.dirty := true }
  | none => { s with cmt.localSeq := setNth s.cmt.localSeq loc w, cmt.dirty := true }

/-- A record of a tag-internal source, stamped now, with its bracket (R40, R44). Its source sequence and
STREAM_NEW are fixed when it passes S1 (R37; log entry 73). -/
def newInternal (s : State) (loc cls : Nat) (typ extra : Byte) (payload : List Byte) : Rec :=
  { hdr := { typ := typ, flags := s.baseFlags typ ||| extra ||| flagBracket,
             length := payload.length, source := s.source loc, part := partOf typ, degree := 0,
             cls := cls, seq := s.nextSeq loc cls, ssn := s.clk.bracket, stroke := 0,
             time := s.nextStamp },
    payload := payload, crc := 0#32, link := 0#64, gcm := 0#128 }

/-- Sectors between S1 and the commit point (R85). -/
def pipeSectors (s : State) : Nat := total (s.cmt.pipe.map (fun p => p.sectors))

/-- S1 has room for a record of `n` sectors: at most 32 records and 64 KiB (R85). -/
def hasRoom (s : State) (n : Nat) : Bool :=
  s.cmt.pipe.length < 32 && s.pipeSectors + n ≤ 2048

/-- S1 has room for a record of `n` sectors with `gaps` GAP records of 3 sectors ahead of it (R48, R85). -/
def hasRoomN (s : State) (n gaps : Nat) : Bool :=
  s.cmt.pipe.length + gaps < 32 && s.pipeSectors + n + 3 * gaps ≤ 2048

/-- Logical extents that sectors `first .. first + n - 1` cover, in order. -/
def covered (s : State) (p first n : Nat) : List Nat :=
  let exts := max 1 (s.part p).extents
  ((List.range n).map (fun i => (first + i) / extSectors % exts)).eraseDups

/-- The logical extents among those covered that are new to the partition (R78). -/
def newLogical (s : State) (p first n : Nat) : List Nat :=
  let taken := (s.cmt.pipe.filter (fun (x : PipeRec) => x.record.hdr.part == p)).flatMap
    (fun (x : PipeRec) => x.newExtents.map (fun e => e.1))
  (s.covered p first n).filter (fun k =>
    !taken.contains k && (s.part p).used.getLast? != some k)

/-- Reserves a physical extent for each new logical extent (S2, R78). -/
def reserveExtents (s : State) (p : Nat) (ks : List Nat) (taken : List Nat) : List (Nat × Nat) :=
  match ks with
  | [] => []
  | k :: t =>
    let b := s.bankFor p k
    match s.pickFree b taken with
    | some e => (k, extCode b e) :: s.reserveExtents p t (extCode b e :: taken)
    | none => s.reserveExtents p t taken

/-- Free logical extents of a Latest partition (R82). -/
def freeLogical (s : State) (p : Nat) : Nat :=
  (s.part p).extents - (s.part p).used.length -
    total ((s.cmt.pipe.filter (fun (x : PipeRec) =>
      x.record.hdr.part == p)).map (fun x => x.newExtents.length))

/-- The records of a Latest partition that are not superseded. -/
def liveRecs (s : State) (p : Nat) : List Stored :=
  let rs := s.recsOf p
  rs.filter (fun r => !supersededBy r.record
    ((rs.filter (fun (x : Stored) => r.record.hdr.stroke < x.record.hdr.stroke)).map (fun x => x.record)))

/-- Reserves the extents that sectors `first .. first + n - 1` of a partition need anew (S2, R78), each
under the checkpoint epoch of its assignment (R73). -/
def reserveAt (s : State) (p first n : Nat) : State × List (Nat × Nat) :=
  let news := s.reserveExtents p (s.newLogical p first n) s.reserved
  (s.stampEpoch (news.map (fun e => e.2)) (s.tollValue 2), news)

/-- Puts a new extent of a partition into service and releases the one it replaces; every record whose
first sector lies in the released extent is reclaimed (R78). What changed stays known until the next
checkpoint (R92, R113). -/
def enterExtent (s : State) (p stroke k code : Nat) : State :=
  let old := s.codeOf p k
  let inExt := fun (r : Stored) => r.record.hdr.part == p && r.sector / extSectors == k
  let voidIn := fun (v : Void) => v.part == p && v.sector / extSectors == k
  let change : ExtChange := {
    stroke := stroke, part := p, ext := k, old := old, new := code, used := (s.part p).used
    recs := s.arr.recs.filter inExt, voids := s.arr.voids.filter voidIn }
  let s := { s with
    arr.changes := s.arr.changes ++ [change]
    arr.recs := s.arr.recs.filter (fun r => !inExt r)
    arr.voids := s.arr.voids.filter (fun v => !voidIn v) }
  let s := ((s.takeFree code).giveFree old).setCode p k code
  s.modPart p (fun x => { x with used := x.used.filter (fun j => j != k) ++ [k] })

/-- Puts the new extents that the record of `stroke` needs into service (R78). -/
def enterExtents (s : State) (p stroke : Nat) (news : List (Nat × Nat)) : State :=
  news.foldl (fun s e => s.enterExtent p stroke e.1 e.2) s

/-- Journal entries of new extents, which the record of `stroke` first needs (R107). -/
def extentEntries (s : State) (p stroke : Nat) (news : List (Nat × Nat)) : List Entry :=
  news.map (fun e => extentEntry p e.1 e.2 (s.codeOf p e.1) stroke)

/-- The sector after `n` sectors from `first` on, where the head of a partition then stands. -/
def sectorAfterRec (s : State) (p first n : Nat) : Nat :=
  if p ≤ 1 then first + n else (first + n) % max 1 ((s.part p).extents * extSectors)

/-- The extents of a partition that records in the pipeline have reserved, in S1 order. -/
def pledged (s : State) (p : Nat) : List (Nat × Nat) :=
  (s.cmt.pipe.filter (fun (x : PipeRec) => x.record.hdr.part == p)).flatMap (fun x => x.newExtents)

/-- No record of the pipeline holds a reservation in the partition any more. -/
def redeem (s : State) (p : Nat) : State :=
  { s with cmt.pipe := s.cmt.pipe.map (fun (x : PipeRec) =>
      if x.record.hdr.part = p then { x with newExtents := [] } else x) }

/-- The extents that a record placed ahead of the pipeline's commits puts into service: those that the
pipeline has reserved in the partition, behind which the record lies, and its own (R78; DESIGN CHOICE, log
entry 98: the record is then the first to need them). -/
def claimAt (s : State) (p first n : Nat) : State × List (Nat × Nat) :=
  let old := s.pledged p
  let (s, fresh) := s.reserveAt p first n
  (s.redeem p, old ++ fresh)

/-- Copies one record of a Latest partition to the head under a MOVE entry (R82). -/
def moveRec (s : State) (p : Nat) (r : Stored) : State :=
  let n := sectorsOf r.record.hdr.length
  let first := (s.part p).head
  let (s, news) := s.claimAt p first n
  let entries := s.extentEntries p r.record.hdr.stroke news ++ [recordEntry r.record first .move]
  let s := s.touchAll (s.linesOf p first n news)
  let s := s.enterExtents p r.record.hdr.stroke news
  let s := s.modPart p (fun x => { x with head := s.sectorAfterRec p first n })
  let s := { s with arr.recs := insertStored (s.arr.recs.filter (fun (x : Stored) =>
    x.record.hdr.stroke != r.record.hdr.stroke)) { r with sector := first } }
  s.journal entries

/-- Compacts the oldest extent of a Latest partition: its records that are not superseded move to the
head, and the extent is released to the free pool (R82). -/
def compactOnce (s : State) (p : Nat) : State :=
  match (s.part p).used with
  | [] => s
  | k :: _ =>
    let was := s.codeOf p k
    let inExt := fun (r : Stored) => r.record.hdr.part == p && r.sector / extSectors == k
    let live := (s.liveRecs p).filter inExt
    let s := { s with arr.recs := s.arr.recs.filter (fun r => !inExt r) }
    let s := s.modPart p (fun x => { x with used := x.used.drop 1 })
    let s := live.foldl (fun s r => s.moveRec p r) s
    if s.codeOf p k = was then (s.giveFree was).setCode p k noExtent else s

/-- Compacts as many extents as the head needs, oldest first (R82). -/
def compact (s : State) (p need fuel : Nat) : State := match fuel with
  | 0 => s
  | fuel + 1 =>
    if (s.newLogical p (s.part p).head need).length ≤ s.freeLogical p then s
    else (s.compactOnce p).compact p need fuel

/-- Makes room at the head of a Latest partition for a record of `n` sectors (R82). -/
def roomAtHead (s : State) (p n : Nat) : State :=
  if isLatest p then s.compact p n ((s.part p).extents + 1) else s

/-- Sectors that the records of a partition take which have not committed, those that wait for room at S1
among them. -/
def comingSectors (s : State) (p : Nat) : Nat :=
  total ((s.cmt.pipe.filter (fun (x : PipeRec) => x.record.hdr.part == p)).map (fun x => x.sectors)) +
    total ((s.cmt.s1wait.filter (fun w => w.1.hdr.part == p)).map (fun w => sectorsOf w.1.hdr.length))

/-- Room in a partition for a record of `n` sectors (R59, R82). -/
def partRoom (s : State) (p n : Nat) : Bool :=
  if isLatest p then
    total ((s.liveRecs p).map (fun r => sectorsOf r.record.hdr.length)) + s.comingSectors p + n + 256 ≤ (s.part p).extents * extSectors
  else if p ≤ 1 then (s.part p).head + n ≤ 512
  else true

/-- S2 and S3 (R83): reserves sectors at the head of the record's partition and holds it in the
pipeline. Records of partition 4 bring their own place in the slot's image. -/
def allocate (s : State) (r : Rec) (hook : Hook) (runAhead checked : Bool) (slot place : Nat)
    (credits : Option (Cls × Nat)) (openFrame : Option Cls) (prevExp : Option (Option Word)) :
    State :=
  let n := sectorsOf r.hdr.length
  let p := r.hdr.part
  let s := s.roomAtHead p n
  let first := if p = 4 then place else (s.part p).head
  let (s, news) := if p = 4 || p ≤ 1 then (s, []) else s.reserveAt p first n
  let s := if p = 4 then s
    else s.modPart p (fun x => { x with head := s.sectorAfterRec p first n })
  { s with
    cmt.pipe := s.cmt.pipe ++ [newPipe s.cmt.nextId r n first slot news runAhead checked hook
      prevExp openFrame credits]
    cmt.nextId := s.cmt.nextId + 1 }

/-- S1 accepts internal records now: nothing has stopped it and recovery has ended (R192, R113). -/
def s1Open (s : State) : Bool := !s.boot.s1Stopped && !s.boot.keyedStop && !s.cmt.recovering

/-- The stream table's entry for a stream (R36). -/
def streamOf (s : State) (src : BitVec 16) (cls : Nat) : Option Word :=
  (s.cmt.streams.find? (fun x => x.source == src && x.cls == cls)).map (fun x => x.expected)

/-- Sets a stream's expected sequence: it becomes the most recent entry, and the entry silent
longest is evicted from a full table (R36). -/
def setStream (s : State) (src : BitVec 16) (cls : Nat) (w : Word) : State :=
  { s with cmt.streams :=
      ({ source := src, cls := cls, expected := w } ::
        s.cmt.streams.filter (fun x => !(x.source == src && x.cls == cls))).take 512 }

/-- Restores a stream's entry to what it was before a record (R92). -/
def restoreStream (s : State) (src : BitVec 16) (cls : Nat) (prev : Option Word) : State :=
  match prev with
  | some w => { s with cmt.streams := s.cmt.streams.map (fun x =>
      if x.source = src ∧ x.cls = cls then { x with expected := w } else x) }
  | none => { s with cmt.streams :=
      s.cmt.streams.filter (fun x => !(x.source == src && x.cls == cls)) }

/-- The number that the next record of a stream of the tag's own takes: the source's own count, or the
stream's expected value where that is later (R35, R113). -/
def ownNumber (s : State) (src : BitVec 16) (cls : Nat) : Word :=
  let q := s.nextSeq (src.toNat % 1024) cls
  match s.streamOf src cls with
  | some e => if (e - q).toNat < 2147483648 then e else q
  | none => q

/-- The numbers that the next record of a stream of the tag's own leaves out (R37, R93): those of
records abandoned or lost. -/
def ownGap (s : State) (src : BitVec 16) (cls : Nat) : Option (Word × Word) :=
  match s.streamOf src cls with
  | none => none
  | some e => let q := s.ownNumber src cls; if q = e then none else some (e, q - 1#32)

/-- The GAP records that the next record of a stream of the tag's own brings with it; PEAL_COPY records
are exempt from the comparison (R37, R38). -/
def ownGaps (s : State) (r : Rec) : Nat :=
  if r.hdr.typ = 0x50#8 || (s.ownGap r.hdr.source r.hdr.cls).isNone then 0
  else if r.hdr.source = s.source 0 && r.hdr.cls = 6 then 1
  else 1 + bitNat (s.ownGap (s.source 0) 6).isSome

/-- S1 has room for a record of the tag's own with its GAP records (R48, R85). -/
def roomOwn (s : State) (r : Rec) : Bool := s.hasRoomN (sectorsOf r.hdr.length) (s.ownGaps r)

/-- A record of the tag's own takes its number and passes S1 and S2 (R35 to R37, R83). -/
def placeOwn (s : State) (r : Rec) (hook : Hook) (runAhead checked : Bool) (slot place : Nat)
    (openFrame : Option Cls) : State :=
  let h := r.hdr
  let prev := s.streamOf h.source h.cls
  let q := s.ownNumber h.source h.cls
  let r := { r with hdr := { h with
    seq := q, flags := h.flags ||| (if prev.isNone then flagNew else 0#8) } }
  let s := (s.setSeq (h.source.toNat % 1024) h.cls (q + 1#32)).setStream h.source h.cls (q + 1#32)
  s.allocate r hook runAhead checked slot place none openFrame (some prev)

/-- The GAP record of ranges of a stream (R51), in the partition of the missing records; for Knell and
CHECKPOINT records, whose partitions hold slot images and index areas alone, in partition 3 (DESIGN CHOICE,
log entry 73). -/
def gapRec (s : State) (src : BitVec 16) (cls reason part : Nat) (ranges : List (Word × Word)) : Rec :=
  let r := s.newInternal 0 6 0x01#8 (flagFirst ||| flagLast) (gapPayload src cls reason ranges)
  { r with hdr := { r.hdr with part := if part = 4 || part = 2 then 3 else part } }

/-- The GAP record of the commit engine's own stream, if its next number leaves some out: the GAP record
itself takes that number (R37; log entry 73). -/
def closeZero (s : State) (part : Nat) (checked : Bool) : State :=
  match s.ownGap (s.source 0) 6 with
  | none => s
  | some g => (s.stamp).placeOwn (s.gapRec (s.source 0) 6 2 part [g]) .none false checked 0 0 none

/-- The GAP record with reason JUMP, ahead of the record whose number leaves a range out (R37, R48). That of
a frame whose end check is still to come waits for it, since a frame that fails causes none (R254; log
entry 99). -/
def gapAhead (s : State) (src : BitVec 16) (cls part : Nat) (g : Word × Word) (checked : Bool) : State :=
  let s := s.closeZero part checked
  (s.stamp).placeOwn (s.gapRec src cls 2 part [g]) .none false checked 0 0 none

/-- A record of the tag's own passes S1, with the GAP record that its number reveals (R37). -/
def passOwn (s : State) (r : Rec) (hook : Hook) (runAhead checked : Bool) (slot place : Nat)
    (openFrame : Option Cls) : State :=
  let h := r.hdr
  let s := if h.typ = 0x50#8 then s
    else if h.source = s.source 0 && h.cls = 6 then s.closeZero h.part true
    else match s.ownGap h.source h.cls with
      | none => s
      | some g => s.gapAhead h.source h.cls h.part g true
  s.placeOwn r hook runAhead checked slot place openFrame

/-- A set of the Snare has begun to pass S1 and not ended: no other record of its stream comes between
(R19). -/
def snareSetOpen (s : State) : Bool := match s.snr.waiting with
  | c :: _ => c.trigDone && !c.waves.isEmpty
  | [] => false

/-- A record of the tag's own may pass S1 now. -/
def mayPass (s : State) (r : Rec) : Bool :=
  s.roomOwn r && !(s.snareSetOpen && r.hdr.source.toNat % 1024 == 2)

/-- The Commit queue would not admit a record's grant now (R185 to R187). -/
def shortFor (s : State) (r : Rec) : Bool :=
  s.verdict { id := s.cmt.nextId, queue := 0
              cost := recordCost s.pwr.band false (sectorsOf r.hdr.length), weight := 1
              kind := .recGrant s.cmt.nextId } != .grant

/-- The audit record held in AON that may pass S1: none while the Commit queue cannot admit the first
(R337). -/
def heldAudit (s : State) : Option (Rec × Hook) := match s.cmt.auditHeld with
  | [] => none
  | a :: _ => if s.shortFor a.1 then none else some a

/-- An audit record is held in AON: where S1 accepts nothing, and in a field session where the Commit
queue cannot admit it (R337). -/
def holdsAudit (s : State) (r : Rec) : Bool :=
  r.hdr.typ == 0x80#8 && (!s.s1Open || (s.fld.st != 0 && s.shortFor r))

/-- Passes an internal record to S1, or keeps it until S1 has room (R85) or may accept (R337), behind
those that wait (R46). -/
def admitInternal (s : State) (r : Rec) (hook : Hook) : State :=
  if s.holdsAudit r then
    ({ s with cmt.auditHeld := s.cmt.auditHeld ++ [(r, hook)] }).raise 0x014 6
  else if s.s1Open && s.cmt.s1wait = [] && s.heldAudit = none && s.mayPass r then
    s.passOwn r hook false true 0 0 none
  else { s with cmt.s1wait := s.cmt.s1wait ++ [(r, hook)] }

/-- Creates a record of a tag-internal source and passes it to S1. -/
def createCls (s : State) (loc cls : Nat) (typ extra : Byte) (payload : List Byte) (hook : Hook) :
    State :=
  let r := s.newInternal loc cls typ extra payload
  (s.stamp).admitInternal r hook

/-- Creates a record of arrival class INTERNAL, a set of its own. -/
def create (s : State) (loc : Nat) (typ : Byte) (payload : List Byte) (hook : Hook) : State :=
  s.createCls loc 6 typ (flagFirst ||| flagLast) payload hook

/-- Commits an AUDIT record (R31, R562). -/
def audit (s : State) (loc code : Nat) (actor : BitVec 16) (iface obj : Nat) (detail : List Byte) :
    State :=
  s.create loc 0x80#8 (auditPayload code actor iface obj detail) .none

/-- An AUDIT record whose actor is its own source. -/
def auditSelf (s : State) (loc code obj : Nat) (detail : List Byte) : State :=
  s.audit loc code (s.source loc) 6 obj detail

/-- The internal record that has waited longest, by its stamp (R25): whether it is one of the held audit
records, and the record. -/
def nextWaiting (s : State) : Option (Bool × Rec × Hook) :=
  match s.heldAudit, s.cmt.s1wait with
  | none, [] => none
  | some a, [] => some (true, a)
  | none, w :: _ => some (false, w)
  | some a, w :: _ => if a.1.hdr.time < w.1.hdr.time then some (true, a) else some (false, w)

/-- Passes waiting internal records to S1 in the order of their creation, while it has room (R46, R85,
R337). -/
def drainWait (s : State) (fuel : Nat) : State := match fuel with
  | 0 => s
  | fuel + 1 =>
    if !s.s1Open then s
    else match s.nextWaiting with
      | none => s
      | some (held, r, h) =>
        if !s.mayPass r then s
        else
          let s := if held then { s with cmt.auditHeld := s.cmt.auditHeld.drop 1 }
            else { s with cmt.s1wait := s.cmt.s1wait.drop 1 }
          (s.passOwn r h false true 0 0 none).drainWait fuel

/-- Drains with enough fuel for all that waits. -/
def drain (s : State) : State := s.drainWait (s.cmt.auditHeld.length + s.cmt.s1wait.length)

/-- The outcome of the stream check (R37). -/
inductive SeqCheck where
  | fresh | inOrder | jump (expected : Word) | duplicate
  deriving DecidableEq, Repr

/-- The comparison of R37. -/
def seqCheck (s : State) (src : BitVec 16) (cls : Nat) (seq : Word) : SeqCheck :=
  match s.streamOf src cls with
  | none => .fresh
  | some e =>
    let diff := (seq - e).toNat
    if diff = 0 then .inOrder else if diff < 2147483648 then .jump e else .duplicate

/-- Commits the GAP record of a sequence range, in the partition of the missing records (R51). -/
def gap (s : State) (src : BitVec 16) (cls reason part : Nat) (ranges : List (Word × Word)) :
    State :=
  (s.stamp).admitInternal (s.gapRec src cls reason part ranges) .none

/-- S1 has room for a record of `n` sectors of a stream from outside, with the GAP records that it brings
(R48, R85). -/
def roomJump (s : State) (n : Nat) : Bool := s.hasRoomN n (1 + bitNat (s.ownGap (s.source 0) 6).isSome)

/-- S1 and S2 of a record from outside (R37, R44): the stream check, the GAP record of a jump, the
stamp, and the reserved place. Duplicates are counted and discarded. The record carries its own
source sequence and SSN; flags and time are set here. The register port is a local source, whose next number
AON keeps (R35, R102). -/
def accept (s : State) (src : BitVec 16) (cls : Nat) (typ extra : Byte) (seq ssn : Word)
    (payload : List Byte) (hook : Hook) (runAhead checked : Bool) (credits : Option (Cls × Nat))
    (openFrame : Option Cls) : State :=
  match s.seqCheck src cls seq with
  | .duplicate => s.count 0x100
  | chk =>
    let prev := s.streamOf src cls
    let s := match chk with
      | .jump e => s.gapAhead src cls (partOf typ) (e, seq - 1#32) checked
      | _ => s
    let flags := s.baseFlags typ ||| extra ||| (if chk = .fresh then flagNew else 0#8)
    let r : Rec := {
      hdr := { typ := typ, flags := flags, length := payload.length, source := src,
               part := partOf typ, degree := 0, cls := cls, seq := seq, ssn := ssn, stroke := 0,
               time := s.nextStamp },
      payload := payload, crc := 0#32, link := 0#64, gcm := 0#128 }
    let s := (s.stamp).setStream src cls (seq + 1#32)
    let s := if src = s.source 5 then s.setSeq 5 cls (seq + 1#32) else s
    s.allocate r hook runAhead checked 0 0 credits openFrame (some prev)

/-- The Peal engine is ready (R274): enabled, in a Carillon, and slot 2 holds a key. -/
def pealReady (s : State) : Bool :=
  s.pealEn && s.cid != 0#32 && s.ses.keys.any (fun k => k.1 == 2)

/-- The mirror degree that a record commits with (R21, R28, R274). -/
def degreeFor (s : State) (typ : Byte) (len : Nat) : Nat :=
  match mirrorIndex typ with
  | none => 0
  | some i =>
    if s.pealReady && len ≤ 3968 && typ != 0x50#8 then s.cfg 0x22C (2 * i + 1) (2 * i) else 0

/-- The link of the newest record of a partition (R67), the genesis value for none (R68). -/
def newestLink (s : State) (p : Nat) : BitVec 64 :=
  if (s.part p).newestStroke = 0 then s.genesis p else (s.part p).newestLink

/-- S7 over the pipeline in S1 order: completes every record that has passed S7, with its stroke
number and its predecessor in its partition (R94, R95). `prevs` gives each partition's newest link
so far. -/
def resealList (s : State) (pipe : List PipeRec) (stroke : Nat)
    (prevs : List (Nat × BitVec 64)) : List PipeRec :=
  match pipe with
  | [] => []
  | p :: t =>
    if p.sealed then
      let part := p.record.hdr.part
      let prev := match prevs.find? (fun e => e.1 == part) with
        | some e => e.2
        | none => s.newestLink part
      let r := completeRec p.record stroke
        (s.degreeFor p.record.hdr.typ p.record.hdr.length) prev
      { p with record := r } :: s.resealList t (stroke + 1) ((part, r.link) :: prevs)
    else p :: t

/-- Repeats S7 for every record that has passed it (R95). -/
def reseal (s : State) : State :=
  { s with cmt.pipe := s.resealList s.cmt.pipe (s.cmt.shadow + 1) [] }

/-- Physical lines of `n` sectors of a pipeline record from its sector `at0` on; they lie in the extents
that the pipeline has reserved where it has (R72, R73). -/
def pipeLines (s : State) (p : PipeRec) (at0 n : Nat) : List Prog :=
  let part := p.record.hdr.part
  if part = 4 then s.knellLines p.slot (p.sector + at0) n
  else if part ≤ 1 then s.fixedLines part (p.sector + at0) n
  else s.linesOf part (p.sector + at0) n (s.pledged part)

/-- The header and trailer sectors' lines of the records of a pipeline that have passed S7: what a
repeated S7 programs (R83, R95). -/
def resealLines (s : State) (pipe : List PipeRec) : List Prog :=
  (pipe.filter (fun p => p.sealed)).flatMap (fun p =>
    s.pipeLines p 0 1 ++ s.pipeLines p (p.sectors - 1) 1)

/-- Repeats S7, with its programs, for every record that has passed it (R72, R95). -/
def resealAgain (s : State) : State := (s.reseal).touchAll (s.resealLines s.cmt.pipe)

/-- Gives the reserved extents of an abandoned record to the next record that needs them (R92). -/
def inherit (s : State) (p : PipeRec) (rest : List PipeRec) : List PipeRec :=
  match rest with
  | [] => []
  | q :: t =>
    if q.record.hdr.part = p.record.hdr.part then
      let cov := s.covered q.record.hdr.part q.sector q.sectors
      { q with newExtents := p.newExtents.filter (fun e => cov.contains e.1) ++ q.newExtents } :: t
    else q :: s.inherit p t

/-- Splits a pipeline at a record. -/
def splitAt (pipe : List PipeRec) (id : Nat) : List PipeRec × List PipeRec :=
  (pipe.takeWhile (fun x => x.id != id), (pipe.dropWhile (fun x => x.id != id)).drop 1)

/-- The pipeline record with an id. -/
def pipeRec (s : State) (id : Nat) : Option PipeRec := s.cmt.pipe.find? (fun x => x.id == id)

/-- The place of a record that is undone (R92): the head of its partition returns to it when it ends at the
head, so that nothing has been placed after it, and a void takes it otherwise. `line` is what its void
sector programs. -/
def vacate (s : State) (part sector n : Nat) (line : List Prog) : State :=
  if part = 4 || part = 2 then s
  else if (s.part part).head = s.sectorAfterRec part sector n then
    s.modPart part (fun x => { x with head := sector })
  else ({ s with arr.voids := s.arr.voids ++ [(⟨part, sector, n⟩ : Void)] } : State).touchAll line

/-- Takes an uncommitted record out of the pipeline, as it stands there now (R92, R93). -/
def undoRec (s : State) (was : PipeRec) : State :=
  let p := (s.pipeRec was.id).getD was
  let (before, after) := splitAt s.cmt.pipe p.id
  let line := s.pipeLines p 0 1
  let s1 := { s with cmt.pipe := before ++ s.inherit p after, cmt.dirty := true }
  let s2 := s1.vacate p.record.hdr.part p.sector p.sectors line
  let h := p.record.hdr
  let s3 := match p.prevExpected with
    | some prev =>
      if s2.streamOf h.source h.cls = some (h.seq + 1#32) then
        let t := s2.restoreStream h.source h.cls prev
        if h.source = t.source 5 then t.setSeq 5 h.cls (prev.getD h.seq) else t
      else s2
    | none => s2
  let s4 := if h.typ = 0x50#8 && s3.nextSeq 7 3 = h.seq + 1#32 then s3.setSeq 7 3 h.seq else s3
  if p.sealed then (s4.reseal).touchAll (s4.resealLines after) else s4

/-- Abandons an uncommitted record (R91 to R93), and counts it. -/
def abandon (s : State) (p : PipeRec) : State := (s.undoRec p).count 0x104

/-- The GAP records that wait ahead of an open frame's record for its end check (R254; log entry 99). -/
def leads (s : State) (p : PipeRec) : List PipeRec :=
  ((splitAt s.cmt.pipe p.id).1.reverse.takeWhile (fun x => !x.checked && x.openFrame.isNone)).reverse

/-- The GAP records ahead of a frame's record may commit: the frame has passed its end check, or its number
is named by a flush (R37, R236). -/
def freeLeads (s : State) (p : PipeRec) : State :=
  let ids := (s.leads p).map (fun x => x.id)
  { s with cmt.pipe := s.cmt.pipe.map (fun x => if ids.contains x.id then { x with checked := true } else x) }

/-- A frame that fails causes no GAP record (R254): those that waited for it are gone, with their numbers
where no record has followed them. -/
def undoLeads (s : State) (gs : List PipeRec) : State :=
  gs.reverse.foldl (fun s g =>
    let h := g.record.hdr
    let s := s.undoRec g
    if s.nextSeq 0 6 = h.seq + 1#32 then s.setSeq 0 6 h.seq else s) s

/-- The payload of a field write is formed at S7 from the records before it (R351). -/
def formPayload (s : State) (before : List PipeRec) (p : PipeRec) : PipeRec :=
  match p.hook with
  | .fieldWrite fj =>
    match s.fmem.journal.find? (fun e => e.value == fj) with
    | some e =>
      let recs := (s.recsOf 9).map (fun r => r.record) ++ before.map (fun x => x.record)
      let r := p.record
      if e.target = 5 then p else { p with record := { r with payload := userPayload e recs } }
    | none => p
  | _ => p

/-- A record passes S7: what is left of its grant is the work outside its pulses (R188). -/
def s7Grant (p : PipeRec) : PipeRec :=
  { p with sealed := true, granted := some (min 3000 (p.granted.getD 0)) }

/-- Stage S7 of the next record (R94): the first granted one not sealed, once every earlier record
is sealed (R86). -/
def sealNext (s : State) : State :=
  let mark := fun (pipe : List PipeRec) =>
    let done := pipe.takeWhile (fun x => x.sealed)
    match pipe.dropWhile (fun x => x.sealed) with
    | [] => pipe
    | p :: t => if p.granted.isSome
      then done ++ [s7Grant (s.formPayload done p)] ++ t
      else pipe
  ({ s with cmt.pipe := mark s.cmt.pipe }).reseal

/-- The records of the next commit group: up to 8 leading ones that have passed S7 (R87). -/
def nextGroup (s : State) : List PipeRec := (s.cmt.pipe.takeWhile (fun x => x.sealed)).take 8

/-- Journal entries of a group, in S1 order (R87, R107). -/
def groupEntries (s : State) (g : List PipeRec) : List Entry :=
  g.flatMap (fun p =>
    s.extentEntries p.record.hdr.part p.record.hdr.stroke p.newExtents ++
      [recordEntry p.record (if p.record.hdr.part = 4 then s.knellSector p.slot p.sector else p.sector)
        .record])

/-- Adds a committed record to the array. -/
def addRec (s : State) (r : Rec) (sector slot : Nat) : State :=
  { s with arr.recs := s.arr.recs ++
      [{ record := r, sector := sector, slot := slot, intact := true }] }

/-- What the array holds after one record's commit: extents, the record, the partition's newest
record and chain, the local sequence and the head (R78, R88). -/
def commitOne (s : State) (p : PipeRec) : State :=
  let r := p.record
  let part := r.hdr.part
  let s := s.enterExtents part r.hdr.stroke p.newExtents
  let s := s.addRec r p.sector p.slot
  let s := s.modPart part (fun x =>
    { x with newestStroke := r.hdr.stroke, newestLink := r.link })
  { s with cmt.headPart := part, cmt.commitsSince := s.cmt.commitsSince + 1, cmt.dirty := true }

/-- Sets both copies of the stroke toll shadow, each with its parity (R100). -/
def setShadow (s : State) (v : Nat) : State :=
  { s with cmt.shadow := v, cmt.shadowB := v, cmt.par := parity64 v, cmt.parB := parity64 v }

/-- Advances the stroke toll shadow (R100). -/
def advance (s : State) (n : Nat) : State := s.setShadow (s.cmt.shadow + n)

/-- Commits a group in the array (R87): entries in copy A then B, the shadow, and the records' new
place. What waits on the commit points follows in the commands. -/
def commitGroup (s : State) (g : List PipeRec) : State :=
  let s := s.journal (s.groupEntries g)
  let s := s.advance g.length
  let s := { s with cmt.pipe := s.cmt.pipe.drop g.length }
  g.foldl (fun s p => s.commitOne p) s

/-- The engine takes a committed record for mirroring (R278). Knell records are taken by R166. -/
def takeForMirror (s : State) (r : Rec) : State :=
  match mirrorIndex r.hdr.typ with
  | some i =>
    if r.hdr.degree = 0 || r.hdr.part = 4 then s
    else { s with peal.backlog := s.peal.backlog ++
        [{ stroke := r.hdr.stroke, degree := r.hdr.degree, set := s.peal.peers.getD i 0#64
           slot := none }] }
  | none => s

/-- Commits one record at once, between groups, as the checkpoint set and the BOOT record are
(R108, R116). The record's place is given. -/
def commitNow (s : State) (r : Rec) (sector : Nat) (news : List (Nat × Nat)) : State :=
  let part := r.hdr.part
  let r := completeRec r (s.cmt.shadow + 1) (s.degreeFor r.hdr.typ r.hdr.length) (s.newestLink part)
  let s := s.journal (s.extentEntries part r.hdr.stroke news ++ [recordEntry r sector .record])
  let s := s.advance 1
  let s := s.enterExtents part r.hdr.stroke news
  let s := s.addRec r sector 0
  let s := s.modPart part (fun x =>
    { x with newestStroke := r.hdr.stroke, newestLink := r.link })
  ({ s with cmt.headPart := part, cmt.commitsSince := s.cmt.commitsSince + 1 }).takeForMirror r

/-- The record belongs to a stream. -/
def inStream (r : Rec) (src : BitVec 16) (cls : Nat) : Bool := r.hdr.source == src && r.hdr.cls == cls

/-- One number on: an uncommitted record whose stream a record commits into ahead of it (R46). -/
def numberUp (p : PipeRec) : PipeRec :=
  let h := p.record.hdr
  { p with
    record := { p.record with hdr := { h with seq := h.seq + 1#32, flags := h.flags &&& ~~~ flagNew } }
    prevExpected := p.prevExpected.map (fun e => some ((e.map (fun w => w + 1#32)).getD (h.seq + 1#32))) }

/-- A record of the tag's own that commits at once takes the number of the first record of its stream
that is still in the pipeline, and that one and its followers take the next: the stream commits in
sequence order (R46; DESIGN CHOICE, log entry 73). Without one it takes the stream's next number. -/
def numberNow (s : State) (r : Rec) : State × Rec :=
  let h := r.hdr
  let mine := fun (p : PipeRec) => inStream p.record h.source h.cls
  match s.cmt.pipe.find? mine with
  | some p =>
    let s := s.setSeq (h.source.toNat % 1024) h.cls (s.nextSeq (h.source.toNat % 1024) h.cls + 1#32)
    let s := match s.streamOf h.source h.cls with
      | some e => s.setStream h.source h.cls (e + 1#32)
      | none => s
    ({ s with cmt.pipe := s.cmt.pipe.map (fun p => if mine p then numberUp p else p) },
      { r with hdr := { h with
          seq := p.record.hdr.seq, flags := h.flags ||| (p.record.hdr.flags &&& flagNew) } })
  | none =>
    let q := s.ownNumber h.source h.cls
    let fresh := (s.streamOf h.source h.cls).isNone
    ((s.setSeq (h.source.toNat % 1024) h.cls (q + 1#32)).setStream h.source h.cls (q + 1#32),
      { r with hdr := { h with seq := q, flags := h.flags ||| (if fresh then flagNew else 0#8) } })

/-- Commits a numbered record at once at its partition's head, ahead of the pipeline. -/
def commitAtHead (s : State) (r : Rec) : State :=
  let p := r.hdr.part
  let n := sectorsOf r.hdr.length
  let s := s.roomAtHead p n
  let first := (s.part p).head
  let (s, news) := s.claimAt p first n
  let s := s.touchAll (s.linesOf p first n news)
  let s := s.modPart p (fun x => { x with head := s.sectorAfterRec p first n })
  (s.commitNow r first news).resealAgain

/-- Commits a record of the tag's own at once at its partition's head. -/
def commitHere (s : State) (r : Rec) : State :=
  let (s, r) := s.numberNow r
  s.commitAtHead r

/-- The range that a record committed at once would leave out of its stream; none while a record of the
stream is in the pipeline, whose own arrival has reported it (R37). -/
def gapNow (s : State) (src : BitVec 16) (cls : Nat) : Option (Word × Word) :=
  if s.cmt.pipe.any (fun p => inStream p.record src cls) then none else s.ownGap src cls

/-- Commits the GAP record of the commit engine's own stream at once (R37). -/
def zeroNow (s : State) (part : Nat) : State := match s.gapNow (s.source 0) 6 with
  | none => s
  | some g => (s.stamp).commitHere (s.gapRec (s.source 0) 6 2 part [g])

/-- Creates an internal record and commits it at once: what a start-up commits (R116, R525). The GAP
record of numbers that its stream leaves out goes first (R37). -/
def createNow (s : State) (loc : Nat) (typ : Byte) (payload : List Byte) : State :=
  let part := partOf typ
  let s := s.zeroNow part
  let s := if loc = 0 then s
    else match s.gapNow (s.source loc) 6 with
      | none => s
      | some g => (s.stamp).commitHere (s.gapRec (s.source loc) 6 2 part [g])
  let r := s.newInternal loc 6 typ (flagFirst ||| flagLast) payload
  (s.stamp).commitHere r

/-- A local source's next number in a stream becomes `w` when that is later (R113). -/
def laterSeq (s : State) (loc cls : Nat) (w : Word) : State :=
  if (w - s.nextSeq loc cls).toNat < 2147483648 then s.setSeq loc cls w else s

/-- The engine stands at a commit-group boundary: no record lies between S5 and its commit point
(R87). -/
def atBoundary (s : State) : Bool := !s.cmt.pipe.any (fun p => p.checked)

end State

end Sys2Proof.Machine
end

