-- ==== Sys2Proof/Machine/Custody.lean ====
section
/-! DEFINITION. The commit engine's own commands: checkpoints (R108 to R111, R560), verify failures and retirement (R117 to R119), scrub and levelling (R120 to R123), bank failure (R124 to R128), toll increments (R103) and keep-alive saves (R184). -/

namespace Sys2Proof.Machine

/-- The 16-byte head of a CHECKPOINT payload (R109). -/
def ckptHead (section_ part count epoch n : Nat) : List Byte :=
  [BitVec.ofNat 8 section_, BitVec.ofNat 8 part, BitVec.ofNat 8 count, 0#8] ++ leBytes 4 epoch ++
    leBytes 4 n ++ zeroBytes 4

/-- Cuts a list into parts of `n`; one empty part for an empty list. -/
def chunks {α : Type} (n fuel : Nat) (l : List α) : List (List α) := match fuel with
  | 0 => [l]
  | fuel + 1 => if l.length ≤ n then [l] else l.take n :: chunks n fuel (l.drop n)

/-- The 16 bytes of a shipping-log sample (R30). -/
def sampleBytes (x : Sample) : List Byte :=
  leBytes 5 x.seconds ++ [x.flags] ++ leSigned 2 x.temp ++ leBytes 2 x.storeMv ++
    leBytes 2 x.vbatMv ++ leBytes 2 x.harv ++ leBytes 2 x.voc

/-- The SHIP_SAMPLE payload (R30). -/
def batchPayload (interval : Nat) (xs : List Sample) : List Byte :=
  leBytes 2 xs.length ++ leBytes 2 interval ++ zeroBytes 4 ++ xs.flatMap sampleBytes

namespace State

/-- The extent of the addressed sectors that a logical extent holds: itself, and for partition 2 the
extent of the checkpoint ring of which it holds image A or B (R560; log entry 9). -/
def ringExtent (p k : Nat) : Option Nat :=
  if p ≠ 2 then some k
  else if 128 ≤ k && k < 160 then some (k - 128)
  else if 160 ≤ k && k < 192 then some ((k - 160 + 31) % 32)
  else none

/-- The record whose header starts first in a logical extent (R111). -/
def firstHeader (s : State) (p k : Nat) : Option Stored :=
  let here := match ringExtent p k with
    | some j => (s.recsOf p).filter (fun (r : Stored) => r.sector / extSectors == j)
    | none => []
  here.foldl (fun (m : Option Stored) r => match m with
    | none => some r
    | some x => if r.sector < x.sector then some r else some x) none

/-- One EXTENTS entry (R111): the code, and the first record header that starts in the extent. A logical
extent that compaction has released has no physical extent, and its code is written as 0xFFFF (DESIGN CHOICE,
log entry 114). -/
def extentInfo (s : State) (p k : Nat) : List Byte :=
  leBytes 2 (s.codeOf p k) ++ (match s.firstHeader p k with
    | some r => BitVec.ofNat 8 (r.sector % extSectors) :: leBytes 5 r.record.hdr.stroke
    | none => 0xFF#8 :: zeroBytes 5)

/-- Head and tail logical sectors of a partition's entry in the CORE body (R110, R560): for partition 2
the ring of checkpoint sets; for the Knell partition the sector after its newest record and that of
its oldest one (log entry 75); for the others the sector at which S2 places the next record, and that
of the oldest record held (DESIGN CHOICE, log entry 76: the spec does not say whether reserved sectors
count). -/
def headTail (s : State) (p setOffset : Nat) : Nat × Nat :=
  if p = 4 then
    let rs := (s.recsOf 4).foldl insertStored []
    let at0 := fun (r : Stored) => s.knellSector r.slot r.sector
    let head := match rs.getLast? with
      | some r => at0 r + sectorsOf r.record.hdr.length
      | none => 0
    (head, match rs.head? with | some r => at0 r | none => head)
  else
    let head := if p = 2 then setOffset else (s.part p).head
    (head, match (s.recsOf p).head? with | some r => r.sector | none => head)

/-- What one partition's entry in the CORE body says (R110). The chain link of a partition that holds no
record since its genesis is the genesis value, with stroke number 0 (R69; DESIGN CHOICE, log entry
76). -/
def corePart (s : State) (p setOffset : Nat) : CorePart :=
  let x := s.part p
  let (head, tail) := s.headTail p setOffset
  { link := s.newestLink p, stroke := x.newestStroke, floor := s.floorOf p, head := head, tail := tail
    extents := x.extents, lost := if p = 2 then 0 else x.lost }

/-- The 48 bytes of one partition entry of the CORE body (R110); those of partitions 0 and 1 hold the
chain fields only. -/
def coreEntry (s : State) (p setOffset : Nat) : List Byte :=
  let c := s.corePart p setOffset
  let chain := leBytes 8 c.link.toNat ++ leBytes 8 c.stroke
  if p ≤ 1 then chain ++ zeroBytes 32
  else chain ++ leBytes 8 c.floor ++ leBytes 4 c.head ++ leBytes 4 c.tail ++ leBytes 2 c.extents ++
    leBytes 2 c.lost ++ zeroBytes 12

/-- CMT_BANK as a number (R131). -/
def bankByte (s : State) : Nat :=
  nth s.arr.banks 0 + 4 * nth s.arr.banks 1 + 16 * nth s.arr.banks 2 + 64 * nth s.arr.banks 3

/-- The payloads of a checkpoint set (R109, R110, R111). -/
def ckptPayloads (s : State) (epoch setOffset : Nat) : List (List Byte) :=
  let core := ckptHead 0 0 1 epoch 11 ++ leBytes 8 s.cmt.shadow ++ leBytes 8 (s.clk.lastStamp + 1) ++
    wordBytes s.clk.bracket ++ leBytes 4 s.cmt.jpos ++ [BitVec.ofNat 8 s.bankByte] ++ zeroBytes 7 ++
    s.cmt.localSeq.flatMap wordBytes ++ zeroBytes 12 ++
    (List.range 11).flatMap (fun p => s.coreEntry p setOffset)
  let exts := pooled.flatMap (fun p => (List.range (s.extentsOf p)).map (fun k => s.extentInfo p k))
  let strs := s.cmt.streams.map (fun x =>
    leBytes 2 x.source.toNat ++ [BitVec.ofNat 8 x.cls, 0#8] ++ wordBytes x.expected)
  let ec := chunks 500 16 exts
  let sc := chunks 256 2 strs
  let parts := fun (code : Nat) (cs : List (List (List Byte))) =>
    (List.range cs.length).zip cs |>.map (fun c =>
      ckptHead code c.1 cs.length epoch c.2.length ++ c.2.flatten)
  core :: (parts 1 ec ++ parts 2 sc)

/-- The offset at which the next record of a set begins, skipping what would cross offset 4,095
(R560). -/
def ckptPlace (off n : Nat) : Nat := if 4096 < off + n then 0 else off % 4096

/-- Where the records of a set lie in the ring: first sector and length (R560). -/
def setPlaces (off : Nat) : List Nat → List (Nat × Nat)
  | [] => []
  | n :: t => (ckptPlace off n, n) :: setPlaces ((ckptPlace off n + n) % 4096) t

/-- The extents of the ring that a set of `n` sectors from `off` on touches. -/
def ringExtents (off n : Nat) : List Nat :=
  ((List.range n).map (fun i => (off + i) % 4096 / extSectors)).eraseDups

/-- The lines of `n` sectors of the checkpoint ring, in both areas (R108, R560). -/
def areaLines (s : State) (at0 n : Nat) : List Prog :=
  (((List.range n).map (fun i => (at0 + i) / 8)).eraseDups).flatMap (fun ln =>
    let ka := 128 + ln / 16
    let kb := 160 + (ln / 16 + 1) % 32
    let a := s.codeOf 2 ka
    let b := s.codeOf 2 kb
    [⟨codeBank a, codeExt a * 16 + ln % 16, 2, ka⟩, ⟨codeBank b, codeExt b * 16 + ln % 16, 2, kb⟩])

/-- Voids of the checkpoint ring whose void sector lies in a run of sectors are overwritten with it
(R560). -/
def dropVoids (s : State) (at0 n : Nat) : State :=
  { s with arr.voids := s.arr.voids.filter (fun v =>
      !(v.part == 2 && at0 ≤ v.sector && v.sector < at0 + n)) }

/-- The sectors that a record skips at the end of the ring hold a void, whose void sector is programmed
in both areas (R80, R560). -/
def skipVoid (s : State) (off : Nat) : State :=
  let s := s.dropVoids off (4096 - off)
  ({ s with arr.voids := s.arr.voids ++ [(⟨2, off, 4096 - off⟩ : Void)] }).touchAll (s.areaLines off 1)

/-- Commits the records of a set one after another (R108 step 2). -/
def commitSet (s : State) (off : Nat) (first : Bool) (payloads : List (List Byte))
    (strokes : List Nat) : State × Nat × List Nat :=
  match payloads with
  | [] => (s, off, strokes)
  | pl :: rest =>
    let n := sectorsOf pl.length
    let at0 := ckptPlace off n
    let s := if at0 = off % 4096 then s else s.skipVoid off
    let s := s.dropVoids at0 n
    let (s, r) := s.numberNow (s.newInternal 0 6 0x03#8 (setFlags first (rest == [])) pl)
    let s := (s.stamp).touchAll (s.areaLines at0 n)
    let s := s.commitNow r at0 []
    commitSet s ((at0 + n) % 4096) false rest (strokes ++ [s.cmt.shadow])

/-- The sets that a new set of `n` sectors leaves in the ring (R560): a set is held as long as none of it
is overwritten or released, and is dropped whole (DESIGN CHOICE, log entry 77). -/
def keepSets (sets : List Ckpt) (n : Nat) : List Ckpt := match sets with
  | [] => []
  | c :: t => if n + c.sectors ≤ 4096 then c :: keepSets t (n + c.sectors) else []

/-- An extent of partition 2 is replaced by the least-worn free extent of its bank under an extent entry,
and goes back to the pool (R78, R121). -/
def swapIndex (s : State) (k stroke : Nat) : State :=
  let was := s.codeOf 2 k
  match s.pickFree (codeBank was) s.reserved with
  | none => s
  | some e =>
    let code := extCode (codeBank was) e
    let s := (s.stampEpoch [code] (s.tollValue 2)).journal [extentEntry 2 k code was stroke]
    ((s.takeFree code).giveFree was).setCode 2 k code

/-- A checkpoint-area extent holds what a set of before has written: a line of it carries its line tag
(R73). -/
def ringWritten (s : State) (x : Nat) : Bool :=
  let code := s.codeOf 2 (128 + x)
  (List.range 16).any (fun l =>
    let t := s.lineTag (codeBank code) (codeExt code * 16 + l)
    t.part == 2 && t.ext == 128 + x && t.epoch == s.extEpoch code)

/-- The extents of partition 2 that the last checkpoint has made unneeded (R121): journal extents whose
last slot its journal position has passed since the checkpoint before it, unless newer entries lie in them
again, and the extents of the checkpoint ring that the coming set enters and that sets older than the
newest one have written. They are replaced at the start of the next checkpoint, so that no entry follows a
checkpoint's own (R114; log entry 78). -/
def unneeded (s : State) (off n : Nat) : List Nat :=
  let (old, new) := match s.arr.ckpts with
    | c :: d :: _ => (d.journalPos, c.journalPos)
    | c :: _ => (0, c.journalPos)
    | [] => (0, 0)
  let span := (new + 8192 - old) % 8192
  let since := (s.cmt.jpos + 8192 - new) % 8192
  let done := (List.range 64).filter (fun k =>
    let passed := ((k + 1) * 128 + 8192 - old) % 8192
    0 < passed && passed ≤ span && since < (k * 128 + 8192 - new) % 8192)
  let here := match s.arr.ckpts.head? with
    | some c => ringExtents c.offset c.sectors
    | none => []
  let ring := (ringExtents off n).filter (fun x => s.ringWritten x && !here.contains x)
  done.flatMap (fun k => [k, 64 + (k + 1) % 64]) ++
    ring.flatMap (fun x => [128 + x, 160 + (x + 1) % 32])

/-- The offset at which the next set begins (R560). -/
def nextSetOffset (s : State) : Nat := match s.arr.ckpts with
  | c :: _ => (c.offset + c.sectors) % 4096
  | [] => 0

/-- Length in the ring of a set of payloads that begins at `off`, skipped sectors included. -/
def setLength (off : Nat) (payloads : List (List Byte)) : Nat :=
  match (setPlaces off (payloads.map (fun pl => sectorsOf pl.length))).getLast? with
  | some (a, n) => (a + n + 4096 - off - 1) % 4096 + 1
  | none => 0

/-- Takes a checkpoint (R108). -/
def takeCkpt (s : State) : State :=
  let e := s.tollValue 2
  let s := (s.boundary .checkpoint).zeroNow 2
  let off := s.nextSetOffset
  let size := setLength off (s.ckptPayloads (e + 1) off)
  let s := (s.unneeded off size).foldl (fun s k => s.swapIndex k (s.cmt.shadow + 1)) s
  let s := s.tollWriteA 2 (e + 1)
  let (t, endOff, strokes) := s.commitSet off true (s.ckptPayloads (e + 1) off) []
  let set : Ckpt := {
    epoch := e + 1, offset := off, sectors := size, strokes := strokes, strokeHead := s.cmt.shadow,
    stampFloor := s.clk.lastStamp + 1, bracket := s.clk.bracket, journalPos := s.cmt.jpos,
    banks := BitVec.ofNat 8 s.bankByte, seqs := s.cmt.localSeq,
    parts := (List.range 11).map (fun p => s.corePart p off), streams := s.cmt.streams }
  let kept := keepSets s.arr.ckpts (size + (extSectors - endOff % extSectors) % extSectors)
  let live := (set :: kept).flatMap (fun c => c.strokes)
  let t := t.strokeUpdate
  let t := (t.tollWriteB 2 (e + 1)).tollAge 2
  let own := (t.cmt.jpos + 8192 - s.cmt.jpos) % 8192
  let t := { t with
    arr.ckpts := set :: kept
    arr.recs := t.arr.recs.filter (fun (r : Stored) =>
      r.record.hdr.part != 2 || live.contains r.record.hdr.stroke)
    arr.journal := t.arr.journal.drop (t.arr.journal.length - own)
    arr.changes := []
    cmt.entriesSince := 0, cmt.commitsSince := 0, cmt.ckptDue := false, cmt.lastCkptUp := t.clk.up }
  (t.raise 0x0E8 0).resealAgain

/-- The job of a due checkpoint (R108, R186). -/
def ckptJob (s : State) : Job :=
  { id := s.cmt.nextId, queue := 0, cost := ckptCost, weight := 2, kind := .checkpoint }

/-- CHECKPOINT (R108): at a commit-group boundary, outside a Knell, when one is due and the
scheduler grants it, behind the records and jobs that came to the commit queue before it (R185). In HELD and
CONSOLIDATE, and while a K-INDEX is queued, the K-INDEX takes it (R162). -/
def effCheckpoint (s : State) : State :=
  let first := match s.queueHead 0 with
    | none => true
    | some j => j.kind == .checkpoint
  if !s.cmt.ckptDue || s.knellRunning || s.kn.state = 6 || s.kn.state = 7 || s.cmt.recovering ||
      s.hasJob .kIndex then s
  else if s.isGranted .checkpoint then (s.endJob .checkpoint).takeCkpt
  else if first && (s.boundary .admission).verdict s.ckptJob = .grant then
    (((s.boundary .admission).dropKind .checkpoint).wakeDoms (fun d => d == 4 || (9 ≤ d && d ≤ 13))).takeCkpt
  else if s.hasJob .checkpoint then s
  else s.enqueue 0 ckptCost 2 .checkpoint

/-- CHECKPOINT_INTERVAL (R108): due when CKPT_SEC × 10 s have passed since the last checkpoint with at
least one commit. -/
def effCheckpointInterval (s : State) : State :=
  if s.cmt.commitsSince = 0 || s.clk.up < s.cmt.lastCkptUp + s.ckptSeconds * second then s
  else { s with cmt.ckptDue := true }

/-- CHECKPOINT_ENTRY_COUNT (R108): due when CKPT_ENTRIES entries have been written. -/
def effCheckpointEntryCount (s : State) : State :=
  if s.cmt.entriesSince < s.ckptEntries then s else { s with cmt.ckptDue := true }

/-- CKPT_REQ written with 1 (R108). -/
def requestCkpt (s : State) : State := { s with cmt.ckptDue := true }

/-- SCRUB_REQ written with 1 (R131): a pass starts at the next scrub dispatch. -/
def requestScrub (s : State) : State := { s with cmt.scrubReq := true }

/-- Chain breaks found by a scrub or an export commit AUDIT records (R70). -/
def auditBreaks (s : State) (breaks : List (Nat × Nat)) : State :=
  breaks.foldl (fun s b => s.auditSelf 0 0x000E b.1 (leBytes 8 b.2)) s

/-- Banks that hold a copy of a record: every bank for Identity and Keys, those of its slot's images for a
Knell record (R60). -/
def copyBanks (s : State) (r : Stored) : List Nat :=
  if r.record.hdr.part ≤ 1 then s.liveBanks
  else if r.record.hdr.part = 4 then s.liveBanks.filter (fun b => b = r.slot % 4 || b = (r.slot + 1) % 4)
  else []

/-- A record of which every copy that is left has been found damaged is damaged (R441). -/
def weighCopies (s : State) : State :=
  { s with arr.recs := s.arr.recs.map (fun (r : Stored) =>
      if r.badBanks != [] && (s.copyBanks r).all (fun b => r.badBanks.contains b) then
        { r with intact := false } else r) }

/-- Marks records found damaged in an extent of a bank: a record with copies in other banks stays intact
while one of them verifies (R441). -/
def markDamaged (s : State) (bank : Nat) (strokes : List Nat) : State :=
  ({ s with arr.recs := s.arr.recs.map (fun (r : Stored) =>
      if strokes.contains r.record.hdr.stroke then { r with badBanks := bank :: r.badBanks } else r)
  }).weighCopies

/-- A line that is programmed again with its content keeps its owner in its tag (R73, R120). -/
def ownLine (s : State) (bank line : Nat) : Prog :=
  let t := s.lineTag bank line
  ⟨bank, line, t.part, t.ext⟩

/-- SCRUB_EXTENT (R120): an admitted scrub job reads one extent; low lines are programmed again,
damaged records counted, chain breaks recorded. -/
def effScrubExtent (s : State) (bank ext : Nat) (low damaged : List Nat)
    (breaks : List (Nat × Nat)) : State :=
  let s := s.boundary .scrub
  let job : Job := { id := s.cmt.nextId, queue := 7, cost := 2500 + eLine s.pwr.band / 2 * low.length
                     weight := 2, kind := .scrub }
  if !(s.scrubEn || s.cmt.scrubReq) || nth s.arr.banks bank = 2 then s
  else match s.dispatch job with
  | (s, false) => s
  | (s, true) =>
    let s := s.wakeDoms (fun d => d == 9 + bank)
    let s := s.touchAll (low.map (fun l => s.ownLine bank (ext * 16 + l)))
    let s := if damaged = [] then s else (s.markDamaged bank damaged).raise 0x0E8 8
    let s := s.auditBreaks breaks
    let pos := (s.cmt.scrubPos + 1) % 4224
    { s with cmt.scrubPos := pos, cmt.scrubReq := s.cmt.scrubReq && pos != 0 }

/-- STATIC_LEVEL_MOVE (R122): the least-worn extent in service goes into the most-worn free extent
when their mean counts differ by more than 4,000 cycles, once per bank and minute. Among equally worn
extents the first in number order, or in partition and logical-extent order, is taken, and the entry's
stroke number is that of the stroke head, since no record needs the extent (DESIGN CHOICE, log entry
79). -/
def effStaticLevelMove (s : State) (bank : Nat) : State :=
  let s := s.boundary .scrub
  let job : Job :=
    { id := s.cmt.nextId, queue := 7, cost := 40000, weight := 3, kind := .levelMove }
  let recent := match s.cmt.lastMove.getD bank none with
    | some t => s.clk.up < t + 60 * second
    | none => false
  let free := (s.arr.free.getD bank []).filter (fun e => !s.reserved.contains (extCode bank e))
  let worst := free.foldl (fun (m : Option Nat) e => match m with
    | none => some e
    | some x => if s.extCycles bank x < s.extCycles bank e then some e else some x) none
  let least := (s.inService bank).foldl (fun (m : Option (Nat × Nat × Nat)) e => match m with
    | none => some e
    | some x => if s.extCycles bank e.2.2 < s.extCycles bank x.2.2 then some e else some x) none
  if !s.staticWl || recent || nth s.arr.banks bank = 2 then s
  else match worst, least with
    | some w, some (p, k, e) =>
      if s.extCycles bank w ≤ s.extCycles bank e + 64000 then s
      else match s.dispatch job with
      | (s, false) => s
      | (s, true) =>
        let s := s.wakeDoms (fun d => d == 9 + bank)
        let code := extCode bank w
        let entry := extentEntry p k code (extCode bank e) s.cmt.shadow
        let s := (s.stampEpoch [code] (s.tollValue 2)).touchAll (extentLines p k code)
        let s := s.journal [entry]
        let s := ((s.takeFree code).giveFree (extCode bank e)).setCode p k code
        { s with cmt.lastMove := setNth s.cmt.lastMove bank (some s.clk.up) }
    | _, _ => s

/-- CMT_TOLL_INC (R103): one stored update of a host counter; none when the number is below 16, a
reserved bit is set or the counter is worn. The result says whether it was performed. -/
def tollInc (s : State) (v : Word) : State × Bool :=
  let c := v.toNat
  if c < 16 || 31 < c then (s, false)
  else if (s.toll c).worn then (s, false)
  else
    (s.tollUpdate c ((s.tollValue c + 1) % 4294967296), true)

/-- One copy of the save ring when bank `f` fails (R102): rebuilt from its partner in the area of bank 1,
or of bank 3 when bank 1 has failed or holds the other copy; lost when neither can take it. -/
def moveRing (s : State) (f : Nat) (r other : Option SaveRing) : Option SaveRing := match r with
  | none => none
  | some x =>
    if x.bank ≠ f then some x
    else
      let away := match other with | some o => o.bank | none => 4
      match [1, 3].find? (fun b => nth s.arr.banks b != 2 && b != away) with
      | none => none
      | some b => some { bank := b, entries := match other with | some o => o.entries | none => x.entries }

/-- Where a bank's save-ring copies go when it fails (R102). -/
def moveSave (s : State) (f : Nat) : State :=
  let a := s.moveRing f s.arr.saveA s.arr.saveB
  let b := s.moveRing f s.arr.saveB a
  let lines := fun (was now : Option SaveRing) => match was, now with
    | some x, some y => if x.bank = y.bank then [] else
        (List.range 48).map (fun l => (⟨y.bank, tollArea + 352 + l, 0x0F, 0⟩ : Prog))
    | _, _ => []
  let s := s.touchAll (lines s.arr.saveA a ++ lines s.arr.saveB b)
  { s with arr.saveA := a, arr.saveB := b }

/-- Rebuilds one counter's copies of a failed bank from their partners into spare rings (R125 step
3, R105). -/
def rebuildToll (s : State) (f c : Nat) : State :=
  let t := s.toll c
  let inF := fun (r : Option TollRing) => match r with | some x => x.bank == f | none => false
  if inF t.ringA then s.tollMove c false (if t.haveB then t.b else t.a)
  else if inF t.ringB then s.tollMove c true (if t.haveA then t.a else t.b)
  else s

/-- The banks that a stored record's sectors lie in. -/
def banksOf (s : State) (r : Stored) : List Nat :=
  let p := r.record.hdr.part
  (s.linesOf p r.sector (sectorsOf r.record.hdr.length) []).map (fun l => l.bank)

/-- First-header stroke of a logical extent, 0 when none starts there (R111). -/
def firstStroke (s : State) (p k : Nat) : Nat := match s.firstHeader p k with
  | some r => r.record.hdr.stroke
  | none => 0

/-- The record that reaches into a logical extent from the one before it, 0 for none. -/
def crossingStroke (s : State) (p k : Nat) : Nat :=
  match (s.recsOf p).find? (fun r => r.sector / extSectors != k &&
      (s.covered p r.sector (sectorsOf r.record.hdr.length)).contains k) with
  | some r => r.record.hdr.stroke
  | none => 0

/-- The ranges of a partition lost with a bank (R127, R519): consecutive lost extents in content
order form one range. A lost extent in which no header starts, which holds only the end of a record,
gives that record's stroke number (log entry 80). -/
def lostRanges (s : State) (f p : Nat) (ks : List Nat) (cur : Option Nat) : List LossRange :=
  match ks with
  | [] => match cur with
    | some lo => [⟨p, f, lo, 0⟩]
    | none => []
  | k :: t =>
    let st := s.firstStroke p k
    if s.bankAt p k = f then
      let low := if st = 0 then s.crossingStroke p k else st
      s.lostRanges f p t (match cur with
        | some lo => some lo
        | none => if low = 0 then none else some low)
    else match cur with
      | some lo => ⟨p, f, lo, st⟩ :: s.lostRanges f p t none
      | none => s.lostRanges f p t none

/-- A bank failure loses the record: one of its sectors lies in the bank (R127). -/
def losesRec (s : State) (f : Nat) (r : Stored) : Bool := (s.banksOf r).contains f

/-- The first surviving record after the first run of lost records of a partition, 0 when none follows;
no answer when the partition has lost none (R127). -/
def firstBreak (s : State) (f p : Nat) : Option Nat :=
  match ((s.recsOf p).foldl insertStored []).dropWhile (fun r => !s.losesRec f r) with
  | [] => none
  | l => some (match (l.dropWhile (fun r => s.losesRec f r)).head? with
    | some r => r.record.hdr.stroke
    | none => 0)

/-- Removes a failed bank's extents from one partition (R125 step 5, R126): lost records go, the
surviving extents are numbered afresh in order, and what stays in the pipeline moves with them. -/
def shrinkPart (s : State) (f p : Nat) : State :=
  let x := s.part p
  let keep := (List.range x.extents).filter (fun k => s.bankAt p k != f)
  let rank := fun (k : Nat) => (keep.takeWhile (fun j => j != k)).length
  let codes := keep.map (fun k => s.codeOf p k)
  let place := fun (sector : Nat) => rank (sector / extSectors) * extSectors + sector % extSectors
  let recs := (s.arr.recs.filter (fun r => r.record.hdr.part != p || !s.losesRec f r)).map
    (fun (r : Stored) => if r.record.hdr.part = p then { r with sector := place r.sector } else r)
  let voids := (s.arr.voids.filter (fun (v : Void) =>
    v.part != p || keep.contains (v.sector / extSectors))).map (fun (v : Void) =>
      if v.part = p then { v with sector := place v.sector } else v)
  let pipe := s.cmt.pipe.map (fun (q : PipeRec) =>
    if q.record.hdr.part = p then { q with
      sector := place q.sector
      newExtents := (q.newExtents.filter (fun e => keep.contains e.1)).map (fun e => (rank e.1, e.2)) }
    else q)
  let headExt := x.head / extSectors
  let head := if keep.contains headExt then place x.head
    else (rank (((List.range x.extents).filter (fun k => headExt < k && keep.contains k)).headD
      (keep.headD 0))) * extSectors
  let s := { s with
    arr.recs := recs
    arr.voids := voids
    arr.losses := s.arr.losses ++ s.lostRanges f p x.used none
    cmt.pipe := pipe }
  let s := ((List.range codes.length).zip codes).foldl (fun s c => s.setCode p c.1 c.2) s
  s.modPart p (fun x => { x with
    extents := keep.length, head := head, lost := x.lost + (x.extents - keep.length)
    used := (x.used.filter (fun k => keep.contains k)).map rank })

/-- The Knell partition counts the extents of the four images in a failed bank as lost (R110, R126). -/
def shrinkKnell (s : State) : State :=
  let n := 4 * nth s.arr.sizes 4
  s.modPart 4 (fun x => { x with extents := x.extents - n, lost := x.lost + n })

/-- The other extent of an index pair: the journal's chains and the checkpoint areas each hold two
copies (R106); none for an extent of the rest. -/
def indexPartner (k : Nat) : Option Nat :=
  if k < 64 then some (64 + (k + 1) % 64)
  else if k < 128 then some ((k - 64 + 63) % 64)
  else if k < 160 then some (160 + (k - 128 + 1) % 32)
  else if k < 192 then some (128 + (k - 160 + 31) % 32)
  else none

/-- The banks in which an index extent of a failed bank may be replaced: those in service that do not hold
the other copy (R106, R125 step 4), begun in turn, so that each takes its share. -/
def indexBanks (s : State) (k : Nat) : List Nat :=
  let other := match indexPartner k with
    | some j => codeBank (s.codeOf 2 j)
    | none => 4
  let l := (s.bankRing 2).filter (fun b => b != other)
  let i := k / 4 % max 1 l.length
  l.drop i ++ l.take i

/-- The journal entries since the checkpoint that lie in a journal extent are programmed again in its
new place, from their surviving copies (R125 step 4). -/
def rewriteIndex (s : State) (k : Nat) : State :=
  if 128 ≤ k then s
  else
    let here := s.arr.journal.filter (fun e => journalExtA e.slot == k || journalExtB e.slot == k)
    s.touchAll ((here.map (fun e => s.journalLine k e.slot)).eraseDups)

/-- Index and checkpoint keeps its size: its extents of the failed bank are replaced from the pool
of surviving banks under extent entries, and the entries since the checkpoint are programmed there
again (R125 step 4, R126). -/
def replaceIndex (s : State) (f : Nat) : State :=
  ((List.range (s.extentsOf 2)).filter (fun k => codeBank (s.codeOf 2 k) == f)).foldl (fun s k =>
    match (s.indexBanks k).findSome? (fun b => (s.pickFree b s.reserved).map (fun e => extCode b e)) with
    | some code =>
      let was := s.codeOf 2 k
      let s := ((s.stampEpoch [code] (s.tollValue 2)).takeFree code).setCode 2 k code
      (s.rewriteIndex k).journal [extentEntry 2 k code was s.cmt.shadow]
    | none => s) s

/-- The uncommitted records that return to S2 (R125 step 2): those with a reserved sector in bank `f`,
and, so that a partition's records stay in order (R79), those that follow one of them in its partition
(log entry 81). Their ids. -/
def redoIds (s : State) (f : Nat) (pipe : List PipeRec) (parts : List Nat) : List Nat := match pipe with
  | [] => []
  | p :: t =>
    let part := p.record.hdr.part
    if part = 4 || part ≤ 1 then s.redoIds f t parts
    else if parts.contains part || (s.pipeLines p 0 p.sectors).any (fun l => l.bank == f) then
      p.id :: s.redoIds f t (part :: parts)
    else s.redoIds f t parts

/-- Changes one record of the pipeline. -/
def modPipe (s : State) (id : Nat) (f : PipeRec → PipeRec) : State :=
  { s with cmt.pipe := s.cmt.pipe.map (fun p => if p.id = id then f p else p) }

/-- One record is allocated again from its Drumhead copy (R125 step 2), in a Latest partition after the
compaction that it needs (R82); its grant stays. -/
def replaceRec (s : State) (id : Nat) : State := match s.pipeRec id with
  | none => s
  | some p =>
    let part := p.record.hdr.part
    let s := s.roomAtHead part p.sectors
    let first := (s.part part).head
    let (s, news) := s.reserveAt part first p.sectors
    let s := s.modPart part (fun x => { x with head := s.sectorAfterRec part first p.sectors })
    let s := s.modPipe id (fun p => { p with sector := first, newExtents := news, sealed := false })
    if p.runAhead then
      s.touchAll (s.linesOf part (first + 1) (p.sectors - 2) (s.pledged part))
    else s

/-- The records named give back what they had reserved and are allocated again in S1 order (R125 step
2). -/
def replacePipe (s : State) (ids : List Nat) : State :=
  ids.foldl (fun s id => s.replaceRec id)
    (ids.foldl (fun s id => s.modPipe id (fun p => { p with newExtents := [] })) s)

/-- The heads return to the first record of each partition that is allocated again. -/
def returnHeads (s : State) (ids : List Nat) : State :=
  (s.cmt.pipe.reverse.filter (fun p => ids.contains p.id)).foldl (fun s p =>
    s.modPart p.record.hdr.part (fun x => { x with head := p.sector })) s

/-- Slots with an image in a failed bank (R60, R158): one image left, or none. -/
def reviewSlots (s : State) (f : Nat) : State :=
  let fix := fun (i : Nat) (sl : Slot) =>
    let a := i % 4
    let b := (i + 1) % 4
    if a = f || b = f then
      let other := if a = f then b else a
      if nth s.arr.banks other = 2 then
        { sl with oneImage := true, state := 4 }
      else { sl with oneImage := true }
    else sl
  { s with kn.slots := (List.range 8).zip s.kn.slots |>.map (fun p => fix p.1 p.2) }

/-- Number of the first line of a bank's spare-map area (R75; log entry 74). -/
def spareMapArea : Nat := 49152

/-- Step 1 of a bank failure (R125): the bank is FAILED in the spare-map areas of the surviving banks, its
domain gates unless it is pinned (R196), the Tocsin asserts. What its own areas held is lost with it. -/
def markFailed (s : State) (f : Nat) : State :=
  let s := { s with
    arr.frozenWear := setNth s.arr.frozenWear f (some (s.wearNow f))
    arr.banks := setNth s.arr.banks f 2
    pwr.domOn := setNth s.pwr.domOn (9 + f) (s.pinned (9 + f))
    arr.spareRings := setNth s.arr.spareRings f 0
    arr.spareMap := s.arr.spareMap.filter (fun e => e.1 / 65536 != f)
    arr.spareMapB := s.arr.spareMapB.filter (fun e => (e.1 / 65536 + 2) % 4 != f)
    arr.free := setNth s.arr.free f [] }
  let s := s.weighCopies.touchAll (s.liveBanks.map (fun b => ⟨b, spareMapArea, 0x0F, 0⟩))
  (s.raise 0x0E8 5).reviewSlots f

/-- Steps 2 to 6 of a bank failure (R125 to R127). Steps 7 and 8, which commit, follow with
`finishRebuild`. -/
def rebuild (s : State) (f : Nat) : State :=
  let lossy := [3, 5, 6, 7, 8, 9, 10]
  let ids := s.redoIds f s.cmt.pipe []
  let s := s.returnHeads ids
  let s := (List.range 32).foldl (fun s c => s.rebuildToll f c) s
  let s := (s.moveSave f).replaceIndex f
  let breaks := lossy.filterMap (fun p => (s.firstBreak f p).map (fun d => (p, d)))
  let s := (lossy.foldl (fun s p => s.shrinkPart f p) s).shrinkKnell
  let s := s.takeCkpt.replacePipe ids
  let had := s.cmt.rebuildTail.getD []
  { s with cmt.rebuildTail := some (had ++ breaks), cmt.rebuilding := true }

/-- A bank that fails during a Knell (R128, R157): the plan notes it and loses the image, and the journal
copies go to surviving banks; the rebuild is repeated at the next power-up. -/
def failInKnell (s : State) (f : Nat) : State :=
  let s := match s.kn.intake with
    | some i =>
      let lost := fun (d : Nat) => match i.claimed with
        | some k => (k + d) % 4 == f
        | none => false
      { s with kn.intake := some { i with plan := { i.plan with
          bankFail := true
          imageA := i.plan.imageA && !lost 0, imageB := i.plan.imageB && !lost 1 } } }
    | none => s
  ({ (s.replaceIndex f) with cmt.rebuilding := true }).raise 0x168 4

/-- A self-test request ends with a result (R536); one that has not begun has begun at no time. -/
def endTest (s : State) (req unit outcome detail value back : Nat) (audit : Option Nat) : State :=
  let mine := s.st.current == some (req, unit)
  let r : TestResult := { req := req, unit := unit, outcome := outcome, detail := detail
                          begun := if mine then s.st.begun else 0, back := back, value := value }
  let s := { s with
    st.current := if mine then none else s.st.current, st.results := (r :: s.st.results).take 8
    st.queue := s.st.queue.filter (fun q => q.1 != req) }
  let s := (s.endJob (.selftest req unit)).dropKind (.selftest req unit)
  let s := s.raise 0x014 3
  if outcome = 1 then
    let s := s.raise 0x014 4
    match audit with
    | some loc => s.auditSelf loc 0xD unit []
    | none => s
  else s

/-- The running self-test ends with a result (R536). -/
def endSelftest (s : State) (outcome detail value back : Nat) (audit : Option Nat) : State :=
  match s.st.current with
  | none => s
  | some (req, unit) => s.endTest req unit outcome detail value back audit

/-- Thermal weight and cost in nJ of a self-test (R186). -/
def testCost (unit : Nat) : Nat × Nat :=
  if unit < 4 then (2400000, 3) else if unit < 0x20 then (60000, 0) else (30000, 0)

/-- Queues the job of the first self-test request, one at a time (R534). The request for a Snare channel
that has a calibration queued is merged with it, which is then the self-test's, reason and all (R385; DESIGN
CHOICE, log entry 115). -/
def startNextTest (s : State) : State :=
  if s.st.current.isSome then s
  else match s.st.queue with
    | [] => s
    | (req, unit) :: _ =>
      let same := fun (j : Job) => match j.kind with
        | .calibrate ch _ => unit == 0x20 + ch
        | _ => false
      if s.hasJob (.selftest req unit) then s
      else if s.pwr.jobs.any same then
        { s with pwr.jobs := s.pwr.jobs.map (fun j =>
          if same j then { j with kind := .selftest req unit } else j) }
      else s.enqueue 6 (testCost unit).1 (testCost unit).2 (.selftest req unit)

/-- The self-test requests of a unit that has failed end, whether running or still queued, with the audit
record's location: the unit has failed (R536; DESIGN CHOICE, log entry 92: the spec does not name the
result of a test that a failure of its unit overtakes). -/
def endTests (s : State) (unit detail loc : Nat) : State :=
  ((s.st.queue.filter (fun q => q.2 == unit)).foldl (fun s q =>
    s.endTest q.1 unit 1 detail 0 0 (some loc)) s).startNextTest

/-- A bank fails (R124); one that has failed stays so. During a Knell the rebuild is held back (R128,
R157), and during recovery it follows it. -/
def failBank (s : State) (f : Nat) : State :=
  if 4 ≤ f || nth s.arr.banks f = 2 then s
  else
    let s := (s.markFailed f).endTests f 0 0
    if s.knellRunning then s.failInKnell f
    else if s.cmt.recovering then { s with cmt.rebuilding := true }
    else s.rebuild f

/-- BANK_FAIL (R124). -/
def effBankFail (s : State) (bank : Nat) : State := s.failBank bank

/-- The retirements of a bank within the last second (R124). -/
def recentRetires (s : State) (bank : Nat) : Nat :=
  (s.cmt.retires.filter (fun r => r.1 == bank && s.clk.up < r.2 + second)).length

/-- Counts a retired line; 8 within 1 s fail the bank (R124). -/
def noteRetire (s : State) (bank : Nat) : State :=
  let s := { s with cmt.retires := (s.cmt.retires.filter (fun r => s.clk.up < r.2 + second)) ++
    [(bank, s.clk.up)] }
  if 8 ≤ s.recentRetires bank then s.failBank bank else s

/-- The fixed-placement owner of an extent (R561): partition, logical extent, and its code before any
retirement. -/
def fixedOwner (s : State) (bank ext : Nat) : Option (Nat × Nat × Nat) :=
  let code := extCode bank ext
  let home := match s.arr.fixedMap.find? (fun e => e.2 == code) with
    | some e => e.1
    | none => if nget s.arr.fixedMap code code = code then code else noExtent
  let k := nth s.arr.sizes 4
  let base := 1056 - 4 * k
  if home = noExtent then none
  else if codeExt home < 4 then some (0, codeExt home, home)
  else if codeExt home < 8 then some (1, codeExt home - 4, home)
  else if base ≤ codeExt home then
    match (List.range 8).findSome? (fun slot => ((s.slotImages slot).find? (fun im =>
        im.1 == bank && im.2 ≤ codeExt home && codeExt home < im.2 + k)).map (fun im =>
          (slot, codeExt home - im.2))) with
    | some (slot, i) => some (4, slot * k + i, home)
    | none => none
  else none

/-- Copies the content of an extent that retires into a free extent of its bank under an extent entry
(R119). The entry's stroke number is that of the stroke head, since no record needs the extent (DESIGN
CHOICE, log entry 79). -/
def copyExtent (s : State) (p k was code : Nat) : State :=
  let s := (s.stampEpoch [code] (s.tollValue 2)).touchAll (extentLines p k code)
  s.journal [extentEntry p k code was s.cmt.shadow]

/-- Retires a whole extent into a free one of its bank (R119): one in service moves under an extent
entry, wherever its placement is fixed or not; one that an uncommitted record has reserved is replaced
in its reservation; a free one only leaves the pool. With none free the bank fails (R124). -/
def retireExtent (s : State) (bank line : Nat) : State :=
  let ext := line / 16
  let was := extCode bank ext
  let gone := fun (s : State) =>
    ({ s with arr.retired := s.arr.retired ++ [(bank, ext)] }).raise 0x0E8 2
  if (s.arr.free.getD bank []).contains ext && !s.reserved.contains was then gone (s.takeFree was)
  else match s.pickFree bank (was :: s.reserved) with
    | none => s.failBank bank
    | some e =>
      let code := extCode bank e
      if s.reserved.contains was then
        let s := s.takeFree was
        let s := { s with cmt.pipe := s.cmt.pipe.map (fun (q : PipeRec) => { q with
          newExtents := q.newExtents.map (fun (x : Nat × Nat) => if x.2 = was then (x.1, code) else x) }) }
        gone ((s.stampEpoch [code] (s.tollValue 2)).touchAll (extentLines 0x0F 0 code))
      else match (s.inService bank).find? (fun x => x.2.2 == ext) with
        | some (p, k, _) => gone ((((s.takeFree code).copyExtent p k was code)).setCode p k code)
        | none => match s.fixedOwner bank ext with
          | some (p, k, home) =>
            let s := (s.takeFree code).copyExtent p k was code
            gone { s with arr.fixedMap := nset s.arr.fixedMap home code home }
          | none => gone s

/-- Retires a line to a spare line (R118): the spare takes the line's sectors and its place, with the
cycles that the spare has had, and both copies of the bank's spare map take the entry. -/
def retireLine (s : State) (bank line : Nat) : State :=
  let used := nth s.arr.spareUsed bank
  if used < 255 then
    let key := bank * 65536 + line
    let spare := bank * 65536 + 32768 + used
    let own := s.ownLine bank line
    let had := s.lineCycles bank (32768 + used)
    let maps := ([bank, (bank + 2) % 4].filter (fun b => nth s.arr.banks b != 2)).map (fun b =>
      (⟨b, spareMapArea + used / 64 + (if b = bank then 0 else 4), 0x0F, 0⟩ : Prog))
    let s := { s with
      arr.spareUsed := setNth s.arr.spareUsed bank (used + 1)
      arr.spareMap := nset s.arr.spareMap key (used + 1) 0
      arr.spareMapB := if nth s.arr.banks ((bank + 2) % 4) = 2 then s.arr.spareMapB
        else nset s.arr.spareMapB key (used + 1) 0
      arr.tags := nset (nset s.arr.tags spare freshTag freshTag) key
        { s.lineTag bank line with cycles := had } freshTag }
    let s := (s.touchAll (own :: maps)).raise 0x0E8 2
    let s := if 255 - (used + 1) < 16 then s.raise 0x0E8 6 else s
    s.noteRetire bank
  else (s.retireExtent bank line).noteRetire bank

/-- The repeats made so far of the pulse on a target (R117). -/
def pulseRepeats (s : State) (t : PulseTarget) : Nat :=
  match s.cmt.pulseRetries.find? (fun e => e.1 == t) with
  | some e => e.2
  | none => 0

/-- Sets the repeats of a target; 0 takes it from the list. -/
def setRepeats (s : State) (t : PulseTarget) (n : Nat) : State :=
  let rest := s.cmt.pulseRetries.filter (fun e => e.1 != t)
  { s with cmt.pulseRetries := if n = 0 then rest else rest ++ [(t, n)] }

/-- Estimated cost of a pulse of a granted record: with TAG_VAUX absent, by the band in which it was granted
(R190). -/
def pulseCost (s : State) (p : PipeRec) : Nat := eSec (if s.wired then s.pwr.band else p.band)

/-- A sector pulse that has ended lowers the grant of its record by its estimated cost; repeats are paid
from the margin of the costs (R188). A line shared by records is programmed for them in S1 order: the pulse
is of the first one whose pulses are not all spent (DESIGN CHOICE, log entry 101). The pulses of a Knell
segment are counted with the segment. -/
def spendPulse (s : State) (t : PulseTarget) : State := match t with
  | .toll _ _ => s
  | .line bank line =>
    match s.cmt.pipe.find? (fun (p : PipeRec) => p.granted.any (fun n => 3000 < n) &&
        (s.pipeLines p 0 p.sectors).any (fun l => l.bank == bank && l.line == line)) with
    | some p => s.modPipe p.id (fun p => { p with granted := p.granted.map (fun n => n - s.pulseCost p) })
    | none => s

/-- SECTOR_PULSE_DONE (R117): a verify that fails repeats the pulse up to VERIFY_RETRY times, then
retires the line or moves the toll copy (R105, R118). -/
def effSectorPulseDone (s : State) (t : PulseTarget) (ok : Bool) : State :=
  if ok then (s.setRepeats t 0).spendPulse t
  else if s.pulseRepeats t < s.verifyRetry then
    let s := (s.setRepeats t (s.pulseRepeats t + 1)).count 0x108
    match t with
    | .line bank line => if 4 ≤ bank then s else s.touchAll [s.ownLine bank line]
    | .toll c copyB =>
      match if copyB then (s.toll c).ringB else (s.toll c).ringA with
      | some r => s.touchAll [cellLine r (r.used % 128)]
      | none => s
  else
    let s := s.setRepeats t 0
    match t with
    | .line bank line => if 4 ≤ bank then s else s.retireLine bank line
    | .toll c copyB =>
      if 32 ≤ c || (if copyB then (s.toll c).ringB else (s.toll c).ringA).isNone then s
      else s.tollMove c copyB (if copyB then (s.toll c).b else (s.toll c).a)

/-- The counted energy of TAG_HOLD, the field reservoir and TAG_STORE has fallen to E_res + 2 µJ,
no GOOD cell feeds AON, and a state change waits to be saved (R184). -/
def keepAliveDue (s : State) : Bool :=
  s.cmt.dirty && !s.cellFeeds &&
    s.counted true true true false ≤ s.eRes + 2000

/-- The record of the open batch is created under a grant (R510). -/
def createBatch (s : State) (cost : Nat) : State :=
  let payload := batchPayload s.log.batchInterval s.log.batch
  let id := s.cmt.nextId
  let s := { s with log.batch := [] }
  let s := s.create 3 0x40#8 payload .batch
  { s with cmt.pipe := s.cmt.pipe.map (fun (p : PipeRec) =>
      if p.id = id && p.hook == .batch then { p with granted := some cost, band := s.pwr.band } else p) }

/-- Commits the open batch when it can be granted; otherwise its job waits in the commit queue
(R510). -/
def requestBatch (s : State) : State :=
  if s.log.batch.isEmpty || s.hasJob .batch then s
  else
    let s := s.boundary .admission
    let cost := s.batchCost
    let job : Job := { id := s.cmt.nextId, queue := 0, cost := cost, weight := 1, kind := .batch }
    let free := s.s1Open && s.cmt.s1wait.isEmpty && s.heldAudit.isNone &&
      s.hasRoomN (sectorsOf (8 + 16 * s.log.batch.length)) 2
    if free && (s.queueHead 0).isNone && s.verdict job = .grant then s.createBatch cost
    else s.enqueue 0 cost 1 .batch

/-- The open batch is committed at once, as a record of its own between groups (R30). -/
def commitBatch (s : State) : State :=
  if s.log.batch.isEmpty then s
  else
    let payload := batchPayload s.log.batchInterval s.log.batch
    let s := (({ s with log.batch := [] }).createNow 3 0x40#8 payload).dropKind .batch
    (s.raise 0x56C 1).count 0x57C

/-- No record and no other job stands before the batch in the commit queue (R185). -/
def batchFirst (s : State) : Bool := match s.queueHead 0 with
  | none => true
  | some j => s.pwr.jobs.any (fun x => x.id == j.id && x.kind == .batch)

/-- The open batch commits before a save when its commit can be granted; otherwise it stays open in AON
and its job waits (R30, R510; log entry 83). -/
def batchBeforeSave (s : State) : State :=
  let s := s.boundary .admission
  let job : Job := { id := s.cmt.nextId, queue := 0, cost := s.batchCost, weight := 1, kind := .batch }
  if (s.s1Open || s.boot.keyedStop) && s.batchFirst && s.verdict job = .grant then s.commitBatch
  else s.requestBatch

/-- A keep-alive save (R102, R184), with the logger's open batch before it (R30). -/
def saveNow (s : State) (clean : Bool) : State := (s.batchBeforeSave).keepAlive clean

end State

end Sys2Proof.Machine
end

