-- ==== Sys2Proof/Machine/Notify.lean ====
section
/-! DEFINITION. What the tag sends back: frames cut into packets (R210, R249), MGMT completions (R258), mailbox results (R487), released credits (R224); and abandonment with all it frees. -/

namespace Sys2Proof.Machine

/-- A frame's bytes: header, body, and the END trailer (R249, R250). -/
def frameBytes (header body : List Byte) : List Byte :=
  let t := zeroBytes 4
  header ++ body ++ t ++ wordBytes (crc32c (header ++ body ++ t))

/-- Cuts a frame into packets of at most 128 payload bytes (R210, R225). -/
def cutPackets (cls : Cls) (fuel : Nat) (first : Bool) (bs : List Byte) : List TxPkt :=
  match fuel with
  | 0 => []
  | fuel + 1 =>
    let rest := bs.drop 128
    { seq := 0#12, cls := cls, sof := first, eof := rest.isEmpty, payload := bs.take 128 } ::
      (if rest.isEmpty then [] else cutPackets cls fuel false rest)

/-- MGMT completion status codes (R260). -/
def stOk : Nat := 0x00
def stUnsupported : Nat := 0x01
def stMalformed : Nat := 0x02
def stUnaligned : Nat := 0x03
def stWidth : Nat := 0x04
def stGuard : Nat := 0x05
def stKey : Nat := 0x06
def stWonce : Nat := 0x07
def stBusy : Nat := 0x08
def stNoRecord : Nat := 0x09
def stReclaimed : Nat := 0x0A
def stNoSession : Nat := 0x0B
def stLeased : Nat := 0x0C
def stFull : Nat := 0x0D
def stPower : Nat := 0x0E
def stDamaged : Nat := 0x0F
def stNoEntropy : Nat := 0x10
def stType : Nat := 0x11
def stAbandoned : Nat := 0x12
def stDuplicate : Nat := 0x13
def stValue : Nat := 0x14

/-- The port of a request (R261): its session, or the host's requests without one. -/
def MgmtHdrPort (h : MgmtHdr) : Port := match h.session with
  | some c => .session c
  | none => .host h.requester.toNat

/-- A difference modulo 65,536. -/
def diff16 (a b : Nat) : Nat := (a + 65536 - b % 65536) % 65536

namespace State

/-- Pool sizes of a STM_CREDIT_CFG value in KiB: EVENT, MGMT, PEAL. -/
def poolsOf (w : Word) : Nat × Nat × Nat := (w.field 31 22, w.field 13 6, w.field 21 14)

/-- STM_CREDIT_CFG is valid (R222). -/
def creditCfgOk (w : Word) : Bool :=
  let (e, m, p) := poolsOf w
  8 ≤ e && 8 ≤ m && 8 ≤ p && e + m + p ≤ 944

/-- Pools in force in credits, by class code (R221). -/
def pools (s : State) : List Nat :=
  let (e, m, p) := poolsOf (s.force 0x1A8)
  [256, 16 * e, 16 * m, 16 * p]

/-- Queues a frame of the tag for sending; during a Knell every frame that falls due is discarded
(R238). -/
def sendFrame (s : State) (cls : Cls) (header body : List Byte) : State :=
  if s.knellRunning then s
  else { s with lnk.txQ := s.lnk.txQ ++ cutPackets cls 64 true (frameBytes header body) }

/-- The header of a completion (R258). -/
def completionHeader (s : State) (h : MgmtHdr) (op status flags len : Nat) (fields : List Byte) :
    List Byte :=
  let p := MgmtHdrPort h
  let prev := if s.rf.prevReject.contains p || s.rf.notices.contains p then 1 else 0
  [BitVec.ofNat 8 (128 + op), h.requester] ++ leBytes 2 h.tag.toNat ++
  [BitVec.ofNat 8 status, BitVec.ofNat 8 (flags ||| prev)] ++ leBytes 2 len ++
  (fields ++ zeroBytes 8).take 8

/-- Sends a completion (R258). `flags` are bits 1 to 3 of byte 5. A status other than OK and
DUPLICATE sets MGMT_ERR and is counted (R290). It tells of the port's refused posted writes (R433). -/
def complete (s : State) (h : MgmtHdr) (op status flags : Nat) (fields body : List Byte) : State :=
  let s := if status = stOk || status = stDuplicate then s
    else (s.raise 0x230 9).countBy 0x250 31 16 1
  let s := s.sendFrame .mgmt (s.completionHeader h op status flags body.length fields) body
  { s with rf.notices := s.rf.notices.filter (fun (q : Port) => q != MgmtHdrPort h) }

/-- A completion with a status and nothing else. -/
def answer (s : State) (h : MgmtHdr) (op status : Nat) : State := s.complete h op status 0 [] []

/-- A port's mailbox set (R489). -/
def mbx (s : State) (p : Port) : Mbx := match p with
  | .regp => s.rf.mbx
  | .session c => match s.ses.ctxs.find? (fun e => e.1 == c) with
    | some e => e.2.mbx
    | none => {}
  | .host _ => {}

/-- Changes a port's mailbox set. -/
def modMbx (s : State) (p : Port) (f : Mbx → Mbx) : State := match p with
  | .regp => { s with rf.mbx := f s.rf.mbx }
  | .session c => { s with ses.ctxs := s.ses.ctxs.map (fun e =>
      if e.1 = c then (e.1, { e.2 with mbx := f e.2.mbx }) else e) }
  | .host _ => s

/-- Ends a mailbox operation with a result, a detail code and a reply (R484, R486, R487): MBX_D0 to
MBX_D3 take a reply where there is one. -/
def endMbx (s : State) (p : Port) (result detail : Nat) (reply : List Byte) : State :=
  s.modMbx p (fun m => { m with
    busy := false, valid := result == 0, result := result, detail := detail, len := reply.length
    waitLen := none
    d0 := if reply.isEmpty then m.d0 else BitVec.ofNat 32 (leNat (slice reply 0 4))
    d1 := if reply.isEmpty then m.d1 else BitVec.ofNat 32 (leNat (slice reply 4 4))
    d2 := if reply.isEmpty then m.d2 else BitVec.ofNat 32 (leNat (slice reply 8 4))
    d3 := if reply.isEmpty then m.d3 else BitVec.ofNat 32 (leNat (slice reply 12 4)) })

/-- The limit of each class other than KNELL exceeds what is consumed by its pool (R239). -/
def poolsFull (s : State) : Bool := (List.range' 1 3).all (fun c =>
  nth s.pools c ≤ diff16 (nth s.lnk.rxLimit c) (nth s.lnk.rxUsed c))

/-- Raises the KNELL limit by `n`, at most to 256 credits beyond what is consumed (R239). -/
def raiseKnell (s : State) (n : Nat) : State :=
  let out := diff16 (nth s.lnk.rxLimit 0) (nth s.lnk.rxUsed 0)
  { s with
    lnk.rxLimit := modNth s.lnk.rxLimit 0 (fun x => (x + min n (256 - out)) % 65536)
    lnk.creditPending := true }

/-- KNELL credits that waited return once every other class has its pool again (R239). -/
def knellTurn (s : State) : State :=
  if s.lnk.knellLast && s.poolsFull then
    { s with
      lnk.knellLast := false
      lnk.withheld := setNth s.lnk.withheld 0 0 }.raiseKnell (nth s.lnk.withheld 0)
  else s

/-- The space of `n` credits of a class is free (R89). -/
def freeSpace (s : State) (c n : Nat) : State :=
  { s with lnk.rxHeld := modNth s.lnk.rxHeld c (fun x => x - n) }

/-- Returns credits of a class (R224). While shedding step 3 holds, EVENT, MGMT and PEAL credits are
withheld (R239); during a Knell every freed credit goes to KNELL (R141), whose limit afterwards stays
within 256 credits of what is used and waits for the other classes (R239). After a fresh training, which
advertises the whole pool, the first credits that come free make good what earlier packets of the class
still held (DESIGN CHOICE, log entry 103). -/
def releaseCredits (s : State) (c n : Nat) : State :=
  let old := min n (nth s.lnk.rxOld c)
  let s := { s.freeSpace c n with lnk.rxOld := modNth s.lnk.rxOld c (fun x => x - old) }
  let n := n - old
  if n = 0 then s
  else
    if s.knellRunning then
      { s with
        lnk.rxLimit := modNth s.lnk.rxLimit 0 (fun x => (x + n) % 65536)
        lnk.creditPending := true }
    else if (c ≠ 0 && 3 ≤ s.pwr.step) || (c = 0 && s.lnk.knellLast) then
      { s with lnk.withheld := modNth s.lnk.withheld c (fun x => x + n) }
    else if c = 0 then s.raiseKnell n
    else
      { s with
        lnk.rxLimit := modNth s.lnk.rxLimit c (fun x => (x + n) % 65536)
        lnk.creditPending := true }.knellTurn

/-- Drumhead credits of 64 bytes that a pipeline record takes of the tag's own staging share: its payload,
unless it holds credits of a class (R89, R221; log entry 84). A Knell segment holds those of its
frames. -/
def ownSpace (p : PipeRec) : Nat :=
  if p.credits.isSome || p.hook = .segment then 0 else ceilDiv p.record.payload.length 64

/-- Drumhead credits that the tag's own records hold until their commit point or abandonment (R89). -/
def pipeSpace (s : State) : Nat := total (s.cmt.pipe.map ownSpace)

/-- Releases the credits that a pipeline record holds (R89, R224). -/
def releaseRec (s : State) (p : PipeRec) : State := match p.credits with
  | some (c, n) => s.releaseCredits c.code n
  | none => s

/-- Tells the party that waits for a record that it was abandoned (R265, R521). -/
def noticeAbandon (s : State) (hook : Hook) : State := match hook with
  | .mgmtWrite h => s.answer h 0x11 stAbandoned
  | .mbxWrite => s.endMbx .regp 6 6 []
  | .timeSet p => s.endMbx p 6 6 []
  | .keySlot _ p _ => s.endMbx p 6 6 []
  | _ => s

/-- Abandons a record with all it frees and tells its writer (R92, R224, R254). -/
def dropRec (s : State) (p : PipeRec) : State :=
  let gs := s.leads p
  (((s.abandon p).undoLeads gs).releaseRec p).noticeAbandon p.hook

/-- Abandons a record; what waits for room at S1 may follow (R85). -/
def drop (s : State) (p : PipeRec) : State := (s.dropRec p).drain

/-- Abandons every record that `f` picks, the latest first. -/
def dropEach (s : State) (f : PipeRec → Bool) : State :=
  (s.cmt.pipe.filter f).reverse.foldl (fun s p =>
    match s.pipeRec p.id with
    | some q => s.dropRec q
    | none => s) s

/-- Abandons every record that `f` picks; what waits for room at S1 may follow (R85). -/
def dropAll (s : State) (f : PipeRec → Bool) : State := (s.dropEach f).drain

/-- A frame layer failure: PEAL_BADFRAME_CNT.INVALID and PEAL_STATUS.BAD_FRAME (R254). -/
def badFrame (s : State) : State := (s.countBy 0x238 15 0 1).raise 0x230 2

/-- A poisoned frame: PEAL_BADFRAME_CNT.POISONED and PEAL_STATUS.POISON (R254). -/
def poisonFrame (s : State) : State := (s.countBy 0x238 31 16 1).raise 0x230 3

/-- Takes the credits of the oldest finished frame of a class. -/
def takeDone (s : State) (c : Nat) : State × Nat :=
  match s.lnk.doneFrames.getD c [] with
  | [] => (s, 0)
  | n :: t => ({ s with lnk.doneFrames := setNth s.lnk.doneFrames c t }, n)

/-- Releases the credits of a frame that stores nothing. -/
def freeFrame (s : State) (c : Nat) : State :=
  let (s, n) := s.takeDone c
  s.releaseCredits c n

/-- A frame that S1 does not accept: the credits of its packets so far return, and those of the rest
as they arrive (R224, R253). -/
def discardFrame (s : State) (c : Nat) : State :=
  match s.lnk.doneFrames.getD c [] with
  | n :: t => ({ s with lnk.doneFrames := setNth s.lnk.doneFrames c (0 :: t) }).releaseCredits c n
  | [] => match s.lnk.openFrame.getD c none with
    | some n => ({ s with
        lnk.openFrame := setNth s.lnk.openFrame c (some 0)
        lnk.discard := setNth s.lnk.discard c true }).releaseCredits c n
    | none => s

/-- Credits of a class that frames hold in Drumhead, apart from records: the open frame's, those of the
frames that have ended and wait, and of the REC_WRITE requests among them (R224). -/
def frameCredits (s : State) (c : Nat) : Nat :=
  (s.lnk.openFrame.getD c none).getD 0 + total (s.lnk.doneFrames.getD c []) +
    (if c = 2 then total s.peal.writeCredits else 0)

/-- The record whose frame is open in a class. -/
def openRec (s : State) (c : Cls) : Option PipeRec :=
  s.cmt.pipe.find? (fun p => p.openFrame == some c)

/-- The header of an EVENT frame that waits for room at S1 with its end still to come. -/
def waitingHeader (s : State) : Option EventHdr := match s.peal.eventWait.getLast? with
  | some (.eventFrame .header h _) => some h
  | _ => none

/-- Forgets a frame header that waits for room at S1 with its end still to come. -/
def dropHeader (s : State) (c : Cls) : State :=
  let cut := fun (l : List Instr) => match l.getLast? with
    | some (.eventFrame .header _ _) => l.dropLast
    | some (.pealCopyFrame .header _ _) => l.dropLast
    | _ => l
  match c with
  | .event => { s with peal.eventWait := cut s.peal.eventWait }
  | .peal => { s with peal.copyWait := cut s.peal.copyWait }
  | _ => s

/-- Forgets the tag's packets to send and to replay. -/
def clearTx (s : State) : State :=
  { s with lnk.txQ := [], lnk.replay := [], lnk.cursor := 0, lnk.oldest := s.lnk.next }

/-- SPHY gates: the link goes to OFF; open frames' records that are not granted are abandoned, and
no GAP record is made (R241, R243). -/
def linkOff (s : State) : State :=
  let s := s.dropAll (fun p => p.credits.isSome && p.granted.isNone && p.hook != .segment)
  let s := s.dropAll (fun p => p.openFrame.isSome && p.granted.isNone)
  let s := (List.range 4).foldl (fun s c => s.releaseCredits c (s.frameCredits c)) s
  { s.clearTx with
    lnk.openFrame := [none, none, none, none], peal.eventWait := [], peal.copyWait := []
    peal.mgmtWait := [], peal.pullHeads := [], peal.writeCredits := [], peal.readFound := []
    lnk.doneFrames := [[], [], [], []], lnk.knellLast := false, stm.reqWhy := []
    stm.st := 0, stm.rxLanes := 0#4, stm.txLanes := 0#4, stm.held := false, stm.req := none
    stm.retraining := false, stm.resumeOk := false
    pwr.domOn := setNth (setNth s.pwr.domOn 16 false) 17 false }

end State

end Sys2Proof.Machine
end

