-- ==== Sys2Proof/Machine/Frames.lean ====
section
/-! DEFINITION. The bytes of received frames (R249 to R252, R257, R259, R276, R277): the header that the fields of a frame command make, and the end check of a frame whose header and trailer are given as they arrived. -/

namespace Sys2Proof.Machine

/-- The trailer of a frame is whole, its reserved bytes are 0 and its CRC checks (R250). -/
def trailerOk (header body trailer : List Byte) : Bool :=
  trailer.length == 8 && byteAt trailer 0 == 0 && slice trailer 1 3 == zeroBytes 3 &&
    slice trailer 4 4 == wordBytes (crc32c (header ++ body ++ trailer.take 4))

/-- The end check of a frame as it arrived (R251): `ok` says that its header's length field gives the
body's length and that the header's reserved fields are 0. A POISON end code poisons the frame, whatever
its CRC. -/
def rawEnd (ok : Bool) (header body trailer : List Byte) : FrameEnd :=
  if byteAt trailer 0 = 1 then .poisoned
  else if ok && header.length == 16 && trailerOk header body trailer then .good
  else .failed

/-- How a frame ends whose header must be `want` (R251). -/
def endCheck (want : List Byte) (e : FrameEnd) (body : List Byte) : FrameEnd := match e with
  | .raw header trailer => rawEnd (header == want) header body trailer
  | e => e

/-- The header of an EVENT frame (R252). -/
def eventHeaderBytes (h : EventHdr) : List Byte :=
  [h.typ, BitVec.ofNat 8 (bitNat h.first + 2 * bitNat h.last)] ++ leBytes 2 h.bodyLen ++
    leBytes 2 (h.source % 1024) ++ [0#8, 0#8] ++ wordBytes h.seq ++ wordBytes h.ssn

/-- The end check of a frame whose header states a body of `n` bytes (R251). -/
def lengthCheck (n : Nat) (e : FrameEnd) (body : List Byte) : FrameEnd :=
  if e = .good && body.length != n then .failed else e

/-- The end check of an EVENT frame. -/
def eventCheck (h : EventHdr) (e : FrameEnd) (body : List Byte) : FrameEnd :=
  lengthCheck h.bodyLen (endCheck (eventHeaderBytes h) e body) body

/-- The header of a COPY frame (R276). -/
def copyHeaderBytes (h : CopyHdr) : List Byte :=
  [1#8, BitVec.ofNat 8 (h.origin % 64), BitVec.ofNat 8 h.attempt, 0#8] ++ wordBytes h.cid ++
    leBytes 8 h.dest.toNat

/-- The end check of a COPY frame. -/
def copyCheck (h : CopyHdr) (e : FrameEnd) (body : List Byte) : FrameEnd :=
  endCheck (copyHeaderBytes h) e body

/-- The header of a PACK frame (R277). -/
def packHeaderBytes (h : PackHdr) : List Byte :=
  [2#8, BitVec.ofNat 8 (h.acker % 64), BitVec.ofNat 8 h.result, BitVec.ofNat 8 h.origin] ++
    wordBytes h.cid ++ leBytes 8 h.stroke

/-- The end check of a PACK frame, which has no body. A PEAL frame of a kind other than COPY and PACK
fails it (R248). -/
def packCheck (h : PackHdr) (e : FrameEnd) : FrameEnd := endCheck (packHeaderBytes h) e []

/-- The end of a KNELL frame whose type byte satisfies `ok` (R251, R252): the tag ignores bytes 1 and 8 to
11. -/
def knellEnd (ok : Byte → Bool) (e : FrameEnd) (body : List Byte) : FrameEnd := match e with
  | .raw header trailer =>
    rawEnd (ok (header.headD 0#8) && leNat (slice header 2 2) == body.length &&
      leNat (slice header 4 2) < 1024 && slice header 6 2 == zeroBytes 2) header body trailer
  | e => e

/-- The end check of a KNELL frame of a type (R248). A frame of any other type is invalid. -/
def knellCheck (typ : Byte) (e : FrameEnd) (body : List Byte) : FrameEnd := knellEnd (fun b => b == typ) e body

/-- A KNELL frame that is whole but for its type, which is reserved (R26). -/
def knellReserved (e : FrameEnd) (body : List Byte) : Bool := match e with
  | .raw _ _ => knellEnd (fun b => !definedType b) e body == .good
  | _ => false

/-- Header bytes 1 to 7 of a MGMT request with a body of `n` bytes (R257). -/
def requestHead (h : MgmtHdr) (n : Nat) : List Byte :=
  [h.requester] ++ leBytes 2 h.tag.toNat ++
    [match h.session with | some c => BitVec.ofNat 8 (128 + c % 64) | none => 0#8, 0#8] ++ leBytes 2 n

/-- What a request's opcode fixes of its frame (R259, R449): the opcode, header bytes 8 to 15, and the
body. -/
structure Request where
  op : Nat
  fields : List Byte
  body : List Byte
  deriving DecidableEq, Repr

/-- Bytes of a register access by its width code (R259). -/
def widthBytes (code : Nat) : Nat := 2 ^ code

/-- The request that a command's operands make (R259, R449). -/
def requestOf (i : Instr) : Option (MgmtHdr × Request) :=
  let pad := fun (l : List Byte) => (l ++ zeroBytes 8).take 8
  match i with
  | .regRead h a w => some (h, ⟨0x01, pad (leBytes 2 a ++ [BitVec.ofNat 8 w]), []⟩)
  | .regWrite h a w d => some (h, ⟨0x02, pad (leBytes 2 a ++ [BitVec.ofNat 8 w]),
      leBytes (widthBytes w) d.toNat⟩)
  | .recRead h stroke mode arg opened => some (h, ⟨0x10, leBytes 8 stroke,
      [BitVec.ofNat 8 mode, BitVec.ofNat 8 arg, BitVec.ofNat 8 (bitNat opened)] ++ zeroBytes 5⟩)
  | .recWrite h typ first last seq payload => some (h, ⟨0x11,
      [typ, BitVec.ofNat 8 (bitNat first + 2 * bitNat last), 0#8, 0#8] ++ wordBytes seq,
      payload⟩)
  | .sessionOpenHello h method rights point => some (h, ⟨0x20, zeroBytes 8,
      [1#8, BitVec.ofNat 8 method, rights] ++ zeroBytes 5 ++ point⟩)
  | .sessionOpenProve h sig => some (h, ⟨0x20, zeroBytes 8,
      2#8 :: zeroBytes 7 ++ sig⟩)
  | .sessionClose h => some (h, ⟨0x21, zeroBytes 8, []⟩)
  | .lease h part op seconds => some (h, ⟨0x30,
      pad ([BitVec.ofNat 8 part, BitVec.ofNat 8 op] ++ leBytes 2 seconds), []⟩)
  | .stagePull h => some (h, ⟨0x40, zeroBytes 8, []⟩)
  | _ => none

/-- The opcodes of R259. -/
def requestOpcode (op : Nat) : Bool :=
  [0x01, 0x02, 0x10, 0x11, 0x20, 0x21, 0x30, 0x40].contains op

/-- Header bytes 1 to 7 of a request as they arrived, its context number left out where SV is 0 (R257). -/
def sharedFields (header : List Byte) : List Byte :=
  let b := slice header 1 7
  if byteAt b 3 < 64 then setNth b 3 0#8 else b

/-- The end check of a request frame (R251, R257): of its header the shared fields and their reserved bits;
the opcode, its own fields and the body are the request's to answer for (R259, R260). -/
def requestCheck (h : MgmtHdr) (q : Request) : FrameEnd := match h.ending with
  | .raw header trailer =>
    let body := h.bodyRaw.getD q.body
    rawEnd (sharedFields header == requestHead h body.length) header body trailer
  | e => e

/-- The opcode and status with which a request is turned away before it is looked at, none for one that is
in order (R259, R260): an unknown opcode, or a field of the opcode that is reserved and not 0 or out of
range. Header bytes 8 to 15 that an opcode gives no meaning count as reserved (DESIGN CHOICE, log entry
106). -/
def requestFault (h : MgmtHdr) (q : Request) : Option (Nat × Nat) :=
  let shape := if h.bodyRaw.getD q.body = q.body then none else some (q.op, stMalformed)
  match h.ending with
  | .raw header _ =>
    if !requestOpcode (byteAt header 0) then some (byteAt header 0 % 128, stUnsupported)
    else if slice header 8 8 != q.fields then some (q.op, stMalformed)
    else shape
  | _ => shape

end Sys2Proof.Machine
end

