-- ==== Sys2Proof/Machine/KnellCore.lean ====
section
/-! DEFINITION. The Knell engine's plan, selection, slots, segments and close (R137 to R160). -/

namespace Sys2Proof.Machine

/-- Segments of a bundle of `b` bytes (R143). -/
def segCount (b : Nat) : Nat := ceilDiv b 3968

/-- Lines per image of a bundle of `b` bytes (R143). -/
def bundleLines (b : Nat) : Nat := ceilDiv (b + 64 * segCount b) 256

/-- The Knell cost E_K of R143 in tenths of nJ. -/
def knellCost (eline a b : Nat) : Nat :=
  600000 + 3 * a + 10 * eline * bundleLines b + 5000 * segCount b

/-- The room that a bundle needs in one image (R61). -/
def imageNeed (b : Nat) : Nat := b + 64 * segCount b + 4128

/-- The largest number in `lo .. hi` that satisfies a falling predicate, `lo` when none does. -/
def largest (f : Nat → Bool) (lo hi fuel : Nat) : Nat := match fuel with
  | 0 => lo
  | fuel + 1 =>
    if hi ≤ lo then lo
    else
      let mid := (lo + hi + 1) / 2
      if f mid then largest f mid hi fuel else largest f lo (mid - 1) fuel

/-- Section headers of a directory (R137). -/
def parseSections (body : List Byte) (n : Nat) : List Section :=
  (List.range n).map (fun i =>
    let h := slice body (32 + 16 * i) 16
    { code := byteAt h 0, priority := byteAt h 1 % 16, offset := leNat (slice h 4 4),
      length := leNat (slice h 8 4), crc := BitVec.ofNat 32 (leNat (slice h 12 4)) })

/-- Each section begins where the one before it ends (R138), and holds at least one byte, as R137 says of
its length; a section of length 0 makes the directory invalid, which the list of R138 does not name
(DESIGN CHOICE, log entry 82). -/
def sectionsTile (at0 : Nat) (ss : List Section) : Option Nat := match ss with
  | [] => some at0
  | x :: t => if x.offset = at0 && 1 ≤ x.length then sectionsTile (at0 + x.length) t else none

/-- The directory of an opening frame, when it is valid (R138): its sections and the length A. -/
def parseDirectory (body : List Byte) : Option (List Section × Nat) :=
  let n := byteAt body 2
  let a := leNat (slice body 4 4)
  let ss := parseSections body n
  let crcOk := leNat (slice body 28 4) =
    (crc32c (body.take 28 ++ slice body 32 (16 * n))).toNat
  if leNat (slice body 0 2) = 1 && 1 ≤ n && n ≤ 64 && body.length = 32 + 16 * n && crcOk &&
      a ≤ 786432 && sectionsTile (32 + 16 * n) ss == some a then some (ss, a)
  else none

/-- The sections in the order of selection: by priority, then by position (R145). -/
def byPriority (ss : List Section) : List Nat :=
  (List.range 16).flatMap (fun p =>
    (List.range ss.length).filter (fun i => match ss[i]? with
      | some x => x.priority == p
      | none => false))

/-- Selection (R145): takes sections in order until the first that does not fit. -/
def selectSections (ss : List Section) (order : List Nat) (used limit : Nat) : List Nat :=
  match order with
  | [] => []
  | i :: t => match ss[i]? with
    | none => []
    | some x => if limit < used + x.length then [] else i :: selectSections ss t (used + x.length) limit

/-- Bytes of a data frame that belong to kept sections, in order (R140, R145). -/
def keptBytes (ss : List Section) (kept : List Nat) (off : Nat) (data : List Byte) : List Byte :=
  ((List.range ss.length).filter (fun i => kept.contains i)).flatMap (fun i => match ss[i]? with
    | none => []
    | some x =>
      let lo := max off x.offset
      let hi := min (off + data.length) (x.offset + x.length)
      if lo < hi then (data.drop (lo - off)).take (hi - lo) else [])

/-- How many of the first `m` bytes of a data frame belong to kept sections. -/
def keptCount (ss : List Section) (kept : List Nat) (off m : Nat) : Nat :=
  total (kept.map (fun i => match ss[i]? with
    | none => 0
    | some x => min (off + m) (x.offset + x.length) - max off x.offset))

/-- The credits of a KNELL frame that hold kept bytes (R141): for each, the stored length up to its last
kept byte. The first `base` bytes are stored before the frame, its first data byte follows `hdr` other
bytes, and `keep m` of its first `m` data bytes are kept. The frame's credits take its bytes in units of
64 (log entry 82). -/
def heldBy (base hdr len : Nat) (keep : Nat → Nat) (n : Nat) : List (Nat × Nat) :=
  (List.range n).filterMap (fun j =>
    let hi := if j + 1 = n then len else min len (64 * (j + 1) - hdr)
    if keep (64 * j - hdr) < keep hi then some (base + keep hi, 1) else none)

/-- Outcome of one section when intake ends (R165). `dropCode` is 2 for energy, 3 for size. -/
def sectionOutcome (i : Intake) (dropCode pos storedAt : Nat) (x : Section) : SectionOut :=
  if i.kept.contains pos then
    let got := min x.length (i.bytes.length - storedAt)
    let bytes := slice i.bytes storedAt x.length
    let code := if got = x.length then (if crc32c bytes = x.crc then 0 else 1)
      else if got = 0 then 5 else 4
    { position := pos, outcome := code, priority := x.priority,
      storedAt := if got = 0 then 4294967295 else storedAt, storedLen := got }
  else { position := pos, outcome := dropCode, priority := x.priority, storedAt := 4294967295,
         storedLen := 0 }

/-- The outcomes of all sections, in section-table order. -/
def outcomes (i : Intake) (dropCode : Nat) (ss : List Section) (pos storedAt : Nat) :
    List SectionOut := match ss with
  | [] => []
  | x :: t =>
    sectionOutcome i dropCode pos storedAt x ::
      outcomes i dropCode t (pos + 1) (if i.kept.contains pos then storedAt + x.length else storedAt)

/-- A noise source whose domain gates (R408); FAILED stays. -/
def offSource (v : Source) : Source := if v.state = 5 then v else { v with state := 0, fast := false }

/-- A stopped job that is run again from its start at its next admission (R189). -/
def restarts (k : JobKind) : Bool := match k with
  | .checkpoint => true
  | .kIndex => true
  | .kSign _ => true
  | .bivik _ => true
  | .exportSeal => true
  | _ => false

/-- An entropy request of a job that Knell entry or step 6 stops; a HELLO is no job. -/
def jobRequest (r : EntReq) : Bool := match r.use with
  | .hello _ _ => false
  | _ => true

/-- A job that Knell entry leaves alone: the grants of records and of the Knell itself (R134, R189). -/
def keptGrant (k : JobKind) : Bool := match k with
  | .recGrant _ => true
  | .knell => true
  | .batch => true
  | .fieldWrite => true
  | _ => false

namespace State

/-- Size of one Knell image in bytes (R60, R61). -/
def imageBytes (s : State) : Nat := nth s.arr.sizes 4 * 4096

/-- The size limit in bytes (R144, R170). -/
def sizeLimit (s : State) : Nat :=
  let cfg := clampTo 1 192 (s.cfg 0x164 15 8) * 4096
  if imageNeed cfg ≤ s.imageBytes then cfg
  else largest (fun b => imageNeed b ≤ s.imageBytes) 0 cfg 24

/-- E_avail in nJ from the current gauge figures (R142). -/
def eAvail (s : State) : Nat := s.eHoldUj * 850 - s.eRes - s.eGrant

/-- The largest bundle that the energy covers (R144). -/
def energyLimit (eline avail a : Nat) : Nat :=
  largest (fun b => knellCost eline a b ≤ avail * 10) 0 786433 24

/-- The same with A equal to the bundle kept, as R147 computes it. -/
def energyLimitSelf (eline avail : Nat) : Nat :=
  largest (fun b => knellCost eline b b ≤ avail * 10) 0 786433 24

/-- The HOLD capacitance allows arming (R135). -/
def holdOk (s : State) : Bool := 100 ≤ s.pwr.capUf

/-- KNL_CTRL.EN. -/
def knlEnabled (s : State) : Bool := s.cfgBit 0x160 0

/-- Enters ARMED or leaves it as R135 says; entering ARMED is the block's natural boundary. -/
def rearmKnell (s : State) : State :=
  if s.kn.state = 0 || s.kn.state = 1 then
    if s.rf.ready && s.knlEnabled && s.holdOk && !s.cmt.recovering && !s.pwr.holdMeasuring then
      if s.kn.state = 1 then s
      else ({ s with kn.state := 1 }).boundary .knlArmed
    else { s with kn.state := 0 }
  else s

/-- A trigger while DISARMED (R135). -/
def unarmedTrigger (s : State) : State := s.raise 0x168 1

/-- The slot whose Knell number is the highest, none while no slot has had one. -/
def newestSlot (s : State) : Option Nat :=
  (List.range 8).foldl (fun (m : Option Nat) k =>
    let n := fun (j : Nat) => (s.kn.slots.getD j emptySlot).number
    if n k = 0 then m
    else match m with
      | none => some k
      | some j => if n j < n k then some k else m) none

/-- The order in which slots are tried after the previous Knell's slot (R151): the one that AON knows,
and otherwise the one of the highest Knell number in the array. -/
def slotOrder (s : State) : List Nat :=
  let start := if s.kn.trigNum != 0 then s.kn.lastSlot + 1
    else match s.newestSlot with
      | some k => k + 1
      | none => 0
  (List.range 8).map (fun i => (start + i) % 8)

/-- The slot that a Knell claims (R151), and whether it overwrites a PENDING bundle. -/
def pickSlot (s : State) : Option (Nat × Bool) :=
  let slot := fun i => s.kn.slots.getD i emptySlot
  let pick := fun (one : Bool) =>
    let ok := s.slotOrder.filter (fun i => (slot i).oneImage == one && (slot i).state != 4)
    match ok.find? (fun i => (slot i).state == 0 || (slot i).state == 3) with
    | some i => some (i, false)
    | none => (ok.find? (fun i => (slot i).state == 2)).map (fun i => (i, true))
  if s.kn.slots.any (fun x => !x.oneImage) then pick false else pick true

/-- Changes one slot. -/
def modSlot (s : State) (i : Nat) (f : Slot → Slot) : State :=
  { s with kn.slots := modNth s.kn.slots i f }

/-- Claims a slot with a stored update of the KNELL counter (R151). -/
def claimSlot (s : State) (i : Intake) : State × Intake :=
  let n := (s.tollValue 6 + 1) % 4294967296
  match s.pickSlot with
  | none => (s, i)
  | some (k, evict) =>
    let s := s.tollUpdate 6 n
    let was := s.kn.slots.getD k emptySlot
    let s := s.modSlot k (fun x => { x with state := 1, number := n })
    let s := { s with kn.lastSlot := k, kn.trigNum := n }
    let s := if evict then s.raise 0x168 7 else s
    let one := (s.slotImages k).map (fun im => nth s.arr.banks im.1 != 2)
    let pl := { i.plan with
      slot := k, number := n, overwrote := evict, imageA := one.getD 0 true, imageB := one.getD 1 true }
    (s, { i with claimed := some k, slotWas := was, plan := pl })

/-- The intake of a running Knell changes. -/
def setIntake (s : State) (i : Intake) : State := { s with kn.intake := some i }

/-- Intake goes on: unless nothing is to be stored, a slot is claimed and the Knell's energy granted
(R151, R187). -/
def beginStore (s : State) (i : Intake) (nothing : Bool) (cost : Nat) : State :=
  if nothing then { s.setIntake i with kn.state := 3 }
  else
    let (s, i) := s.claimSlot i
    let job : Job := { id := s.cmt.nextId, queue := 0, cost := cost, weight := 0, kind := .knell }
    let s := { s with pwr.grants := s.pwr.grants ++ [job] }
    { s.setIntake i with kn.state := 3 }

/-- Takes a directory that passed its end check: validity, selection, slot (R138, R145, R147). -/
def takeDirectory (s : State) (i : Intake) (body : List Byte) (credits : Nat) : State :=
  let avail := i.plan.avail
  match parseDirectory body with
  | some (ss, a) =>
    let dir := 32 + 16 * ss.length
    let size := s.sizeLimit
    let e := energyLimit i.eline avail a
    let limit := min e size
    let kept := if limit < dir then [] else selectSections ss (byPriority ss) dir limit
    let stored := if limit < dir then 0
      else dir + total (kept.map (fun p => match ss[p]? with | some x => x.length | none => 0))
    let cut := kept.length < ss.length
    let pl := { i.plan with
      announced := a, limit := limit, stored := stored, cut := cut
      endCode := 0 }
    let held := if limit < dir then [] else heldBy 0 16 body.length (fun m => m) credits
    let i := { i with
      opening := false, directory := 1, sections := ss, kept := kept, expected := dir
      bytes := if limit < dir then [] else body, target := a, plan := pl
      heldCredits := held }
    let s := if cut then s.raise 0x168 2 else s
    let s := { s with kn.dropCode := if e ≤ size then 2 else 3 }
    let s := s.releaseCredits 0 (credits - held.length)
    s.beginStore i (limit < dir) (knellCost i.eline a stored / 10)
  | none =>
    let limit := min (energyLimitSelf i.eline avail) s.sizeLimit
    let bytes := body.take limit
    let pl := { i.plan with limit := limit, endCode := 4 }
    let held := heldBy 0 16 body.length (fun m => min m limit) credits
    let s := s.releaseCredits 0 (credits - held.length)
    let i := { i with
      opening := false, directory := 2, expected := body.length, bytes := bytes, target := limit
      plan := pl, heldCredits := held }
    s.beginStore i (limit = 0) (knellCost i.eline limit limit / 10)

/-- A PENDING slot may be consolidated now: with TAG_VAUX, and otherwise while AON keeps its plan or
when its manifest is committed already (R161, R164). -/
def consolidable (s : State) (k : Nat) : Bool :=
  let x := s.kn.slots.getD k emptySlot
  x.state == 2 && (s.wired || x.manifest != 0 || s.kn.plans.any (fun p => p.slot == k))

/-- Queues the consolidation jobs of the oldest PENDING slot that may be consolidated (R160, R161). -/
def queueCons (s : State) : State :=
  let pend := (List.range 8).filter (fun k => s.consolidable k)
  let oldest := pend.foldl (fun (m : Option Nat) k => match m with
    | none => some k
    | some j => if (s.kn.slots.getD k emptySlot).number < (s.kn.slots.getD j emptySlot).number
      then some k else some j) none
  let busy := s.pwr.jobs.any (fun j => j.queue == 3 || j.kind == .kIndex) ||
    s.pwr.grants.any (fun j => j.queue == 3 || j.kind == .kIndex) || s.kn.signWait.isSome ||
    s.cmt.pipe.any (fun p => match p.hook with | .manifest _ => true | _ => false)
  match oldest with
  | none => s
  | some k =>
    if busy then s
    else if (s.kn.slots.getD k emptySlot).manifest = 0 then s.enqueue 3 215000 1 (.kSign k)
    else s.enqueue 0 ckptCost 2 .kIndex

/-- A calibration that is granted and has not reached its boundary (R386) goes back to its queue. -/
def calWaits (s : State) (k : JobKind) : Bool := match k with
  | .calibrate ch reason => s.snr.calBusy != some (ch, reason)
  | _ => false

/-- Every admitted job but a record's gives its grant back; those that run again from their start wait
(R189). -/
def releaseJobs (s : State) : State :=
  let again := s.pwr.grants.filter (fun (j : Job) =>
    (restarts j.kind && !(j.kind == .exportSeal && s.fldx.exportPend.isNone)) || s.calWaits j.kind)
  { s with
    pwr.grants := s.pwr.grants.filter (fun (j : Job) => keptGrant j.kind)
    pwr.jobs := again ++ s.pwr.jobs
    ent.waiting := s.ent.waiting.filter (fun (r : EntReq) => !jobRequest r)
    kn.signWait := none }

/-- The Peal engine loses every unsettled and waiting delivery (R283). -/
def pealForget (s : State) : State := { s with peal.unsettled := [], peal.backlog := [] }

/-- SNARE gates (R390): its registers return to reset, and all but the capture number is lost; the start-up
calibrations that it has not ended are still to be made (R385). -/
def snareOff (s : State) : State :=
  let s := s.resetRegs (fun off => off < 0x320 || 0x3E0 ≤ off)
  { s with
    snr := { capNum := s.snr.capNum, calFirst := s.snr.calFirst || !s.snr.startCals.isEmpty }
    pwr.domOn := setNth s.pwr.domOn 18 false
    pwr.jobs := s.pwr.jobs.filter (fun j => match j.kind with | .calibrate _ _ => false | _ => true)
    pwr.grants := s.pwr.grants.filter (fun j => match j.kind with | .calibrate _ _ => false | _ => true) }

/-- Gates every domain except AON and HARV (R160, R192): the ENT registers return to reset with CORE, the
SNR ones with SNARE, and the Peal engine's deliveries are gone (R283, R390, R417). In a field FRF and FDIG go
on as their own gating rule says (R194; log entry 21), and so do the sources that serve them. -/
def gateMost (s : State) : State :=
  let s := s.linkOff.pealForget.snareOff.resetRegs (fun off => off < 0x3E0 || 0x420 ≤ off)
  let keep := s.fld.present
  let top := if keep then 3 else 1
  let on := fun (d : Nat) => d ≤ top || (keep && (d == 14 || d == 15))
  { s with
    pwr.domOn := (List.range 20).map (fun d => on d && s.pwr.domOn.getD d false)
    ent.a := if keep then s.ent.a else offSource s.ent.a
    ent.b := if keep then s.ent.b else offSource s.ent.b
    ent.pool := [], ent.fifo := [], ent.raw := none, ent.rawReq := none
    fldx.mapBuilt := false }

/-- Step 7 holds after step 6: AON alone stays on (R192, R198). -/
def aonOnly (s : State) : State :=
  let s := if s.pwr.step = 0 then s.raise 0x070 5 else s
  let s := s.gateMost
  let pend := s.kn.slots.any (fun x => x.state == 2)
  { s with
    pwr.step := 7, boot.s1Stopped := false
    pwr.mode := if s.fld.present then 4 else if s.pwr.shipReq && !pend then 5 else 3 }

/-- No granted record remains in the pipeline (R192). -/
def noGrants (s : State) : Bool := !s.cmt.pipe.any (fun p => p.granted.isSome)

/-- A close without TAG_VAUX finds step 6 in force, since the engine is in neither OPEN nor CAPTURE any more
(R192): S1 and admission have stopped, SPHY and SNARE are gated. -/
def closeStep6 (s : State) : State :=
  if 6 ≤ s.pwr.step then s
  else
    let s := { s with boot.s1Stopped := true, pwr.step := 6 }
    (s.dropAll (fun p => p.granted.isNone)).releaseJobs.linkOff.snareOff

/-- The engine's state after a close without TAG_VAUX (R167), and the gating of every domain but AON and
HARV; where granted records remain, which can be when nothing was kept, they end first (R192). -/
def closeDark (s : State) : State :=
  let pend := s.kn.slots.any (fun x => x.state == 2)
  let s := { s with kn.state := if pend then 6 else 8 }.closeStep6
  if s.noGrants then s.aonOnly else s

/-- Knell closes (R160, R167): the save, the slot's state, the plan, and the engine's next state. KNL_LAST
shows slot 0 for a Knell that claimed none (R170; DESIGN CHOICE, log entry 100). -/
def closeKnell (s : State) : State :=
  match s.kn.intake with
  | none => s
  | some i =>
    let kept := 0 < i.segsDone
    let s := (({ s with kn.state := 5 }).endJob .knell).saveNow false
    let s := match i.claimed with
      | none => s
      | some k =>
        if kept then s.modSlot k (fun x => { x with state := 2, segments := i.segsDone, manifest := 0 })
        else s.modSlot k (fun _ => i.slotWas)
    let s := { s with
      kn.plans := if kept then (s.kn.plans.filter (fun (p : Plan) => p.slot != i.plan.slot)) ++ [i.plan]
        else s.kn.plans
      kn.closedSlot := i.claimed.getD 0, kn.lastTrigger := i.trigger, kn.lastEnd := i.plan.endCode, kn.lastSegs := i.segsDone
      kn.lastAnnounced := i.plan.announced, kn.lastStored := i.plan.stored
      kn.intake := none }
    let s := s.raise 0x168 0
    let s := if kept then s else s.raise 0x168 5
    let s := if s.wired then
        let s := ({ s with kn.state := 1 }).boundary .knlArmed
        if s.knlEnabled then s else { s with kn.state := 0 }
      else s.closeDark
    s.queueCons

/-- Closes when the last kept segment has committed, or when nothing was kept (R160). -/
def tryClose (s : State) : State :=
  match s.kn.intake with
  | none => s
  | some i =>
    if s.kn.state = 4 && (i.claimed.isNone || (i.segsMade = i.segsDone &&
        i.cutBytes = i.bytes.length)) then s.closeKnell
    else s

/-- Intake ends (R141, R167) with an end code, the section outcomes and, without TAG_VAUX, the
gating of SPHY and SLINK. -/
def endIntake (s : State) (code : Nat) : State :=
  match s.kn.intake with
  | none => s
  | some i =>
    if s.kn.state != 3 then s
    else
      let dropCode := s.kn.dropCode
      let dir := if i.directory = 1 then 32 + 16 * i.sections.length else 0
      let outs := outcomes i dropCode i.sections 0 dir
      let cut := outs.any (fun o => 2 ≤ o.outcome)
      let width := s.stm.widthLast
      let pl := { i.plan with
        endCode := if i.directory = 2 then 4 else code
        outcomes := outs, cut := i.plan.cut || cut, width := width, stored := i.bytes.length }
      let s := s.setIntake { i with done := true, plan := pl }
      let s := if cut then s.raise 0x168 2 else s
      let s := { s with kn.state := 4 }
      let s := if s.wired then s else s.linkOff
      s.tryClose

/-- Every byte that intake waits for has arrived (R141). -/
def intakeComplete (i : Intake) : Bool :=
  if i.directory = 1 then i.target ≤ i.expected else i.target ≤ i.bytes.length

/-- A data frame that passed its end check (R139 to R141, R147). -/
def takeData (s : State) (i : Intake) (body : List Byte) (credits : Nat) : State :=
  let off := leNat (slice body 0 4)
  let data := body.drop 8
  if s.kn.state != 3 || off != i.expected || data.isEmpty || leNat (slice body 4 4) != 0 then
    s.releaseCredits 0 credits
  else
    let keep := if i.directory = 1 then
        (if i.claimed.isNone then [] else keptBytes i.sections i.kept off data)
      else data.take (i.target - i.bytes.length)
    let count := fun (m : Nat) =>
      if i.directory = 1 then (if i.claimed.isNone then 0 else keptCount i.sections i.kept off m)
      else min m (i.target - i.bytes.length)
    let held := heldBy i.bytes.length 24 data.length count credits
    let i := { i with
      expected := i.expected + data.length, bytes := i.bytes ++ keep
      heldCredits := i.heldCredits ++ held }
    let s := (s.setIntake i).releaseCredits 0 (credits - held.length)
    if intakeComplete i then s.endIntake 0 else s

/-- Every byte that is kept is in Drumhead (R155): intake has ended, or all kept sections are whole. -/
def allKept (i : Intake) : Bool := i.done || (i.directory == 1 && i.plan.stored ≤ i.bytes.length)

/-- The next segment whose bytes are all in Drumhead (R154, R155). -/
def nextSegment (i : Intake) : Option (List Byte) :=
  let left := i.bytes.length - i.cutBytes
  if 3968 ≤ left then some ((i.bytes.drop i.cutBytes).take 3968)
  else if allKept i && 0 < left then some (i.bytes.drop i.cutBytes)
  else none

/-- The record that has passed S1 last is granted by the job that made it (R145, R161). -/
def grantLast (s : State) : State :=
  { s with cmt.pipe := s.cmt.pipe.map (fun (p : PipeRec) =>
      if p.id + 1 = s.cmt.nextId then { p with granted := some 0, band := s.pwr.band } else p) }

/-- KNELL_SEGMENT_START (R155): one segment passes to S1 under the grant of its selection. -/
def effKnellSegmentStart (s : State) : State :=
  match s.kn.intake with
  | none => s
  | some i =>
    match i.claimed, nextSegment i with
    | some k, some bytes =>
      let r := s.newInternal 1 0 0x21#8 (setFlags (i.segsMade == 0) false) bytes
      if !s.roomOwn r then s
      else
        let place := i.segsMade * 126
        let ra := 512 < bytes.length + 64 && !s.raDis
        let s := (s.stamp).passOwn r .segment ra true k place none
        let s := s.grantLast
        let s := if ra then s.touchAll (s.knellLines k (place + 1) (sectorsOf bytes.length - 2)) else s
        s.setIntake { i with cutBytes := i.cutBytes + bytes.length, segsMade := i.segsMade + 1 }
    | _, _ => s

/-- A segment has committed (R152, R156, R160): the previous bundle is reclaimed at the first, its
credits return, and the last closes the Knell. -/
def segmentCommitted (s : State) (p : PipeRec) : State :=
  match s.kn.intake with
  | none => s
  | some i =>
    let stroke := p.record.hdr.stroke
    let s := if i.segsDone = 0 then
        let s := { s with arr.recs := s.arr.recs.filter (fun (r : Stored) =>
          !(r.record.hdr.part == 4 && r.slot == p.slot && r.record.hdr.stroke < stroke)) }
        s.modSlot p.slot (fun x => { x with firstStroke := stroke })
      else s
    let doneBytes := min ((i.segsDone + 1) * 3968) i.bytes.length
    let free := i.heldCredits.filter (fun h => h.1 ≤ doneBytes)
    let s := free.foldl (fun s h => s.releaseCredits 0 h.2) s
    let i := { i with
      segsDone := i.segsDone + 1
      heldCredits := i.heldCredits.filter (fun h => doneBytes < h.1) }
    let s := s.modSlot p.slot (fun x => { x with segments := i.segsDone })
    let spent := i.eline * bundleLines p.record.payload.length + 500
    let s := { s with pwr.grants := s.pwr.grants.map (fun (j : Job) =>
      if j.kind = JobKind.knell then { j with cost := j.cost - spent } else j) }
    (s.setIntake i).tryClose

end State

end Sys2Proof.Machine
end

