-- ==== Sys2Proof/Machine/Link.lean ====
section
/-! DEFINITION. The Stream Port: packets, acknowledgement and replay (R206 to R220), credits (R221 to R226), training (R227 to R233), link down and flush (R234 to R241). -/

namespace Sys2Proof.Machine

/-- Number of lanes in a set. -/
def laneCount (w : BitVec 4) : Nat :=
  bitNat (w.getLsbD 0) + bitNat (w.getLsbD 1) + bitNat (w.getLsbD 2) + bitNat (w.getLsbD 3)

/-- The lane set chosen from the good lanes under a width cap (R229). -/
def chooseLanes (g : BitVec 4) (cap : Nat) : BitVec 4 :=
  if g = 0xF#4 && 4 ≤ cap then 0xF#4
  else if g.getLsbD 0 && g.getLsbD 1 && 2 ≤ cap then 0x3#4
  else if g.getLsbD 2 && g.getLsbD 3 && 2 ≤ cap then 0xC#4
  else if g.getLsbD 0 then 0x1#4
  else if g.getLsbD 1 then 0x2#4
  else if g.getLsbD 2 then 0x4#4
  else if g.getLsbD 3 then 0x8#4
  else 0#4

/-- The lanes whose count of consecutive valid sets has reached 4 (R228). -/
def goodLanes (counts : List Nat) : BitVec 4 :=
  BitVec.ofNat 4 (bitNat (4 ≤ nth counts 0) + 2 * bitNat (4 ≤ nth counts 1) +
    4 * bitNat (4 ≤ nth counts 2) + 8 * bitNat (4 ≤ nth counts 3))

/-- Credits of a packet (R221). -/
def creditsOf (len : Nat) : Nat := ceilDiv len 64

namespace State

/-- The link is ACTIVE (R243). -/
def linkActive (s : State) : Bool := s.stm.st == 4

/-- STM_CFG.GRACE_MS (R247). -/
def graceMs (s : State) : Nat := clampTo 1 1000 (s.cfg 0x1A4 31 22)

/-- STM_CFG.LANE_MASK. -/
def laneMask (s : State) : BitVec 4 := BitVec.ofNat 4 (s.cfg 0x1A4 19 16)

/-- STM_CFG.WINDOW. -/
def windowCfg (s : State) : Nat := clampTo 16 1024 (s.cfg 0x1A4 10 0)

/-- The replay window that the tag offers in a training (R215): while it offers RESUME the value in force,
and otherwise the value written, which applies at the fresh training that this must be (R246; DESIGN
CHOICE, log entry 104). -/
def windowOffer (s : State) : Nat :=
  if s.stm.resumeOk then s.windowCfg else clampTo 16 1024 ((s.reg 0x1A4).field 10 0)

/-- A received packet enters the error window (R234). -/
def noteRx (s : State) (bad : Bool) : State :=
  { s with lnk.errHist := (bad :: s.lnk.errHist).take 4096
           lnk.badRun := if bad then s.lnk.badRun + 1 else 0 }

/-- Bad packets among the last 4,096 (STM_ERRWIN). -/
def errCount (s : State) : Nat := (s.lnk.errHist.filter (fun b => b)).length

/-- A packet that fails its CRC or is malformed (R217). -/
def rxBad (s : State) : State :=
  let s := ((s.noteRx true).count 0x1CC).raise 0x1AC 0
  if s.lnk.nakSent then s
  else { s with lnk.nakPending := some 1, lnk.nakSent := true }

/-- The acknowledgement rule of R217; the flag says whether the number lay inside the window. -/
def rxAck (s : State) (seq : BitVec 12) : State × Bool :=
  let a := (seq - (s.lnk.oldest - 1#12)).toNat
  let out := (s.lnk.next - s.lnk.oldest).toNat
  if out < a then ((s.count 0x1D4).raise 0x1AC 2, false)
  else
    ({ s with
      lnk.replay := s.lnk.replay.drop a
      lnk.cursor := s.lnk.cursor - a
      lnk.oldest := s.lnk.oldest + BitVec.ofNat 12 a
      lnk.noProgress := if a = 0 then s.lnk.noProgress else 0 }, true)

/-- Starts or restarts a replay of every held packet and counts it, also among the replays without
acknowledgement progress; with nothing held there is none (R218, R220; log entry 35). -/
def startReplay (s : State) : State :=
  if s.lnk.replay = [] then s
  else (({ s with lnk.cursor := 0, lnk.noProgress := s.lnk.noProgress + 1 }).count 0x1D0).raise 0x1AC 1

/-- Sends a request for a training under a new number (R231). -/
def request (s : State) (typ : Nat) (lanes : BitVec 4) (why : List ReqWhy) : State :=
  let n := if s.stm.reqNum = 255 then 1 else s.stm.reqNum + 1
  { s with
    stm.reqNum := n, stm.req := some (n, typ, lanes), stm.reqWhy := why, lnk.linkReqPending := true }

/-- A trigger of R231 in ACTIVE. While a request is outstanding it is sent again for the new reason too,
with every suspected lane; a FULL_RETRAIN over a RETRAIN is a request of its own, since the type changes
(DESIGN CHOICE, log entry 87). -/
def ask (s : State) (typ : Nat) (lanes : BitVec 4) (why : ReqWhy) : State :=
  if !s.linkActive then s
  else match s.stm.req with
    | none => s.request typ lanes [why]
    | some (n, t, l) =>
      let whys := if s.stm.reqWhy.contains why then s.stm.reqWhy else s.stm.reqWhy ++ [why]
      if typ = 3 && t ≠ 3 then s.request 3 (l ||| lanes) whys
      else { s with
        stm.req := some (n, t, l ||| lanes), stm.reqWhy := whys, lnk.linkReqPending := true }

/-- The reason of a request still holds (R232). -/
def whyHolds (s : State) (w : ReqWhy) : Bool := match w with
  | .control => true
  | .crc => 2 ≤ s.lnk.badRun
  | .idle => true
  | .stalled => 4 ≤ s.lnk.noProgress

/-- The outstanding request ends. -/
def endRequest (s : State) : State :=
  { s with stm.req := none, stm.reqWhy := [], lnk.linkReqPending := false }

/-- Withdraws a crossed request (R232). -/
def withdraw (s : State) : State := match s.stm.req with
  | none => s
  | some (_, typ, _) => ({ s.endRequest with stm.reeval := typ == 3 }).raise 0x1AC 4

/-- Ends the frame open in a class as failed: its record is abandoned, its credits return (R226,
R254). -/
def failOpen (s : State) (cls : Cls) : State :=
  let c := cls.code
  let n := (s.lnk.openFrame.getD c none).getD 0
  let s := { s with lnk.openFrame := setNth s.lnk.openFrame c none }
  let s := match s.openRec cls with
    | some p => s.drop p
    | none => s
  let s := match cls, s.kn.intake with
    | .knell, some i => s.setIntake { i with opening := false }
    | _, _ => s
  ((s.dropHeader cls).releaseCredits c n).badFrame

/-- The frame layer's part of an accepted packet (R224 to R226, R238, R256). -/
def frameLayer (s : State) (cls : Cls) (sof eof : Bool) (n : Nat) : State :=
  let c := cls.code
  if s.knellRunning && cls != .knell then
    let s := s.freeSpace c n
    let s := if 3 ≤ s.pwr.step then s
      else { s with
        lnk.rxLimit := modNth s.lnk.rxLimit c (fun x => (x + n) % 65536)
        lnk.creditPending := true }
    (s.count 0x1E8).raise 0x1AC 10
  else
    let isOpen := (s.lnk.openFrame.getD c none).isSome
    if !sof && !isOpen then (s.releaseCredits c n).badFrame
    else
      let s := if sof && isOpen then s.failOpen cls else s
      let s := if sof then { s with lnk.discard := setNth s.lnk.discard c false } else s
      let gone := s.lnk.discard.getD c false
      let s := if gone then s.releaseCredits c n else s
      let sum := (if sof then 0 else (s.lnk.openFrame.getD c none).getD 0) + (if gone then 0 else n)
      if eof then
        { s with lnk.openFrame := setNth s.lnk.openFrame c none
                 lnk.doneFrames := modNth s.lnk.doneFrames c (fun l => l ++ [sum]) }
      else { s with lnk.openFrame := setNth s.lnk.openFrame c (some sum) }

/-- Credits advertised to a class and not yet consumed (R223). -/
def rxCredit (s : State) (c : Nat) : Nat :=
  if s.lnk.credited then diff16 (nth s.lnk.rxSent c) (nth s.lnk.rxUsed c) else 0

/-- DATA_PACKET (R217, R223, R225). A packet that was accepted before consumes no credits again; any other
that needs more than its class has is malformed (R223). -/
def effDataPacket (s : State) (seq : BitVec 12) (cls : Cls) (sof eof : Bool) (len : Nat)
    (ack : Option (BitVec 12)) : State :=
  if !s.linkActive then s
  else
    let c := cls.code
    let n := creditsOf len
    let d := (seq - s.lnk.expected).toNat
    if len = 0 || 512 < len || (d < 2048 && s.rxCredit c < n) then s.rxBad
    else
      let s := match ack with
        | some a => (s.rxAck a).1
        | none => s
      let s := s.noteRx false
      if d = 0 then
        let s := { s with
          lnk.expected := s.lnk.expected + 1#12, lnk.nakSent := false
          lnk.unacked := s.lnk.unacked + 1
          lnk.ackPending := s.lnk.ackPending || 8 ≤ s.lnk.unacked + 1
          lnk.rxUsed := modNth s.lnk.rxUsed c (fun x => (x + n) % 65536)
          lnk.rxHeld := modNth s.lnk.rxHeld c (fun x => x + n) }
        s.frameLayer cls sof eof n
      else if 2048 ≤ d then
        { s.count 0x1D8 with lnk.ackPending := true }
      else if s.lnk.nakSent then s
      else { s with lnk.nakPending := some 2, lnk.nakSent := true }

/-- ACK_PACKET (R217). -/
def effAckPacket (s : State) (seq : BitVec 12) : State :=
  if s.linkActive then ((s.noteRx false).rxAck seq).1 else s

/-- NAK_PACKET (R217, R218). -/
def effNakPacket (s : State) (seq : BitVec 12) : State :=
  if s.linkActive then
    match (s.noteRx false).rxAck seq with
    | (s, true) => s.startReplay
    | (s, false) => s
  else s

/-- A transmit limit is taken unless it lies behind the last (R223). -/
def newLimit (old new : BitVec 16) : BitVec 16 := if (new - old).toNat < 32768 then new else old

/-- CREDIT_PACKET (R212, R223): the first of a fresh training sets the limits. -/
def effCreditPacket (s : State) (mgmt peal : BitVec 16) : State :=
  if s.linkActive then
    let s := s.noteRx false
    let take := fun (old new : BitVec 16) => if s.lnk.txCredited then newLimit old new else new
    { s with lnk.txMgmtLimit := take s.lnk.txMgmtLimit mgmt
             lnk.txPealLimit := take s.lnk.txPealLimit peal, lnk.txCredited := true }
  else s

/-- Enters TS1 of a training (R228, R229). A full training, and one from OFF, clears fault marks. A lane
that fails in one attempt of a retrain has failed in that retrain (R233). -/
def enterTs1 (s : State) (fromActive full : Bool) : State :=
  let s := s.boundary .training
  let again := s.stm.retraining && !fromActive
  { s with
    stm.st := 2, stm.retraining := fromActive || s.stm.retraining, stm.full := full
    stm.ts1 := [0, 0, 0, 0], stm.ts2 := [0, 0, 0, 0], stm.laneFailed := again && s.stm.laneFailed
    stm.candAll := if again then s.stm.candAll else 0#4
    stm.excluded := if full then 0#4 else s.stm.excluded
    stm.oldRx := if fromActive then s.stm.rxLanes else s.stm.oldRx
    stm.oldTx := if fromActive then s.stm.txLanes else s.stm.oldTx
    stm.rxLanes := 0#4, stm.txLanes := 0#4, stm.cap := 4
    stm.resumeOk := s.stm.resumeOk || fromActive }

/-- Lanes excluded by fault or mask (R229). -/
def excludedAll (s : State) : BitVec 4 := s.stm.excluded ||| s.laneMask

/-- Enters TS2: candidates that are not good are excluded, the receive set is chosen (R228, R229). -/
def enterTs2 (s : State) : State :=
  let cand := ~~~ s.excludedAll
  let good := goodLanes s.stm.ts1 &&& cand
  let chosen := chooseLanes good s.stm.cap
  { s with
    stm.st := 3, stm.excluded := s.stm.excluded ||| (cand &&& ~~~ good), stm.cand := cand
    stm.candAll := s.stm.candAll ||| cand, stm.rxLanes := chosen
    stm.laneFailed := s.stm.laneFailed || laneCount chosen < laneCount (chooseLanes cand s.stm.cap) }

/-- LINK_REQ_PACKET (R231, R232). -/
def effLinkReqPacket (s : State) (_num typ : Byte) (_lanes : BitVec 4) (cap : Nat) : State :=
  if s.linkActive then
    let s := ((s.noteRx false).withdraw).enterTs1 true (typ == 3#8)
    { s with stm.cap := if typ = 2#8 then cap else 4 }
  else s

/-- TS1 (R228, R229, R232): a TS1 in ACTIVE starts a retrain; lanes become good after 4 sets. -/
def effTs1 (s : State) (lane : Nat) (trainId reqEcho : Byte) (cap window : Nat) : State :=
  if 4 ≤ lane then s
  else
    let s := if s.linkActive then
        match s.stm.req with
        | some (n, typ, _) =>
          if reqEcho.toNat = n then
            (s.endRequest).enterTs1 true (typ == 3)
          else (s.withdraw).enterTs1 true false
        | none => s.enterTs1 true false
      else s
    if s.stm.st != 2 then s
    else
      let counts := if s.stm.trainId = trainId.toNat then s.stm.ts1 else [0, 0, 0, 0]
      let s := { s with
        stm.ts1 := modNth counts lane (fun x => x + 1)
        stm.trainId := trainId.toNat
        stm.cap := min cap 4, stm.pWindow := window }
      let cand := ~~~ s.excludedAll
      if cand != 0#4 && cand &&& ~~~ (goodLanes s.stm.ts1) = 0#4 then s.enterTs2 else s

/-- TS1_PHASE_TIMER (R228): with at least one lane good the receiver moves to TS2. -/
def effTs1PhaseTimer (s : State) : State :=
  if s.stm.st = 2 && goodLanes s.stm.ts1 &&& ~~~ s.excludedAll != 0#4 then s.enterTs2 else s

/-- TRAINING_PHASE_TIMEOUT (R228, R243): back to CLKWAIT; a retrain then fails at its deadline. A TS1
phase that ends so has chosen no lanes and marks none excluded (DESIGN CHOICE, log entry 88: R229 does
not say whether its candidates are then marked). -/
def effTrainingPhaseTimeout (s : State) : State :=
  if s.stm.st = 2 || s.stm.st = 3 then { s with stm.st := 1 } else s

/-- The streams and numbers that a flush names: EVENT frames that were open (R236). -/
def heldEvents (s : State) : List PipeRec :=
  s.cmt.pipe.filter (fun p => p.openFrame == some .event && p.record.hdr.cls == 1)

/-- A flush names the number of a switch-event header that waits for room at S1 (R236), after the numbers
that it leaves out (R37); a number that its stream has had already is named by no GAP record (R47, R51). -/
def flushLate (s : State) (src : BitVec 16) (seq : Word) : State :=
  match s.seqCheck src 1 seq with
  | .duplicate => s
  | chk =>
    let s := match chk with
      | .jump e => s.gap src 1 2 3 [(e, seq - 1#32)]
      | _ => s
    (s.gap src 1 1 3 [(seq, seq)]).setStream src 1 (seq + 1#32)

/-- FLUSH (R236): held records are abandoned, the tag's packets discarded, GAP records committed. -/
def flush (s : State) : State :=
  let names := s.heldEvents
  let held := (s.cmt.pipe.filter (fun p => p.openFrame.isSome)).length
  let pkts := s.lnk.replay.length + s.lnk.txQ.length
  let s := names.foldl (fun s p => s.freeLeads p) s
  let s := s.dropAll (fun p => p.openFrame.isSome)
  let late := s.waitingHeader
  let s := (List.range 4).foldl (fun s c =>
    s.releaseCredits c ((s.lnk.openFrame.getD c none).getD 0)) s
  let s := { ((s.dropHeader .event).dropHeader .peal).clearTx with
    lnk.openFrame := [none, none, none, none] }
  let s := names.foldl (fun s p =>
    let h := p.record.hdr
    (s.gap h.source h.cls 1 3 [(h.seq, h.seq)]).setStream h.source h.cls (h.seq + 1#32)) s
  let s := match late with
    | some h => s.flushLate (s.source h.source) h.seq
    | none => s
  let s := (s.countBy 0x1E4 15 0 held).countBy 0x1E4 31 16 pkts
  ({ s with stm.held := false, stm.resumeOk := false }).raise 0x1AC 8

/-- LINK_DOWN (R235, R240). During a Knell it ends intake, starts no grace period and discards what
the tag would send. The next training offers RESUME while the link had something to resume: it was
ACTIVE, or it has not been flushed since (R230, R236). -/
def linkDown (s : State) (next : Nat) : State :=
  let s := s.boundary .linkDown
  let s := ({ s with
    stm.st := next, stm.rxLanes := 0#4, stm.txLanes := 0#4, stm.retraining := false
    stm.resumeOk := s.stm.resumeOk || s.linkActive, stm.wasDown := true
    lnk.nakPending := none, lnk.ackPending := false }.endRequest).raise 0x1AC 6
  let s := s.count 0x1E0
  if s.knellRunning then
    let s := if s.kn.state = 2 || s.kn.state = 3 then s.raise 0x168 3 else s
    let s := (List.range 4).foldl (fun s c =>
      s.releaseCredits c ((s.lnk.openFrame.getD c none).getD 0)) s
    let s := { s.clearTx with
      lnk.openFrame := [none, none, none, none], stm.resumeOk := false, stm.held := false }
    s.endIntake 1
  else
    { s with stm.held := true, stm.graceEnd := s.clk.up + usUnits (1000 * s.graceMs) }

/-- The partner's receive set `tx` narrows the transmit direction because a candidate lane failed there:
it is narrower than before and than the candidate lanes and the cap allow. The tag cannot see whether
the partner narrowed it by choice (DEDUCED, log entry 89). -/
def txNarrowed (s : State) (tx : BitVec 4) : Bool :=
  laneCount tx < laneCount s.stm.oldTx && laneCount tx < laneCount (chooseLanes s.stm.candAll s.stm.cap)

/-- A retrain completes (R233). -/
def retrainComplete (s : State) (rx tx : BitVec 4) : State :=
  let s := (s.countBy 0x1DC 15 0 1).raise 0x1AC 3
  if (s.stm.laneFailed && laneCount rx < laneCount s.stm.oldRx) || s.txNarrowed tx then
    let s := ((s.countBy 0x1DC 31 16 1).raise 0x1AC 5)
    let s := { s with lnk.errHist := [], lnk.badRun := 0 }
    match s.kn.intake with
    | some i => if s.kn.state = 2 || s.kn.state = 3 then
        (s.setIntake { i with plan := { i.plan with downshift := true } }).raise 0x168 3
      else s
    | none => s
  else s

/-- The limits that the first CREDIT packet of a training gives (R223): the pools, and none for a class
that a shedding step withholds (R224, R239). -/
def firstLimits (s : State) : List Nat :=
  if 3 ≤ s.pwr.step then [nth s.pools 0, 0, 0, 0] else s.pools

/-- Everything that a fresh training starts from (R223, R230). Packets of the tag that were never sent
stay queued. What earlier packets hold of Drumhead stays held, and a frame that is open stays open until
its class's next SOF (R226). -/
def freshLink (s : State) : State :=
  let offered := s.windowOffer
  let s := if s.stm.held then s.flush else s
  let s := s.boundary .freshTraining
  { s with
    lnk.replay := [], lnk.cursor := 0
    lnk.expected := 0#12, lnk.next := 0#12, lnk.oldest := 0#12, lnk.nakSent := false
    lnk.nakPending := none, lnk.unacked := 0, lnk.ackPending := false, lnk.noProgress := 0
    lnk.rxLimit := s.firstLimits, lnk.rxUsed := [0, 0, 0, 0], lnk.rxOld := s.lnk.rxHeld
    lnk.rxSent := [0, 0, 0, 0], lnk.credited := false, lnk.knellLast := false
    lnk.withheld := [0, 0, 0, 0], lnk.creditPending := true
    lnk.txMgmtLimit := 0#16, lnk.txPealLimit := 0#16, lnk.txMgmtUsed := 0#16, lnk.txPealUsed := 0#16
    lnk.txCredited := false, lnk.window := min offered s.stm.pWindow }

/-- Training ends in ACTIVE with 8 IDLE words on the new transmit lanes (R228, R230, R233). A resume keeps
the replay window in use: sequence numbers and held packets go on under it (DESIGN CHOICE, log entry 90:
R215 does not say which window a resume uses). A retrain that needed a second attempt through CLKWAIT sets
RETRAIN and no LINK_UP (DESIGN CHOICE, log entry 105: it counts as the training that began in ACTIVE). -/
def enterActive (s : State) (rxSet : BitVec 4) (resume : Bool) (next : BitVec 12) : State :=
  let want := s.stm.resumeOk && resume
  let (s, isResume) := if want then s.rxAck (next - 1#12) else (s, false)
  let s := if isResume then { s with lnk.cursor := 0, stm.held := false }
    else
      let s := if s.stm.wasDown then s.raise 0x1AC 9 else s
      s.freshLink
  let s := if s.stm.retraining then s.retrainComplete s.stm.rxLanes rxSet else s.raise 0x1AC 7
  let again := s.stm.reeval && !s.stm.full
  let s := { s with
    stm.st := 4, stm.txLanes := rxSet, stm.retraining := false, stm.wasDown := false
    stm.reeval := false, stm.widthLast := laneCount s.stm.rxLanes, stm.resumeOk := false
    lnk.sent := some (.idle 8) }
  if again then s.ask 3 0#4 .control else s

/-- TS2 (R228, R230): after 4 valid sets on a lane, and 8 sent, the tag enters ACTIVE. A set with another
training ID belongs to no training that the tag is in: it counts for nothing and ends no run of sets
(DESIGN CHOICE, log entry 105). -/
def effTs2 (s : State) (lane : Nat) (trainId : Byte) (cap : Nat) (rxSet : BitVec 4) (resume : Bool)
    (next : BitVec 12) (window sent : Nat) : State :=
  if s.stm.st != 3 || 4 ≤ lane || trainId.toNat != s.stm.trainId then s
  else
    let s := { s with
      stm.ts2 := modNth s.stm.ts2 lane (fun x => x + 1)
      stm.pWindow := window, stm.cap := min cap 4 }
    if goodLanes s.stm.ts2 != 0#4 && 8 ≤ sent then s.enterActive rxSet resume next else s

/-- ACK_TIMER (R219). -/
def effAckTimer (s : State) : State :=
  if s.linkActive && s.lnk.unacked != 0 then { s with lnk.ackPending := true } else s

/-- REPLAY_TIMEOUT (R220): four replays that brought no progress by then also request a RETRAIN (log
entry 35; DEDUCED). -/
def effReplayTimeout (s : State) : State :=
  if !s.linkActive || s.lnk.replay = [] then s
  else if 4 ≤ s.lnk.noProgress then s.startReplay.ask 1 0#4 .stalled
  else s.startReplay

/-- LINK_REQ_REPEAT (R232): an outstanding request goes again while a reason for it holds. -/
def effLinkReqRepeat (s : State) : State :=
  if s.linkActive && s.stm.req.isSome && s.stm.reqWhy.any (fun w => s.whyHolds w) then
    { s with lnk.linkReqPending := true }
  else s

/-- RETRAIN_TIMEOUT (R233). -/
def effRetrainTimeout (s : State) : State :=
  if s.stm.retraining && s.stm.st != 4 then s.linkDown 1 else s

/-- NO_VALID_SYMBOL_TIMEOUT (R207, R234). -/
def effNoValidSymbolTimeout (s : State) : State := if s.linkActive then s.linkDown 1 else s

/-- ERROR_WINDOW_LINK_DOWN (R234): 8 or more of the last 4,096 packets failed. -/
def effErrorWindowLinkDown (s : State) : State :=
  if s.linkActive && 8 ≤ s.errCount then s.linkDown 1 else s

/-- LANE_FAULT (R237): bad packets in a row, or a lane whose IDLE bits differ. -/
def effLaneFault (s : State) (lanes : BitVec 4) : State :=
  if lanes != 0#4 then s.ask 1 lanes .idle
  else if 2 ≤ s.lnk.badRun then s.ask 1 0#4 .crc
  else s

/-- GRACE_EXPIRY (R236). -/
def effGraceExpiry (s : State) : State := if s.stm.held then s.flush else s

/-- SPHY and SLINK wake with TAG_VAUX (R194, R243): fault marks clear, and the link waits for the
clock when STM_CTRL.EN is 1. -/
def wakeLink (s : State) : State :=
  let s := { s with
    pwr.domOn := setNth (setNth s.pwr.domOn 16 true) 17 true, stm.excluded := 0#4, stm.widthLast := 0 }
  if s.cfgBit 0x1A0 0 then { s with stm.st := 1, stm.resumeOk := false, stm.wasDown := false }
  else { s with stm.st := 5 }

/-- CLOCK_LOCKED (R203, R243): SPHY is on, and its receive clock is present. -/
def effClockLocked (s : State) : State :=
  if s.stm.st = 1 && s.domOn 16 then s.enterTs1 false false else s

/-- A write to STM_CTRL.EN takes effect (R234, R243). -/
def setStmEn (s : State) (en : Bool) : State :=
  if en then (if s.stm.st = 5 then { s with stm.st := 1 } else s)
  else if s.stm.st = 5 then s
  else s.linkDown 5

/-- STM_CTRL.RETRAIN and FULL_RETRAIN (R231). -/
def requestRetrain (s : State) (full : Bool) : State := s.ask (if full then 3 else 1) 0#4 .control

/-- The newest number accepted in order. -/
def newestRx (s : State) : BitVec 12 := s.lnk.expected - 1#12

/-- Credits left to the tag for a class (R223). -/
def txCredit (s : State) (cls : Cls) : Nat := match cls with
  | .mgmt => (s.lnk.txMgmtLimit - s.lnk.txMgmtUsed).toNat
  | .peal => (s.lnk.txPealLimit - s.lnk.txPealUsed).toNat
  | _ => 0

/-- The first queued packet that may go now: the first of its class, within credits. -/
def nextTx (s : State) (q : List TxPkt) (blocked : List Nat) : Option TxPkt := match q with
  | [] => none
  | p :: t =>
    if blocked.contains p.cls.code then nextTx s t blocked
    else if creditsOf p.payload.length ≤ s.txCredit p.cls then some p
    else nextTx s t (p.cls.code :: blocked)

/-- Removes the first packet equal to `p`. -/
def removeFirst (q : List TxPkt) (p : TxPkt) : List TxPkt := match q with
  | [] => []
  | x :: t => if x = p then t else x :: removeFirst t p

/-- A new DATA packet is sent, or an IDLE word where none may go (R206, R214 to R216, R219). -/
def sendData (s : State) : State :=
  let out := (s.lnk.next - s.lnk.oldest).toNat
  let room := total (s.lnk.replay.map (fun p => p.payload.length)) + 128 ≤ 131072
  if s.lnk.window ≤ out || !room || s.knellRunning then { s with lnk.sent := some (.idle 1) }
  else match s.nextTx s.lnk.txQ [] with
    | none => { s with lnk.sent := some (.idle 1) }
    | some p =>
      let q := { p with seq := s.lnk.next }
      let c := BitVec.ofNat 16 (creditsOf p.payload.length)
      let ack := if s.lnk.unacked = 0 then none else some s.newestRx
      { s with
        lnk.sent := some (.data q ack), lnk.next := s.lnk.next + 1#12
        lnk.replay := s.lnk.replay ++ [q], lnk.cursor := s.lnk.cursor + 1
        lnk.txQ := removeFirst s.lnk.txQ p, lnk.unacked := 0
        lnk.txMgmtUsed := if p.cls = .mgmt then s.lnk.txMgmtUsed + c else s.lnk.txMgmtUsed
        lnk.txPealUsed := if p.cls = .peal then s.lnk.txPealUsed + c else s.lnk.txPealUsed }

/-- PACKET_BOUNDARY_TRANSMIT (R214): the first pending item goes. -/
def effPacketBoundaryTransmit (s : State) : State :=
  if !s.linkActive then s
  else match s.lnk.nakPending with
    | some r => { s with lnk.nakPending := none, lnk.sent := some (.nak s.newestRx r), lnk.unacked := 0 }
    | none =>
      if s.lnk.creditPending && (s.lnk.credited || s.rf.ready) then
        { s with
          lnk.creditPending := false, lnk.credited := true, lnk.rxSent := s.lnk.rxLimit
          lnk.sent := some (.credit (nth s.lnk.rxLimit 0) (nth s.lnk.rxLimit 1) (nth s.lnk.rxLimit 2)
            (nth s.lnk.rxLimit 3)) }
      else if s.lnk.ackPending then
        { s with lnk.ackPending := false, lnk.unacked := 0, lnk.sent := some (.ack s.newestRx) }
      else match s.lnk.linkReqPending, s.stm.req with
        | true, some (n, typ, lanes) =>
          { s with lnk.linkReqPending := false, lnk.sent := some (.linkReq n typ lanes) }
        | _, _ =>
          match s.lnk.replay[s.lnk.cursor]? with
          | some p => { s with lnk.cursor := s.lnk.cursor + 1, lnk.sent := some (.replay p) }
          | none => s.sendData

end State

end Sys2Proof.Machine
end

