-- ==== Sys2Proof/Machine/Packets.lean ====
section
/-! DEFINITION. The bytes of the Stream Port (R206 to R212, R227): packets and ordered sets as they arrive, the checks that make one malformed, and the bytes of what the tag sends. -/

namespace Sys2Proof.Machine

/-- A packet or ordered set by its fields (R209, R211, R212, R227). -/
inductive Packet where
  /-- sequence number, class, SOF, EOF, piggyback acknowledgement, payload -/
  | data (seq : BitVec 12) (cls : Cls) (sof eof : Bool) (ack : Option (BitVec 12)) (payload : List Byte)
  | ack (seq : BitVec 12)
  | nak (seq : BitVec 12) (reason : Byte)
  | credit (knell event mgmt peal : BitVec 16)
  /-- request number, type, suspected lanes, width cap -/
  | linkReq (num typ : Byte) (lanes : BitVec 4) (cap : Nat)
  /-- lane, training ID, REQ_ECHO, width cap, window, LEADER -/
  | ts1 (lane : Nat) (trainId reqEcho : Byte) (cap window : Nat) (leader : Bool)
  /-- lane, training ID, REQ_ECHO, width cap, receive set, RESUME, next expected, window, LEADER -/
  | ts2 (lane : Nat) (trainId reqEcho : Byte) (cap : Nat) (rxSet : BitVec 4) (resume : Bool)
      (next : BitVec 12) (window : Nat) (leader : Bool)
  deriving DecidableEq, Repr

/-- Pads a payload with zero bytes to a multiple of 4 (R209). -/
def pad4 (bs : List Byte) : List Byte := bs ++ zeroBytes ((4 - bs.length % 4) % 4)

/-- A packet's bytes: what stands before the CRC, then the CRC-32C, little-endian (R208). -/
def sealPacket (bs : List Byte) : List Byte := bs ++ wordBytes (crc32c bs)

/-- The class of a code (R209). -/
def classOf (c : Nat) : Cls := match c % 4 with
  | 0 => .knell | 1 => .event | 2 => .mgmt | _ => .peal

/-- The bytes of a packet before its CRC (R209, R211, R212, R227). -/
def Packet.head : Packet → List Byte
  | .data seq cls sof eof pig payload =>
    [0xD1#8, BitVec.ofNat 8 (cls.code + 4 * bitNat sof + 8 * bitNat eof)] ++ leBytes 2 seq.toNat ++
      leBytes 2 payload.length ++ leBytes 2 (match pig with | some a => 32768 + a.toNat | none => 0) ++
      pad4 payload
  | .ack seq => [0xA1#8, 0#8] ++ leBytes 2 seq.toNat ++ zeroBytes 4
  | .nak seq reason => [0xA2#8, 0#8] ++ leBytes 2 seq.toNat ++ [reason, 0#8, 0#8, 0#8]
  | .credit k e m p => 0xC1#8 :: zeroBytes 7 ++ leBytes 2 k.toNat ++ leBytes 2 e.toNat ++
      leBytes 2 m.toNat ++ leBytes 2 p.toNat
  | .linkReq num typ lanes cap =>
    [0x74#8, num, typ, lanes.setWidth 8, BitVec.ofNat 8 cap, 0#8, 0#8, 0#8]
  | .ts1 lane tid echo cap window leader =>
    [0x71#8, BitVec.ofNat 8 lane, tid, echo, BitVec.ofNat 8 cap, 0#8, 0#8, 0#8] ++ leBytes 2 window ++
      [BitVec.ofNat 8 (bitNat leader), 0#8]
  | .ts2 lane tid echo cap rx resume next window leader =>
    [0x72#8, BitVec.ofNat 8 lane, tid, echo, BitVec.ofNat 8 cap, rx.setWidth 8] ++
      leBytes 2 (32768 * bitNat resume + next.toNat) ++ leBytes 2 window ++
      [BitVec.ofNat 8 (bitNat leader), 0#8]

/-- A packet as it stands on the lanes. -/
def Packet.bytes (p : Packet) : List Byte := sealPacket p.head

/-- The packet that header bytes spell, reserved bits aside. -/
def readPacket (b : List Byte) : Option Packet :=
  let seq := BitVec.ofNat 12 (leNat (slice b 2 2))
  match byteAt b 0 with
  | 0xD1 =>
    let f := byteAt b 1
    let a := leNat (slice b 6 2)
    some (.data seq (classOf f) (f / 4 % 2 == 1) (f / 8 % 2 == 1)
      (if 32768 ≤ a then some (BitVec.ofNat 12 a) else none)
      (slice b 8 (min 512 (leNat (slice b 4 2)))))
  | 0xA1 => some (.ack seq)
  | 0xA2 => some (.nak seq (b.getD 4 0#8))
  | 0xC1 =>
    let w := fun (k : Nat) => BitVec.ofNat 16 (leNat (slice b k 2))
    some (.credit (w 8) (w 10) (w 12) (w 14))
  | 0x74 => some (.linkReq (b.getD 1 0#8) (b.getD 2 0#8) (BitVec.ofNat 4 (byteAt b 3)) (byteAt b 4))
  | 0x71 => some (.ts1 (byteAt b 1) (b.getD 2 0#8) (b.getD 3 0#8) (byteAt b 4) (leNat (slice b 8 2))
      (byteAt b 10 % 2 == 1))
  | 0x72 => some (.ts2 (byteAt b 1) (b.getD 2 0#8) (b.getD 3 0#8) (byteAt b 4)
      (BitVec.ofNat 4 (byteAt b 5)) (32768 ≤ leNat (slice b 6 2))
      (BitVec.ofNat 12 (leNat (slice b 6 2))) (leNat (slice b 8 2)) (byteAt b 10 % 2 == 1))
  | _ => none

/-- The fields of a packet lie in their ranges (R208, R210, R227). -/
def Packet.inRange : Packet → Bool
  | .data _ _ _ _ _ payload => 1 ≤ payload.length && payload.length ≤ 512
  | .linkReq _ _ _ cap => cap == 4 || cap == 2 || cap == 1
  | .ts1 lane _ _ cap window _ =>
    lane ≤ 3 && (cap == 4 || cap == 2 || cap == 1) && 16 ≤ window && window ≤ 1024
  | .ts2 lane _ _ cap _ _ _ window _ =>
    lane ≤ 3 && (cap == 4 || cap == 2 || cap == 1) && 16 ≤ window && window ≤ 1024
  | _ => true

/-- The bytes before the CRC that carry fields and reserved bits: all but the padding of a payload. -/
def Packet.fieldBytes (p : Packet) : Nat := match p with
  | .data _ _ _ _ _ payload => 8 + payload.length
  | _ => p.head.length

/-- The CRC that ends a packet checks (R208). -/
def crcOk (raw : List Byte) : Bool :=
  raw.drop (raw.length - 4) == wordBytes (crc32c (raw.take (raw.length - 4)))

/-- What the bytes of a packet are: none when its CRC fails or it is malformed: an unknown kind, a length
out of range, reserved bits that are not 0 (R208). The layout of the fields leaves every reserved bit 0,
so a packet has none set when its fields spell its bytes again. -/
def parsePacket (raw : List Byte) : Option Packet :=
  match readPacket raw with
  | none => none
  | some p =>
    let n := p.fieldBytes
    if p.inRange && crcOk raw && raw.length == p.bytes.length && raw.take n == p.head.take n then some p
    else none

/-- An IDLE link word (R206). -/
def idleWord : List Byte := [0xB5#8, 0xB5#8, 0xB5#8, 0xB5#8]

/-- The packet that the transmitter has sent, as a packet (R209 to R212). The width cap of a request of
the tag is 4, since its type is never WIDTH. -/
def Sent.packet : Sent → Option Packet
  | .nak seq reason => some (.nak seq (BitVec.ofNat 8 reason))
  | .credit k e m p => some (.credit (BitVec.ofNat 16 k) (BitVec.ofNat 16 e) (BitVec.ofNat 16 m)
      (BitVec.ofNat 16 p))
  | .ack seq => some (.ack seq)
  | .linkReq num typ lanes => some (.linkReq (BitVec.ofNat 8 num) (BitVec.ofNat 8 typ) lanes 4)
  | .replay p => some (.data p.seq p.cls p.sof p.eof none p.payload)
  | .data p pig => some (.data p.seq p.cls p.sof p.eof pig p.payload)
  | .idle _ => none

/-- The bytes that the transmitter has sent: a packet, or IDLE words (R206, R208). -/
def Sent.bytes (x : Sent) : List Byte := match x, x.packet with
  | _, some p => p.bytes
  | .idle n, none => (List.replicate n idleWord).flatten
  | _, none => []

namespace State

/-- The bytes that the tag has sent last. -/
def sentBytes (s : State) : List Byte := match s.lnk.sent with
  | some x => x.bytes
  | none => []

/-- The ordered set that the tag sends on a lane in training: TS1 and then TS2 on every candidate lane,
with the training's own number echoed, REQ_ECHO 0 and LEADER 0 (R227 to R230); nothing elsewhere. Until a
TS1 has brought this training's number the one before stands in it (DESIGN CHOICE, log entry 105). -/
def ownSet (s : State) (lane : Nat) : Option Packet :=
  let tid := BitVec.ofNat 8 s.stm.trainId
  if s.stm.st = 2 && (~~~ s.excludedAll).getLsbD lane then
    some (.ts1 lane tid 0#8 s.stm.cap s.windowOffer false)
  else if s.stm.st = 3 && s.stm.cand.getLsbD lane then
    some (.ts2 lane tid 0#8 s.stm.cap s.stm.rxLanes s.stm.resumeOk s.lnk.expected s.windowOffer false)
  else none

/-- What arrives on a lane in training and is no valid ordered set of the phase: that lane's run of valid
sets starts again (R228). -/
def breakRun (s : State) (lane : Nat) : State :=
  if s.stm.st = 2 then { s with stm.ts1 := setNth s.stm.ts1 lane 0 }
  else if s.stm.st = 3 then { s with stm.ts2 := setNth s.stm.ts2 lane 0 }
  else s

/-- A packet that passed its CRC and is not malformed acts by its kind. -/
def takePacket (s : State) (sent : Nat) (p : Packet) : State := match p with
  | .data seq cls sof eof ack payload => s.effDataPacket seq cls sof eof payload.length ack
  | .ack seq => s.effAckPacket seq
  | .nak seq _ => s.effNakPacket seq
  | .credit _ _ m p => s.effCreditPacket m p
  | .linkReq num typ lanes cap => s.effLinkReqPacket num typ lanes cap
  | .ts1 lane tid echo cap window _ => s.effTs1 lane tid echo cap window
  | .ts2 lane tid _ cap rx resume next window _ => s.effTs2 lane tid cap rx resume next window sent

/-- The ordered set comes from the switch die, which leads (R227). -/
def led : Packet → Bool
  | .ts1 _ _ _ _ _ leader => leader
  | .ts2 _ _ _ _ _ _ _ _ leader => leader
  | _ => true

/-- An ordered set of the training phase that the tag is in, on the lane that it names. -/
def setOn (p : Packet) (st lane : Nat) : Bool := match p with
  | .ts1 l _ _ _ _ _ => st == 2 && l == lane
  | .ts2 l _ _ _ _ _ _ _ _ => st == 3 && l == lane
  | _ => false

/-- BAD_PACKET (R206 to R208, R217, R228): bytes that arrive at a packet boundary, or on a lane in training.
What is no good packet is counted in ACTIVE, and in training it ends the lane's run of valid sets. An
ordered set that does not come from the leader is no good packet in ACTIVE (DESIGN CHOICE, log entry 105:
R227 gives the switch die's sets LEADER 1 and no outcome for 0). -/
def effBadPacket (s : State) (lane sent : Nat) (raw : List Byte) : State :=
  match parsePacket raw with
  | some p =>
    if s.linkActive then (if led p then s.takePacket sent p else s.rxBad)
    else if (s.stm.st = 2 || s.stm.st = 3) && !(led p && setOn p s.stm.st lane) then
      s.breakRun lane
    else s.takePacket sent p
  | none =>
    if s.linkActive then (if raw = idleWord then s else s.rxBad)
    else s.breakRun lane

end State

end Sys2Proof.Machine
end

