-- ==== Sys2Proof/Machine/Guards.lean ====
section
/-! DEFINITION. The access guards (R419 to R438): the default policy, the check of an access, the report of a fault, the shadow and its update, and the posted-write buffers. -/

namespace Sys2Proof.Machine

/-- A region configuration as GRD_RCFG codes it: enabled, attribute, S, W, R, size, disabled
sub-regions, rights required (R460). -/
def regionCfg (attr : Nat) (se wr rd : Bool) (sz srd req : Nat) : Word :=
  BitVec.ofNat 32 (2147483648 + attr * 536870912 + bitNat se * 134217728 +
    bitNat wr * 67108864 + bitNat rd * 33554432 + sz * 1048576 + srd * 256 + req)

/-- The key of a region: 16 times the master, plus the region number. -/
def regionKey (master region : Nat) : Nat := master * 16 + region

/-- The default policy (R435) of the enabled regions. -/
def defaultPolicy : List (Nat × Word × Word) :=
  [ (regionKey 0 0, 0x0000_0000#32, regionCfg 1 false true true 11 0x00 0x00),
    (regionKey 0 1, 0x1000_0000#32, regionCfg 2 true false true 28 0x00 0x00),
    (regionKey 0 2, 0x1300_0000#32, regionCfg 2 true true true 24 0x00 0x00),
    (regionKey 0 3, 0x1800_0000#32, regionCfg 2 true true true 27 0xFC 0x00),
    (regionKey 1 0, 0x0000_0000#32, regionCfg 1 false false true 7 0xC0 0x00),
    (regionKey 1 1, 0x0000_0000#32, regionCfg 1 false false true 11 0x00 0x01),
    (regionKey 1 2, 0x0000_0000#32, regionCfg 0 false true true 11 0x00 0x04),
    (regionKey 1 3, 0x0000_0200#32, regionCfg 1 false true true 7 0xFB 0x08),
    (regionKey 1 4, 0x0000_0400#32, regionCfg 1 false true true 8 0xE1 0x40),
    (regionKey 1 5, 0x1000_0000#32, regionCfg 2 true false true 28 0x00 0x01),
    (regionKey 1 6, 0x1300_0000#32, regionCfg 2 true true true 24 0x00 0x02),
    (regionKey 1 7, 0x1800_0000#32, regionCfg 2 true true true 27 0xFC 0x02) ] ++
  [ (regionKey 2 1, 0x0200_0000#32, regionCfg 2 true true true 19 0xE0 0x00),
    (regionKey 2 2, 0x1000_0000#32, regionCfg 2 true false true 28 0x00 0x00),
    (regionKey 2 3, 0x1800_0000#32, regionCfg 2 true true true 27 0xFC 0x00),
    (regionKey 3 0, 0x0100_0000#32, regionCfg 0 false true false 20 0x00 0x00),
    (regionKey 3 1, 0x1300_0000#32, regionCfg 2 true true false 24 0x00 0x00),
    (regionKey 4 0, 0x1000_0000#32, regionCfg 2 true false true 27 0x87 0x00),
    (regionKey 4 1, 0x1300_0000#32, regionCfg 2 true true true 24 0x00 0x00),
    (regionKey 4 2, 0x1700_0000#32, regionCfg 2 true true true 24 0x00 0x00),
    (regionKey 4 3, 0x1800_0000#32, regionCfg 2 true true true 27 0xFB 0x00),
    (regionKey 4 4, 0x0100_0000#32, regionCfg 0 false true true 20 0x00 0x00) ] ++
  [ (regionKey 5 0, 0x1500_0000#32, regionCfg 2 true true true 24 0x00 0x00),
    (regionKey 5 1, 0x0100_0000#32, regionCfg 0 false true true 20 0x00 0x00),
    (regionKey 6 0, 0x1600_0000#32, regionCfg 2 true true true 24 0x00 0x00),
    (regionKey 6 1, 0x1A00_0000#32, regionCfg 2 true true true 24 0x00 0x00),
    (regionKey 6 2, 0x0100_0000#32, regionCfg 0 false true true 20 0x00 0x00) ]

/-- A region under the default policy; base 0, disabled, where R435 lists none. -/
def defaultRegion (key : Nat) : Word × Word := nget defaultPolicy key (0#32, 0#32)

/-- A region that programs cannot change (R419, R424). -/
def fixedRegion (master region : Nat) : Bool := region == 0 || 3 ≤ master

/-- Size exponent SZ of a region configuration. -/
def regionSz (cfg : Word) : Nat := cfg.field 24 20

/-- An address of the guarded space (R422); any other matches no region. -/
def guardedSpace (a : Nat) : Bool :=
  a < 0x800 || (0x0100_0000 ≤ a && a < 0x0110_0000) || (0x0200_0000 ≤ a && a < 0x0205_0000) ||
    (0x1000_0000 ≤ a && a < 0x1B00_0000)

/-- A region covers an address: it is enabled, and the address lies in a sub-region that is not
disabled (R423). -/
def regionCovers (r : Word × Word) (a : Nat) : Bool :=
  let sz := regionSz r.2
  let off := a - r.1.toNat
  r.2.bit 31 && 7 ≤ sz && sz ≤ 29 && r.1.toNat ≤ a && off < 2 ^ sz &&
    !(r.2.bit (8 + off / 2 ^ (sz - 3)))

/-- First bytes of the sub-regions of an enabled region. -/
def subRegionStarts (r : Word × Word) : List Nat :=
  if r.2.bit 31 then
    (List.range 8).map (fun k => r.1.toNat + k * 2 ^ (regionSz r.2 - 3))
  else []

/-- An access that a guard checks: what it needs and who asks (R425, R426). -/
structure Access where
  addr : Nat
  len : Nat
  needR : Bool
  needW : Bool
  needS : Bool
  /-- it creates a record, which only a DURABLE region allows (R428) -/
  recWrite : Bool
  rights : Byte
  requester : Nat
  /-- address and length of what goes on at the partition's start (R60) -/
  wrapped : Option (Nat × Nat) := none
  deriving DecidableEq, Repr

/-- Why one check point fails (R431), with the attribute of the points before it. ATTR comes before
the rights, as R428 gives it for every such access (DEDUCED, log entry 39). -/
def pointReason (master : Nat) (c : Option Word) (x : Access) (attr0 : Option Nat) : Nat :=
  match c with
  | none => 1
  | some c =>
    let attr := c.field 30 29
    if attr = 3 || (x.recWrite && attr != 2) then 5
    else if (x.needS && !c.bit 27) || (x.needW && !c.bit 26) || (x.needR && !c.bit 25) then 2
    else if master = 1 && BitVec.ofNat 8 (c.field 7 0) &&& ~~~ x.rights != 0#8 then 3
    else match attr0 with
      | some a => if a = attr then 0 else 4
      | none => 0

/-- Puts a number into a rising list without repeats. -/
def insertNat (l : List Nat) (n : Nat) : List Nat := match l with
  | [] => [n]
  | x :: t => if n < x then n :: x :: t else if n = x then x :: t else x :: insertNat t n

/-- Numbers in rising order without repeats. -/
def sortNats (l : List Nat) : List Nat := l.foldl insertNat []

namespace State

/-- A region of the live policy. -/
def liveRegion (s : State) (key : Nat) : Word × Word := nget s.grd.live key (defaultRegion key)

/-- A region of the shadow. -/
def shadowRegion (s : State) (key : Nat) : Word × Word := nget s.grd.shadow key (defaultRegion key)

/-- Writes a region of the shadow. -/
def setShadowRegion (s : State) (key : Nat) (v : Word × Word) : State :=
  { s with grd.shadow := nset s.grd.shadow key v (defaultRegion key) }

/-- The configuration of the highest-numbered region that covers an address (R424). -/
def deciding (s : State) (master a : Nat) : Option Word :=
  if guardedSpace a then
    ((List.range 16).reverse.find? (fun r =>
      regionCovers (s.liveRegion (regionKey master r)) a)).map (fun r =>
        (s.liveRegion (regionKey master r)).2)
  else none

/-- The check points of a run of bytes: its ends, and each sub-region that begins inside it (R430). -/
def rangePoints (s : State) (master first len : Nat) : List Nat :=
  let last := first + max len 1 - 1
  let starts := (List.range 16).flatMap (fun r =>
    subRegionStarts (s.liveRegion (regionKey master r)))
  first :: last :: starts.filter (fun a => first < a && a ≤ last)

/-- The check points of an access (R430), in address order. -/
def checkPoints (s : State) (master : Nat) (x : Access) : List Nat :=
  sortNats (s.rangePoints master x.addr x.len ++ match x.wrapped with
    | some (a, n) => s.rangePoints master a n
    | none => [])

/-- The first failing point of a list with its reason, or none (R431). -/
def firstFailure (s : State) (master : Nat) (x : Access) (points : List Nat)
    (attr0 : Option Nat) : Option (Nat × Nat) :=
  match points with
  | [] => none
  | a :: t =>
    let c := s.deciding master a
    let r := pointReason master c x attr0
    if r = 0 then s.firstFailure master x t (some (match attr0, c with
        | some v, _ => v
        | none, some w => w.field 30 29
        | none, none => 0))
    else some (r, a)

/-- The guard's check of an access (R430): the reason and address of its fault, or none. -/
def guardCheck (s : State) (master : Nat) (x : Access) : Option (Nat × Nat) :=
  s.firstFailure master x (s.checkPoints master x) none

/-- The attribute that decides an access: 0 STAGED, 1 WRITE_THROUGH, 2 DURABLE (R427). -/
def guardAttr (s : State) (master a : Nat) : Nat := match s.deciding master a with
  | some c => c.field 30 29
  | none => 1

/-- The report of a fault (R432, R434): status, count, the latch of the first fault after
GRD_STATUS was last read, and the coalesced audit record (R32). -/
def guardFault (s : State) (master reason addr : Nat) (x : Access) (imprecise : Bool) : State :=
  let requester := if master = 1 then x.requester else 0
  let info : FaultInfo := {
    imprecise := imprecise, master := master, requester := requester, reason := reason
    s := x.needS, w := x.needW, r := x.needR, addr := BitVec.ofNat 32 addr }
  let free := s.grd.fault.isNone || s.reg 0x430 &&& 0x17F#32 == 0#32
  let s := if free then { s with grd.fault := some info } else s
  let s := s.raise 0x430 master
  let s := if imprecise then s.raise 0x430 8 else s
  let s := s.countBy 0x444 (4 * master + 3) (4 * master) 1
  let was := s.grd.audits.find? (fun a => a.master == master)
  let entry : FaultAudit := match was with
    | some a => { a with count := a.count + 1 }
    | none => { master := master, count := 1, addr := BitVec.ofNat 32 addr, requester := requester }
  { s with grd.audits := s.grd.audits.filter (fun a => a.master != master) ++ [entry] }

/-- Checks an access and reports its fault; true when it passes. -/
def guarded (s : State) (master : Nat) (x : Access) : State × Bool :=
  match s.guardCheck master x with
  | none => (s, true)
  | some (reason, a) => (s.guardFault master reason a x false, false)

/-- Interface of a GUARD_FAULT record by master (R562). -/
def faultIface (master : Nat) : Nat := match master with
  | 0 => 5 | 1 => 2 | 2 => 4 | 3 => 1 | 4 => 3 | _ => 6

/-- GUARD_FAULT_AUDIT (R32): at most one record per master per second counts every fault since the
last. -/
def effGuardFaultAudit (s : State) (master : Nat) : State :=
  match s.grd.audits.find? (fun a => a.master == master) with
  | none => s
  | some a =>
    let last := nget s.grd.auditAt master 0
    if last != 0 && s.clk.up + 1 < last + second then s
    else
      let s := s.audit 6 6 (s.source 6) (faultIface master) master
        (wordBytes a.addr ++ leBytes 4 a.count ++ [BitVec.ofNat 8 a.requester])
      { s with
        grd.audits := s.grd.audits.filter (fun x => x.master != master)
        grd.auditAt := nset s.grd.auditAt master (s.clk.up + 1) 0 }

/-- A shadow region is valid (R437 step 3). -/
def regionValid (r : Word × Word) : Bool :=
  !(r.2.bit 31) || (7 ≤ regionSz r.2 && regionSz r.2 ≤ 29 && r.1.toNat % 2 ^ regionSz r.2 == 0)

/-- The keys of the programmable regions of a master. -/
def programmable (master : Nat) : List Nat :=
  ((List.range 16).filter (fun r => !fixedRegion master r)).map (fun r => regionKey master r)

/-- A guard's shadow differs from its live policy (GRD_STATE.DIRTY). -/
def guardDirty (s : State) (master : Nat) : Bool :=
  (programmable master).any (fun k => s.shadowRegion k != s.liveRegion k)

/-- LOAD_DEFAULT for some masters (R438). -/
def loadDefaults (s : State) (masters : List Nat) : State :=
  masters.foldl (fun s m => (programmable m).foldl (fun s k => s.setShadowRegion k (defaultRegion k)) s) s

/-- A write of GRD_CTRL (R436 to R438): an APPLY of the selected guards; it waits for one in
progress. -/
def requestApply (s : State) (v : Word) : State :=
  let ms := (List.range 7).filter (fun m => v.bit m)
  if ms.isEmpty then s
  else
    let s := if v.bit 8 && s.grd.applyQ.isEmpty then s.loadDefaults ms else s
    { s with grd.applyQ := s.grd.applyQ ++ [(ms, v.bit 8)] }

/-- Copies a valid shadow into the live policy at once, or refuses it (R437 steps 3 and 4). -/
def copyPolicy (s : State) (m : Nat) : State :=
  let ks := programmable m
  if ks.all (fun k => regionValid (s.shadowRegion k)) then
    ks.foldl (fun s k =>
      { s with grd.live := nset s.grd.live k (s.shadowRegion k) (defaultRegion k) }) s
  else s.raise 0x430 9

/-- The guard at the front of the APPLY in progress has updated (R437). -/
def nextGuard (s : State) : State := match s.grd.applyQ with
  | [] => s
  | (_ :: n :: ms, d) :: rest =>
    { s with grd.applyQ := (n :: ms, d) :: rest }
  | (_, _) :: rest =>
    let s := { s with grd.applyQ := rest }
    let s := match rest with
      | (ms, true) :: _ => s.loadDefaults ms
      | _ => s
    s.raise 0x430 10

/-- A device reset or the loss of AON returns the guards to the default policy (R435). -/
def resetGuards (s : State) : State := { s with grd := {} }

end State

end Sys2Proof.Machine
end

