-- ==== Sys2Proof/Machine/Sessions.lean ====
section
/-! DEFINITION. Keys, owner epochs, session contexts and Bivik containers (R439 to R457). -/

namespace Sys2Proof.Machine

/-- The prime of the P-256 field, its constant b and the order of its group (the published curve;
PRESUMED, log entry 6). -/
def p256Prime : Nat := 0xFFFFFFFF00000001000000000000000000000000FFFFFFFFFFFFFFFFFFFFFFFF
def p256B : Nat := 0x5AC635D8AA3A93E7B3EBBD55769886BC651D06B0CC53B0F63BCE3C3E27D2604B
def p256Order : Nat := 0xFFFFFFFF00000000FFFFFFFFFFFFFFFFBCE6FAADA7179E84F3B9CAC2FC632551

/-- A number from big-endian bytes. -/
def beNat (bs : List Byte) : Nat := leNat bs.reverse

/-- A 64-byte public key, X then Y, is a point of P-256 (R444). -/
def onCurve (key : List Byte) : Bool :=
  let x := beNat (slice key 0 32)
  let y := beNat (slice key 32 32)
  key.length == 64 && x < p256Prime && y < p256Prime &&
    (y * y) % p256Prime == (x * x * x + (p256Prime - 3) * x + p256B) % p256Prime

/-- A block is a value that an ephemeral key or a signature nonce may take (R450). -/
def usableScalar (b : BitVec 256) : Bool := b != 0#256 && b.toNat < p256Order

/-- A signature with r or s equal to 0, for which another nonce is drawn (R450). -/
def badSignature (sig : List Byte) : Bool :=
  beNat (slice sig 0 32) == 0 || beNat (slice sig 32 32) == 0

/-- The bytes of a 256-bit block, its SHA-256 output bytes in order. -/
def blockBytes (b : BitVec 256) : List Byte := digestBytes b 32

namespace State

/-- The owner epoch, toll counter 4 (R446). -/
def epoch (s : State) : Nat := s.tollValue 4

/-- The KEY_SLOT payload of a LOADED slot. -/
def keyPayload (s : State) (slot : Nat) : Option (List Byte) :=
  (s.ses.keys.find? (fun k => k.1 == slot)).map (fun k => k.2)

/-- Key material of a LOADED slot (R440). -/
def keyBytes (s : State) (slot : Nat) : Option (List Byte) := (s.keyPayload slot).map (fun p => p.drop 16)

/-- A record that is on its way loads the slot. -/
def loadsKey (slot : Nat) (h : Hook) : Bool := match h with
  | .keySlot n _ _ => n == slot
  | _ => false

/-- A slot has taken its one write: LOADED or DAMAGED (R441), or its record is on its way to its
commit point (R445; DEDUCED, log entry 40). -/
def slotUsed (s : State) (slot : Nat) : Bool :=
  slot ≤ 1 || (s.keyPayload slot).isSome || s.ses.damaged.contains slot ||
    s.cmt.pipe.any (fun r => loadsKey slot r.hook) || s.cmt.s1wait.any (fun w => loadsKey slot w.2)

/-- The current owner key (R446): slot 4 + e in epoch e from 1 to 3. -/
def ownerKey (s : State) : Option (List Byte) := if s.epoch = 0 then none else s.keyBytes (4 + s.epoch)

/-- A session context. -/
def ctx (s : State) (c : Nat) : Option Ctx :=
  (s.ses.ctxs.find? (fun e => e.1 == c)).map (fun e => e.2)

/-- Replaces or adds a session context; contexts stay in number order. -/
def setCtx (s : State) (c : Nat) (x : Ctx) : State :=
  { s with ses.ctxs := s.ses.ctxs.filter (fun e => e.1 < c) ++ [(c, x)] ++
      s.ses.ctxs.filter (fun e => c < e.1) }

/-- Rights of the session of a port; the register port holds every right (R426, R514). -/
def portRights (s : State) (p : Port) : Byte := match p with
  | .regp => 0xFF#8
  | .session c => match s.ctx c with
    | some x => if x.state = .opened then x.rights else 0#8
    | none => 0#8
  | .host _ => BitVec.ofNat 8 (s.cfg 0x4A4 2 0)

/-- Requester number of a port. -/
def portRequester (s : State) (p : Port) : Nat := match p with
  | .regp => 0
  | .session c => match s.ctx c with
    | some x => x.requester
    | none => 0
  | .host n => n

/-- The source ID of the party behind a port (R34, R562). -/
def portActor (s : State) (p : Port) : BitVec 16 := match p with
  | .regp => s.source 5
  | _ => s.source (16 + s.portRequester p)

/-- The arrival class of a port, which is an audit record's interface (R31). -/
def portIface (p : Port) : Nat := match p with
  | .regp => 5
  | _ => 2

/-- The guard master of a port (R419). -/
def portMaster (p : Port) : Nat := match p with
  | .regp => 0
  | _ => 1

/-- Ends the leases of a context (R269). A request of it that waits for its boundary stays, and is answered
there (R270; log entry 36). -/
def endLeases (s : State) (c : Nat) : State :=
  let keep := fun (l : Option Lease) => match l with
    | some x => if x.ctx = c then none else some x
    | none => none
  { s with peal.lease8 := keep s.peal.lease8, peal.lease9 := keep s.peal.lease9 }

/-- An entropy request belongs to a context. -/
def entOf (c : Nat) (r : EntReq) : Bool := match r.use with
  | .hello _ c' => c' == c
  | .bivik (.session c') => c' == c
  | _ => false

/-- The record of a mailbox command whose session has closed (R453, R486): it commits, its audit record
names the host as its actor, and no mailbox hears of it. -/
def orphanHook (c requester : Nat) (h : Hook) : Hook := match h with
  | .timeSet p => if p = .session c then .timeSet (.host requester) else h
  | .keySlot slot p a => if p = .session c then .keySlot slot (.host requester) a else h
  | h => h

/-- Closes and zeroes a context (R448, R453): its leases end, its container and its mailbox command
go, a TIME load that waits for its second among them, and its unlock key is disarmed. -/
def closeCtx (s : State) (c : Nat) : State :=
  match s.ctx c with
  | none => s
  | some x =>
    let s := s.endLeases c
    let s := { s with
      cmt.pipe := s.cmt.pipe.map (fun (p : PipeRec) =>
        { p with hook := orphanHook c x.requester p.hook })
      cmt.s1wait := s.cmt.s1wait.map (fun (w : Rec × Hook) => (w.1, orphanHook c x.requester w.2))
      ses.ctxs := s.ses.ctxs.filter (fun e => e.1 != c)
      rf.keyArmed := s.rf.keyArmed.filter (fun (q : Port) => q != Port.session c)
      rf.prevReject := s.rf.prevReject.filter (fun (q : Port) => q != Port.session c)
      rf.notices := s.rf.notices.filter (fun (q : Port) => q != Port.session c)
      ent.waiting := s.ent.waiting.filter (fun r => !entOf c r)
      fldx.ctx := if s.fldx.ctx = some c then none else s.fldx.ctx
      clk.rtcLoad := match s.clk.rtcLoad with
        | some (v, t, p, a) => if p = Port.session c then none else some (v, t, p, a)
        | none => none }
    let s := (s.dropKind (.bivik (.session c))).endJob (.bivik (.session c))
    s.raise 0x4A8 1

/-- Closes every host context (SES_CTRL.CLOSE_ALL, shedding step 5). -/
def closeHosts (s : State) : State :=
  ((s.ses.ctxs.map (fun e => e.1)).filter (fun c => 4 ≤ c)).foldl (fun s c => s.closeCtx c) s

/-- Closes every context. -/
def closeAllCtx (s : State) : State :=
  (s.ses.ctxs.map (fun e => e.1)).foldl (fun s c => s.closeCtx c) s

/-- Closes every session of the owner method, those in HELLO included (R446, R453). -/
def closeOwners (s : State) : State :=
  ((s.ses.ctxs.filter (fun e => e.2.method == 1)).map (fun e => e.1)).foldl (fun s c => s.closeCtx c) s

/-- A refused SESSION_OPEN is counted (R462). -/
def countRefused (s : State) : State := (s.raise 0x4A8 5).countBy 0x4BC 31 16 1

/-- Refuses a SESSION_OPEN with a reason (R449, R453). -/
def refuseOpen (s : State) (h : MgmtHdr) (reason : Nat) : State :=
  s.countRefused.complete h 0x20 stNoSession 0 [] [BitVec.ofNat 8 reason]

/-- Refuses a SESSION_OPEN with a status alone (R266). -/
def refuseOpenStatus (s : State) (h : MgmtHdr) (status : Nat) : State :=
  s.countRefused.answer h 0x20 status

/-- The open host session with the longest idle time among those that `f` picks. -/
def idlest (s : State) (f : Ctx → Bool) : Option (Nat × Ctx) :=
  (s.ses.ctxs.filter (fun e => 4 ≤ e.1 && e.2.state == .opened && f e.2)).foldl
    (fun (m : Option (Nat × Ctx)) e => match m with
      | none => some e
      | some x => if e.2.lastUse < x.2.lastUse then some e else some x) none

/-- Evicts a session that has been idle for SES_CFG.EVICT_S (R452). -/
def evict (s : State) (e : Option (Nat × Ctx)) : Option State :=
  match e with
  | none => none
  | some (c, x) =>
    let least := clampTo 2 255 (s.cfg 0x4A4 23 16) * second
    if s.clk.up < x.lastUse + least then none
    else some (((s.closeCtx c).raise 0x4A8 2).countBy 0x4C0 31 16 1)

/-- The lowest-numbered free host context. -/
def freeCtx (s : State) : Option Nat :=
  (List.range' 4 60).find? (fun c => (s.ctx c).isNone)

/-- Room for a HELLO of a host (R452): the state after any eviction, or none. -/
def makeRoom (s : State) (host : Nat) : Option State :=
  let own := (s.ses.ctxs.filter (fun e => 4 ≤ e.1 && e.2.requester == host)).length
  if 8 ≤ own then s.evict (s.idlest (fun x => x.requester == host))
  else if s.freeCtx.isSome then some s
  else s.evict (s.idlest (fun _ => true))

/-- The context of a HELLO that has been accepted. -/
def newCtx (s : State) (host method : Nat) (rights : Byte) (point : List Byte) : Ctx :=
  { state := .hello, requester := host, method := method, rights := 0#8, asked := rights
    key := 0#256, challenge := 0#256, tagPoint := [], hostPoint := point, lastUse := s.clk.up
    mbx := {} }

/-- HELLO after the checks of R266 (R449 to R452): a context is taken and three blocks are asked
for: the challenge, the ephemeral key and the signature nonce. -/
def helloStart (s : State) (h : MgmtHdr) (method : Nat) (rights : Byte) (point : List Byte) :
    State :=
  if 1 < method then s.refuseOpen h 6
  else if !onCurve point then s.refuseOpen h 4
  else if method = 1 && s.ownerKey.isNone then s.refuseOpen h 2
  else match s.makeRoom h.requester.toNat with
    | none => s.refuseOpen h 1
    | some s => match s.freeCtx with
      | none => s.refuseOpen h 1
      | some c =>
        let s := s.setCtx c (s.newCtx h.requester.toNat method rights point)
        { s with
          ses.expired := s.ses.expired.filter (fun e => e.1 != c)
          ent.waiting := s.ent.waiting ++ [⟨2, .hello h c⟩, ⟨3, .hello h c⟩, ⟨4, .hello h c⟩] }

/-- Counts an opened session (R453, R462). -/
def countOpened (s : State) : State := (s.raise 0x4A8 0).countBy 0x4BC 15 0 1

/-- The session key of R450. -/
def sessionKey (x : Ctx) : BitVec 256 :=
  sha256 (Config.ecdh x.key (slice x.hostPoint 0 64) ++ blockBytes x.challenge ++
    leBytes 8 Config.deviceId.toNat)

/-- HELLO ends: the completion is signed and sent; a PLAIN session opens (R449 to R451). -/
def helloFinish (s : State) (h : MgmtHdr) (c : Nat) (x : Ctx) (nonce : BitVec 256) :
    Option State :=
  let rights := if x.method = 0 then x.asked &&& BitVec.ofNat 8 (s.cfg 0x4A4 10 8)
    else x.asked &&& 0x7F#8
  let req := [1#8, BitVec.ofNat 8 x.method, x.asked] ++ zeroBytes 5 ++ x.hostPoint
  let comp := [0#8, BitVec.ofNat 8 c, rights] ++ zeroBytes 5 ++ blockBytes x.challenge ++ x.tagPoint
  let sig := Config.sign (req ++ comp) nonce
  if badSignature sig then none
  else
    let x := { x with key := sessionKey x, lastUse := s.clk.up }
    let s := if x.method = 0 then
        (s.setCtx c { x with state := .opened, rights := rights }).countOpened
      else s.setCtx c x
    some (s.complete h 0x20 stOk 0 [] (comp ++ sig))

/-- A block reaches a HELLO at priority 2, 3 or 4; none when another block must be drawn (R450). -/
def helloBlock (s : State) (prio : Nat) (h : MgmtHdr) (c : Nat) (b : BitVec 256) : Option State :=
  match s.ctx c with
  | none => some s
  | some x =>
    if prio = 2 then some (s.setCtx c { x with challenge := b })
    else if !usableScalar b then none
    else if prio = 3 then
      some (s.setCtx c { x with key := b, tagPoint := slice (Config.ecPoint b) 0 64 })
    else s.helloFinish h c x b

/-- PROVE (R449, R451). -/
def prove (s : State) (h : MgmtHdr) (sig : List Byte) : State :=
  match h.session with
  | none => s.refuseOpen h 6
  | some c =>
    match s.ctx c with
    | none =>
      if s.ses.expired.contains (c, h.requester.toNat) then s.refuseOpen h 5 else s.refuseOpen h 6
    | some x =>
      if x.state != .hello || x.requester != h.requester.toNat || x.method != 1 || x.tagPoint = [] then
        s.refuseOpen h 6
      else
        let msg := blockBytes x.challenge ++ x.tagPoint ++ x.hostPoint ++ [h.requester, x.asked] ++
          leBytes 8 Config.deviceId.toNat
        let good := match s.ownerKey with
          | some k => Config.verify k msg sig
          | none => false
        if good then
          let s := (s.setCtx c { x with
            state := .opened, rights := x.asked &&& 0x7F#8, lastUse := s.clk.up }).countOpened
          s.complete h 0x20 stOk 0 [] [0#8, BitVec.ofNat 8 c, x.asked &&& 0x7F#8]
        else
          let s := (s.closeCtx c).audit 6 5 (s.source (16 + h.requester.toNat)) 2 c [0x10#8]
          ((s.raise 0x4A8 4)).refuseOpen h 3

/-- SESSION_IDLE_TIMEOUT (R452): an open host session idle for SES_CFG.IDLE_S closes. -/
def effSessionIdleTimeout (s : State) (c : Nat) : State :=
  let s := s.boundary .sesIdle
  match s.ctx c with
  | some x =>
    if 4 ≤ c && x.state == .opened &&
        x.lastUse + clampTo 1 255 (s.cfg 0x4A4 31 24) * second ≤ s.clk.up then
      ((s.closeCtx c).raise 0x4A8 3).countBy 0x4C0 15 0 1
    else s
  | none => s

/-- HELLO_EXPIRY (R451, R453): a context of the owner method waits for PROVE no longer than tHX. -/
def effHelloExpiry (s : State) (c : Nat) : State :=
  match s.ctx c with
  | some x =>
    if x.state == .hello && x.method == 1 && x.tagPoint != [] then
      let s := ((s.closeCtx c).raise 0x4A8 3).countBy 0x4C0 15 0 1
      { s with ses.expired := s.ses.expired ++ [(c, x.requester)] }
    else s
  | none => s

/-- CLOSE_SEL of a context (R462). A field session in SECURED-A whose context goes has no keys left for
its chunks (R457): it goes on with the rights of SECURED-0 (DESIGN CHOICE, log entry 109). -/
def closeSel (s : State) (c : Nat) : State :=
  let s := if s.fldx.ctx = some c && s.fld.priv = 4 then { s with fld.priv := 2 } else s
  s.closeCtx c

/-- The SES_CTRL commands (R462). -/
def sesControl (s : State) (v : Word) : State :=
  let s := if v.bit 1 then s.closeSel ((s.reg 0x4B0).field 5 0) else s
  if v.bit 0 then s.closeHosts else s

/-- A key slot has been loaded (R445, R446): the slot is used, KEY_LOADED is recorded, and an owner
slot advances the epoch. -/
def keyLoaded (s : State) (slot : Nat) (payload : List Byte) (actor : BitVec 16) (iface : Nat) :
    State :=
  let s := { s with ses.keys := s.ses.keys.filter (fun (k : Nat × List Byte) => k.1 != slot) ++ [(slot, payload)] }
  let s := (s.audit 6 2 actor iface slot []).raise 0x4A8 6
  if 5 ≤ slot && slot = 5 + s.epoch then
    let e := s.epoch + 1
    let s := s.tollUpdate 4 e
    let s := (s.audit 6 0xC actor iface e []).raise 0x4A8 8
    s.closeOwners
  else s

/-- A refused key load (R444). -/
def rejectKey (s : State) (p : Port) (code slot : Nat) : State :=
  let s := s.audit 6 3 (s.portActor p) (portIface p) slot [BitVec.ofNat 8 code]
  let s := (s.raise 0x4A8 7)
  let s := { s with ses.keyRej := (code, slot % 8) }
  let s := if code = 1 then s.raise 0x014 1 else s
  s.endMbx p 6 code []

/-- Kind of the key that a slot holds (R440). -/
def slotKind (slot : Nat) : Nat := match slot with
  | 0 => 2 | 1 => 3 | 2 => 2 | 3 => 1 | 4 => 1 | _ => 4

/-- Bytes of the key that a slot holds (R439). -/
def slotSize (slot : Nat) : Nat := match slot with
  | 3 => 16 | 4 => 16 | 2 => 32 | _ => 64

/-- The mode and requester are allowed for the slot (R439). -/
def keyPermitted (s : State) (p : Port) (slot mode : Nat) : Bool :=
  let r := s.portRights p
  match slot with
  | 2 => (mode == 1 && p == .regp) || (mode == 2 && p != .regp && r &&& 0x08#8 != 0#8)
  | 3 | 4 => (mode == 1 && p == .regp) || (mode == 2 && p != .regp && r &&& 0x10#8 != 0#8)
  | 5 => mode == 1 && p == .regp && s.epoch == 0
  | 6 => mode == 3 && s.epoch == 1 && r &&& 0x40#8 != 0#8
  | 7 => mode == 3 && s.epoch == 2 && r &&& 0x40#8 != 0#8
  | _ => false

/-- An owner container passes R447 for a kind. -/
def ownerContainerOk (s : State) (c : List Byte) (kind bodyLen : Nat) : Bool :=
  slice c 0 4 == [0x42#8, 0x49#8, 0x56#8, 0x4B#8] && leNat (slice c 4 2) == 1 && byteAt c 6 == kind &&
    byteAt c 23 == 2 && leNat (slice c 8 8) == Config.deviceId.toNat &&
    leNat (slice c 16 4) == s.epoch && 1 ≤ s.epoch && leNat (slice c 24 4) == bodyLen &&
    (match s.ownerKey with
      | some k => Config.verify k (c.take (64 + bodyLen)) (slice c (64 + bodyLen) 64)
      | none => false)

/-- A key passes its own check (R444 code 4). -/
def keyGood (slot : Nat) (key : List Byte) : Bool :=
  if 5 ≤ slot then onCurve key else key.any (fun b => b != 0#8)

/-- An owner container of KEY_LOAD uses a reserved value: header byte 7 bits 7:2 or bytes 60 to 63, or body
bytes 1 to 3, which R454 gives as 0 (R444 code 3; DEDUCED, log entry 40). -/
def reservedUsed (c : List Byte) : Bool :=
  3 < byteAt c 7 || slice c 60 4 != zeroBytes 4 || slice c 65 3 != zeroBytes 3

/-- The key that an item carries, or the code of its refusal (R444 codes 3 to 6). -/
def keyOf (s : State) (p : Port) (d : List Byte) : Except Nat (List Byte) :=
  let slot := byteAt d 0
  let mode := byteAt d 1
  let n := slotSize slot
  let len := leNat (slice d 2 2)
  let body := d.drop 8
  let want := if mode = 1 then n else if mode = 2 then n + 28 else 196
  if len != want || body.length != want || (mode == 3 && reservedUsed body) then .error 3
  else if mode = 1 then (if keyGood slot body then .ok body else .error 4)
  else if mode = 2 then
    match p with
    | .session c => match s.ctx c with
      | some x => match Config.unwrap x.key.toNat (d.take 8 ++ body) with
        | some k => if keyGood slot k && k.length == n then .ok k else .error 4
        | none => .error 5
      | none => .error 5
    | _ => .error 5
  else
    let key := slice body 68 64
    if !keyGood slot key then .error 4
    else if s.ownerContainerOk body 3 68 && byteAt body 64 == slot && slot == 5 + s.epoch then .ok key
    else .error 6

/-- KEY_LOAD's COMMIT (R443 to R445). -/
def keyLoad (s : State) (p : Port) (d : List Byte) : State :=
  let slot := byteAt d 0
  let mode := byteAt d 1
  if 7 < slot || mode < 1 || 3 < mode then s.rejectKey p 3 slot
  else if s.slotUsed slot then s.rejectKey p 1 slot
  else if !(s.keyPermitted p slot mode) then s.rejectKey p 2 slot
  else match s.keyOf p d with
    | .error e => s.rejectKey p e slot
    | .ok key =>
      if slice d 4 4 != digestBytes (sha256 key) 4 then s.rejectKey p 7 slot
      else if !s.s1Open || 6 ≤ s.pwr.step then s.endMbx p 0xA 0 []
      else s.createCls 6 (portIface p) 0xA0#8 (flagFirst ||| flagLast)
        (keySlotPayload slot (slotKind slot) mode s.epoch key) (.keySlot slot p (s.portActor p))

/-- KEY_INFO (R442). -/
def keyInfo (s : State) : List Byte :=
  (List.range 8).flatMap (fun i =>
    if i = 0 then [0#8, 2#8, 1#8, 0#8] ++ zeroBytes 12
    else match s.keyPayload i with
      | some p => [BitVec.ofNat 8 i, p.getD 1 0#8, 1#8, p.getD 2 0#8] ++ slice p 4 8 ++ zeroBytes 4
      | none => [BitVec.ofNat 8 i, 0#8, if s.ses.damaged.contains i then 2#8 else 0#8, 0#8] ++
          zeroBytes 12)

/-- The stored form of a record's payload: ciphertext when Flags.ENC is 1 (R24). -/
def storedPayload (r : Rec) : List Byte :=
  if r.hdr.has flagEnc then Config.gcmSeal 0 (r.hdr.nonce 0) (pad32 r.payload) else pad32 r.payload

/-- A record's bytes in the stored layout (R17), payload as stored or in plaintext. -/
def recBytes (r : Rec) (asStored : Bool) : List Byte :=
  r.hdr.bytes ++ (if asStored then storedPayload r else pad32 r.payload) ++ r.trailer

/-- Records of a partition from a stroke number on, in stroke order. -/
def fromStroke (s : State) (p stroke : Nat) : List Stored :=
  ((s.recsOf p).filter (fun r => stroke ≤ r.record.hdr.stroke)).foldl insertStored []

/-- A record of a stroke number. -/
def byNumber (s : State) (stroke : Nat) : Option Stored :=
  s.arr.recs.find? (fun r => r.record.hdr.stroke == stroke)

/-- The guarded range of a record's sectors in its partition's space (R422). A record that passes the
partition's last sector goes on at sector 0 (R60). -/
def recAccess (s : State) (p sector sectors : Nat) (rd wr se recW : Bool) (rights : Byte) (req : Nat) :
    Access :=
  let total := (s.part p).extents * extSectors
  let base := 0x1000_0000 + 0x0100_0000 * p
  let n := if p = 4 || total ≤ sector then sectors else min sectors (total - sector)
  { addr := base + 32 * sector, len := 32 * n, needR := rd, needW := wr
    needS := se, recWrite := recW, rights := rights, requester := req
    wrapped := if n < sectors then some (base, 32 * (sectors - n)) else none }

/-- A stored record's first sector in its partition's space. In the Knell partition a sector counts from
the start of its slot's images, which lie there in slot order, image A before image B, and the access is
to image A (DESIGN CHOICE, log entry 110). -/
def spaceSector (s : State) (r : Stored) : Nat :=
  if r.record.hdr.part = 4 then 2 * r.slot * nth s.arr.sizes 4 * extSectors + r.sector else r.sector

/-- The access that reads a stored record. -/
def readAccess (s : State) (r : Stored) (se : Bool) (rights : Byte) (req : Nat) : Access :=
  s.recAccess r.record.hdr.part (s.spaceSector r) (sectorsOf r.record.hdr.length) true false se false
    rights req

/-- A master's guard lets it read every one of these records (R422): the first that fails is reported. -/
def guardReads (s : State) (master : Nat) (rs : List Stored) (se : Stored → Bool) (rights : Byte)
    (req : Nat) : State × Bool :=
  rs.foldl (fun (x : State × Bool) r =>
    if x.2 then x.1.guarded master (x.1.readAccess r (se r) rights req) else x) (s, true)

/-- A stored record passes the sealing engine when its plaintext is read (R425). -/
def isSealed (r : Stored) : Bool := r.record.hdr.has flagEnc

/-- The records of a list of stroke numbers that the array still holds. -/
def heldOf (s : State) (strokes : List Nat) : List Stored := strokes.filterMap s.byNumber

/-- The strokes at which the chain breaks between two consecutive records whose checks both pass (R70). -/
def chainBreaks : List Stored → List Nat
  | a :: b :: t =>
    let rest := chainBreaks (b :: t)
    if a.intact && b.intact && chainLink a.record.link b.record.hdr b.record.gcm != b.record.link then
      b.record.hdr.stroke :: rest
    else rest
  | _ => []

/-- An export of a partition's records commits CHAIN_BREAK for every break that it finds (R70). -/
def auditExport (s : State) (p : Nat) (strokes : List Nat) : State :=
  s.auditBreaks ((chainBreaks (s.heldOf strokes)).map (fun k => (p, k)))

/-- An EXPORT container (R454, R455) of the records that the open found, without those reclaimed since,
signed with a nonce; none when the nonce does not serve. `stroke` and `n` are what was asked for. -/
def makeBivik (s : State) (p stroke n : Nat) (strokes : List Nat) (sealed : Bool)
    (nonce : BitVec 256) : Option Bivik :=
  let rs := s.heldOf strokes
  let body := rs.flatMap (fun r => recBytes r.record sealed)
  let before := match rs with
    | r :: _ => r.record.prev
    | [] => 0#64
  let header := [0x42#8, 0x49#8, 0x56#8, 0x4B#8, 1#8, 0#8, 1#8,
      BitVec.ofNat 8 (bitNat sealed + 2 * bitNat (rs.length < n))] ++
    leBytes 8 Config.deviceId.toNat ++ leBytes 4 s.epoch ++ leBytes 2 rs.length ++
    [BitVec.ofNat 8 p, 1#8] ++ leBytes 4 body.length ++ leBytes 8 s.clk.rtc ++ leBytes 8 stroke ++
    leBytes 8 (s.newestLink p).toNat ++ leBytes 8 before.toNat ++ zeroBytes 4
  let sig := Config.sign (header ++ body) nonce
  if !usableScalar nonce || badSignature sig then none
  else some { header := header, sig := sig, strokes := rs.map (fun r => r.record.hdr.stroke)
              sizes := rs.map (fun r => (recBytes r.record sealed).length), sealed := sealed, created := s.clk.rtc, part := p }

/-- Length of a container in bytes. -/
def bivikLength (b : Bivik) : Nat := 128 + leNat (slice b.header 24 4)

/-- The parts of a container in order (R454): its bytes, re-read from the array for a record, or
the length alone of a record that has been reclaimed (R456). -/
def bivikParts (s : State) (b : Bivik) : List (Nat × Option (List Byte)) :=
  [(b.header.length, some b.header)] ++
    (b.strokes.zip b.sizes).map (fun r =>
      (r.2, (s.byNumber r.1).map (fun x => recBytes x.record b.sealed))) ++
    [(b.sig.length, some b.sig)]

/-- Bytes `at0` to `at0 + n - 1` of a list of parts meet a part that is gone. -/
def meetsGone (parts : List (Nat × Option (List Byte))) (pos at0 n : Nat) : Bool := match parts with
  | [] => false
  | (len, none) :: t => (at0 < pos + len && pos < at0 + n) || meetsGone t (pos + len) at0 n
  | (len, some _) :: t => meetsGone t (pos + len) at0 n

/-- `n` bytes of a container from an offset: none when they meet a reclaimed record. -/
def bivikChunk (s : State) (b : Bivik) (at0 n : Nat) : Option (List Byte) :=
  let parts := s.bivikParts b
  if meetsGone parts 0 at0 n then none
  else some (slice (parts.flatMap (fun r => (r.2).getD (zeroBytes r.1))) at0 n)

/-- The records of a container that its bytes `at0` to `at0 + n - 1` belong to. -/
def strokesAt : List Nat → List Nat → Nat → Nat → Nat → List Nat
  | k :: ks, z :: zs, pos, at0, n =>
    (if at0 < pos + z && pos < at0 + n then [k] else []) ++ strokesAt ks zs (pos + z) at0 n
  | _, _, _, _, _ => []

/-- The guard's check of a chunk's re-read of its records (R422, R456): R, and S where it returns the
plaintext of a sealed record (R425). -/
def guardChunk (s : State) (master : Nat) (b : Bivik) (at0 n : Nat) (rights : Byte) (req : Nat) :
    State × Bool :=
  s.guardReads master (s.heldOf (strokesAt b.strokes b.sizes 64 at0 n))
    (fun r => !b.sealed && isSealed r) rights req

/-- Open containers of ports and host sessions (R456). -/
def openContainers (s : State) : Nat :=
  bitNat s.rf.mbx.container.isSome +
    (s.ses.ctxs.filter (fun e => e.2.mbx.container.isSome)).length

/-- BIVIK_OPEN's COMMIT (R455 to R457): the checks, and the signature job. -/
def bivikOpen (s : State) (p : Port) (d : List Byte) (noEntropy : Bool) : State :=
  let part := byteAt d 0
  let n := leNat (slice d 2 2)
  let stroke := leNat (slice d 4 8)
  if s.portRights p &&& 0x20#8 = 0#8 then s.endMbx p 5 0 []
  else if 10 < part || n < 1 || 64 < n || 1 < byteAt d 1 then s.endMbx p 6 0 []
  else if part = 1 then s.endMbx p 5 0 []
  else
    let rs := (s.fromStroke part stroke).take n
    if rs.isEmpty then s.endMbx p 8 0 []
    else
      let (s, ok) := s.guardReads (portMaster p) rs (fun _ => true) (s.portRights p)
        (s.portRequester p)
      if !ok then s.endMbx p 5 0 []
      else if noEntropy then s.endMbx p 9 0 []
      else if (s.mbx p).container.isNone && 8 ≤ s.openContainers then s.endMbx p 0xA 0 []
      else
        let s := s.modMbx p (fun m => { m with chosen := rs.map (fun r => r.record.hdr.stroke) })
        s.enqueue 3 190000 1 (.bivik p)

/-- A nonce block reaches a BIVIK_OPEN: the container opens (R455, R457); NO_RECORD when the records asked for
have gone since. -/
def bivikBlock (s : State) (p : Port) (b : BitVec 256) : Option State :=
  let d := (s.mbx p).inbuf
  let chosen := (s.mbx p).chosen
  match s.makeBivik (byteAt d 0) (leNat (slice d 4 8)) (leNat (slice d 2 2)) chosen
    (byteAt d 1 % 2 == 1) b with
  | none => none
  | some c =>
    let s := (s.endJob (.bivik p)).auditExport (byteAt d 0) chosen
    if c.strokes.isEmpty then some (s.endMbx p 8 0 [])
    else if (s.mbx p).container.isNone && 8 ≤ s.openContainers then some (s.endMbx p 0xA 0 [])
    else
      let s := s.modMbx p (fun m => { m with container := some c })
      some (s.endMbx p 0 0 (leBytes 4 (bivikLength c)))

end State

end Sys2Proof.Machine
end

