-- ==== Sys2Proof/Machine/Consolidate.lean ====
section
/-! DEFINITION. Consolidation of a Knell slot: the manifest, K-SIGN and K-INDEX (R149 to R166). -/

namespace Sys2Proof.Machine

/-- One section outcome of the manifest (R165). -/
def outcomeBytes (o : SectionOut) : List Byte :=
  [BitVec.ofNat 8 o.position, BitVec.ofNat 8 o.outcome, BitVec.ofNat 8 o.priority, 0#8] ++
    leBytes 4 o.storedAt ++ leBytes 4 o.storedLen

namespace State

/-- The committed segments of a slot, in order (R149, R153). -/
def slotSegments (s : State) (k : Nat) : List Rec :=
  ((s.arr.recs.filter (fun r => r.record.hdr.part == 4 && r.slot == k &&
    r.record.hdr.typ == 0x21#8)).map (fun r => r.record))

/-- Every record of a slot. -/
def slotRecords (s : State) (k : Nat) : List Stored :=
  s.arr.recs.filter (fun r => r.record.hdr.part == 4 && r.slot == k)

/-- The announced length that a stored directory gives, 0 when it is not valid (R164). -/
def storedAnnounced (bytes : List Byte) : Nat :=
  let dir := 32 + 16 * byteAt bytes 2
  if dir ≤ bytes.length then
    match parseDirectory (bytes.take dir) with
    | some (_, a) => a
    | none => 0
  else 0

/-- The manifest payload up to its signature (R165); `sign` is its SIGNED flag. -/
def manifestBody (s : State) (k : Nat) (sign : Bool) : List Byte :=
  let segs := s.slotSegments k
  let bytes := segs.flatMap (fun r => r.payload)
  let last := segs.getLast?
  let lastTime := match last with | some r => r.hdr.time | none => 0
  let lastLink := match last with | some r => r.link.toNat | none => 0
  let first := match segs with | r :: _ => r.hdr.stroke | [] => 0
  let number := (s.kn.slots.getD k emptySlot).number
  let img := fun (i : Nat) => match (s.slotImages k)[i]? with
    | some im => nth s.arr.banks im.1 != 2
    | none => false
  let digest := digestBytes (sha256 bytes) 32
  match s.kn.plans.find? (fun p => p.slot == k) with
  | some p =>
    [1#8, 0#8, BitVec.ofNat 8 k, BitVec.ofNat 8 (bitNat p.imageA + 2 * bitNat p.imageB)] ++
    leBytes 4 number ++ [BitVec.ofNat 8 p.trigger, BitVec.ofNat 8 p.endCode,
      BitVec.ofNat 8 (bitNat sign + 2 * bitNat p.cut + 4 * bitNat p.overwrote +
        8 * bitNat p.downshift + 16 * bitNat p.bankFail + 32 * bitNat p.atBoot),
      BitVec.ofNat 8 p.width] ++
    leBytes 4 p.announced ++ leBytes 4 bytes.length ++ leBytes 4 p.limit ++
    leBytes 2 (saturate 65535 (p.avail / 1000)) ++ leBytes 2 p.capUf ++ leSigned 2 p.temp ++
    zeroBytes 2 ++ leBytes 8 p.time ++ leBytes 8 lastTime ++ leBytes 8 first ++
    leBytes 2 segs.length ++ leBytes 2 p.outcomes.length ++ wordBytes p.bracket ++ digest ++
    p.outcomes.flatMap outcomeBytes ++ leBytes 8 lastLink
  | none =>
    [1#8, 0#8, BitVec.ofNat 8 k, BitVec.ofNat 8 (bitNat (img 0) + 2 * bitNat (img 1))] ++
    leBytes 4 number ++ [0#8, 0#8, BitVec.ofNat 8 (bitNat sign + 32 + 64), 0#8] ++
    leBytes 4 (storedAnnounced bytes) ++ leBytes 4 bytes.length ++ zeroBytes 28 ++
    leBytes 8 first ++ leBytes 2 segs.length ++ zeroBytes 2 ++ zeroBytes 4 ++ digest ++
    leBytes 8 lastLink

/-- Passes the manifest of a slot to S1 under the grant of K-SIGN (R154, R161). -/
def passManifest (s : State) (k : Nat) (payload : List Byte) : State :=
  let segs := s.slotSegments k
  let place := total (segs.map (fun r => sectorsOf r.hdr.length))
  let r := s.newInternal 1 0 0x20#8 flagLast payload
  ((s.stamp).passOwn r (.manifest k) false true k place none).grantLast

/-- S1 has room for the manifest of a slot (R85). -/
def manifestRoom (s : State) (k : Nat) : Bool :=
  s.roomOwn (s.newInternal 1 0 0x20#8 flagLast (s.manifestBody k true ++ zeroBytes 64))

/-- K-SIGN ends its wait for a block with the manifest's payload; while S1 has no room the manifest waits
for the next K_SIGN row (R85). -/
def finishSign (s : State) (k : Nat) (payload : List Byte) : State :=
  { (if s.manifestRoom k then s.passManifest k payload else s) with kn.signWait := none }

/-- K-SIGN without entropy commits the manifest unsigned (R163). -/
def kSignUnsigned (s : State) (k : Nat) : State := s.finishSign k (s.manifestBody k false ++ zeroBytes 64)

/-- The signature of K-SIGN lowers its grant by the cost of a signature (R188), which R186 states for a Bivik
container (DESIGN CHOICE, log entry 101). -/
def spendSign (s : State) (k : Nat) : State :=
  { s with pwr.grants := s.pwr.grants.map (fun (j : Job) =>
      if j.kind = JobKind.kSign k then { j with cost := j.cost - 190000 } else j) }

/-- A nonce block reaches K-SIGN; none when another must be drawn (R163, R450). -/
def kSignBlock (s : State) (k : Nat) (b : BitVec 256) : Option State :=
  let body := s.manifestBody k true
  let sig := Config.sign body b
  if !usableScalar b || badSignature sig then none
  else some ((s.spendSign k).finishSign k (body ++ slice sig 0 64))

/-- A consolidation job ends (R167). -/
def consEnded (s : State) : State :=
  let pend := s.kn.slots.any (fun x => x.state == 2)
  let s := if s.kn.state = 7 then { s with kn.state := if pend then 6 else 8 } else s
  let s := if pend then s else { s with kn.cellCons := false }
  s.queueCons

/-- The manifest has reached its commit point: K-SIGN ends (R161). -/
def manifestCommitted (s : State) (k stroke : Nat) : State :=
  let s := s.modSlot k (fun x => { x with manifest := stroke })
  (s.endJob (.kSign k)).consEnded

/-- The slots whose manifest is committed become COMPLETE (R161). -/
def completeSlots (s : State) : State :=
  let ks := (List.range 8).filter (fun k =>
    let x := s.kn.slots.getD k emptySlot
    x.state == 2 && x.manifest != 0)
  ks.foldl (fun s k =>
    let s := s.modSlot k (fun x => { x with state := 3 })
    let s := { s with
      kn.mirrorPend := (s.kn.mirrorPend.filter (fun (x : Nat) => x != k)) ++ [k]
      kn.plans := s.kn.plans.filter (fun (p : Plan) => p.slot != k) }
    s.raise 0x168 8) s

/-- K_INDEX (R161): an admitted K-INDEX takes a checkpoint, and its slot is COMPLETE. -/
def effKIndex (s : State) : State :=
  if s.isGranted .kIndex && !s.knellRunning then
    ((s.endJob .kIndex).takeCkpt.completeSlots).consEnded
  else s

/-- KNL_CTRL.CONS_REQ (R170): consolidation of every PENDING slot is queued. -/
def requestCons (s : State) : State := s.queueCons

end State

end Sys2Proof.Machine
end

