-- ==== Sys2Proof/Machine/Entropy.lean ====
section
/-! DEFINITION. The entropy source (R392 to R418), the wake output that readiness may assert (R317, R318), and the results of self-tests (R532 to R536). -/

namespace Sys2Proof.Machine

/-- What the tests of R398 have counted over a window, up to its end or to the failing sample. -/
structure TestRun where
  run : Nat
  last : Bool
  ref : Bool
  cnt : Nat
  runMax : Nat
  /-- the test that has failed: 0 RCT, 1 APT -/
  failed : Option Nat
  deriving DecidableEq, Repr

/-- Cutoffs of R398. -/
def rctCutoff : Nat := 129
def aptCutoff : Nat := 851

/-- What one sample counts at position `pos` of its window (R398). -/
def countSample (t : TestRun) (x : Bool) (pos : Nat) : TestRun :=
  let run := if t.run ≠ 0 && x = t.last then t.run + 1 else 1
  let ref := if pos = 0 then x else t.ref
  let cnt := if pos = 0 then 1 else if x = ref then t.cnt + 1 else t.cnt
  { run := run, last := x, ref := ref, cnt := cnt, runMax := max t.runMax run
    failed := if rctCutoff ≤ run then some 0 else if aptCutoff ≤ cnt then some 1 else none }

/-- The counts with which a window begins: the run carried in from the samples before it. -/
def freshRun (run : Nat) (last : Bool) : TestRun :=
  { run := run, last := last, ref := false, cnt := 0, runMax := 0, failed := none }

/-- The tests over the first samples of a window. Nothing is counted after a failure (R400). -/
def testSamples {n : Nat} (w : BitVec n) (run : Nat) (last : Bool) : TestRun :=
  (List.range n).foldl (fun t pos => if t.failed.isSome then t else countSample t (w.getLsbD pos) pos)
    (freshRun run last)

/-- The tests over a whole window. -/
def testWindow (w : BitVec 1024) (run : Nat) (last : Bool) : TestRun := testSamples w run last

/-- A window whose first 128 samples have been taken already (R396). -/
def withLead (lead : Option (BitVec 128)) (w : BitVec 1024) : BitVec 1024 := match lead with
  | some l => w >>> 128 <<< 128 ||| l.setWidth 1024
  | none => w

/-- The tests over a raw capture (R414): the counts, the failures of each test, and the highest count of a
window. -/
structure RawRun where
  t : TestRun
  rct : Nat
  apt : Nat
  aptMax : Nat
  deriving DecidableEq, Repr

/-- One sample of a raw capture: a failure is counted and restarts the affected count (R414; DESIGN CHOICE,
log entry 107: from 0). -/
def rawSample (r : RawRun) (x : Bool) (pos : Nat) : RawRun :=
  let t := countSample r.t x (pos % 1024)
  let rct := rctCutoff ≤ t.run
  let apt := aptCutoff ≤ t.cnt
  { t := { t with run := if rct then 0 else t.run, cnt := if apt then 0 else t.cnt, failed := none }
    rct := r.rct + bitNat rct, apt := r.apt + bitNat apt, aptMax := max r.aptMax t.cnt }

/-- The tests over the samples of a raw capture, packed as R395 packs a window. -/
def rawTests (bytes : List Byte) (run : Nat) (last : Bool) : RawRun :=
  let bits := bytes.flatMap (fun b => (List.range 8).map (fun i => b.getLsbD i))
  ((bits.zip (List.range bits.length)).foldl (fun r p => rawSample r p.1 p.2)
    { t := freshRun run last, rct := 0, apt := 0, aptMax := 0 })

/-- The samples of a window packed into 128 bytes (R395). -/
def windowBytes (w : BitVec 1024) : List Byte := leBytes 128 w.toNat

/-- The conditioned block of a window (R395). -/
def condition (w : BitVec 1024) : BitVec 256 := sha256 (windowBytes w)

/-- A block's bits in buffer order: output byte 0 first, most significant bit first (DESIGN CHOICE,
log entry 13). -/
def blockBits (b : BitVec 256) : List Bool := (List.range 256).map (fun i => b.getMsbD i)

/-- A block's eight host words: bytes 4i to 4i + 3, little-endian (R7, R410). -/
def blockWords (b : BitVec 256) : List Word :=
  (List.range 8).map (fun i => BitVec.ofNat 32 (leNat (slice (blockBytes b) (4 * i) 4)))

/-- Most significant byte first (R322). -/
def beBytes (n v : Nat) : List Byte := (leBytes n v).reverse

/-- Number of a source: 0 ENTA, 1 ENTB. -/
def srcNum (x : Src) : Nat := match x with | .a => 0 | .b => 1

/-- The other source. -/
def otherSrc (x : Src) : Src := match x with | .a => .b | .b => .a

namespace State

/-- One noise source. -/
def source1 (s : State) (x : Src) : Source := match x with | .a => s.ent.a | .b => s.ent.b

/-- Changes one noise source. -/
def setSource (s : State) (x : Src) (v : Source) : State := match x with
  | .a => { s with ent.a := v }
  | .b => { s with ent.b := v }

/-- A source is FAILED (R403). -/
def srcFailed (s : State) (x : Src) : Bool := (s.source1 x).state == 5

/-- Both sources are FAILED (R405). -/
def bothFailed (s : State) : Bool := s.srcFailed .a && s.srcFailed .b

/-- Presents a trigger of TAG_WAKE_N (R317, R318): 1 CMD, 2 FIELD, 3 SECURED, 4 TEST. The answer is
the result of R346: 0 asserted, 1 held off, 2 disabled. The output needs the AON supply (log entry 91). -/
def wakeTrigger (s : State) (code : Nat) : State × Nat :=
  let s := s.boundary .wakeTrigger
  if !s.aonRuns || (code ≠ 4 && !(s.cfgBit 0x2A8 (code - 1))) then (s, 2)
  else
    let held := match s.fld.wakeStart with
      | some t => code ≠ 4 && s.clk.up < t + s.cfg 0x2A8 23 16 * second
      | none => false
    if held then (s.raise 0x2AC 8, 1)
    else
      let s := s.boundary .wakeAssert
      ({ s with
        fld.wake := true, fld.wakeCause := code, fld.wakeStart := some s.clk.up
        fld.wakeLevel := s.cfgBit 0x2A8 4, fldx.wakeSeen := saturate 65535 (s.fldx.wakeSeen + 1)
        }.raise 0x2AC 9, 0)

/-- Bits in the field buffer (R307). -/
def bufBits (s : State) : Nat := total (s.fld.buf.map (fun c => c.2.length))

/-- The field engine becomes ready when its buffer first holds 32 bits (R303); readiness without
TAG_VAUX is the trigger FIELD (R317). -/
def checkReady (s : State) : State :=
  if s.fld.st ≠ 0 && !s.fld.ready && 32 ≤ s.bufBits then
    let s := { s with fld.ready := true }
    if s.wired then s else (s.wakeTrigger 2).1
  else s

/-- A source wakes (R393, R399, R415). -/
def wakeSource (s : State) (x : Src) : State :=
  if (s.source1 x).state = 0 then
    (s.setSource x { state := 1, fast := s.wired, code := (s.source1 x).code, woken := true }).setDom
      (14 + srcNum x) true
  else s

/-- A source runs the startup test again without a wake (R412, R414): its margins and its window count go on
from the wake (R399). -/
def restartSource (v : Source) : Source := { v with state := 1, run := 0, last := false, lead := none }

/-- A source in TEST leaves it (R412). -/
def leaveTest (s : State) (x : Src) : State :=
  let v := s.source1 x
  if v.state = 3 then s.setSource x (restartSource v) else s

/-- The running test is stopped (R189, R412): a bank returns to service, a source to its startup test. -/
def abortTest (s : State) : State :=
  match s.st.current with
  | none => s
  | some (_, unit) =>
    let s := if unit < 4 && nth s.arr.banks unit = 1 then
        { s with arr.banks := setNth s.arr.banks unit 0 } else s
    let s := (s.leaveTest .a).leaveTest .b
    let s := s.endSelftest 2 0 0 s.clk.rtc none
    (if unit = 0x10 || unit = 0x11 then s.raise 0x3E8 6 else s).startNextTest

/-- A source's domain gates (R408, R415), unless a pin keeps it on (R196); FAILED stays, and a test of the
source is stopped. -/
def gateSource (s : State) (x : Src) : State :=
  if s.pinned (14 + srcNum x) then s
  else
  let s := if (s.source1 x).state = 3 then s.abortTest else s
  (s.setSource x (offSource (s.source1 x))).setDom (14 + srcNum x) false

/-- Shedding steps 4 to 6 are in force: ENTA is on, and ENTB when ENTA is FAILED (R408). -/
def shedSources (s : State) : Bool := 4 ≤ s.pwr.step && s.pwr.step < 7

/-- The sources wanted by R408 at this moment: ENTA, ENTB. -/
def wantSources (s : State) : Bool × Bool :=
  let fa := s.srcFailed .a
  let fb := s.srcFailed .b
  if s.wired && s.pwr.step < 4 then (!fa, !fb)
  else if s.wired || s.shedSources || s.fld.st ≠ 0 || s.ent.waiting ≠ [] then (!fa, fa && !fb)
  else (false, false)

/-- Wakes and gates the sources as R408 says. Without TAG_VAUX a source that is on goes on until its
own gating. -/
def entPower (s : State) : State :=
  let (wa, wb) := s.wantSources
  let s := if wa then s.wakeSource .a else s
  let s := if wb then s.wakeSource .b else s
  let s := if s.wired && !wa && s.ent.a.state ≠ 5 then s.gateSource .a else s
  if 4 ≤ s.pwr.step && !wb && s.ent.a.state ≠ 5 && s.ent.b.state ≠ 5 then s.gateSource .b else s

/-- Backscatters a reply; with FLD_CTRL.EN 0 nothing is sent (R320), and none outside a session. -/
def backscatter (s : State) (r : Reply) : State :=
  { s with fldx.reply := if s.cfgBit 0x2A0 0 && s.fld.st != 0 then r else .none }

/-- A read command's data (R362): it is counted in READS when the reply is sent. -/
def answerData (s : State) (bytes : List Byte) : State :=
  let s := s.backscatter (.data bytes)
  if s.fldx.reply = .none then s else s.countBy 0x2D8 15 0 1

/-- An error reply of the field engine, with the refusal counters of R362. -/
def fieldError (s : State) (code : Nat) : State :=
  let s := s.backscatter (.error code)
  if s.fldx.reply = .none then s
  else if code = 0x04 then s.countBy 0x2DC 31 24 1
  else if code = 0x02 then s.countBy 0x2DC 23 16 1
  else if code = 0x03 || code = 0x86 then s.countBy 0x2DC 15 8 1
  else if code = 0x0F || code = 0x83 || code = 0x85 || code = 0x87 then s.countBy 0x2DC 7 0 1
  else s

/-- The nonce block of G_EXPORT OPEN: the container opens and the delayed reply is sent (R345); NO_RECORD
when the records asked for have gone since. -/
def exportBlock (s : State) (b : BitVec 256) : Option State :=
  match s.fldx.exportPend with
  | none => some s
  | some (part, stroke, n, chosen) =>
    match s.makeBivik part stroke n chosen false b with
    | none => none
    | some c =>
      let len := bivikLength c
      let s := { (s.endJob .exportSeal).auditExport part chosen with fldx.exportPend := none }
      if c.strokes.isEmpty then some (s.fieldError 0x80)
      else some ({ s with fldx.container := some c }.backscatter
        (.data (beBytes 4 len ++ beBytes 2 (ceilDiv len 64))))

/-- One use of a block by a waiting request (R406); none when another block must be drawn. -/
def useBlock (s : State) (r : EntReq) (b : BitVec 256) : Option State := match r.use with
  | .hello h c => s.helloBlock r.prio h c b
  | .kSign k => s.kSignBlock k b
  | .bivik p => s.bivikBlock p b
  | .fieldExport => s.exportBlock b

/-- What a waiting request is told when both sources have failed (R405). -/
def refuseUse (s : State) (r : EntReq) : State := match r.use with
  | .hello h c =>
    if (s.ctx c).isSome then (s.closeCtx c).refuseOpenStatus h stNoEntropy else s
  | .kSign k => s.kSignUnsigned k
  | .bivik p => (s.endJob (.bivik p)).endMbx p 9 0 []
  | .fieldExport => ({ (s.endJob .exportSeal) with fldx.exportPend := none }).fieldError 0x84

/-- The use for which a queued Sign job will ask for a nonce block (R406). -/
def nonceUse (s : State) (j : Job) : Option EntUse := match j.kind with
  | .bivik p => some (.bivik p)
  | .exportSeal => if s.fldx.exportPend.isSome then some .fieldExport else none
  | _ => none

/-- Refuses every waiting request (R405), those whose Sign job has not been granted among them. -/
def refuseAll (s : State) : State :=
  let rs := s.ent.waiting
  let queued := s.pwr.jobs.filterMap s.nonceUse
  let s := { s with
    ent.waiting := [], pwr.jobs := s.pwr.jobs.filter (fun j => (s.nonceUse j).isNone) }
  let s := rs.foldl (fun s r => s.refuseUse r) s
  queued.foldl (fun s u => s.refuseUse { prio := 4, use := u }) s

/-- The field buffer takes a whole block (R406 priority 1). -/
def bufferWants (s : State) : Bool := s.domOn 3 && s.bufBits + 256 ≤ 512

/-- The host FIFO takes a whole block (R406 priority 5). -/
def fifoWants (s : State) : Bool := s.domOn 4 && s.cfgBit 0x3E4 0 && s.ent.fifo.length ≤ 8

/-- The first waiting request by priority, then by arrival. -/
def firstRequest (s : State) : Option EntReq :=
  match s.ent.waiting.find? (fun r => r.prio == 2) with
  | some r => some r
  | none => match s.ent.waiting.find? (fun r => r.prio == 3) with
    | some r => some r
    | none => s.ent.waiting.head?

/-- Removes the first element equal to `r`. -/
def dropRequest (l : List EntReq) (r : EntReq) : List EntReq := match l with
  | [] => []
  | x :: t => if x = r then t else x :: dropRequest t r

/-- Gives a block to the first waiting consumer (R406, R407); false when none takes it. -/
def consume (s : State) (x : Src) (b : BitVec 256) : State × Bool :=
  if s.bufferWants then
    ({ s with fld.buf := s.fld.buf ++ [(x, blockBits b)] }.checkReady, true)
  else match s.firstRequest with
    | some r =>
      let t := { s with ent.waiting := dropRequest s.ent.waiting r }
      match t.useBlock r b with
      | some u => (u, true)
      | none => (s, true)
    | none =>
      if s.fifoWants then
        ({ s with ent.fifo := s.ent.fifo ++ (blockWords b).map (fun w => (x, w)) }, true)
      else (s, false)

/-- Serves waiting consumers from the pool, oldest block first (R406). -/
def servePool (s : State) (fuel : Nat) : State := match fuel with
  | 0 => s
  | fuel + 1 => match s.ent.pool with
    | [] => s
    | (x, b) :: t =>
      match ({ s with ent.pool := t }).consume x b with
      | (u, true) => u.servePool fuel
      | (_, false) => s

/-- Serves from the pool for as long as it helps. -/
def feed (s : State) : State := s.servePool 17

/-- A released block reaches its consumer, the pool, or nothing (R406). -/
def deliver (s : State) (x : Src) (b : BitVec 256) : State :=
  let s := s.feed
  match s.consume x b with
  | (u, true) => u
  | (_, false) =>
    if !s.domOn 4 then s
    else if s.ent.pool.length < 16 then { s with ent.pool := s.ent.pool ++ [(x, b)] }
    else { s with ent.pool := s.ent.pool.drop 1 ++ [(x, b)] }.countBy 0x404 15 0 1

/-- A consumer of priorities 2 to 4 asks for a block (R406 to R408). -/
def askBlock (s : State) (prio : Nat) (use : EntUse) : State :=
  let r : EntReq := { prio := prio, use := use }
  let s := { s with ent.waiting := s.ent.waiting ++ [r] }
  if s.bothFailed then s.refuseAll else s.entPower.feed

/-- A raw capture is discarded (R414). -/
def abortRaw (s : State) : State :=
  match s.ent.raw with
  | some r =>
    if r.running then
      let s := { s with ent.raw := none }
      let v := s.source1 r.src
      let s := if v.state = 4 then s.setSource r.src (restartSource v) else s
      s.raise 0x3E8 8
    else s
  | none => match s.ent.rawReq with
    | some _ => ({ s with ent.rawReq := none }).raise 0x3E8 8
    | none => s

/-- Removes the released blocks of a source that no consumer has taken (R401), with their number. -/
def purge (s : State) (x : Src) : State × Nat :=
  let pool := s.ent.pool.filter (fun e => e.1 == x)
  let words := (s.ent.fifo.filter (fun e => e.1 == x)).length
  let chunks := s.fld.buf.filter (fun e => e.1 == x)
  ({ s with
    ent.pool := s.ent.pool.filter (fun e => e.1 != x)
    ent.fifo := s.ent.fifo.filter (fun e => e.1 != x)
    fld.buf := s.fld.buf.filter (fun e => e.1 != x) },
   pool.length + ceilDiv words 8 + chunks.length)

/-- A source fails (R400 to R405): it stops, its blocks are discarded, the alert and the audit
record follow, and the other source takes its consumers. -/
def failSource (s : State) (x : Src) (code count window : Nat) : State :=
  let v := s.source1 x
  let held := if 5 ≤ code then 0
    else if v.windows ≤ window then window - v.windows + 1 else 1
  let s := s.setSource x { v with state := 5, code := code, fast := false }
  let s := s.setDom (14 + srcNum x) false
  let unit := 0x10 + srcNum x
  let s := if v.state != 3 && s.st.queue.any (fun q => q.2 == unit) then
      (s.endTests unit code 8).raise 0x3E8 6 else s
  let (s, purged) := if code = 5 then s.purge x else (s, 0)
  let n := held + purged
  let s := if n = 0 then s else (s.countBy 0x404 31 16 n).raise 0x3E8 4
  let s := s.raise 0x3E8 (1 + srcNum x)
  let s := s.auditSelf 8 4 (srcNum x)
    ([BitVec.ofNat 8 code] ++ leBytes 2 count ++ leBytes 4 window)
  let s := { s with ent.rawReq := if s.ent.rawReq = some x then none else s.ent.rawReq }
  let o := otherSrc x
  let s := if (s.source1 o).state = 3 then s.abortTest else s
  let s := s.abortRaw
  if s.bothFailed then (s.raise 0x3E8 3).refuseAll
  else
    let s := if s.fld.st ≠ 0 && !s.wired then s.raise 0x2AC 6 else s
    s.entPower.feed

/-- Saves what the tests of a window leave (R399). -/
def afterWindow (v : Source) (t : TestRun) : Source :=
  { v with run := t.run, last := t.last, windows := v.windows + 1
           rctMax := saturate 255 (max v.rctMax t.runMax), aptMax := max v.aptMax t.cnt }

/-- The margins of a source over the samples that a test run has counted (R399, R418). -/
def markMargins (s : State) (x : Src) (rct apt : Nat) : State :=
  let v := s.source1 x
  s.setSource x { v with rctMax := saturate 255 (max v.rctMax rct), aptMax := max v.aptMax apt }

/-- At a source's block boundary an accepted raw capture or an admitted self-test of it begins (R411 to
R413): at most one source is in TEST or RAW, and a test begins only while the other source is RUNNING. -/
def blockBoundary (s : State) (x : Src) : State :=
  let v := s.source1 x
  let o := s.source1 (otherSrc x)
  if s.ent.rawReq = some x && v.state = 2 && o.state ≠ 3 then
    { s.setSource x { v with state := 4, lead := none } with
      ent.rawReq := none
      ent.raw := some { src := x, running := true, since := s.clk.up, stop := false, bytes := []
                        rct := 0, apt := 0 } }
  else match s.st.current with
    | some (_, u) =>
      if u = 0x10 + srcNum x && v.state = 2 && o.state = 2 then
        { s.setSource x { v with state := 3, lead := none } with st.begun := s.clk.rtc }
      else s
    | none => s

/-- The window `w` has passed, and the 128 samples after it: what awaits the block boundary applies, and the
conditioned block is released (R396, R406). -/
def release (s : State) (x : Src) (w : BitVec 1024) (next : BitVec 128) (v : Source) : State :=
  let s := s.boundary .entBlock
  let s := if v.woken then s.raise 0x3E8 0 else s
  let s := s.setSource x { v with
    state := 2, fast := s.wired, lead := some next, lastRelease := s.clk.up, woken := false }
  let s := match x with
    | .a => s.countBy 0x400 15 0 1
    | .b => s.countBy 0x400 31 16 1
  (s.deliver x (condition w)).blockBoundary x

/-- The tests have run over a window and the 128 samples after it (R396, R400 to R404): a failure stops the
source, and a pass releases the block. -/
def afterTest (s : State) (x : Src) (w : BitVec 1024) (next : BitVec 128) (v : Source) (t n : TestRun) :
    State :=
  let fail := fun (t : TestRun) (test window : Nat) =>
    (s.markMargins x t.runMax t.cnt).failSource x
      (if v.state = 1 then 1 + test else 3 + test) (if test = 0 then t.run else t.cnt) window
  match t.failed, n.failed with
  | some test, _ => fail t test v.windows
  | none, some test => fail { n with runMax := max t.runMax n.runMax, cnt := if test = 0 then t.cnt else n.cnt }
      test (v.windows + 1)
  | none, none => s.release x w next { afterWindow v t with
      rctMax := saturate 255 (max (max v.rctMax t.runMax) n.runMax) }

/-- BLOCK_RELEASE (R396, R398, R406): the samples `w` of a window, of which the first 128 have been taken
with the release before, and the first 128 of the next. -/
def effBlockRelease (s : State) (x : Src) (w : BitVec 1024) (next : BitVec 128) : State :=
  let v := s.source1 x
  if v.state ≠ 1 && v.state ≠ 2 then s
  else
    let w := withLead v.lead w
    let t := testWindow w v.run v.last
    s.afterTest x w next v t (testSamples next t.run t.last)

/-- HEALTH_TEST_FAIL (R400 to R402, R414): in RAW the failure is only counted. -/
def effHealthTestFail (s : State) (x : Src) (test count window : Nat) : State :=
  let v := s.source1 x
  let marked := s.markMargins x (if test = 0 then count else 0) (if test = 1 then min count 1024 else 0)
  if v.state = 1 then
    marked.failSource x (if test = 0 then 1 else if test = 1 then 2 else 5) count window
  else if v.state = 2 && test ≤ 1 then marked.failSource x (if test = 0 then 3 else 4) count window
  else if v.state = 4 then
    match s.ent.raw with
    | some r =>
      if test = 0 then { marked with ent.raw := some { r with rct := saturate 15 (r.rct + 1) } }
      else if test = 1 then { marked with ent.raw := some { r with apt := saturate 15 (r.apt + 1) } }
      else s
    | none => s
  else s

/-- ENT_IDLE_GATE (R408): a source woken for a request gates 1 ms after its last block when no
consumer waits. At steps 4 to 6 the sources are on for no request. -/
def effEntIdleGate (s : State) (x : Src) : State :=
  let v := s.source1 x
  if !s.wired && !s.shedSources && s.fld.st = 0 && s.ent.waiting = [] && (v.state = 1 || v.state = 2) &&
      v.lastRelease + usUnits 1000 ≤ s.clk.up then s.gateSource x
  else s

/-- ENT_SELFTEST (R411, R412): the known-answer test and the two windows of the source in TEST. While the
other source is FAILED a test that has not begun ends without cover. -/
def effEntSelftest (s : State) (x : Src) (kat : Bool) (w0 w1 : BitVec 1024) : State :=
  let unit := 0x10 + srcNum x
  match s.st.current with
  | none => s
  | some (_, u) =>
    let v := s.source1 x
    if u ≠ unit then s
    else if v.state ≠ 3 then
      if s.srcFailed (otherSrc x) then
        ((s.endSelftest 3 0 0 s.clk.rtc none).raise 0x3E8 6).startNextTest
      else s
    else
      let t0 := testWindow w0 0 false
      let t1 := if t0.failed.isSome then t0 else testWindow w1 t0.run t0.last
      let rct := if kat then max t0.runMax t1.runMax else 0
      let apt := if kat then max t0.cnt t1.cnt else 0
      let value := saturate 255 rct + 256 * apt
      let code := if !kat then 5 else match t1.failed with | none => 0 | some test => 6 + test
      let s := s.markMargins x rct apt
      if code = 0 then
        let s := s.setSource x { s.source1 x with
          state := 2, run := t1.run, last := t1.last, windows := v.windows + 2 }
        ((s.endSelftest 0 0 value s.clk.rtc none).raise 0x3E8 6).startNextTest
      else
        let s := s.failSource x code (if code = 7 then t1.cnt else if code = 6 then t1.run else 0)
          (v.windows + bitNat (kat && t0.failed.isNone))
        ((s.endSelftest 1 code value 0 (some 8)).raise 0x3E8 6).startNextTest

/-- Bytes of Drumhead held for the tag's own staging (R221, R222). -/
def stagingBytes (s : State) : Nat := 1048576 - 64 * total s.pools

/-- Bytes of the staging share in use (R89, R222): the tag's own records, Snare waves and a raw capture. -/
def stagingUsed (s : State) : Nat :=
  64 * s.pipeSpace + total (s.snr.waiting.map (fun c => total (c.waves.map (fun w => w.length)))) +
    (if s.ent.raw.isSome then 131072 else 0)

/-- ENT_CTRL.RAW_START (R413). -/
def rawStart (s : State) : State :=
  let s := s.boundary .rawStart
  let src := if s.cfgBit 0x3E0 0 then Src.b else Src.a
  if s.wired && s.pwr.step < 4 && s.ent.a.state = 2 && s.ent.b.state = 2 && s.ent.raw.isNone &&
      s.ent.rawReq.isNone && 131072 + s.stagingUsed ≤ s.stagingBytes then
    { s with ent.rawReq := some src }
  else s.raise 0x3E8 8

/-- ENT_CTRL.RAW_STOP (R414): the capture ends at the next sample. -/
def rawStop (s : State) : State := match s.ent.raw with
  | some r => if r.running then { s with ent.raw := some { r with stop := true } } else s
  | none => s

/-- Bytes that a running capture has taken so far, at the raw rate of 4 Mb/s (R393, R418; DESIGN CHOICE, log
entry 107: the exact rate is the oscillator's). -/
def rawBytes (s : State) (r : Raw) : Nat :=
  if r.running then min 131072 ((s.clk.up - r.since) * 500000 / second) else r.bytes.length

/-- RAW_CAPTURE_END (R414): all samples are taken, or RAW_STOP takes effect. The tests of R398 run over the
samples, and their margins and failures are those of the capture. -/
def effRawCaptureEnd (s : State) (bytes : List Byte) : State :=
  match s.ent.raw with
  | some r =>
    if !r.running || 131072 < bytes.length || (bytes.length < 131072 && !r.stop) then s
    else
      let v := s.source1 r.src
      let q := rawTests bytes v.run v.last
      let s := s.markMargins r.src q.t.runMax q.aptMax
      let v := s.source1 r.src
      let s := s.setSource r.src { restartSource v with windows := v.windows + bytes.length / 128 }
      { s with ent.raw := some { r with
          running := false, bytes := bytes, rct := saturate 15 q.rct
          apt := saturate 15 q.apt } }.raise 0x3E8 7
  | none => s

/-- ENT_CTRL.RAW_RELEASE (R414). -/
def rawRelease (s : State) : State := match s.ent.raw with
  | some r => if r.running then s else { s with ent.raw := none }
  | none => s

/-- A read of ENT_DATA or ENT_DATA2 (R410): the oldest word, consumed; 0 with EMPTY_READ when the FIFO is
empty, and at every read while both sources are FAILED (R405). -/
def entRead (s : State) : State × Word :=
  if s.bothFailed then (s.raise 0x3E8 5, 0#32)
  else match s.ent.fifo with
    | [] => (s.raise 0x3E8 5, 0#32)
    | (_, w) :: t => (({ s with ent.fifo := t }).feed, w)

/-- CORE gates: the pool, the host FIFO and the ENT registers are lost; FAILED and its codes stay
(R397, R417). -/
def entCoreGate (s : State) : State :=
  let s := s.resetRegs (fun off => off < 0x3E0 || 0x420 ≤ off)
  { s with ent.pool := [], ent.fifo := [], ent.raw := none, ent.rawReq := none }

end State

end Sys2Proof.Machine
end

