-- ==== Sys2Proof/Machine/Snare.lean ====
section
/-! DEFINITION. The Snare (R363 to R391): channel events, triggers and captures, the droop marker, the waveform rings, the records of a capture, and calibration. -/

namespace Sys2Proof.Machine

/-- Ticks of one core cycle (R366). -/
def tickPerCycle : Nat := 8

/-- Ticks per second of the sampling grid (R366). -/
def tickRate : Nat := 384000000

/-- The first tick of a fraction unit of time (log entry 14). -/
def firstTick (units : Nat) : Nat := ceilDiv (units * tickRate) second

/-- Ticks from the fraction unit that contains a tick to the tick itself, 0 to 22 (R379). -/
def tickPhase (tick : Nat) : Nat := tick - firstTick (tick * second / tickRate)

/-- A signed number from a difference of ticks. -/
def tickDiff (a b : Nat) : Int := (a : Int) - (b : Int)

/-- The samples of a part of a SNARE_WAVE record (R381). -/
def partSamples : Nat := 3952

/-- Part `i` of a ring's samples from `pre` samples before `tick` on overlaps a span of ticks (R381). -/
def partBlind (tick pre i n : Nat) (span : Nat × Nat) : Bool :=
  let at0 := tick + tickPerCycle * (i * partSamples)
  span.1 + tickPerCycle * pre < at0 + tickPerCycle * n && at0 < span.2 + tickPerCycle * pre

/-- The SNARE_WAVE payloads of one channel, with its blind intervals in ticks (R381). -/
def wavePayloads (number : Word) (ch tick pre : Nat) (flags : Byte) (blind : List (Nat × Nat))
    (bs : List Byte) : List (List Byte) :=
  let parts := chunks partSamples 9 bs
  (List.range parts.length).zip parts |>.map (fun p =>
    let clip := p.2.any (fun b => b == 0#8 || b == 0xFF#8)
    let dark := blind.any (partBlind tick pre p.1 p.2.length)
    wordBytes number ++ [BitVec.ofNat 8 ch, BitVec.ofNat 8 p.1, BitVec.ofNat 8 parts.length,
      flags ||| (if dark then 4#8 else 0#8) ||| (if clip then 8#8 else 0#8)] ++
    leSigned 4 (tickDiff (p.1 * partSamples) pre) ++ leBytes 2 p.2.length ++ zeroBytes 2 ++ p.2)

/-- The droop marker's frame (R370): 2 cycles high, bits 15:0 of the capture number and the trigger mask,
each most significant bit first, and 2 cycles low. -/
def markerFrame (number : Word) (mask : BitVec 8) : List Bool :=
  [true, true] ++ (List.range 16).map (fun i => number.getLsbD (15 - i)) ++
    (List.range 8).map (fun i => mask.getLsbD (7 - i)) ++ [false, false]

/-- Smallest and largest byte of a list. -/
def minByte (bs : List Byte) : Byte := bs.foldl (fun m b => if b.toNat < m.toNat then b else m) 0xFF#8
def maxByte (bs : List Byte) : Byte := bs.foldl (fun m b => if m.toNat < b.toNat then b else m) 0#8

/-- Counts an event of a channel in a capture (R380). -/
def noteEvent (chans : List ChanEntry) (e : ChanEvent) : List ChanEntry :=
  match chans.find? (fun c => c.ch == e.ch) with
  | some _ => chans.map (fun c => if c.ch = e.ch then
      { c with low := c.low || !e.high, high := c.high || e.high, count := saturate 255 (c.count + 1) }
    else c)
  | none => chans ++ [{ ch := e.ch, low := !e.high, high := e.high, count := 1, first := e.start
                        firstHigh := e.high, length := e.length }]

/-- The channels with an event that began in the span of ticks that ends with `t` (R367). -/
def coincident (evs : List ChanEvent) (span t : Nat) : List Nat :=
  (List.range 8).filter (fun n => evs.any (fun x => x.ch == n && x.start ≤ t && t < x.start + span))

/-- The trigger tick (R367): the first at which events of `m` channels have begun within the span. -/
def trigTick (evs : List ChanEvent) (span m : Nat) : Option Nat :=
  ((evs.map (fun x => x.start)).filter (fun t => m ≤ (coincident evs span t).length)).min?

namespace State

/-- SNR_CHn_CFG in force. -/
def chCfg (s : State) (n : Nat) : Word := s.force (0x360 + 8 * n)

/-- SNR_CHn_THR in force. -/
def chThr (s : State) (n : Nat) : Word := s.force (0x364 + 8 * n)

/-- Channels in use that are not FAULTY (R376, R387). -/
def chansInUse (s : State) : List Nat :=
  (List.range 8).filter (fun n => (s.chCfg n).bit 0 && !s.snr.faulty.getLsbD n)

/-- The set of channels as a mask. -/
def chanMask (l : List Nat) : BitVec 8 := l.foldl (fun m n => m ||| BitVec.ofNat 8 (2 ^ n)) 0#8

/-- SNR_CFG.PRE in samples (R374). -/
def preSamples (s : State) : Nat := 1024 * saturate 31 (s.cfg 0x324 29 24)

/-- Post-trigger samples of a capture (R374). -/
def postSamples (s : State) : Nat := 32768 - s.preSamples

/-- SNR_CFG.STORE with 3 acting as 0 (R376). -/
def storeCode (s : State) : Nat := if s.cfg 0x324 1 0 = 3 then 0 else s.cfg 0x324 1 0

/-- SNR_CFG.MIN_CH (R391). -/
def minCh (s : State) : Nat := clampTo 1 8 (s.cfg 0x324 11 8)

/-- The rings enter ARMED: PRE and STORE apply there, and STORE 2 leaves them OFF (R374, R375). -/
def ringArm (s : State) : State :=
  let s := s.boundary .snrArmed
  if s.storeCode = 2 then { s with snr.ring := 0 }
  else { s with snr.ring := 1, snr.ringSince := List.replicate 8 s.clk.up }

/-- The ADC of a channel starts while the rings run (R375, R376). -/
def ringJoin (s : State) (n : Nat) : State :=
  { s with snr.ringSince := setNth s.snr.ringSince n s.clk.up }

/-- The rings start, when the Snare is armed and shedding is below step 1 (R375). -/
def ringStart (s : State) : State :=
  if s.snr.armed && s.snr.ring = 0 && s.pwr.step < 1 then s.ringArm else s

/-- Channels in use (R385). -/
def chansEnabled (s : State) : List Nat := (List.range 8).filter (fun n => (s.chCfg n).bit 0)

/-- SNR_CTRL.CAL_REQ and the other requests (R385): one job for each channel, merged with one that
waits. -/
def requestCal (s : State) (reason : Nat) (chs : List Nat) : State :=
  chs.foldl (fun s ch =>
    if s.pwr.jobs.any (fun j => match j.kind with
        | .calibrate c _ => c == ch
        | .selftest _ u => u == 0x20 + ch
        | _ => false) then s
    else s.enqueue 6 30000 0 (.calibrate ch reason)) s

/-- The first arming since a wired start-up calibrates every channel in use (R385, R526). -/
def calFirstArm (s : State) : State :=
  if s.snr.calFirst then
    ({ s with snr.calFirst := false, snr.startCals := s.chansEnabled }).requestCal 0 s.chansEnabled
  else s

/-- The Snare arms when SNR_CTRL.EN is in force, TAG_VAUX is above the trip level, and the start-up
calibrations have ended (R382, R385). -/
def tryArm (s : State) : State :=
  if s.cfgBit 0x320 0 && s.wired && !s.knellRunning && s.pwr.step < 5 && !s.snr.armed && s.domOn 18 then
    let s := s.calFirstArm
    if s.snr.startCals = [] then ({ s with snr.armed := true }).ringStart else s
  else s

/-- Comparators and markers act: the Snare is armed with TAG_VAUX above the trip level (R382), or a Knell
runs (R384). -/
def snareLive (s : State) : Bool := s.snr.armed && (s.wired || s.knellRunning)

/-- What a channel's configuration would be with its buffered fields (R365). -/
def wantedCh (s : State) (n : Nat) : Word × Word :=
  let w := fun (off : Nat) =>
    let m := s.pendBits off
    (s.force off &&& ~~~ m) ||| (s.reg off &&& m)
  (w (0x360 + 8 * n), w (0x364 + 8 * n))

/-- A channel configuration that R365 refuses: both conditions enabled with LOW at or above HIGH. -/
def badChannel (c : Word × Word) : Bool :=
  c.1.bit 1 && c.1.bit 2 && c.2.field 9 0 ≤ c.2.field 25 16

/-- A channel's configuration applies at its arm boundary, or is refused (R365, R390). -/
def applyChannel (s : State) (n : Nat) : State :=
  let a := 0x360 + 8 * n
  let b := 0x364 + 8 * n
  if s.pendBits a = 0#32 && s.pendBits b = 0#32 then s
  else if s.snr.events.any (fun e => e.ch == n) then s
  else if badChannel (s.wantedCh n) then ((s.setPend a 0#32).setPend b 0#32).raise 0x32C 10
  else
    let was := (s.chCfg n).bit 0
    let s := (s.applyAt .snrArm a).applyAt .snrArm b
    if was then s else s.ringJoin n

/-- The arm boundary (R390): the capture machine is IDLE, and no condition of the affected channel
holds. The shared registers affect no one channel (log entry 15). -/
def armBoundary (s : State) : State :=
  if s.snr.capture.isSome then s
  else
    let s := (s.applyAt .snrArm 0x320).applyAt .snrArm 0x324
    let s := (List.range 8).foldl (fun s n => s.applyChannel n) s
    s.tryArm.ringStart

/-- Passes an internal record of the Snare to S1 when S1 has room; none when it has not. Once a set has
begun, its waves go before other waiting records (R19). -/
def passSnr (s : State) (typ flags : Byte) (payload : List Byte) (close : Option (Nat × Word))
    (hook : Hook) : Option State :=
  let r := s.newInternal 2 6 typ flags payload
  let r := match close with
    | some (t, b) => { r with hdr := { r.hdr with time := t, ssn := b } }
    | none => r
  let turn := s.snareSetOpen || (s.cmt.s1wait.isEmpty && s.heldAudit.isNone)
  if s.s1Open && turn && s.roomOwn r && !s.knellRunning then
    let s := if close.isSome then s else s.stamp
    some (s.passOwn r hook false true 0 0 none)
  else none

/-- One channel entry of SNARE_TRIG (R380). -/
def chanEntryBytes (c : Capture) (n : Nat) : List Byte :=
  let (valid, code, out) := c.ends.getD n (false, 0#8, false)
  let low := (c.thr.getD n 0#32).field 25 16
  let high := (c.thr.getD n 0#32).field 9 0
  let cal := bitNat valid + 2 * bitNat out + 4 * bitNat (c.calCh == n)
  match c.chans.find? (fun x => x.ch == n) with
  | some x =>
    [BitVec.ofNat 8 (bitNat x.low + 2 * bitNat x.high), code, BitVec.ofNat 8 cal,
      BitVec.ofNat 8 x.count] ++ leSigned 4 (tickDiff x.first c.tick) ++
    leBytes 4 (x.length.getD (c.tick + c.post * tickPerCycle - x.first)) ++
    leBytes 2 low ++ leBytes 2 high
  | none =>
    [0#8, code, BitVec.ofNat 8 cal, 0#8] ++ leBytes 4 0x8000_0000 ++ leBytes 4 0 ++
      leBytes 2 low ++ leBytes 2 high

/-- The SNARE_TRIG payload (R379). -/
def trigPayload (c : Capture) : List Byte :=
  wordBytes c.number ++ [BitVec.ofNat 8 c.cause, c.mask, c.stored, c.flags] ++ leBytes 8 c.time ++
  [BitVec.ofNat 8 (tickPhase c.tick), BitVec.ofNat 8 c.calCh, BitVec.ofNat 8 c.secondaries, 0#8] ++
  leBytes 4 c.late ++ wordBytes c.bracket ++
  leBytes 2 (if c.stored = 0#8 then 0 else c.pre) ++ leBytes 2 (if c.stored = 0#8 then 0 else c.post) ++
  (List.range 8).flatMap (fun n => chanEntryBytes c n)

/-- Passes closed captures to S1 in capture-number order: SNARE_TRIG, then the waves (R377). -/
def passCaptures (s : State) (fuel : Nat) : State := match fuel with
  | 0 => s
  | fuel + 1 => match s.snr.waiting with
    | [] => s
    | c :: rest =>
      if !c.trigDone then
        let only := c.waves.isEmpty
        match s.passSnr 0x30#8 (setFlags true only) (trigPayload c)
            (some (c.closeTime, c.closeBracket)) (if only then .captureEnd else .none) with
        | none => s
        | some s =>
          let s := { s with snr.waiting := if only then rest else { c with trigDone := true } :: rest }
          s.passCaptures fuel
      else match c.waves with
        | [] => ({ s with snr.waiting := rest }).passCaptures fuel
        | w :: ws =>
          match s.passSnr 0x31#8 (setFlags false ws.isEmpty) w none
              (if ws.isEmpty then .captureEnd else .none) with
          | none => s
          | some s =>
            ({ s with snr.waiting := if ws.isEmpty then rest else { c with waves := ws } :: rest
              }).passCaptures fuel

/-- Passes what S1 has room for: at most the 32 records of R85. -/
def snareFeed (s : State) : State := if s.snr.waiting.isEmpty then s else s.passCaptures 33

/-- Shows a capture in SNR_LAST. -/
def showLast (s : State) (c : Capture) : State :=
  { s with snr.last := (c.mask, c.stored, c.secondaries, c.flags) }

/-- The droop marker of a capture (R370, R371): when it starts, in ticks after the usual edge. -/
def markerDelay (s : State) (tick : Nat) : Nat :=
  if tick < s.snr.markerEnd then s.snr.markerEnd + 16 - tick else 0

/-- The tag time of a tick, truncated to the fraction unit (R379). -/
def tickTime (s : State) (tick : Nat) : Nat := s.clk.rtc - (s.clk.up - tick * second / tickRate)

/-- Samples before `tick` that the rings of some channels hold (R374, R376): those of the ring that has run
for the shortest time. -/
def ringPre (s : State) (chs : List Nat) : Nat :=
  (chs.map (fun n => (s.clk.up - nth s.snr.ringSince n) * 48000000 / second)).foldl min s.preSamples

/-- A trigger with no capture open opens one (R367 to R371, R375, R376). -/
def openCapture (s : State) (mask : BitVec 8) (cause tick : Nat) (evs : List ChanEvent) : State :=
  let n := s.snr.capNum + 1#32
  let tied := s.snr.ring = 1
  let shed := s.snr.ring = 4 || (1 ≤ s.pwr.step && s.snr.ring != 1)
  let busy := s.snr.ring = 3
  let stored := if !tied then 0#8
    else if s.storeCode = 1 || cause = 2 then chanMask s.chansInUse else mask
  let pre := s.ringPre ((List.range 8).filter (fun n => stored.getLsbD n))
  let short := tied && pre < s.preSamples
  let marker := s.cfgBit 0x324 2
  let late := if marker then s.markerDelay tick else 0
  let flags := BitVec.ofNat 8 (bitNat short + 2 * bitNat busy + 4 * bitNat shed +
    16 * bitNat (late != 0) + 32 * bitNat (!marker) + 64 * bitNat s.snr.calBusy.isSome)
  let c : Capture := {
    number := n, cause := cause, mask := mask, stored := stored, flags := flags
    time := s.tickTime tick, tick := tick, calCh := match s.snr.calBusy with | some (ch, _) => ch | none => 0xFF
    secondaries := 0, late := late, bracket := s.clk.bracket, pre := pre, post := s.postSamples
    tied := tied, lost := s.knellRunning
    chans := evs.foldl noteEvent [], closeTime := 0, closeBracket := 0#32, ends := [], waves := []
    trigDone := false }
  let s := { s with
    snr.capNum := n, snr.capture := some c
    snr.tied := if tied then some n else s.snr.tied
    snr.ring := if tied then 2 else s.snr.ring
    snr.markerSent := if marker then some (n, mask) else s.snr.markerSent
    snr.marker := if marker then markerFrame n mask else s.snr.marker
    snr.markerEnd := if marker then tick + late + 224 else s.snr.markerEnd }
  let s := (s.showLast c).raise 0x32C 0
  let s := s.count 0x340
  let s := if short then s.raise 0x32C 3 else s
  let s := if tied then s else s.raise 0x32C 4
  let s := if late != 0 then s.raise 0x32C 7 else s
  if s.knellRunning then (s.countBy 0x344 15 0 1).raise 0x32C 6 else s

/-- A secondary of the open capture (R368). -/
def addSecondary (s : State) (c : Capture) (e : Option ChanEvent) : State :=
  let c := { c with
    secondaries := saturate 255 (c.secondaries + 1)
    chans := match e with | some e => noteEvent c.chans e | none => c.chans }
  (({ s with snr.capture := some c }).showLast c).raise 0x32C 2

/-- A comparator condition of a channel is enabled. -/
def condEnabled (s : State) (ch : Nat) (high : Bool) : Bool :=
  (s.chCfg ch).bit 0 && (s.chCfg ch).bit (if high then 2 else 1)

/-- The channel is being calibrated. -/
def calibrating (s : State) (ch : Nat) : Bool := match s.snr.calBusy with
  | some (c, _) => c == ch
  | none => false

/-- Ticks of the coincidence span (R367). -/
def coincSpan (s : State) : Nat := tickPerCycle * (s.cfg 0x324 23 16 + 1)

/-- An event of an open capture whose time lies at or before the trigger tick, its channel having needed
more ticks than the others (DGL). Within the span it joins the trigger mask; where the span fills at an
earlier tick with it, that is the trigger tick, and the events after it are secondaries (R366 to R368; DESIGN
CHOICE, log entry 115: what the capture has told before stands). -/
def joinTrigger (s : State) (c : Capture) (evs : List ChanEvent) (e : ChanEvent) : State :=
  let span := s.coincSpan
  let t := min c.tick ((trigTick evs span s.minCh).getD c.tick)
  if e.start + span ≤ t then s
  else
    let mask := chanMask (coincident evs span t)
    let joined := evs.filter (fun x => x == e || (x.start + span ≤ c.tick && t < x.start + span))
    let later := (evs.filter (fun x => t < x.start && x.start ≤ c.tick)).length
    let c := { c with
      tick := t, time := s.tickTime t, mask := mask
      stored := if c.tied && s.storeCode ≠ 1 then mask else c.stored
      chans := joined.foldl noteEvent c.chans, secondaries := saturate 255 (c.secondaries + later) }
    let marker := s.cfgBit 0x324 2
    let s := { s with
      snr.capture := some c
      snr.markerSent := if marker then some (c.number, mask) else s.snr.markerSent
      snr.marker := if marker then markerFrame c.number mask else s.snr.marker }
    if later = 0 then s.showLast c else (s.showLast c).raise 0x32C 2

/-- CHANNEL_EVENT (R366 to R368): the event, and the trigger or the secondary that it makes. Events reach
the tag in the order in which their conditions have held for DGL + 1 ticks, and count by their times. -/
def effChannelEvent (s : State) (ch : Nat) (high : Bool) (tick : Nat) : State :=
  let e : ChanEvent := { ch := ch, high := high, start := tick }
  if 8 ≤ ch || !s.domOn 18 || !(s.condEnabled ch high) || s.snr.faulty.getLsbD ch ||
      s.calibrating ch || s.snr.events.any (fun x => x.ch == ch && x.high == high) then s
  else
    let span := s.coincSpan
    let evs := s.snr.recent.filter (fun x => tick < x.start + span + 16) ++ [e]
    let s := { s with snr.events := s.snr.events ++ [e], snr.recent := evs }
    if !s.snareLive then s
    else match s.snr.capture with
      | some c =>
        if c.cause = 1 && tick ≤ c.tick then s.joinTrigger c evs e else s.addSecondary c (some e)
      | none => match trigTick evs span s.minCh with
        | none => s
        | some t =>
          let s := s.openCapture (chanMask (coincident evs span t)) 1 t
            (evs.filter (fun x => x.start ≤ t && t < x.start + span))
          (evs.filter (fun x => t < x.start)).foldl (fun s x => match s.snr.capture with
            | some c => s.addSecondary c (some x)
            | none => s) s

/-- SNR_CTRL.FORCE (R367). -/
def snareForce (s : State) : State :=
  if !s.snr.armed || !s.wired then s
  else match s.snr.capture with
    | some c => s.addSecondary c none
    | none => s.openCapture 0#8 2 (firstTick s.clk.up) []

/-- What the close of a capture says of a channel (R380): the extreme code of its post-trigger
samples, and whether an event still lasts. -/
def chanEnd (s : State) (c : Capture) (waves : List (Nat × List Byte)) (n : Nat) :
    Bool × Byte × Bool :=
  let out := s.snr.events.any (fun e => e.ch == n)
  match waves.find? (fun w => w.1 == n) with
  | some (_, bs) =>
    let post := bs.drop c.pre
    let up := match c.chans.find? (fun x => x.ch == n) with
      | some x => x.high && !x.low
      | none => false
    if c.tied && !post.isEmpty then (true, if up then maxByte post else minByte post, out)
    else (false, 0#8, out)
  | none => (false, 0#8, out)

/-- Samples that the rings kept for one stored channel. -/
def keptSamples (c : Capture) (waves : List (Nat × List Byte)) (n : Nat) : List Byte :=
  match waves.find? (fun w => w.1 == n) with
  | some (_, bs) => bs.take (c.pre + c.post)
  | none => []

/-- The blind intervals of a channel in ticks: those that have ended and the one that runs (R386). -/
def blindSpans (s : State) (n : Nat) : List (Nat × Nat) :=
  let ended := (s.snr.blinds.filter (fun b => b.1 == n)).map (fun b => (firstTick b.2.1, firstTick b.2.2))
  match s.snr.calBusy with
  | some (ch, _) =>
    if ch = n then ended ++ [(firstTick (s.clk.up - (s.clk.rtc - s.snr.calStart)), firstTick s.clk.up)]
    else ended
  | none => ended

/-- A blind interval of a channel that began `units` of time ago has ended (R386). Intervals older than twice
the rings' length overlap no capture any more. -/
def noteBlind (s : State) (ch us units : Nat) : State :=
  let old := 65536 * second / 48000000
  { s with
    snr.blindUs := saturate 0xFFFF_FFFF (s.snr.blindUs + us)
    snr.blinds := s.snr.blinds.filter (fun b => s.clk.up < b.2.2 + old) ++
      [(ch, s.clk.up - units, s.clk.up)] }

/-- The capture at its close: measurements, stored channels and SNARE_WAVE payloads (R379 to
R381). -/
def closedCapture (s : State) (c : Capture) (waves : List (Nat × List Byte)) : Capture :=
  let chs := (List.range 8).filter (fun n =>
    c.tied && c.stored.getLsbD n && !(keptSamples c waves n).isEmpty)
  let len := match chs with
    | n :: _ => (keptSamples c waves n).length
    | [] => 0
  let pre := min c.pre len
  let wf := c.flags &&& 1#8
  let cut := if c.flags &&& 8#8 = 0#8 then 0#8 else 2#8
  let stop := c.tick + c.post * tickPerCycle
  { c with
    stored := chanMask chs, pre := pre, post := if chs.isEmpty then c.post else len - pre
    closeTime := s.nextStamp, closeBracket := s.clk.bracket
    chans := c.chans.map (fun x =>
      { x with length := some (min (x.length.getD (stop - x.first)) (stop - x.first)) })
    ends := (List.range 8).map (fun n => s.chanEnd c waves n)
    thr := (List.range 8).map (fun n => s.chThr n)
    waves := chs.flatMap (fun n => wavePayloads c.number n c.tick pre (wf ||| cut) (s.blindSpans n)
      (keptSamples c waves n)) }

/-- A calibration may start now (R386): no other runs, the capture machine is IDLE, the rings are
not HELD, and the channel's input is inside its thresholds. -/
def calBoundary (s : State) (ch : Nat) : Bool :=
  s.snr.calBusy.isNone && s.snr.capture.isNone && s.snr.ring != 2 &&
    !s.snr.events.any (fun e => e.ch == ch) && s.domOn 18

/-- The calibrations that have been granted: channel and reason (R385, R534). -/
def grantedCals (s : State) : List (Nat × Nat) :=
  s.pwr.grants.filterMap (fun j => match j.kind with
    | .calibrate ch reason => some (ch, reason)
    | .selftest _ unit => if 0x20 ≤ unit && unit < 0x28 then some (unit - 0x20, 3) else none
    | _ => none)

/-- Starts the first granted calibration whose boundary is reached (R386, R534). -/
def tryCal (s : State) : State :=
  match s.grantedCals.find? (fun c => s.calBoundary c.1) with
  | some c => { s with
      snr.calBusy := some c, snr.calStart := s.clk.rtc
      st.begun := if c.2 = 3 then s.clk.rtc else s.st.begun }
  | none => s

/-- Closed captures that wait for their SNARE_TRIG record to pass S1 (R378). -/
def capturesWaiting (s : State) : Nat := (s.snr.waiting.filter (fun c => !c.trigDone)).length

/-- POST_WINDOW_END (R368, R375, R378): the capture closes. -/
def effPostWindowEnd (s : State) (waves : List (Nat × List Byte)) : State :=
  match s.snr.capture with
  | none => s
  | some c =>
    let d := s.closedCapture c waves
    let held := s.snr.ring = 2 && c.tied
    let s : State := { s.showLast d with
      snr.capture := none, snr.ring := if held then 3 else s.snr.ring }
    let s := if c.lost then s
      else if 15 ≤ s.capturesWaiting then (s.countBy 0x344 15 0 1).raise 0x32C 6
      else { s.stamp with snr.waiting := s.snr.waiting ++ [d] }
    s.snareFeed.armBoundary.tryCal

/-- RING_STAGING_DONE (R375): the tied capture has no wave record left to stage. -/
def effRingStagingDone (s : State) : State :=
  let left := s.snr.waiting.any (fun c => s.snr.tied == some c.number && !c.waves.isEmpty)
  let opened := match s.snr.capture with | some c => c.tied | none => false
  if s.snr.ring != 3 || left || opened then s
  else
    let s := { s with snr.tied := none }
    (if 1 ≤ s.pwr.step then { s with snr.ring := 4 } else s.ringArm).tryCal

/-- CHANNEL_EVENT_END (R366, R380): the channel's oldest event ends and its length is fixed: up to the last
of the DGL + 1 ticks inside the threshold, the first of which is `tick`. -/
def effChannelEventEnd (s : State) (ch tick : Nat) : State :=
  match s.snr.events.find? (fun e => e.ch == ch) with
  | none => s
  | some e =>
    let len := tick + (s.chCfg ch).field 7 4 + 1 - e.start
    let fix := fun (c : Capture) => { c with chans := c.chans.map (fun x =>
      if x.ch = ch && x.first == e.start && x.firstHigh == e.high && x.length.isNone then
        { x with length := some len } else x) }
    let s := { s with
      snr.events := s.snr.events.filter (fun x => x != e)
      snr.recent := s.snr.recent.map (fun x => if x = e then { x with length := some len } else x)
      snr.capture := s.snr.capture.map fix }
    s.armBoundary.tryCal

/-- Shedding step 1 (R375, R383): ARMED rings stop; HELD rings stage what they wrote. -/
def snareShed (s : State) : State :=
  if s.snr.ring = 1 then { s with snr.ring := 4 }
  else if s.snr.ring = 2 then
    let cut := fun (c : Capture) => if c.tied then { c with flags := c.flags ||| 8#8 } else c
    let s := { s with snr.ring := 3, snr.capture := s.snr.capture.map cut }
    (match s.snr.capture with | some c => s.showLast c | none => s).raise 0x32C 5
  else s

/-- The steps are left (R375). -/
def snareUnshed (s : State) : State :=
  if s.snr.ring = 4 then s.ringArm.tryArm else s.tryArm.ringStart

/-- Drops the wave data that has not been staged (R375). -/
def dropWaves (s : State) : State :=
  let cut := s.snr.waiting.filter (fun c => !c.waves.isEmpty)
  let s := { s with
    snr.waiting := (s.snr.waiting.map (fun c =>
      if c.trigDone then { c with waves := [] } else { c with waves := [], stored := 0#8 })).filter
        (fun c => !(c.trigDone && c.waves.isEmpty))
    snr.capture := s.snr.capture.map (fun c => { c with tied := false, stored := 0#8 })
    snr.tied := none }
  if cut.isEmpty then s else (s.countBy 0x344 31 16 cut.length).raise 0x32C 5

/-- The SNARE_CAL payload (R388), `start` being the tag time at which the blind interval began. -/
def calPayload (s : State) (ch outcome reason : Nat) (before after adc gain : Int) (start : Nat) :
    List Byte :=
  [BitVec.ofNat 8 ch, BitVec.ofNat 8 outcome, BitVec.ofNat 8 reason, 0#8] ++
  leBytes 8 start ++ leBytes 8 s.clk.rtc ++ leSigned 2 before ++
  leSigned 2 after ++ leSigned 2 adc ++ leSigned 2 gain ++ leSigned 2 s.pwr.temp ++ zeroBytes 2

/-- The job of the running calibration ends, and a self-test that asked for it gets its result
(R536). -/
def endCalJob (s : State) (ch reason outcome : Nat) (after : Int) : State :=
  let s := { s with snr.calBusy := none, snr.startCals := without s.snr.startCals ch }
  let s := s.endJob (.calibrate ch reason)
  if reason != 3 then s
  else match s.st.current with
    | some (_, unit) =>
      if unit = 0x20 + ch then
        let res := if outcome = 0 then 0 else if outcome = 3 then 2 else 1
        (s.endSelftest res outcome (leNat (leSigned 2 after)) (if res = 1 then 0 else s.clk.rtc)
          none).startNextTest
      else s
    | none => s

/-- The running calibration stops (R387). -/
def abortCal (s : State) (withRecord : Bool) : State :=
  match s.snr.calBusy with
  | none => s
  | some (ch, reason) =>
    let s := s.raise 0x32C 8
    let units := s.clk.rtc - s.snr.calStart
    let s := s.noteBlind ch (units * 1000000 / second) units
    let s := if withRecord then
        s.create 2 0x32#8 (s.calPayload ch 3 reason 0 0 0 0 s.snr.calStart) .none
      else s
    s.endCalJob ch reason 3 0

/-- The Snare is disarmed (R375, R382, R387, R391): at once on a write of 0 to SNR_CTRL.EN, and when TAG_VAUX
fails, which stops a calibration of an unarmed Snare too. -/
def disarm (s : State) : State :=
  let s := if s.snr.armed || !s.wired then s.abortCal true else s
  let s := s.dropWaves
  { s with snr.armed := false, snr.ring := 0 }

/-- PERIODIC_CALIBRATION (R385). -/
def effPeriodicCalibration (s : State) : State :=
  let s := s.boundary .calPeriod
  if s.cfg 0x328 23 16 = 0 || !s.domOn 18 || !s.wired then s
  else s.requestCal 1 ((List.range 8).filter (fun n =>
    (s.force 0x328).bit n && !s.snr.faulty.getLsbD n))

/-- A calibration's outcome (R387): ±4 mV and ±3 %. -/
def calOutcome (after gain : Int) : Nat :=
  if 40 < after.natAbs then 1 else if 300 < gain.natAbs then 2 else 0

/-- CALIBRATION (R386 to R388): the granted calibration ends with its measurements. -/
def effCalibration (s : State) (before after adc gain : Int) (us : Nat) : State :=
  let s := s.tryCal
  match s.snr.calBusy with
  | none => s
  | some (ch, reason) =>
    let outcome := calOutcome after gain
    let payload := s.calPayload ch outcome reason before after adc gain (s.clk.rtc - usUnits us)
    let bit := BitVec.ofNat 8 (2 ^ ch)
    let s := if outcome = 0 && s.snr.faulty.getLsbD ch then s.ringJoin ch else s
    let s := { s.noteBlind ch us (usUnits us) with
      snr.faulty := if outcome = 0 then s.snr.faulty &&& ~~~ bit else s.snr.faulty ||| bit }
    let s := s.raise 0x32C 8
    let s := s.create 2 0x32#8 payload .none
    let s := if outcome = 0 then s else (s.raise 0x32C 9).auditSelf 2 0xD (0x20 + ch) []
    ((s.endCalJob ch reason outcome after).armBoundary).tryCal

/-- Numbers of the captures with a wave record that is not granted S6 (R384). -/
def looseWaves (s : State) : List Nat :=
  (s.cmt.pipe.filter (fun p => p.record.hdr.typ == 0x31#8 && p.granted.isNone)).map (fun p =>
    leNat (slice p.record.payload 0 4))

/-- Knell entry (R384): captures that have not passed S1 in full are dropped and count as LOST, those
that lose some of their wave records count as CUT, and the running calibration stops. `loose` names
the captures whose wave records the entry has abandoned. A SNARE_CAL record that waits for room at S1 is
dropped with them (DESIGN CHOICE, log entry 99). -/
def snareKnell (s : State) (loose : List Nat) : State :=
  let s := s.abortCal false
  let part := (((s.snr.waiting.filter (fun c => c.trigDone)).map (fun c => c.number.toNat)) ++
    loose).eraseDups
  let dropped := s.snr.waiting.length
  let lostOpen := match s.snr.capture with | some c => !c.lost | none => false
  let s := { s with
    snr.waiting := [], snr.capture := s.snr.capture.map (fun c => { c with lost := true })
    cmt.s1wait := s.cmt.s1wait.filter (fun w => w.1.hdr.typ.toNat / 16 != 3) }
  let n := dropped + bitNat lostOpen
  let s := if n = 0 then s else (s.countBy 0x344 15 0 n).raise 0x32C 6
  if part.isEmpty then s else (s.countBy 0x344 31 16 part.length).raise 0x32C 5

/-- SNARE gates at step 6 (R390): all but the capture number is lost. -/
def snareGate (s : State) : State :=
  (s.abortCal false).snareOff

/-- SNARE wakes (R382); after a wired start-up, `first`, its first arming calibrates (R385, R526). -/
def snareWake (s : State) (first : Bool) : State :=
  ({ s.setDom 18 true with snr.calFirst := first || s.snr.calFirst }).armBoundary

end State

end Sys2Proof.Machine
end

