-- ==== Sys2Proof/Machine/Modes.lean ====
section
/-! DEFINITION. What several engines share: the mode of R198, the wake of the array domains, the logger's open batch (R30, R510), and the keep-alive save with its batch. -/

namespace Sys2Proof.Machine

namespace State

/-- A Knell slot is PENDING. -/
def slotPending (s : State) : Bool := s.kn.slots.any (fun x => x.state == 2)

/-- The mode in force (R198). Mode 0 is the tag before its first start-up; CUTOFF is left by its own
command. -/
def modeNow (s : State) : Nat :=
  if s.pwr.mode = 0 || s.pwr.mode = 6 then s.pwr.mode
  else if s.wired then 1
  else if s.pwr.step = 7 then
    if s.fld.present then 4
    else if s.pwr.shipReq && !s.slotPending then 5 else 3
  else 2

/-- Brings PWR_STATE.MODE up to date; in mode SHIP the harvester does not run (R194, R198). -/
def fixMode (s : State) : State :=
  let ship := s.modeNow = 5
  { s with
    pwr.mode := s.modeNow, pwr.harvRunning := s.pwr.harvRunning && !ship
    pwr.domOn := if ship then setNth s.pwr.domOn 1 false else s.pwr.domOn
    pwr.usable := if ship then setNth s.pwr.usable 4 false else s.pwr.usable }

/-- Wakes CORE (R194). -/
def wakeCore (s : State) : State := s.setDom 4 true

/-- Wakes CORE, the banks in service and the sealing engine for array work (R194). -/
def wakeArray (s : State) : State := s.wakeDoms (fun d => d == 4 || (9 ≤ d && d ≤ 13))

/-- KEEP_ALIVE_ENERGY_LOW (R184). -/
def effKeepAliveEnergyLow (s : State) : State := if s.keepAliveDue then s.saveNow false else s

end State

end Sys2Proof.Machine
end

