-- ==== Sys2Proof/Machine/Field.lean ====
section
/-! DEFINITION. The field engine's air interface (R292 to R320): field sessions, Select, rounds, random numbers, ACK, handles, persistence, and TAG_WAKE_N. -/

namespace Sys2Proof.Machine

/-- One step of CRC-16 (polynomial 0x1021, as ISO/IEC 18000-63 uses it; PRESUMED, log entry 6). -/
def crc16Bit (c : Nat) (b : Bool) : Nat :=
  let x := (2 * c) % 65536
  if (c / 32768 % 2 == 1) != b then Nat.xor x 0x1021 else x

/-- CRC-16 of a bit string: preset 0xFFFF, final ones' complement. -/
def crc16Of (bits : List Bool) : Nat := 65535 - bits.foldl crc16Bit 65535

/-- Bits of a byte string, most significant bit of each byte first (R322). -/
def bitsOf (bs : List Byte) : List Bool := bs.flatMap (fun b => (List.range 8).map (fun i => b.getMsbD i))

/-- CRC-16 of a byte string, most significant bit first. -/
def crc16 (bs : List Byte) : Nat := crc16Of (bitsOf bs)

/-- A reply's bits with the CRC-16 that ends it. -/
def withCrc (bits : List Bool) : List Bool := bits ++ bitsOf (beBytes 2 (crc16Of bits))

/-- The number that a bit string gives, first bit most significant. -/
def bitsNat (l : List Bool) : Nat := l.foldl (fun n b => 2 * n + bitNat b) 0

/-- Takes `n` bits from the buffer in order. -/
def takeBits (buf : List (Src × List Bool)) (n : Nat) : List Bool × List (Src × List Bool) :=
  match buf with
  | [] => ([], [])
  | (x, bits) :: t =>
    if n < bits.length then (bits.take n, (x, bits.drop n) :: t)
    else
      let (more, rest) := takeBits t (n - bits.length)
      (bits ++ more, rest)

/-- What a Select action does to a flag when its mask matches or not: none, or the new value of the
flag's asserted or A sense; `none` for no change, and toggling as a third choice (ISO/IEC 18000-63,
PRESUMED, log entry 17). 0 nothing, 1 assert or A, 2 deassert or B, 3 negate. -/
def selectEffect (action : Nat) (hit : Bool) : Nat :=
  match action, hit with
  | 0, true => 1 | 0, false => 2
  | 1, true => 1 | 1, false => 0
  | 2, true => 0 | 2, false => 2
  | 3, true => 3 | 3, false => 0
  | 4, true => 2 | 4, false => 1
  | 5, true => 2 | 5, false => 0
  | 6, true => 0 | 6, false => 1
  | _, true => 0 | _, false => 3

namespace State

/-- The identifier bank with its computed word 0 (R323). -/
def identBank (s : State) : List Byte :=
  let b := s.fmem.ident
  let n := byteAt b 2 / 8
  beBytes 2 (crc16 (slice b 2 (2 + 2 * min n 30))) ++ b.drop 2

/-- PC, identifier and CRC-16: the identifier reply (R312). -/
def identReply (s : State) : List Bool :=
  let b := s.identBank
  let n := min (byteAt b 2 / 8) 30
  bitsOf (slice b 2 (2 + 2 * n) ++ slice b 0 2)

/-- The last reply as the air carries it (R338): a header bit of 0, the reply fields, the handle and the
CRC-16, and an error with a header bit of 1 and its 8-bit code. A random number goes with its CRC-16 but
in REPLY, and the identifier reply carries its own (R312; DEDUCED, log entry 25). -/
def airBits (s : State) : List Bool :=
  let handle := bitsOf (beBytes 2 s.fld.handle.toNat)
  match s.fldx.reply with
  | .none => []
  | .rn16 v =>
    let bits := bitsOf (beBytes 2 v.toNat)
    if s.fld.st = 3 then bits else withCrc bits
  | .ident bits => bits
  | .data bytes => withCrc ([false] ++ bitsOf bytes ++ handle)
  | .done => withCrc ([false] ++ handle)
  | .error code => withCrc ([true] ++ bitsOf (beBytes 1 code) ++ handle)

/-- The bytes that Select compares in a bank (R310). -/
def selectBytes (s : State) (bank : Nat) : List Byte := match bank with
  | 1 => s.identBank
  | 2 => s.fmem.tid
  | 3 => s.fmem.user0
  | _ => []

/-- A Select mask matches (R310). -/
def maskMatches (s : State) (bank pointer : Nat) (mask : List Bool) : Bool :=
  let bits := bitsOf (s.selectBytes bank)
  bank != 0 && bank ≤ 3 && pointer + mask.length ≤ bits.length &&
    (bits.drop pointer).take mask.length == mask

/-- Draws `n` bits (R306, R307). Too few bits are counted (R308); with both sources FAILED nothing is
drawn (R309). -/
def drawBits (s : State) (n : Nat) : State × Option (List Bool) :=
  let s := if s.bothFailed then s else s.feed
  if s.bothFailed then (s, none)
  else if s.bufBits < n then ((s.count 0x2C4).raise 0x2AC 7, none)
  else
    let (bits, rest) := takeBits s.fld.buf n
    (({ s with fld.buf := rest }).feed, some bits)

/-- Backscatters a new RN16 in REPLY; without bits the tag sends none and stays out of REPLY. -/
def sendRn16 (s : State) : State × Bool :=
  match s.drawBits 16 with
  | (s, none) => (s, false)
  | (s, some bits) =>
    let v := BitVec.ofNat 16 (bitsNat bits)
    let s := { s with fld.rn16 := v, fld.st := 3 }
    let s := s.backscatter (.rn16 v)
    ((if s.fldx.reply = .none then s else s.countBy 0x2BC 15 0 1), true)

/-- Draws a slot value of Q bits and acts on it (R306, R312); READY when bits are missing (R308). -/
def drawSlot (s : State) : State :=
  match s.drawBits s.fld.q with
  | (s, none) => { s with fld.st := 1 }
  | (s, some bits) =>
    let s := { s with fld.slot := bitsNat bits }
    if s.fld.slot != 0 then { s with fld.st := 2 }
    else match s.sendRn16 with
      | (s, true) => s
      | (s, false) => { s with fld.st := 1 }

/-- Inverts the inventoried flag of a session. -/
def invertFlag (s : State) (n : Nat) : State :=
  { s with fld.inv := modNth s.fld.inv n (fun b => !b) }

/-- The tag leaves OPEN or SECURED. -/
def leaveAccess (s : State) : State := { s with fld.priv := 0, fldx.recRead := none }

/-- The field session ends: its context closes (R453). -/
def closeField (s : State) : State := match s.fldx.ctx with
  | some c => s.closeCtx c
  | none => s

/-- The assist source that feeds FRF and FDIG without TAG_VAUX (R172): 0 none, 1 STORE, 2 VBAT. -/
def assistSource (s : State) : Nat :=
  if s.wired || !s.aonRuns then 0
  else if s.storeAssist && s.usableSrc 3 then 1
  else if s.vbatAssist && s.usableSrc 5 then 2 else 0

/-- The supply of FRF and FDIG follows the sources, make before break, without interruption (R172,
R315). -/
def feedField (s : State) : State :=
  if s.fld.st = 0 then s else { s with fld.supply := s.assistSource }

/-- FDIG stops: the field session's state is gone, and S0 reverts (R296). -/
def stopField (s : State) : State :=
  let s := s.closeField
  { s with
    fld.st := 0, fld.present := false, fld.tank := false, fld.buf := [], fld.ready := false
    fld.priv := 0, fld.supply := 0, fld.inv := setNth s.fld.inv 0 false
    fldx := { wakeSeen := s.fldx.wakeSeen } }

/-- The tag has detected a field (R299). -/
def noteField (s : State) : State :=
  { (((s.boundary .fieldDetect).raise 0x2AC 0).raise 0x070 1) with log.fieldSeen := true }

/-- FDIG wakes for a field (R299, R301, R303). -/
def fieldStart (s : State) : State :=
  let s := s.noteField.countBy 0x2C8 15 0 1
  let s := { s with
    fld.present := true, fld.st := 1, fld.buf := [], fld.ready := false, fld.priv := 0
    fld.supply := s.assistSource, fldx.reply := .none
    fldx.mapBuilt := s.fldx.mapBuilt && s.wired }
  ((s.setDom 2 true).setDom 3 true).fixMode.entPower.feed

/-- FIELD_DETECT (R299): the rectifier raises the tank, with no other power, in CUTOFF and before the
first start-up too (R298); in a session that the sniffer has begun this is a detection of its own. -/
def effFieldDetect (s : State) : State :=
  if s.boot.resetLow then s
  else if s.fld.st = 0 then ({ s with fld.tank := true }).fieldStart
  else if s.fld.tank then s
  else ({ s with fld.tank := true }).noteField

/-- SNIFFER_SAMPLE (R299): a detection powers FRF and FDIG from an assist source. -/
def effSnifferSample (s : State) (seen : Bool) : State :=
  let s := s.boundary .sniffer
  if !seen || s.cfg 0x2A4 15 8 = 0 || s.usableSrc 0 || s.pwr.mode = 0 || s.pwr.mode = 6 ||
      s.fld.st != 0 || s.boot.resetLow || s.assistSource = 0 then s
  else s.fieldStart

/-- The field session ends and FDIG gates (R296, R300, R301), and with TAG_VAUX absent the sources that
served it gate too (R408). -/
def fieldEnd (s : State) (lost : Bool) : State :=
  let s := s.boundary .fdigGate
  let s := if lost then s.raise 0x2AC 1 else s
  let s := ((s.leaveAccess.closeField).dropKind .exportSeal).endJob .exportSeal
  let s := { s with
    fld.present := false, fld.tank := false, fld.st := 0, fld.inv := setNth s.fld.inv 0 false
    fld.buf := [], fld.ready := false, fld.supply := 0
    fldx.container := none, fldx.exportPend := none, fldx.reply := .none
    fldx.mapBuilt := s.fldx.mapBuilt && s.wired
    ent.waiting := s.ent.waiting.filter (fun r => r.use != EntUse.fieldExport) }
  let s := if !s.wired && s.aonRuns && s.cmt.dirty then s.saveNow false else s
  let s := if !s.wired && s.ent.waiting.isEmpty then (s.gateSource .a).gateSource .b else s
  ((s.setDom 2 false).setDom 3 false).fixMode

/-- FIELD_INTERRUPTED (R300): a command being received is invalid and counted; with HOLD_MS 0 the
field is gone. -/
def effFieldInterrupted (s : State) (receiving : Bool) : State :=
  if s.fld.st = 0 then s
  else
    let s := if receiving then
        let s := (s.countBy 0x2C0 15 0 1).raise 0x2AC 4
        if s.fld.st = 3 || s.fld.st = 4 then { s with fld.st := 2 } else s
      else s
    if s.cfg 0x2A4 31 28 = 0 then s.fieldEnd true else s

/-- FIELD_GONE (R300). -/
def effFieldGone (s : State) : State := if s.fld.st = 0 then s else s.fieldEnd true

/-- SELECT (R310, R312): the action applies to the target flag; the state becomes READY. -/
def effSelect (s : State) (target action bank pointer : Nat) (mask : List Bool) : State :=
  if s.fld.st = 0 then s
  else
    let e := selectEffect action (s.maskMatches bank pointer mask)
    let s := if target = 4 then
        { s with fld.sl := match e with | 0 => s.fld.sl | 1 => true | 2 => false | _ => !s.fld.sl }
      else { s with fld.inv := modNth s.fld.inv target (fun b =>
        match e with | 0 => b | 1 => false | 2 => true | _ => !b) }
    { s.leaveAccess with fld.st := 1 }

/-- A Query matches (R312): Sel against SL, and the target against the session's flag. -/
def queryMatches (s : State) (sel session : Nat) (targetB : Bool) : Bool :=
  (sel ≤ 1 || (sel = 2 && !s.fld.sl) || (sel = 3 && s.fld.sl)) &&
    s.fld.inv.getD session false == targetB

/-- FLD_LINK (R320). -/
def linkWord (dr : Bool) (m : Nat) (trext : Bool) (sel session : Nat) (targetB : Bool)
    (q tari blf : Nat) : Word :=
  BitVec.ofNat 32 (tari % 256 * 16777216 + blf % 1024 * 16384 + m % 4 * 4096 + bitNat trext * 2048 +
    bitNat dr * 1024 + session % 4 * 256 + sel % 4 * 64 + bitNat targetB * 32 + q % 16)

/-- QUERY (R303, R306, R308, R312). -/
def effQuery (s : State) (dr : Bool) (m : Nat) (trext : Bool) (sel session : Nat) (targetB : Bool)
    (q tari blf : Nat) : State :=
  if s.fld.st = 0 || !s.fld.ready then s
  else
    let s := if 4 ≤ s.fld.st && session = s.fld.session then s.invertFlag session else s
    let s := { s.leaveAccess with
      fld.link := linkWord dr m trext sel session targetB q tari blf
      fld.session := session, fld.q := min q 15 }
    if s.queryMatches sel session targetB then s.drawSlot else { s with fld.st := 1 }

/-- A QueryRep or QueryAdjust in ACKNOWLEDGED, OPEN or SECURED (R312). -/
def endRound (s : State) (session : Nat) : State :=
  if session = s.fld.session then { (s.invertFlag session).leaveAccess with fld.st := 1 }
  else if s.fld.st = 4 then { s with fld.st := 2 }
  else s

/-- QUERY_ADJUST (R306, R308, R312). -/
def effQueryAdjust (s : State) (session updn : Nat) : State :=
  if s.fld.st = 0 || !s.fld.ready then s
  else if s.fld.st = 2 || s.fld.st = 3 then
    if session = s.fld.session then
      ({ s with fld.q := match updn with
          | 1 => min 15 (s.fld.q + 1) | 2 => s.fld.q - 1 | _ => s.fld.q }).drawSlot
    else { s with fld.st := 2 }
  else if 4 ≤ s.fld.st then s.endRound session
  else s

/-- QUERY_REP (R312): the slot counter falls, wrapping below 0; at 0 an RN16 goes out. -/
def effQueryRep (s : State) (session : Nat) : State :=
  if s.fld.st = 0 || !s.fld.ready then s
  else if s.fld.st = 2 then
    if session = s.fld.session then
      let s := { s with fld.slot := (s.fld.slot + 32767) % 32768 }
      if s.fld.slot = 0 then (s.sendRn16).1 else s
    else s
  else if s.fld.st = 3 then
    { s with fld.st := 2, fld.slot := if session = s.fld.session then 32767 else s.fld.slot }
  else if 4 ≤ s.fld.st then s.endRound session
  else s

/-- Sends the identifier reply (R312). -/
def sendIdent (s : State) : State :=
  let s := s.backscatter (.ident s.identReply)
  if s.fldx.reply = .none then s else (s.countBy 0x2BC 31 16 1).raise 0x2AC 2

/-- ACK (R312). -/
def effAck (s : State) (rn : BitVec 16) : State :=
  if s.fld.st = 3 || s.fld.st = 4 then
    if rn = s.fld.rn16 then { s.sendIdent with fld.st := 4 } else { s with fld.st := 2 }
  else if 5 ≤ s.fld.st then
    if rn = s.fld.handle then s.sendIdent else { s.leaveAccess with fld.st := 2 }
  else s

/-- NAK (R312). -/
def effNak (s : State) : State := if 3 ≤ s.fld.st then { s.leaveAccess with fld.st := 2 } else s

/-- The access password (R325). -/
def accessPassword (s : State) : Nat := beNat (slice s.fmem.reserved 4 4)

/-- Entry to SECURED (R312, R317). -/
def enterSecured (s : State) (priv : Nat) : State :=
  let s := ({ s with fld.st := 6, fld.priv := priv }).raise 0x2AC 3
  let s := s.countBy 0x2C8 31 16 1
  if s.wired then s else (s.wakeTrigger 3).1

/-- CORE and the array read path wake for a field session, those of them that are off, when the
field-write queue's supplies hold 0.6 µJ above the reserve (R313). -/
def fieldWakeCore (s : State) : State :=
  let job : Job := { id := 0, queue := 1, cost := 600, weight := 0, kind := .fieldWrite }
  if !s.aonRuns then s
  else if s.wired || 600 + s.eRes ≤ s.countedFor job then s.wakeArray
  else s

/-- REQ_RN (R308, R309, R312, R313). -/
def effReqRn (s : State) (rn : BitVec 16) : State :=
  if s.fld.st = 3 || (s.fld.st = 4 && rn != s.fld.rn16) then { s with fld.st := 2 }
  else if s.fld.st = 4 then
    match s.drawBits 16 with
    | (s, none) => s
    | (s, some bits) =>
      let v := BitVec.ofNat 16 (bitsNat bits)
      let s := ({ s with fld.handle := v }).backscatter (.rn16 v)
      let s := s.fieldWakeCore
      if s.accessPassword = 0 then s.enterSecured 2
      else { s with fld.st := 5, fld.priv := 1 }.countBy 0x2C8 31 16 1
  else if 5 ≤ s.fld.st && rn = s.fld.handle then
    match s.drawBits 16 with
    | (s, none) => s
    | (s, some bits) =>
      let v := BitVec.ofNat 16 (bitsNat bits)
      ({ s with fld.rn16 := v }).backscatter (.rn16 v)
  else s

/-- T2_EXPIRY (R312). -/
def effT2Expiry (s : State) : State :=
  if s.fld.st = 3 || s.fld.st = 4 then { s with fld.st := 2 } else s

/-- INVALID_COMMAND (R294, R312). -/
def effInvalidCommand (s : State) : State :=
  if s.fld.st = 0 then s
  else
    let s := s.countBy 0x2C0 31 16 1
    if s.fld.st = 3 || s.fld.st = 4 then { s with fld.st := 2 } else s

/-- S1_PERSISTENCE_EXPIRY (R296). -/
def effS1PersistenceExpiry (s : State) : State := { s with fld.inv := setNth s.fld.inv 1 false }

/-- FLAG_PERSISTENCE_EXPIRY (R296): only while FDIG is gated. -/
def effFlagPersistenceExpiry (s : State) (flag : Nat) : State :=
  if s.fld.st != 0 then s
  else if flag = 4 then { s with fld.sl := false }
  else if flag = 2 || flag = 3 then { s with fld.inv := setNth s.fld.inv flag false }
  else s

/-- FLD_CTRL.WAKE_RELEASE (R318): releases the output in level mode. -/
def wakeRelease (s : State) : State := if s.fld.wakeLevel then { s with fld.wake := false } else s

/-- WAKE_PULSE_END (R318): the pulse of WIDTH_MS ends. -/
def effWakePulseEnd (s : State) : State := if s.fld.wakeLevel then s else { s with fld.wake := false }

/-- WAKE_LEVEL_TIMEOUT (R318): TAG_VAUX has stayed above the trip level for 1 s. -/
def effWakeLevelTimeout (s : State) : State :=
  if s.fld.wakeLevel && s.wired then { s with fld.wake := false } else s

/-- USER_MAP_BUILT (R328). -/
def effUserMapBuilt (s : State) : State :=
  if s.domOn 4 && !s.cmt.recovering && s.boot.darkPending.isNone && (s.wired || s.fld.st != 0) then
    { s with fldx.mapBuilt := true }.raise 0x2D0 9
  else s

end State

end Sys2Proof.Machine
end

