-- ==== Sys2Proof/Machine/FieldMem.lean ====
section
/-! DEFINITION. Field memory (R321 to R362): the access commands, field writes and their journal, passwords and Authenticate, and the Gweuno commands. -/

namespace Sys2Proof.Machine

/-- Words of a bank (R321). -/
def bankWords (bank : Nat) : Nat := match bank with
  | 0 => 4 | 1 => 32 | 2 => 8 | 3 => 32768 | _ => 0

/-- First byte of a bank's window in the guarded space (R422). -/
def bankWindow (bank : Nat) : Nat := 0x0200_0000 + 0x0001_0000 * bank

/-- Two bytes of a word, most significant first (R322). -/
def wordPair (w : BitVec 16) : List Byte := beBytes 2 w.toNat

/-- Words as window bytes. -/
def windowOf (ws : List (BitVec 16)) : List Byte := ws.flatMap wordPair

/-- Position of a region's two lock bits (R330, R362): write lock above permalock. -/
def lockShift (bank word : Nat) : Nat := match bank with
  | 0 => if word < 2 then 8 else 6
  | 1 => 4 | 2 => 2 | _ => 0

/-- The lock state after a Lock payload (R330). -/
def lockAfter (cur mask action : BitVec 10) : BitVec 10 := (cur &&& ~~~ mask) ||| (action &&& mask)

/-- A Lock that would change bits under permalock (R330). -/
def lockRefused (cur new : BitVec 10) : Bool :=
  [0, 2, 4, 6, 8].any (fun sh => cur.getLsbD sh &&
    (cur.getLsbD sh != new.getLsbD sh || cur.getLsbD (sh + 1) != new.getLsbD (sh + 1)))

/-- First and last window sector of a write: sector number and count (R349). -/
def writeSpan (target addr len : Nat) : Nat × Nat :=
  if target = 5 then (0, ceilDiv len 32)
  else if target = 4 then (0, 1)
  else (addr * 2 / 32, (addr * 2 + len - 1) / 32 + 1 - addr * 2 / 32)

/-- The bytes of a journal entry (R348) with its apply mark. -/
def fjBytes (e : FJEntry) : List Byte :=
  let a := [0xB1#8, BitVec.ofNat 8 e.target] ++ leBytes 2 e.addr ++ leBytes 2 e.data.length ++
    [BitVec.ofNat 8 e.count]
  let b := leBytes 4 e.value ++ wordBytes e.seq ++ zeroBytes 4
  a ++ [if e.applied then 0xA5#8 else 0#8] ++ b ++ wordBytes (crc32c (a ++ b ++ e.data)) ++ e.data

/-- Journal sectors that an entry occupies. -/
def fjSectors (e : FJEntry) : List Nat := (List.range e.count).map (fun i => (e.pos + i) % 256)

/-- A record written from the field carries no bracket: header bytes 12-15 are 0 (R39). -/
def noBracket (r : Rec) : Rec :=
  { r with hdr := { r.hdr with flags := r.hdr.flags &&& ~~~ flagBracket, ssn := 0#32 } }

namespace State

/-- Pending journal entries, in FJOURNAL order (R352). -/
def fjPending (s : State) : List FJEntry := s.fmem.journal.filter (fun e => !e.applied)

/-- Lays the pending entries over a window sector (R352). -/
def overlayPending (s : State) (bank sector : Nat) (base : List Byte) : List Byte :=
  s.fjPending.foldl (fun b e =>
    if e.target != bank then b
    else (List.range e.data.length).foldl (fun b i =>
      let at0 := e.addr * 2 + i
      if at0 / 32 = sector then setNth b (at0 % 32) (e.data.getD i 0#8) else b) b) base

/-- A window sector as the field reads it (R327, R352). -/
def fieldSector (s : State) (bank sector : Nat) : List Byte :=
  s.overlayPending bank sector (sectorAfter ((s.recsOf 9).map (fun r => r.record)) bank sector)

/-- The field shadow as R326 and R327 define its content. -/
def shadowWanted (s : State) : FMem :=
  let l := s.fieldSector 4 0
  { s.fmem with
    reserved := zeroBytes 4 ++ slice (s.fieldSector 0 0) 4 4
    ident := zeroBytes 2 ++ (s.fieldSector 1 0).drop 2 ++ s.fieldSector 1 1
    user0 := s.fieldSector 3 0 ++ s.fieldSector 3 1
    lock := BitVec.ofNat 10 (beNat (slice l 0 2)) }

/-- Programs the field shadow (R326). -/
def fixShadow (s : State) : State := { s with fmem := s.shadowWanted }

/-- Array work answers with the insufficient-power error during a Knell or with CORE gated (R136,
R313), and otherwise as busy until recovery is complete and during a bank rebuild (R128, R328, R527). -/
def arrayBusy (s : State) (gweuno : Bool) : Option Nat :=
  if s.knellRunning || !s.domOn 4 then some 0x0B
  else if s.cmt.recovering || s.cmt.rebuilding || s.boot.darkPending.isSome then
    some (if gweuno then 0x83 else 0x0F)
  else none

/-- A read of the array waits for the user-bank map as well (R328). -/
def arrayError (s : State) (gweuno : Bool) : Option Nat :=
  match s.arrayBusy gweuno with
  | some e => some e
  | none => if s.fldx.mapBuilt then none else some (if gweuno then 0x83 else 0x0F)

/-- The field engine's guard (R333, R419). -/
def fieldGuard (s : State) (addr len : Nat) (rd wr se recW : Bool) : State × Bool :=
  s.guarded 2 { addr := addr, len := len, needR := rd, needW := wr, needS := se, recWrite := recW
                rights := 0#8, requester := 0 }

/-- A command of OPEN and SECURED (R312): it acts with the session's handle; elsewhere it is an
invalid command (R294). -/
def access (s : State) (handle : BitVec 16) (f : State → State) : State :=
  if 5 ≤ s.fld.st then (if handle = s.fld.handle then f s else s)
  else s.effInvalidCommand

/-- A read of these user-bank sectors returns the plaintext of a sealed record (R425). -/
def sealedSectors (s : State) (span : List Nat) : Bool :=
  let recs := (s.recsOf 9).map (fun r => r.record)
  span.any (fun q => match carrier recs 3 q with
    | some r => r.hdr.has flagEnc
    | none => false)

/-- An invalid command (R294), or a Gweuno command with an unknown code, a reserved subcommand or a
reserved bit that is not 0, which OPEN and SECURED answer with error 0x86 (R338, R347). -/
def effBadCommand (s : State) (gweuno : Option (BitVec 16)) : State := match gweuno with
  | some handle => s.access handle (fun s => s.fieldError 0x86)
  | none => s.effInvalidCommand

/-- The rights of OPEN or SECURED-0 only (R332, R333). -/
def lowPriv (s : State) : Bool := s.fld.priv ≤ 2

/-- READ (R329, R331, R333). -/
def doRead (s : State) (bank word count : Nat) : State :=
  let words := bankWords bank
  if 128 < count || (count = 0 && bank = 3) || words ≤ word || words < word + count then
    s.fieldError 0x03
  else
    let n := if count = 0 then words - word else count
    if bank = 0 && 2 < word + n && s.lowPriv && s.fmem.lock.getLsbD 7 then s.fieldError 0x02
    else if bank != 3 then
      let b := match bank with | 0 => s.fmem.reserved | 1 => s.identBank | _ => s.fmem.tid
      match s.fieldGuard (bankWindow bank + 2 * word) (2 * n) true false false false with
      | (s, false) => s.fieldError 0x02
      | (s, true) => s.answerData (slice b (2 * word) (2 * n))
    else
      let s := s.fieldWakeCore
      match s.arrayError false with
      | some e => s.fieldError e
      | none =>
        if s.fieldOnly && 32 < n then s.fieldError 0x0B
        else
          let first := 2 * word / 32
          let last := (2 * (word + n) - 1) / 32
          let span := (List.range (last + 1 - first)).map (fun i => first + i)
          match s.fieldGuard (bankWindow 3 + 2 * word) (2 * n) true false (s.sealedSectors span) false with
          | (s, false) => s.fieldError 0x02
          | (s, true) =>
            let bytes := span.flatMap (fun q => s.fieldSector 3 q)
            s.answerData (slice bytes (2 * word - 32 * first) (2 * n))

/-- READ. -/
def effRead (s : State) (handle : BitVec 16) (bank word count : Nat) : State :=
  s.access handle (fun s => s.doRead bank word count)

/-- Refuses a field write for a lock or a lease (R331, R358). -/
def refuseWrite (s : State) (lease : Bool) : State :=
  (s.raise 0x2D0 (if lease then 2 else 1)).fieldError 0x04

/-- The write's record and place are formed at S1 and S2 (R350 step 2); its grant is the job's
(R186). -/
def fieldRecord (s : State) (e : FJEntry) (payload : List Byte) (cost : Nat) : State :=
  let typ := if e.target = 5 then 0x60#8 else 0x70#8
  let r := noBracket (s.newInternal 4 4 typ (flagFirst ||| flagLast) payload)
  let s := (s.stamp).admitInternal r (.fieldWrite e.value)
  { s with cmt.pipe := s.cmt.pipe.map (fun (p : PipeRec) =>
      if p.hook == .fieldWrite e.value then { p with granted := some cost, band := s.pwr.band } else p) }

/-- The source sequence that the next field write's record takes: the FIELD stream's next number after
those of the records that wait for S1 (R348, R350). -/
def fieldSeq (s : State) : Word :=
  s.ownNumber (s.source 4) 4 + BitVec.ofNat 32
    (s.cmt.s1wait.filter (fun w => inStream w.1 (s.source 4) 4)).length

/-- Programs a journal entry into both of the journal's extents' lines (R348). -/
def fjProgram (s : State) (sectors : List Nat) : State :=
  let lines := (sectors.map (fun q =>
    let ext := 192 + q / 128
    let code := s.codeOf 2 ext
    (⟨codeBank code, codeExt code * 16 + q % 128 / 8, 2, ext⟩ : Prog))).eraseDups
  s.touchAll lines

/-- The payload of a field write's record: formed at S7 for window sectors (R351). -/
def fieldPayload (e : FJEntry) (p : Nat) : List Byte :=
  if e.target = 5 then e.data else zeroBytes (16 + 32 * p)

/-- The guard's checks of a field write (R333, R422): W over its bytes of the bank window, and the record
write over the sectors allocated to its record. -/
def guardWrite (s : State) (target addr len part head n : Nat) : State × Bool :=
  let window := if target ≤ 4 then s.fieldGuard (bankWindow target + 2 * addr) len false true false false
    else (s, true)
  match window with
  | (s, false) => (s, false)
  | (s, true) => s.guarded 2 (s.recAccess part head n false true true true 0#8 0)

/-- A field write (R348 to R354): admission, journal, FJOURNAL, shadow, delayed reply. -/
def fieldWrite (s : State) (target addr : Nat) (data : List Byte) (gweuno : Bool) : State :=
  let s := (s.fieldWakeCore).boundary .admission
  let (_, p) := writeSpan target addr data.length
  let j := ceilDiv (24 + data.length) 32
  let part := if target = 5 then 8 else 9
  let n := sectorsOf (if target = 5 then data.length else 16 + 32 * p)
  let lease := if target = 5 then s.peal.lease8 else s.peal.lease9
  match s.arrayBusy gweuno with
  | some err => s.fieldError err
  | none =>
    if lease.isSome then s.refuseWrite true
    else if s.fjPending.any (fun e => (fjSectors e).any (fun q =>
        (List.range j).any (fun i => (s.fmem.head + i) % 256 == q))) then s.fieldError 0x0F
    else if !s.s1Open then s.fieldError 0x0B
    else
      let k := max j p
      let cost := fieldWriteCost s.pwr.band k
      let job : Job := { id := s.cmt.nextId, queue := 1, cost := cost, weight := 1, kind := .fieldWrite }
      if s.verdict job != .grant then ((s.raise 0x070 6).count 0x0A4).fieldError 0x0B
      else
        let head := ((s.roomAtHead part n).part part).head
        if !(s.partRoom part n) then s.fieldError (if target = 5 then 0x87 else 0x0F)
        else match s.guardWrite target addr data.length part head n with
          | (s, false) => s.fieldError 0x02
          | (s, true) =>
            let v := (s.tollValue 7 + 1) % 4294967296
            let e : FJEntry := {
              pos := s.fmem.head, count := j, target := target, addr := addr, data := data
              value := v, seq := s.fieldSeq, applied := false }
            let s := s.fieldRecord e (fieldPayload e p) cost
            let s := s.fjProgram (fjSectors e)
            let span := fjSectors e
            let s := { s with
              fmem.journal := s.fmem.journal.filter (fun x =>
                !((fjSectors x).any (fun q => span.contains q))) ++ [e]
              fmem.head := (s.fmem.head + j) % 256 }
            let s := (s.tollUpdate 7 v).fixShadow
            let s := (s.raise 0x2D0 0).countBy 0x2D8 31 16 1
            if target = 5 then s.backscatter (.data (zeroBytes 8)) else s.backscatter .done

/-- A write of words to a bank (R329, R330, R333). -/
def doWrite (s : State) (bank word : Nat) (ws : List (BitVec 16)) : State :=
  let stop := word + ws.length
  let sh := lockShift bank word
  if bank = 2 then s.refuseWrite false
  else if ws.length < 1 || 116 < ws.length || bankWords bank < stop ||
      2 * word / 256 != (2 * stop - 1) / 256 then s.fieldError 0x03
  else if bank = 0 && word < 2 then s.refuseWrite false
  else if bank = 1 && word = 0 then s.fieldError 0x04
  else if bank = 1 && word = 1 && (ws.headD 0#16).getLsbD 9 then s.fieldError 0x0F
  else if s.fmem.lock.getLsbD sh then s.refuseWrite false
  else if s.fmem.lock.getLsbD (sh + 1) && s.lowPriv then s.fieldError 0x02
  else s.fieldWrite bank word (windowOf ws) false

/-- WRITE (R329, R350). Its word comes cover-coded, as the standard requires: exclusive-or with the last
RN16 that the tag has sent (PRESUMED, log entry 108). -/
def effWrite (s : State) (handle : BitVec 16) (bank word : Nat) (data : BitVec 16) : State :=
  s.access handle (fun s => s.doWrite bank word [data ^^^ s.fld.rn16])

/-- BLOCK_WRITE (R329, R350). -/
def effBlockWrite (s : State) (handle : BitVec 16) (bank word : Nat) (data : List (BitVec 16)) :
    State :=
  s.access handle (fun s => s.doWrite bank word data)

/-- LOCK (R329, R330, R333). -/
def effLock (s : State) (handle : BitVec 16) (mask action : BitVec 10) : State :=
  s.access handle (fun s =>
    let new := lockAfter s.fmem.lock mask action
    if s.fld.priv = 1 then s.fieldError 0x02
    else if lockRefused s.fmem.lock new then s.refuseWrite false
    else s.fieldWrite 4 0 (beBytes 2 new.toNat) false)

/-- FLD_GW_CFG.PW_TRIES (R362). -/
def pwTries (s : State) : Nat := s.cfg 0x2CC 11 8

/-- An incorrect access password (R312, R334). -/
def passwordFail (s : State) : State :=
  let s := (s.raise 0x2D0 5).countBy 0x2E0 15 0 1
  let s := if s.fld.lockout then s
    else if s.pwTries != 0 && s.pwTries ≤ s.fld.pwCount + 1 then
      ({ s with fld.pwCount := 0, fld.lockout := true }.raise 0x2D0 6).audit 4 5 (s.source 4) 4 0 [1#8]
    else { s with fld.pwCount := s.fld.pwCount + 1 }
  { s.leaveAccess with fld.st := 2 }

/-- ACCESS (R312, R332, R334). -/
def effAccess (s : State) (handle : BitVec 16) (password : Word) : State :=
  s.access handle (fun s =>
    if !s.fld.lockout && password.toNat = s.accessPassword then
      let s := { s with fld.pwCount := 0 }
      let s := if s.fld.st = 5 then s.enterSecured (if password = 0#32 then 2 else 3)
        else if s.fld.priv = 2 && password != 0#32 then { s with fld.priv := 3 } else s
      s.backscatter (.rn16 s.fld.handle)
    else s.passwordFail)

/-- PASSWORD_LOCKOUT_END (R334). -/
def effPasswordLockoutEnd (s : State) : State := { s with fld.lockout := false }

/-- KILL (R293): refused with error code 0x00. -/
def effKill (s : State) (handle : BitVec 16) : State :=
  s.access handle (fun s => s.backscatter (.error 0x00))

/-- A failed Authenticate (R336). -/
def authFail (s : State) (method : Nat) : State :=
  let s := (s.raise 0x2D0 4).countBy 0x2E0 15 0 1
  let s := s.audit 4 5 (s.source 4) 4 0 [BitVec.ofNat 8 (method + 1)]
  let s := s.fieldError 0x05
  if method = 2 then { s.leaveAccess with fld.st := 2 } else s

/-- A successful Authenticate is counted (R336). -/
def authOk (s : State) : State := (s.raise 0x2D0 3).countBy 0x2E0 31 16 1

/-- The keys of a MAM1 exchange enter the lowest-numbered free field context, and the context that the
field session held before is released (R335, R448, R457). -/
def fieldSession (s : State) (key challenge : List Byte) (bits : List Bool) : State :=
  let x : Ctx := {
    state := .field, requester := 0, method := 2, rights := 0#8, asked := 0#8
    key := sha256 (key ++ challenge ++ beBytes (ceilDiv bits.length 8) (bitsNat bits))
    challenge := 0#256, tagPoint := [], hostPoint := [], lastUse := s.clk.up, mbx := {} }
  match (List.range 4).find? (fun c => (s.ctx c).isNone) with
  | some c => { (s.closeField).setCtx c x with fldx.ctx := some c }
  | none => s

/-- AUTHENTICATE (R335, R336): TAM1 and MAM1 of ISO/IEC 29167-10. -/
def effAuthenticate (s : State) (handle : BitVec 16) (method keyId : Nat)
    (challenge response : List Byte) : State :=
  s.access handle (fun s =>
    if (method != 1 && method != 2) || 1 < keyId then s.fieldError 0x05
    else match s.keyBytes (3 + keyId) with
      | none => s.authFail method
      | some key =>
        match s.drawBits (if method = 1 then 32 else 80) with
        | (s, none) => s.authFail method
        | (s, some bits) =>
          let answer := Config.tagAnswer method key challenge bits
          if method = 1 then (s.authOk).backscatter (.data answer)
          else if response = Config.peerAnswer key challenge bits then
            let s := s.authOk
            let s := s.fieldSession key challenge bits
            let s := if s.fld.st = 5 then s.enterSecured 4 else { s with fld.priv := 4 }
            s.backscatter (.data answer)
          else s.authFail 2)

/-- Most data bytes of a Gweuno reply (R339). -/
def gwLimit (s : State) : Nat := if s.fieldOnly then 64 else 256

/-- A Gweuno read that asks for more than the limit (R339). -/
def gwTooMuch (s : State) : State := s.fieldError (if s.fieldOnly then 0x0B else 0x86)

/-- The record that a mode of REC_READ selects (R112, R263). -/
def selectRecord (s : State) (mode part stroke : Nat) : Option Stored :=
  if mode = 0 then s.byNumber stroke
  else (s.fromStroke part (stroke + 1)).head?

/-- The record that an earlier chunk of this read returned has been reclaimed (R45, R341): the one that
mode 0 names, and in mode 1 one that stood before what the arguments now select. -/
def readGone (s : State) (mode stroke offset : Nat) (now : Option Nat) : Bool :=
  match s.fldx.recRead with
  | some (n, _) => (s.byNumber n).isNone && (if mode = 0 then n == stroke
      else offset != 0 && stroke < n && (match now with | some k => n < k | none => true))
  | none => false

/-- G_REC_READ (R333, R340, R341). -/
def effGRecRead (s : State) (handle : BitVec 16) (mode part stroke offset count : Nat) : State :=
  s.access handle (fun s =>
    if !(s.fld.priv = 4 || (s.fld.priv = 3 && s.cfgBit 0x2CC 2)) then s.fieldError 0x02
    else if 1 < mode || (mode = 1 && 10 < part) || count = 0 then s.fieldError 0x86
    else if s.gwLimit < 32 * count then s.gwTooMuch
    else
      let s := s.fieldWakeCore
      match s.arrayError true with
      | some e => s.fieldError e
      | none => match s.selectRecord mode part stroke with
        | none => s.fieldError (if s.readGone mode stroke offset none then 0x81 else 0x80)
        | some r =>
          let bytes := recBytes r.record false
          let num := r.record.hdr.stroke
          if s.readGone mode stroke offset (some num) then s.fieldError 0x81
          else if r.record.hdr.part = 1 then s.fieldError 0x02
          else if bytes.length ≤ 32 * offset then s.fieldError 0x86
          else match s.guarded 2 (s.readAccess r (isSealed r) 0#8 0) with
            | (s, false) => s.fieldError 0x02
            | (s, true) =>
              let chunk := (bytes.drop (32 * offset)).take (32 * count)
              let inOrder := offset = 0 || s.fldx.recRead == some (num, offset)
              let last := bytes.length ≤ 32 * offset + chunk.length
              let flags := if !last then 0
                else if !inOrder then 2 + 4 else if r.intact then 2 + 1 else 2 + 8
              let next := offset + chunk.length / 32
              let s := { s with fldx.recRead := some (num, if inOrder then next else 0) }
              s.answerData ([BitVec.ofNat 8 flags] ++ beBytes 8 num ++
                beBytes 2 bytes.length ++ chunk))

/-- The gauge reply (R342). -/
def gaugeReply (s : State) : List Byte :=
  beBytes 1 s.pwr.mode ++ beBytes 1 s.pwr.step ++ beBytes 1 s.pwr.cellState ++ beBytes 1 s.pwr.band ++
  beBytes 2 (saturate 65535 s.eHoldUj) ++ beBytes 2 s.pwr.capUf ++
  beBytes 4 (saturate 4294967295 s.eStoreUj) ++ beBytes 2 (saturate 65535 s.eFr10nj) ++
  beBytes 2 (saturate 65535 s.pwr.gauge.harv10nw) ++ beBytes 2 (saturate 65535 s.pwr.gauge.fieldUw) ++
  beBytes 2 s.pwr.cellMv ++ (leSigned 2 s.pwr.temp).reverse ++ beBytes 2 s.pwr.voc ++
  beBytes 5 (s.clk.rtc / second) ++
  [BitVec.ofNat 8 (bitNat s.clk.unsync + 2 * bitNat s.slotPending +
    4 * bitNat (!s.kn.mirrorPend.isEmpty))] ++ zeroBytes 2

/-- G_GAUGE (R333, R342). The gauge is AON's (R194): without AON the power for it is lacking (R302). -/
def effGGauge (s : State) (handle : BitVec 16) : State :=
  s.access handle (fun s =>
    if !s.aonRuns then s.fieldError 0x0B
    else if s.lowPriv && !(s.cfgBit 0x2CC 0) then s.fieldError 0x02
    else s.answerData s.gaugeReply)

/-- Samples of one batch payload (R30): seconds and bytes. -/
def samplesOf (payload : List Byte) : List (Nat × List Byte) :=
  (List.range (leNat (slice payload 0 2))).map (fun i =>
    let b := slice payload (8 + 16 * i) 16
    (leNat (slice b 0 5), b))

/-- The logger batch records with samples from a time on (R343). -/
def shippingRecs (s : State) (fromS : Nat) : List Stored :=
  (s.fromStroke 6 0).filter (fun r => r.record.hdr.typ == 0x40#8 &&
    (samplesOf r.record.payload).any (fun x => fromS ≤ x.1))

/-- The shipping log from a time on: interval, intact, samples of each batch (R343). -/
def shippingLog (s : State) (fromS : Nat) : List (Nat × Bool × List (List Byte)) :=
  let pick := fun (l : List (Nat × List Byte)) => (l.filter (fun x => fromS ≤ x.1)).map (fun x => x.2)
  let recs := ((s.fromStroke 6 0).filter (fun r => r.record.hdr.typ == 0x40#8)).map (fun r =>
    (leNat (slice r.record.payload 2 2), r.intact, pick (samplesOf r.record.payload)))
  let held := (s.log.batchInterval, true,
    pick (s.log.batch.map (fun x => (x.seconds, sampleBytes x))))
  (recs ++ [held]).filter (fun b => !b.2.2.isEmpty)

/-- G_SHIP_READ (R333, R339, R343, R359). -/
def effGShipRead (s : State) (handle : BitVec 16) (fromSeconds maxSamples : Nat) : State :=
  s.access handle (fun s =>
    if s.lowPriv && !(s.cfgBit 0x2CC 1) then s.fieldError 0x02
    else
      let s := s.fieldWakeCore
      match s.arrayError true with
      | some e => s.fieldError e
      | none =>
        let log := s.shippingLog fromSeconds
        match s.guardReads 2 (s.shippingRecs fromSeconds) isSealed 0#8 0 with
        | (s, false) => s.fieldError 0x02
        | (s, true) => match log with
          | (_, false, _) :: _ => s.fieldError 0x82
          | _ =>
            let good := log.takeWhile (fun b => b.2.1)
            let all := good.flatMap (fun b => b.2.2)
            let n := min (min maxSamples (s.gwLimit / 16)) all.length
            let more := n < (log.flatMap (fun b => b.2.2)).length
            let interval := match log with | b :: _ => b.1 | [] => s.log.batchInterval
            s.answerData ([BitVec.ofNat 8 n, BitVec.ofNat 8 (bitNat more)] ++ beBytes 2 interval ++
              (all.take n).flatten))

/-- G_STAGE_WRITE (R333, R344). -/
def effGStageWrite (s : State) (handle : BitVec 16) (item : Nat) (flags : Byte) (version : Word)
    (body : List Byte) : State :=
  s.access handle (fun s =>
    if s.fld.priv != 4 then s.fieldError 0x02
    else if item = 0xFFFF || flags &&& 0xFE#8 != 0#8 || 224 < body.length then s.fieldError 0x86
    else s.fieldWrite 5 item (leBytes 2 item ++ [flags, 0#8] ++ wordBytes version ++ body) true)

/-- G_EXPORT is permitted (R333). -/
def exportAllowed (s : State) : Bool := s.fld.priv = 4 || (s.fld.priv = 3 && s.cfgBit 0x2CC 3)

/-- G_EXPORT OPEN (R345, R455): a Sign job, and a container signed with the next nonce. -/
def effGExportOpen (s : State) (handle : BitVec 16) (part stroke count : Nat) : State :=
  s.access handle (fun s =>
    if !s.exportAllowed then s.fieldError 0x02
    else if 10 < part || count < 1 || 64 < count then s.fieldError 0x86
    else if part = 1 then s.fieldError 0x02
    else
      let s := s.fieldWakeCore
      match s.arrayError true with
      | some e => s.fieldError e
      | none =>
        let rs := (s.fromStroke part stroke).take count
        if rs.isEmpty then s.fieldError 0x80
        else
          let (s, ok) := s.guardReads 2 rs (fun _ => true) 0#8 0
          if !ok then s.fieldError 0x02
          else if s.bothFailed then s.fieldError 0x84
          else
            let job : Job := { id := s.cmt.nextId, queue := 3, cost := 190000, weight := 1
                               kind := .exportSeal }
            let s := s.boundary .admission
            if s.verdict job != .grant then s.fieldError 0x0B
            else
              let s := (s.dropKind .exportSeal).endJob .exportSeal
              let s := { s with
                ent.waiting := s.ent.waiting.filter (fun r => r.use != EntUse.fieldExport)
                fldx.container := none, fldx.exportPend := some (part, stroke, count, rs.map (fun (r : Stored) => r.record.hdr.stroke))
                pwr.grants := s.pwr.grants ++ [job] }
              s.askBlock 4 .fieldExport)

/-- A chunk as it is sent (R457): AES-128 in counter mode in SECURED-A. -/
def chunkBytes (s : State) (b : Bivik) (index : Nat) (bytes : List Byte) : List Byte :=
  match s.fldx.ctx.bind s.ctx with
  | some x =>
    if s.fld.priv != 4 then bytes
    else
      let key := digestBytes x.key 16
      (List.range 4).flatMap (fun i =>
        let pad := Config.aes128 key (leBytes 8 b.created ++ zeroBytes 4 ++ beBytes 4 (index * 4 + i))
        (List.range 16).map (fun k =>
          bytes.getD (16 * i + k) 0#8 ^^^ pad.getD k 0#8))
  | none => bytes

/-- G_EXPORT CHUNK (R345, R456, R457). -/
def effGExportChunk (s : State) (handle : BitVec 16) (index count : Nat) : State :=
  s.access handle (fun s =>
    if !s.exportAllowed then s.fieldError 0x02
    else if count < 1 || 4 < count then s.fieldError 0x86
    else match s.fldx.container with
      | none => s.fieldError 0x85
      | some b =>
        let total := ceilDiv (bivikLength b) 64
        if total < index + count then s.fieldError 0x85
        else if s.gwLimit < 64 * count then s.gwTooMuch
        else
          let s := s.fieldWakeCore
          match s.arrayError true with
          | some e => s.fieldError e
          | none =>
            let job : Job := { id := s.cmt.nextId, queue := 4, cost := 900, weight := 0
                               kind := .exportSeal }
            let s := s.boundary .admission
            if s.verdict job != .grant then s.fieldError 0x0B
            else match s.bivikChunk b (64 * index) (64 * count) with
              | none => s.fieldError 0x81
              | some bytes =>
                match s.guardChunk 2 b (64 * index) (64 * count) 0#8 0 with
                | (s, false) => s.fieldError 0x02
                | (s, true) => s.answerData ((List.range count).flatMap (fun i =>
                    s.chunkBytes b (index + i) (slice bytes (64 * i) 64))))

/-- G_EXPORT CLOSE (R345). -/
def effGExportClose (s : State) (handle : BitVec 16) : State :=
  s.access handle (fun s =>
    if !s.exportAllowed then s.fieldError 0x02
    else ({ s with fldx.container := none }).backscatter (.data []))

/-- G_WAKE (R333, R346). -/
def effGWake (s : State) (handle : BitVec 16) (reason : Byte) : State :=
  s.access handle (fun s =>
    if s.lowPriv then s.fieldError 0x02
    else
      let (s, r) := ({ s with fld.gwReason := reason }).wakeTrigger 1
      s.backscatter (.data [BitVec.ofNat 8 r]))

/-- The record of a field write has committed: its entry's apply mark is programmed (R350). -/
def markApplied (s : State) (value : Nat) : State :=
  let s := match s.fmem.journal.find? (fun e => e.value == value) with
    | some e => s.fjProgram [e.pos]
    | none => s
  { s with fmem.journal := s.fmem.journal.map (fun e =>
      if e.value = value then { e with applied := true } else e) }

/-- Creates and commits the record of a journal entry again (R355): the entry's source sequence, a
new stamp, and the payload of R351. -/
def replayEntry (s : State) (e : FJEntry) : State :=
  let typ := if e.target = 5 then 0x60#8 else 0x70#8
  let pl := if e.target = 5 then e.data
    else userPayload e ((s.recsOf 9).map (fun r => r.record))
  let r := noBracket (s.newInternal 4 4 typ (flagFirst ||| flagLast) pl)
  let src := s.source 4
  let s := match s.seqCheck src 4 e.seq with
    | .jump x =>
      let s := s.zeroNow r.hdr.part
      (s.stamp).commitHere (s.gapRec src 4 2 r.hdr.part [(x, e.seq - 1#32)])
    | _ => s
  let r := { r with hdr := { r.hdr with
    seq := e.seq, time := s.nextStamp
    flags := r.hdr.flags ||| (if (s.streamOf src 4).isNone then flagNew else 0#8) } }
  let s := (((s.stamp).laterSeq 4 4 (e.seq + 1#32)).setStream src 4 (e.seq + 1#32)).commitAtHead r
  (s.markApplied e.value).raise 0x2D0 7

/-- The journal's part of recovery (R355): entries whose record has committed are marked; the others
create their records again. -/
def replayJournal (s : State) : State :=
  let stored := s.tollValue 7
  let s := { s with fmem.journal := s.fmem.journal.filter (fun e => e.value ≤ stored) }
  s.fjPending.foldl (fun s e =>
    let done := s.arr.recs.any (fun r => r.record.hdr.source.toNat % 1024 == 4 &&
      r.record.hdr.cls == 4 && r.record.hdr.seq == e.seq)
    if done then s.markApplied e.value else s.replayEntry e) s

end State

end Sys2Proof.Machine
end

