-- ==== Sys2Proof/Machine/Peal.lean ====
section
/-! DEFINITION. Record frames and Peal mirroring (R252 to R256, R273 to R287): EVENT and COPY frames into the pipeline, sends, acknowledgements, retries, DEGRADE, and what applies at a commit-group boundary. -/

namespace Sys2Proof.Machine

/-- Number of members of a peer set. -/
def popCount (w : BitVec 64) : Nat :=
  total ((List.range 64).map (fun i => bitNat (w.getLsbD i)))

/-- The origin record as a COPY carries it (R53). -/
def carriedCopy (r : Rec) : List Byte :=
  let pay := pad32 r.payload
  let link := leBytes 8 r.link.toNat
  let gcm := leBytes 16 (Config.gcmTag 1 (r.hdr.nonce 1) (r.hdr.bytes ++ link) pay).toNat
  let cipher := Config.gcmSeal 1 (r.hdr.nonce 1) pay
  let rest := link ++ gcm ++ zeroBytes 4
  r.hdr.bytes ++ cipher ++ wordBytes (crc32c (r.hdr.bytes ++ cipher ++ rest)) ++ rest

/-- The Carillon nonce of a carried record (R23, R53). -/
def copyNonce (body : List Byte) : List Byte :=
  slice body 24 8 ++ slice body 4 2 ++ slice body 6 1 ++ [1#8]

/-- Bytes of the padded origin payload that an origin header announces. -/
def copyPayload (body : List Byte) : Nat := 32 * ceilDiv (leNat (slice body 2 2)) 32

/-- The plaintext of a carried record (R264). -/
def copyPlain (body : List Byte) : List Byte :=
  Config.gcmOpen 1 (copyNonce body) (slice body 32 (body.length - 64))

/-- The Carillon GCM tag of a carried record verifies (R53, R285). -/
def copyVerifies (body : List Byte) : Bool :=
  let n := body.length - 64
  let aad := slice body 0 32 ++ slice body (36 + n) 8
  leBytes 16 (Config.gcmTag 1 (copyNonce body) aad (copyPlain body)).toNat == slice body (44 + n) 16

/-- The origin identity of a carried record (R55): tag index and stroke number. -/
def copyIdentity (body : List Byte) : Nat × Nat :=
  (leNat (slice body 4 2) / 1024, leNat (slice body 16 8))

/-- An EVENT header that the tag counts as invalid (R253): 0 valid, 1 reserved type, 2 invalid. -/
def eventFault (h : EventHdr) : Nat :=
  if !definedType h.typ then 1
  else if (h.typ != 0x10#8 && h.typ != 0x11#8) || h.source < 0x100 || 0x1FF < h.source ||
      4032 < h.bodyLen then 2
  else 0

namespace State

/-- S1 has room for a record of `n` sectors of a stream and for the GAP record of a jump (R85, R48). -/
def roomFor (s : State) (src : BitVec 16) (cls : Nat) (seq : Word) (n : Nat) : Bool :=
  s.cmt.s1wait.isEmpty && s.heldAudit.isNone &&
    match s.seqCheck src cls seq with
    | .jump _ => s.roomJump n
    | .duplicate => true
    | _ => s.hasRoom n

/-- The bracket after a switch-event header (R40): the highest SSN in modulo-2^32 order. -/
def seeSsn (s : State) (ssn : Word) : State :=
  if !s.clk.bracketSeen || (ssn - s.clk.bracket).toNat < 2147483648 then
    { s with clk.bracket := ssn, clk.bracketSeen := true }
  else s

/-- Stage S4 of a run-ahead record: the lines of its payload sectors are programmed (R84). -/
def runAheadLines (s : State) (p : PipeRec) : State :=
  s.touchAll (s.linesOf p.record.hdr.part (p.sector + 1) (p.sectors - 2) p.newExtents)

/-- Run-ahead of the record that entered the pipeline last. -/
def runLast (s : State) : State := match s.cmt.pipe.getLast? with
  | some p => if p.runAhead then s.runAheadLines p else s
  | none => s

/-- The header of an EVENT frame (R253): the checks and S1. None when it must wait for
room at S1 (R85). A frame that S1 does not accept stores nothing (R224). -/
def eventHeader (s : State) (h : EventHdr) : Option State :=
  match eventFault h with
  | 1 => some ((s.count 0x0FC).discardFrame 1)
  | 2 => some (s.badFrame.discardFrame 1)
  | _ =>
    if !s.s1Open then some (s.discardFrame 1)
    else
      let n := sectorsOf h.bodyLen
      let src := s.source h.source
      if !s.roomFor src 1 h.seq n then none
      else
        let before := s.cmt.nextId
        let ra := 16 < n && !s.raDis
        let t := s.accept src 1 h.typ (setFlags h.first h.last) h.seq h.ssn (zeroBytes h.bodyLen)
          .none ra false none (some .event)
        some (if t.cmt.nextId = before then t.discardFrame 1 else t.runLast)

/-- Replaces a pipeline record. -/
def setPipe (s : State) (q : PipeRec) : State :=
  { s with cmt.pipe := s.cmt.pipe.map (fun (p : PipeRec) => if p.id = q.id then q else p) }

/-- Counts a frame that is poisoned or fails its end check (R254). -/
def countFailed (s : State) (e : FrameEnd) : State :=
  if e = .poisoned then s.poisonFrame else s.badFrame

/-- A frame that stored nothing ends: poisoned or failed it is counted like any other, unless its header
was counted as invalid (R253, R254; log entry 54). -/
def endUnstored (s : State) (c : Nat) (counted : Bool) (e : FrameEnd) : State :=
  let s := s.freeFrame c
  if counted || e = .good then s else s.countFailed e

/-- The end of an EVENT frame (R251, R254): S5 passes, or the record is abandoned. -/
def eventEnd (s : State) (e : FrameEnd) (h : EventHdr) (body : List Byte) : State :=
  match s.openRec .event with
  | none => s.endUnstored 1 (eventFault h != 0) e
  | some p =>
    let (s, n) := s.takeDone 1
    let good := e = .good && body.length = p.record.hdr.length
    let r := if good then { p.record with payload := body } else p.record
    let q := { p with
      record := r, openFrame := none, checked := good, credits := some (Cls.event, n) }
    let s := s.setPipe q
    if good then s.freeLeads q else (s.countFailed e).drop q

/-- An EVENT frame command once it may proceed; none when it must wait for room at S1. -/
def runEvent (s : State) (ph : FramePhase) (h : EventHdr) (body : List Byte) : Option State :=
  match ph with
  | .header => s.eventHeader h
  | .finish e => some (s.eventEnd (eventCheck h e body) h body)
  | .whole e => (s.eventHeader h).map (fun s => s.eventEnd (eventCheck h e body) h body)

/-- The Peal store or the pipeline holds the copy of an origin identity (R38). -/
def holdsCopy (s : State) (body : List Byte) : Bool :=
  let same := fun (r : Rec) => r.hdr.typ == 0x50#8 && copyIdentity r.payload == copyIdentity body
  (s.recsOf 7).any (fun x => same x.record) || s.cmt.pipe.any (fun p => same p.record)

/-- A rejected copy (R284, R285). -/
def rejectCopy (s : State) (bit : Nat) : State := (s.countBy 0x240 31 16 1).raise 0x230 bit

/-- Sends a PACK (R277, R287). -/
def sendPack (s : State) (result origin : Nat) (cid : Word) (stroke : Nat) : State :=
  s.sendFrame .peal ([2#8, BitVec.ofNat 8 s.tagIndex, BitVec.ofNat 8 result, BitVec.ofNat 8 origin] ++
    wordBytes cid ++ leBytes 8 stroke) []

/-- The headers of a COPY (R284): own index, duplicate test, S1. None when it must wait for room. -/
def copyHeader (s : State) (h : CopyHdr) (body : List Byte) : Option State :=
  let len := 64 + copyPayload body
  if !s.pealReady then some (s.discardFrame 3)
  else if h.origin = s.tagIndex then some ((s.rejectCopy 8).discardFrame 3)
  else if body.length < 32 || 4032 < len then some (s.badFrame.discardFrame 3)
  else if s.holdsCopy body then some ((s.count 0x100).discardFrame 3)
  else if !s.s1Open then some (s.discardFrame 3)
  else
    let n := sectorsOf len
    if !(s.cmt.s1wait.isEmpty && s.heldAudit.isNone && s.hasRoom n) then none
    else
      let r := s.newInternal 7 3 0x50#8 (flagPeer ||| flagFirst ||| flagLast) (slice body 0 len)
      let ra := 16 < n && !s.raDis
      some (((s.stamp).placeOwn r (.copy (copyIdentity body).1 (copyIdentity body).2) ra false 0 0
        (some .peal)).runLast)

/-- The end of a COPY (R284, R285): its tests at S5, and the PACK of a copy that is not stored. -/
def copyEnd (s : State) (e : FrameEnd) (h : CopyHdr) (body : List Byte) : State :=
  let id := copyIdentity body
  match s.openRec .peal with
  | none =>
    let bad := s.pealReady && h.origin != s.tagIndex && (body.length < 32 || 4032 < 64 + copyPayload body)
    let s := s.endUnstored 3 bad (lengthCheck (64 + copyPayload body) e body)
    if e != .good || body.length != 64 + copyPayload body then s
    else if !s.pealReady then s.sendPack 4 h.origin h.cid id.2
    else if h.origin = s.tagIndex || !s.holdsCopy body then s
    else s.sendPack 1 h.origin h.cid id.2
  | some p =>
    let (s, n) := s.takeDone 3
    let whole := e = .good && body.length = p.record.hdr.length
    let q := { p with openFrame := none, credits := some (Cls.peal, n) }
    if !whole then ((s.setPipe q).countFailed e).drop q
    else if h.cid != s.cid then
      (((s.setPipe q).rejectCopy 4).drop q).sendPack 3 h.origin h.cid id.2
    else if !copyVerifies body then
      (((s.setPipe q).rejectCopy 4).drop q).sendPack 2 h.origin h.cid id.2
    else s.setPipe { q with record := { p.record with payload := body }, checked := true }

/-- A COPY frame command once it may proceed; none when it must wait for room at S1. -/
def runCopy (s : State) (ph : FramePhase) (h : CopyHdr) (body : List Byte) : Option State :=
  match ph with
  | .header => s.copyHeader h body
  | .finish e => some (s.copyEnd (copyCheck h e body) h body)
  | .whole e => (s.copyHeader h body).map (fun s => s.copyEnd (copyCheck h e body) h body)

/-- Serves the EVENT frames that wait for room at S1, in order (R85). -/
def serveEvents (s : State) (fuel : Nat) : State := match fuel with
  | 0 => s
  | fuel + 1 => match s.peal.eventWait with
    | .eventFrame ph h body :: t =>
      match { s with peal.eventWait := t }.runEvent ph h body with
      | some u => u.serveEvents fuel
      | none => s
    | _ => s

/-- Serves the COPY frames that wait for room at S1, in order. -/
def serveCopies (s : State) (fuel : Nat) : State := match fuel with
  | 0 => s
  | fuel + 1 => match s.peal.copyWait with
    | .pealCopyFrame ph h body :: t =>
      match { s with peal.copyWait := t }.runCopy ph h body with
      | some u => u.serveCopies fuel
      | none => s
    | _ => s

/-- Serves every frame that waits for room at S1. -/
def serveFrames (s : State) : State :=
  let s := s.serveEvents s.peal.eventWait.length
  s.serveCopies s.peal.copyWait.length

/-- Frames reach the frame layer while SLINK is on (R194, R241). -/
def linkOn (s : State) : Bool := s.domOn 17

/-- The SSN of a switch-event header counts from when it has been received and checked, whether or not the
frame must wait for room at S1 (R40). -/
def noteSsn (s : State) (ph : FramePhase) (h : EventHdr) : State := match ph with
  | .finish _ => s
  | _ => if eventFault h = 0 then s.seeSsn h.ssn else s

/-- EVENT_FRAME (R253, R254). During a Knell its packets were discarded at the link (R238). -/
def effEventFrame (s : State) (ph : FramePhase) (h : EventHdr) (body : List Byte) : State :=
  if s.knellRunning || !s.linkOn then s
  else
    let s := s.noteSsn ph h
    ({ s with peal.eventWait := s.peal.eventWait ++ [Instr.eventFrame ph h body] }).serveFrames

/-- PEAL_COPY_FRAME (R284 to R286). -/
def effPealCopyFrame (s : State) (ph : FramePhase) (h : CopyHdr) (body : List Byte) : State :=
  if s.knellRunning || !s.linkOn then s
  else ({ s with peal.copyWait := s.peal.copyWait ++ [Instr.pealCopyFrame ph h body] }).serveFrames

/-- Sends a COPY of a record to a set of peers (R276, R278). -/
def sendCopy (s : State) (r : Rec) (attempt : Nat) (dest : BitVec 64) : State :=
  (s.count 0x23C).sendFrame .peal
    ([1#8, BitVec.ofNat 8 s.tagIndex, BitVec.ofNat 8 attempt, 0#8] ++ wordBytes s.cid ++
      leBytes 8 dest.toNat) (carriedCopy r)

/-- Clears the mirror bit of a slot whose records are all settled (R166). -/
def settleSlot (s : State) (slot : Option Nat) : State := match slot with
  | none => s
  | some k =>
    if s.peal.unsettled.any (fun u => u.slot == some k) ||
        s.peal.backlog.any (fun b => b.slot == some k) then s
    else { s with kn.mirrorPend := without s.kn.mirrorPend k }

/-- Sends are held: shed at step 2, discarded in a Knell (R192, R238). -/
def sendsHeld (s : State) : Bool := s.knellRunning || 2 ≤ s.pwr.step

/-- The job of one Peal send (R186). -/
def pealJob (s : State) (stroke : Nat) : Job :=
  { id := s.cmt.nextId, queue := 5, cost := 4000, weight := 1, kind := .peal stroke }

/-- The granted send of the first record that waits (R278, R279). A record that its partition has
reclaimed is passed over (log entry 20). -/
def sendFirst (s : State) : State :=
  match s.peal.backlog with
  | [] => s
  | b :: t =>
    let s := { s with peal.backlog := t }
    match s.byNumber b.stroke with
    | none => s.settleSlot b.slot
    | some r =>
      let u : Unsettled := {
        stroke := b.stroke, typ := r.record.hdr.typ, degree := b.degree, set := b.set, got := 0#64
        attempt := 0, sends := 1, firstSent := s.clk.rtc, due := false, slot := b.slot }
      { (s.sendCopy r.record 0 b.set) with peal.unsettled := s.peal.unsettled ++ [u] }

/-- PEAL_SEND (R278, R279): the engine takes the next committed record and sends it. Each send is a job
of queue 5 (R185, R186). -/
def effPealSend (s : State) : State :=
  match s.peal.backlog with
  | [] => s
  | b :: _ =>
    if s.sendsHeld || 64 ≤ s.peal.unsettled.length then s
    else match s.dispatch (s.pealJob b.stroke) with
    | (s, true) => s.sendFirst
    | (s, false) => s

/-- The DEGRADE payload (R52). -/
def degradePayload (u : Unsettled) (reason : Nat) : List Byte :=
  leBytes 8 u.stroke ++ [u.typ, BitVec.ofNat 8 u.degree, BitVec.ofNat 8 (popCount u.got), 0#8] ++
    leBytes 8 u.set.toNat ++ leBytes 8 u.got.toNat ++ [BitVec.ofNat 8 (u.sends - 1),
    BitVec.ofNat 8 reason, 0#8, 0#8] ++ leBytes 8 u.firstSent

/-- Removes an unsettled record. -/
def settle (s : State) (u : Unsettled) : State :=
  ({ s with peal.unsettled := s.peal.unsettled.filter (fun (x : Unsettled) => x.stroke != u.stroke)
    }).settleSlot u.slot

/-- The engine gives up on a record (R281). -/
def giveUp (s : State) (u : Unsettled) (reason : Nat) : State :=
  (s.settle u).create 7 0x02#8 (degradePayload u reason) .degrade

/-- Replaces an unsettled record. -/
def setUnsettled (s : State) (u : Unsettled) : State :=
  { s with peal.unsettled := s.peal.unsettled.map (fun (x : Unsettled) =>
      if x.stroke = u.stroke then u else x) }

/-- Sends the retry of a record to the peers that are missing (R280). -/
def retry (s : State) (u : Unsettled) : State :=
  let s := s.setUnsettled { u with due := false, sends := u.sends + 1 }
  match s.byNumber u.stroke with
  | some r => s.sendCopy r.record u.attempt (u.set &&& ~~~ u.got)
  | none => s

/-- A retry that is due goes when sends are not held and its job is granted; otherwise it stays due
(R185, R281). -/
def retryNow (s : State) (u : Unsettled) : State :=
  if s.sendsHeld then s.setUnsettled { u with due := true }
  else match s.dispatch (s.pealJob u.stroke) with
  | (s, true) => s.retry u
  | (s, false) => s.setUnsettled { u with due := true }

/-- A queued Peal job is admitted (R185): the retry that is due, or the first record that waits. -/
def admitSend (s : State) (stroke : Nat) : State :=
  if s.sendsHeld then s
  else match s.peal.unsettled.find? (fun u => u.stroke == stroke && u.due) with
    | some u => s.retry u
    | none => match s.peal.backlog with
      | b :: _ => if b.stroke = stroke && s.peal.unsettled.length < 64 then s.sendFirst else s
      | [] => s

/-- PEAL_RETRY_WAIT_EXPIRY (R280, R281). With fewer than five sends some retry was shed and never sent. -/
def effPealRetryWaitExpiry (s : State) (stroke : Nat) : State :=
  match s.peal.unsettled.find? (fun u => u.stroke == stroke) with
  | none => s
  | some u =>
    if 4 ≤ u.attempt then s.giveUp u (if u.sends < 5 then 3 else 1)
    else
      s.retryNow { u with attempt := u.attempt + 1 }

/-- Retries that fell due while sends were shed go when step 2 is left (R281). -/
def sendDue (s : State) : State :=
  (s.peal.unsettled.filter (fun u => u.due)).foldl (fun s u => s.retryNow u) s

/-- PACK_FRAME (R277, R282). A PACK acts after its end check (R248). -/
def effPackFrame (s : State) (e : FrameEnd) (h : PackHdr) : State :=
  if s.knellRunning || !s.linkOn then s
  else
    let s := s.freeFrame 3
    let e := packCheck h e
    if e != .good then s.countFailed e
    else
      let bit := BitVec.ofNat 64 (2 ^ (h.acker % 64))
      match s.peal.unsettled.find? (fun u => u.stroke == h.stroke) with
      | some u =>
        if h.origin != s.tagIndex || h.cid != s.cid || u.set &&& bit = 0#64 then s.raise 0x230 5
        else if 1 < h.result then s
        else
          let u := { u with got := u.got ||| bit }
          if u.got = u.set then s.settle u else s.setUnsettled u
      | none => s.raise 0x230 5

/-- The slots whose mirroring may start: pending and not under way. -/
def mirrorable (s : State) : List Nat := s.kn.mirrorPend.filter (fun k =>
  !(s.peal.unsettled.any (fun u => u.slot == some k) || s.peal.backlog.any (fun b => b.slot == some k)))

/-- KNELL_MIRROR_START (R166): the segments and the manifest of the oldest pending slot, in stroke
order. -/
def effKnellMirrorStart (s : State) : State :=
  if !s.wired || s.knellRunning || !s.linkActive || !s.pealReady then s
  else match s.mirrorable with
    | [] => s
    | k :: _ =>
      let set := s.peal.peers.getD 1 0#64
      let rs := (s.slotRecords k).foldl insertStored []
      let bs := (rs.filter (fun r => r.record.hdr.degree != 0)).map (fun r => ({
        stroke := r.record.hdr.stroke, degree := r.record.hdr.degree, set := set
        slot := some k } : Backlog))
      ({ s with peal.backlog := s.peal.backlog ++ bs }).settleSlot (some k)

/-- A lease is held by another host than `host` (R270); the register port and the field are no
host. -/
def leaseBlocks (s : State) (p : Nat) (host : Option Nat) : Bool :=
  let l := if p = 8 then s.peal.lease8 else if p = 9 then s.peal.lease9 else none
  match l with
  | some x => host != some x.host
  | none => false

/-- Sets the lease of a partition. -/
def setLease (s : State) (p : Nat) (l : Option Lease) : State :=
  if p = 8 then { s with peal.lease8 := l } else { s with peal.lease9 := l }

/-- Whole seconds left of a lease, rounded up. -/
def leaseLeft (s : State) (l : Option Lease) : Nat := match l with
  | some x => saturate 500 (ceilDiv (x.endAt - s.clk.up) second)
  | none => 0

/-- The request's session is open and belongs to the requester (R261, R266). -/
def sessionOk (s : State) (h : MgmtHdr) : Bool := match h.session with
  | none => true
  | some c => match s.ctx c with
    | some x => 4 ≤ c && x.state == .opened && x.requester == h.requester.toNat
    | none => false

/-- A LEASE request takes effect at a boundary and is answered (R269, R270). A request whose session
has ended by then takes no lease (log entry 36; DEDUCED). -/
def applyLease (s : State) (q : LeaseReq) : State :=
  let host := q.hdr.requester.toNat
  let ctx := q.hdr.session.getD 0
  let held := if q.part = 8 then s.peal.lease8 else s.peal.lease9
  if !(s.sessionOk q.hdr) then s.answer q.hdr 0x30 stNoSession
  else if s.leaseBlocks q.part (some host) then s.answer q.hdr 0x30 stLeased
  else if q.op = 1 then
    let l : Lease := { host := host, ctx := ctx, endAt := s.clk.up + q.seconds * second }
    (s.setLease q.part (some l)).complete q.hdr 0x30 stOk 0 (leBytes 2 q.seconds) []
  else
    let s := if held.isSome then s.setLease q.part none else s
    s.complete q.hdr 0x30 stOk 0 (leBytes 2 0) []

/-- LEASE_EXPIRY (R269). -/
def effLeaseExpiry (s : State) (p : Nat) : State :=
  let l := if p = 8 then s.peal.lease8 else if p = 9 then s.peal.lease9 else none
  match l with
  | some x => if s.clk.up < x.endAt then s else (s.setLease p none).raise 0x230 6
  | none => s

/-- PEAL_CTRL.LEASE_CLR (R269). -/
def clearLeases (s : State) : State := { s with peal.lease8 := none, peal.lease9 := none }

/-- The CARILLON payload (R29). -/
def carillonPayload (cid : Word) (old new : Nat) (setter : BitVec 16) : List Byte :=
  wordBytes cid ++ [BitVec.ofNat 8 old, BitVec.ofNat 8 new] ++ leBytes 2 setter.toNat ++
    leBytes 8 Config.deviceId.toNat ++ zeroBytes 16

/-- Applies the tag index and the Carillon ID. A change commits a CARILLON record at the boundary, before
the first record under the new index is stamped (R57, R273), and CARILLON_CHANGE follows (R31). -/
def applyCarillon (s : State) : State :=
  let wanted := fun (off : Nat) => (s.force off &&& ~~~ (s.pendBits off)) ||| (s.reg off &&& s.pendBits off)
  let idx := (wanted 0x224).field 5 0
  let cid := wanted 0x228
  let change := !(idx = s.tagIndex && cid = s.cid)
  let setter := s.source s.peal.setter
  let s := if change then s.createNow 7 0x06#8 (carillonPayload cid s.tagIndex idx setter) else s
  let stroke := s.cmt.shadow
  let s := (s.applyAt .commitGroup 0x224).applyAt .commitGroup 0x228
  if change then s.audit 7 0xB setter (if s.peal.setter = 5 then 5 else 2) stroke [] else s

/-- A degree and peer set of class `i` are checked together and applied, or refused (R275). -/
def applyClass (s : State) (i : Nat) : State :=
  let want := (s.reg 0x22C).field (2 * i + 1) (2 * i)
  let set := s.peal.peersWant.getD i 0#64
  let had := s.peal.peers.getD i 0#64
  let m := Word.maskOf (2 * i + 1) (2 * i)
  if want = s.cfg 0x22C (2 * i + 1) (2 * i) && set = had then s
  else if popCount set = want && !set.getLsbD s.tagIndex then
    let s := s.setForce 0x22C ((s.force 0x22C &&& ~~~ m) ||| (s.reg 0x22C &&& m))
    let s := { s with peal.peers := setNth s.peal.peers i set }
    (s.peal.unsettled.filter (fun u => mirrorIndex u.typ == some i)).foldl (fun s u => s.giveUp u 2) s
  else s.raise 0x230 1

/-- Applies the degrees and peer sets that wait (R273, R275, R291). -/
def applyPeers (s : State) : State :=
  if s.pendBits 0x22C = 0#32 && !s.peal.peersWait then s
  else
    let s := (List.range 6).foldl (fun s i => s.applyClass i) s
    { s.setPend 0x22C 0#32 with peal.peersWait := false }

/-- Something waits for the commit-group boundary. -/
def awaitsBoundary (s : State) : Bool :=
  !s.rf.pend.isEmpty || s.peal.peersWait || !s.peal.leaseWait.isEmpty

/-- Everything that waits for a commit-group boundary takes place (R87, R130, R270, R273). -/
def groupBoundary (s : State) : State :=
  let s := s.applyCarillon.applyPeers
  let s := s.boundary .commitGroup
  let reqs := s.peal.leaseWait
  reqs.foldl (fun s q => s.applyLease q) { s with peal.leaseWait := [] }

/-- The boundary, when the engine stands at one (R87). -/
def tryBoundary (s : State) : State := if s.atBoundary then s.groupBoundary else s

/-- What a command makes of `s` is `t`: when it has left no record between S5 and the commit point where
one stood, or has committed records outside a group of COMMIT_GROUP, the engine has reached a boundary,
and what waits for one takes place at once (R87, R130). -/
def reach (s t : State) : State :=
  if ((!s.atBoundary && t.atBoundary) || s.cmt.shadow < t.cmt.shadow) && t.awaitsBoundary then
    t.groupBoundary
  else t

end State

end Sys2Proof.Machine
end

