-- ==== Sys2Proof/Machine/Shed.lean ====
section
/-! DEFINITION. Shedding (R192, R193), Knell entry and the Knell's commands (R133 to R147, R155, R161), and the keep-alive that step 7 makes. -/

namespace Sys2Proof.Machine

/-- KNL_CFG.DIR_WAIT and INTAKE_MS are timed by their own commands; the Knell's plan at entry. -/
def newPlan (s : State) (trigger avail : Nat) : Plan :=
  { slot := s.kn.lastSlot, number := 0, trigger := trigger, endCode := 3, cut := false
    overwrote := false, downshift := false, bankFail := false, width := 0, announced := 0
    stored := 0, limit := 0, avail := avail, capUf := s.pwr.capUf, temp := s.pwr.temp
    time := s.clk.rtc, bracket := s.clk.bracket, imageA := false, imageB := false
    atBoot := false, outcomes := [] }

namespace State

/-- The register port loses its supply below the trip level (R194, R470): its key is disarmed, RESULT
returns to its reset value, and TAG_SDO carries nothing. -/
def regpOff (s : State) : State :=
  { s.setDom 19 false with
    rf.keyArmed := s.rf.keyArmed.filter (fun (p : Port) => p != Port.regp), rf.result := 0
    rf.sdo := [] }

/-- Shedding reaches step `n`, with every step below it (R192). -/
def enterStep (s : State) (n : Nat) : State :=
  let was := s.pwr.step
  if n ≤ was then s
  else
    let s := if was = 0 then s.raise 0x070 5 else s
    let s := { s with pwr.step := n }
    let s := if was < 1 then s.snareShed else s
    let s := if was < 4 && 4 ≤ n then s.abortRaw.entPower else s
    if was < 5 && 5 ≤ n then s.closeHosts.regpOff else s

/-- SHED_STEP (R192): TAG_VAUX crosses the threshold of a step from 1 to 4. -/
def effShedStep (s : State) (n : Nat) : State :=
  if 1 ≤ n && n ≤ 4 && s.usableSrc 0 then s.enterStep n else s

/-- Every admitted job but a record's stops and releases its grant (R189, R192). -/
def stopJobs (s : State) : State := (s.releaseJobs.abortCal false).abortTest.abortRaw

/-- From Knell entry on the space of a granted record returns as KNELL-class credits (R141): that of a
record without credits of a class is its payload's (log entry 84). -/
def knellSpace (p : PipeRec) : PipeRec :=
  if ownSpace p = 0 then p else { p with credits := some (.knell, ownSpace p) }

/-- The Drumhead space that Knell entry gives to the Knell engine (R141, R238): all but that of the
granted records, in credits. -/
def dedicate (s : State) : State :=
  let own := s.pipeSpace
  let s := { s with
    cmt.pipe := s.cmt.pipe.map knellSpace, lnk.rxHeld := modNth s.lnk.rxHeld 0 (fun x => x + own)
    lnk.rxOld := [0, 0, 0, 0] }
  let held := total (s.cmt.pipe.map (fun p => match p.credits with
    | some (_, n) => n
    | none => 0))
  let limit := (nth s.lnk.rxUsed 0 + (16384 - held)) % 65536
  { s with lnk.rxLimit := setNth s.lnk.rxLimit 0 limit, lnk.creditPending := true, lnk.knellLast := true }

/-- Stream Port frames in hand are dropped at Knell entry, and so are the packets that the tag has not
begun to send; a grace period ends at once with no GAP record, and the next training is fresh (R134,
R238, R240, R267, R283). -/
def dropStream (s : State) : State :=
  let s := (List.range' 1 3).foldl (fun s c => s.releaseCredits c (s.frameCredits c)) s
  let s := { s with
    lnk.openFrame := [s.lnk.openFrame.getD 0 none, none, none, none]
    lnk.doneFrames := [s.lnk.doneFrames.getD 0 [], [], [], []], lnk.txQ := []
    peal.eventWait := [], peal.copyWait := [], peal.mgmtWait := [], peal.pullHeads := []
    peal.writeCredits := [], peal.readFound := [] }
  if s.stm.held then
    ({ s with stm.held := false, stm.resumeOk := false }).raise 0x1AC 8
  else s

/-- Knell entry (R134): the rails move to TAG_HOLD, steps 1 to 4 apply, the records that are not
granted are abandoned, the available energy is latched, the other jobs stop, and intake opens. -/
def knellEntry (s : State) (trigger : Nat) : State :=
  let s := s.enterStep 4
  let loose := s.looseWaves
  let s := s.reach (s.dropEach (fun p => p.granted.isNone))
  let avail := s.eAvail
  let plan := newPlan s trigger avail
  let s := (s.stopJobs.dropStream).snareKnell loose
  let s := (s.dedicate).pealForget
  let i : Intake := {
    trigger := trigger, opening := trigger == 2, directory := 0, sections := [], kept := []
    expected := 0, bytes := [], heldCredits := [], cutBytes := 0, segsMade := 0, segsDone := 0
    target := 0, claimed := none, slotWas := emptySlot, eline := eLine s.pwr.band, plan := plan
    done := false }
  { s with kn.state := 2, kn.intake := some i }

/-- A trigger of R133: it starts a Knell when the engine is ARMED; DISARMED only reports it; a
running Knell ignores it. -/
def trigger (s : State) (code : Nat) : State :=
  if s.kn.state = 1 then s.knellEntry code
  else if s.kn.state = 0 then s.unarmedTrigger
  else s

/-- VAUX_FAIL (R133, R172, R192): TAG_VAUX has fallen below the trip level. But in a Knell the Snare is
disarmed (R382, R384). -/
def effVauxFail (s : State) : State :=
  if !s.usableSrc 0 || s.pwr.mode = 0 || s.pwr.mode = 6 then s
  else
    let s := { s with
      pwr.usable := setNth s.pwr.usable 0 false, pwr.vauxOk := false, pwr.pumpOn := false
      pwr.holdMeasuring := false }
    let s := if s.fld.st != 0 && s.fld.supply = 0 then { s with fld.supply := s.assistSource } else s
    let s := (s.enterStep 5).regpOff
    let s := s.trigger 1
    (if s.knellRunning then s else s.disarm).entPower.fixMode

/-- KNL_CTRL.FORCE (R133). -/
def forceKnell (s : State) : State := s.trigger 3

/-- The header of a KNELL opening frame (R133, R140, R147, R253). -/
def openingHeader (s : State) : State :=
  if s.kn.state = 1 then s.trigger 2
  else if s.kn.state = 2 then
    match s.kn.intake with
    | some i => s.setIntake { i with opening := true }
    | none => s
  else if s.knellRunning then s
  else (if s.kn.state = 0 then s.unarmedTrigger else s).badFrame

/-- Intake that already holds all it waits for ends at once (R141). -/
def endIfFull (s : State) : State := match s.kn.intake with
  | some i => if s.kn.state = 3 && intakeComplete i then s.endIntake 0 else s
  | none => s

/-- A KNELL frame that the tag discards as failed is counted: one with a reserved type in CMT_BADREC_CNT
alone (R26), any other as R254 and R255 say. -/
def countKnell (s : State) (typ : Byte) (e : FrameEnd) (body : List Byte) : State :=
  if knellReserved e body then s.count 0x0FC else s.countFailed (knellCheck typ e body)

/-- The end of a KNELL opening frame (R147, R255): a frame that passes its end check brings the
directory. -/
def openingEnd (s : State) (raw : FrameEnd) (body : List Byte) : State :=
  let (s, n) := s.takeDone 0
  let e := knellCheck 0x20#8 raw body
  match s.kn.intake with
  | some i =>
    if s.kn.state = 2 && i.opening then
      if e = .good && body.length ≤ 4032 then (s.takeDirectory i body n).endIfFull
      else
        let s := s.setIntake { i with opening := false }
        (s.releaseCredits 0 n).countKnell 0x20#8 raw body
    else if s.kn.state != 2 && s.knellRunning && e != .good then
      (s.releaseCredits 0 n).countKnell 0x20#8 raw body
    else s.releaseCredits 0 n
  | none => s.releaseCredits 0 n

/-- KNELL_OPENING_FRAME (R133, R138, R139, R147). -/
def effKnellOpeningFrame (s : State) (ph : FramePhase) (body : List Byte) : State :=
  if !s.linkOn then s
  else match ph with
  | .header => s.openingHeader
  | .finish e => s.openingEnd e body
  | .whole e => (s.openingHeader).openingEnd e body

/-- KNELL_DATA_FRAME (R139 to R141, R255). -/
def effKnellDataFrame (s : State) (raw : FrameEnd) (body : List Byte) : State :=
  let (t, n) := s.takeDone 0
  let e := knellCheck 0x21#8 raw body
  let on := s.linkOn
  let s := if on then t else s
  if !on then s
  else if s.kn.state != 1 && !s.knellRunning then
    if knellReserved raw body then (s.releaseCredits 0 n).count 0x0FC else (s.releaseCredits 0 n).badFrame
  else match s.kn.intake with
    | some i =>
      if e != .good || 4032 < body.length then (s.releaseCredits 0 n).countKnell 0x21#8 raw body
      else if s.kn.state = 3 then s.takeData i body n
      else s.releaseCredits 0 n
    | none => if e = .good then s.releaseCredits 0 n
      else (s.releaseCredits 0 n).countKnell 0x21#8 raw body

/-- DIR_WAIT_EXPIRY (R147, R167): no opening frame; nothing is kept and no slot is claimed. -/
def effDirWaitExpiry (s : State) : State :=
  match s.kn.intake with
  | some i =>
    if s.kn.state = 2 then
      (s.setIntake { i with plan := { i.plan with endCode := 3 } }).closeKnell
    else s
  | none => s

/-- INTAKE_MS_EXPIRY (R141): intake ends with end code TIMEOUT. -/
def effIntakeMsExpiry (s : State) : State := if s.kn.state = 3 then s.endIntake 2 else s

/-- K_SIGN (R161, R163): an admitted K-SIGN asks for its nonce block; without a healthy source it
signs nothing. -/
def effKSign (s : State) : State :=
  match s.pwr.grants.findSome? (fun (j : Job) => match j.kind with
    | .kSign k => some k
    | _ => none) with
  | none => s
  | some k =>
    if s.kn.signWait.isSome || s.knellRunning || !s.manifestRoom k ||
        s.cmt.pipe.any (fun (p : PipeRec) => p.hook == .manifest k) then s
    else if s.bothFailed then s.kSignUnsigned k
    else ({ s with kn.signWait := some k }).askBlock 4 (.kSign k)

/-- KNELL_ARM (R135). -/
def effKnellArm (s : State) : State := s.rearmKnell

/-- SHED_STEP6 (R192): with TAG_VAUX below the trip level and the Knell engine in neither OPEN nor
CAPTURE, S1 and admission stop, and SPHY and SNARE gate. -/
def effShedStep6 (s : State) : State :=
  if s.usableSrc 0 || s.pwr.step != 5 || s.kn.state = 2 || s.kn.state = 3 then s
  else
    let s := { s with boot.s1Stopped := true }
    let s := s.reach (s.dropAll (fun p => p.granted.isNone))
    let s := s.stopJobs
    ((s.linkOff).snareGate).enterStep 6

/-- SHED_STEP7 (R192): nothing granted remains, a save follows the last state change, and every
domain but AON and HARV gates. -/
def effShedStep7 (s : State) : State :=
  if s.pwr.step != 6 || s.knellRunning || !s.noGrants then s
  else
    let s := if s.cmt.dirty then s.saveNow s.cmt.pipe.isEmpty else s
    (s.aonOnly).entCoreGate.fixMode

/-- The credits that the rules of R239 held back return: each class gets its pool again, less what packets
since the last fresh training still hold, and KNELL waits for the rest. -/
def returnCredits (s : State) : State :=
  let lim := fun (c : Nat) =>
    (nth s.lnk.rxUsed c + (nth s.pools c - (nth s.lnk.rxHeld c - nth s.lnk.rxOld c))) % 65536
  { s with
    lnk.rxLimit := [nth s.lnk.rxLimit 0, lim 1, lim 2, lim 3]
    lnk.withheld := [nth s.lnk.withheld 0, 0, 0, 0], lnk.creditPending := true
    lnk.knellLast := true }.knellTurn

/-- A Knell runs that SWITCH_PF or FORCED started: it keeps its shedding steps until it closes (R193). -/
def keepsSteps (s : State) : Bool := match s.kn.intake with
  | some i => s.knellRunning && i.trigger != 1
  | none => false

/-- SHED_LEAVE (R193): TAG_VAUX has stayed at or above 3.15 V; steps 1 to 6 are left together. A Knell
in progress goes on to its close; one that SWITCH_PF or FORCED started keeps its steps until then. A Knell
that closed without TAG_VAUX while granted records held off step 7 leaves the engine to arm again (R523;
DESIGN CHOICE, log entry 102). -/
def effShedLeave (s : State) : State :=
  if s.pwr.mode = 0 || s.pwr.mode = 6 || s.pwr.step = 0 || s.pwr.step = 7 then s
  else
    let s := { s with
      pwr.usable := setNth s.pwr.usable 0 true, pwr.vauxOk := true
      kn.state := if 6 ≤ s.kn.state then 0 else s.kn.state }.feedField
    if s.keepsSteps then s.fixMode
    else
      let s := { s with pwr.step := 0, boot.s1Stopped := false }
      let s := (s.raise 0x070 4).wakeArray
      let s := if s.domOn 16 then s.returnCredits else s.wakeLink
      let s := if s.domOn 18 then s.snareUnshed else s.snareWake false
      (s.entPower.sendDue.drain.serveFrames.snareFeed.rearmKnell.startNextTest).wakePinned.fixMode

end State

end Sys2Proof.Machine
end

