-- ==== Sys2Proof/Machine/Power.lean ====
section
/-! DEFINITION. Sources, TAG_HOLD and the cell (R171 to R176), the harvester (R177 to R179), the gauge (R180 to R183), heat (R190, R191), domains (R194 to R196), and one admission decision (R185 to R188). -/

namespace Sys2Proof.Machine

/-- The state of the primary cell by its voltage under the test load (R176). -/
def cellStateOf (mv : Nat) : Nat :=
  if mv < 1000 then 0 else if 2400 ≤ mv then 1 else if 2200 ≤ mv then 2 else 3

namespace State

/-- Bytes of Drumhead in use (R89, R141, R221, R222). -/
def drumUsed (s : State) : Nat := 64 * total s.lnk.rxHeld + s.stagingUsed

/-- A quarter of Drumhead is in use: quarters fill from the lowest (log entry 22), and DRUM3 holds the
user-bank map (R328). -/
def quarterUsed (s : State) (q : Nat) : Bool :=
  q * 262144 < s.drumUsed || (q == 3 && s.fldx.mapBuilt)

/-- Quarters in which space is allocated wake, while the tag has a supply for them (R172, R194). -/
def wakeDrum (s : State) : State :=
  { s with pwr.domOn := (List.range 20).map (fun d =>
      s.domOn d || (s.aonRuns && 5 ≤ d && d ≤ 8 && s.quarterUsed (d - 5))) }

/-- A source's usable flag. -/
def setUsable (s : State) (src : Nat) (u : Bool) : State :=
  { s with pwr.usable := setNth s.pwr.usable src u }

/-- An assist source is lost during a field session (R315): FRF and FDIG move to the next one, and the
field is gone when the rectifier, which has not raised the tank, cannot carry them. -/
def moveAssist (s : State) (src : Nat) : State :=
  let mine := (src = 3 && s.fld.supply = 1) || (src = 5 && s.fld.supply = 2)
  if s.fld.st = 0 || !mine then s
  else
    let s := s.feedField.raise 0x2AC 5
    if s.fld.supply = 0 && !s.fld.tank && !s.wired then s.fieldEnd true else s

/-- AON has lost its last source: the tag is without power until POWER_ON (R172, R523). In a field the
tank goes on feeding FRF, FDIG and the noise source that serves them (R298); otherwise S0 reverts (R296).
TAG_WAKE_N is released (R318). -/
def losePower (s : State) : State :=
  if s.pwr.usable.any (fun u => u) || s.pwr.mode = 0 then s
  else
    let s := s.gateMost
    let s := { s with
      ent.waiting := [], ent.raw := none, ent.rawReq := none
      pwr.mode := 0, pwr.harvRunning := false, fld.wake := false, fld.supply := 0 }
    if s.fld.st != 0 && s.fld.tank then
      let s := if s.srcFailed .a then s else s.gateSource .b
      { s with pwr.domOn := (List.range 20).map (fun d => 2 ≤ d && s.domOn d) }
    else { s.stopField with pwr.domOn := List.replicate 20 false }

/-- SUPPLY_CHANGE (R171, R172). TAG_VAUX falling is VAUX_FAIL; the harvester is usable while it runs. A
cell that has stopped being usable becomes so again only by a measurement (R176), whatever the command
says. -/
def effSupplyChange (s : State) (src : Nat) (usable : Bool) : State :=
  if s.pwr.mode = 0 then s
  else if src = 0 then
    if usable then (if s.pwr.mode = 6 then s else (s.setUsable 0 true).feedField)
    else s.effVauxFail.losePower
  else if src = 4 || 6 ≤ src then s
  else
    let u := usable && (src != 5 || s.usableSrc 5)
    let s := s.setUsable src u
    (if u then s.feedField else s.moveAssist src).losePower

/-- HOLD_TOP_UP (R173): the pump charges TAG_HOLD while TAG_VAUX is above the trip level. -/
def effHoldTopUp (s : State) : State := if s.wired then { s with pwr.pumpOn := true } else s

/-- A capacitance measurement ends (R174, R135). -/
def endCapacitance (s : State) (uf : Nat) (fail : Bool) : State :=
  let s := { s with pwr.capUf := uf, pwr.holdMeasuring := false }
  let s := s.raise 0x070 8
  let s := if fail then s.raise 0x070 0 else s
  (if uf < 100 then s.raise 0x168 9 else s).rearmKnell

/-- HOLD_CAP_DONE (R174): C = 10 mA × t / 0.8 V, rounded down; 2,047 µF when the rise takes longer
than 163.8 ms. -/
def effHoldCapDone (s : State) (riseUs : Nat) : State :=
  if s.pwr.holdMeasuring then s.endCapacitance (min 2047 (riseUs / 80)) false else s

/-- HOLD_CAP_TIMEOUT (R174). -/
def effHoldCapTimeout (s : State) : State :=
  if s.pwr.holdMeasuring then s.endCapacitance 0 true else s

/-- A cell measurement sets the state of the cell (R176). -/
def measureCell (s : State) (mv : Nat) : State :=
  let st := cellStateOf mv
  let was := s.pwr.cellState
  let s := { s with pwr.cellMv := mv, pwr.cellState := st }
  let s := if st != was && 2 ≤ st then s.raise 0x070 9 else s
  let ok := st = 1 || st = 2
  let s := s.setUsable 5 ok
  (if ok then s.feedField else s.moveAssist 5).losePower

/-- CELL_MEASURE (R176). -/
def effCellMeasure (s : State) (mv : Nat) : State := if s.aonRuns then s.measureCell mv else s

/-- VBAT_DETECT (R176): the detector sees the cell below 2.2 V and the tag measures it at once. -/
def effVbatDetect (s : State) (mv : Nat) : State := if s.aonRuns then s.measureCell mv else s

/-- PWR_CTRL.HARV_EN in force. -/
def harvEn (s : State) : Bool := s.cfgBit 0x060 1

/-- HARV_COLD_START (R177): the open-circuit voltage is 15 mV or more. -/
def effHarvColdStart (s : State) (voc : Nat) : State :=
  let s := s.boundary .harvTick
  if !s.aonRuns || s.pwr.mode = 5 || !s.harvEn || voc < 150 || s.pwr.harvRunning then s
  else
    let s := { s.setDom 1 true with pwr.harvRunning := true, pwr.voc := voc }
    (s.setUsable 4 true).raise 0x070 3

/-- The harvester stops (R177). -/
def stopHarv (s : State) : State :=
  ({ s.setDom 1 false with pwr.harvRunning := false, pwr.target := 0 }).setUsable 4 false

/-- TRACKING_SAMPLE (R177, R178, R180), with the net harvest power then; above 300 mV the target is that
of 300 mV (R547). HARV_EN and MPPT_SAMPLE apply at a harvester tick, which is taken to be reached at
each TRACKING_SAMPLE and HARV_COLD_START (R201; DESIGN CHOICE, log entry 85). -/
def effTrackingSample (s : State) (x : Tracked) : State :=
  let s := (s.boundary .track).boundary .harvTick
  if !s.pwr.harvRunning then s
  else
    let s := { s with
      pwr.voc := x.voc, pwr.mpptReq := false, pwr.gauge := { s.pwr.gauge with harv10nw := x.harv } }
    if x.voc < 80 || !s.harvEn then s.stopHarv.losePower
    else { s with pwr.target := min x.voc 3000 * s.harvFraction / 40 }

/-- PWR_CTRL.MPPT_SAMPLE (R178): a sample is taken at the next harvester tick. -/
def requestMppt (s : State) : State := { s with pwr.mpptReq := true }

/-- The long-darkness count (R197) after a gauge update. -/
def countDark (s : State) : State :=
  let dark := (s.pwr.mode = 3 || s.pwr.mode = 4) && s.pwr.gauge.storeMv < 2000 &&
    s.pwr.gauge.harv10nw < 100
  { s with pwr.darkSince := if dark then some (s.pwr.darkSince.getD s.clk.up) else none }

/-- GAUGE_UPDATE (R173, R180, R181). -/
def effGaugeUpdate (s : State) (g : GaugeReading) : State :=
  if !s.aonRuns then s
  else
    let s := (s.boundary .gauge).boundary .charger
    let s := { s with
      pwr.gauge := g
      pwr.pumpOn := s.pwr.pumpOn && g.holdMv < 5000
      pwr.storeFull := s.pwr.storeFull && s.storeVmax ≤ g.storeMv }
    s.countDark

/-- The current in mA that charges TAG_STORE from TAG_VAUX (R175, R201): as ICHG says with STORE_CHG_EN at
shedding step 0, and none at VMAX. -/
def storeChargeMa (s : State) : Nat :=
  if !s.wired || s.pwr.step != 0 || !s.cfgBit 0x060 0 || s.pwr.storeFull then 0
  else match s.cfg 0x06C 5 4 with | 0 => 1 | 1 => 5 | 2 => 10 | _ => 20

/-- The rectifier's surplus charges TAG_STORE: a field is present and TAG_STORE is below VMAX (R175). -/
def storeFromField (s : State) : Bool := s.fld.present && !s.pwr.storeFull

/-- The harvester's output charges TAG_STORE until VMAX; at or below 1.8 V it feeds AON first (R175,
R179). -/
def storeFromHarvester (s : State) : Bool := s.pwr.harvRunning && !s.pwr.storeFull

/-- The harvester's output feeds AON directly: TAG_STORE is at or below 1.8 V (R179). -/
def harvFeedsAon (s : State) : Bool := s.pwr.harvRunning && s.pwr.gauge.storeMv ≤ 1800

/-- STORE_FULL (R175): charging from every source stops at VMAX. -/
def effStoreFull (s : State) : State :=
  if s.aonRuns then { s with pwr.storeFull := true }.raise 0x070 2 else s

/-- DERATE_BAND_CHANGE (R190, R191): the heads of the queues are deferred, or no longer. -/
def effDerateBandChange (s : State) (temp : Int) : State :=
  let b := nextBand s.pwr.band temp
  let was := s.pwr.band
  let s := { s with pwr.temp := temp, pwr.band := b }
  let hot := (List.range 8).filterMap (fun q => match s.queueHead q with
    | some j => if bandLimit b q < j.weight then some j.id else none
    | none => none)
  let s := { s with
    pwr.deferred := hot, pwr.waiting := s.pwr.waiting.filter (fun i => !hot.contains i) }
  let s := if b < was then s.sendDue else s
  if b != was && b != 0 then s.raise 0x070 11 else s

/-- CORE has nothing queued, granted or running (R194, R195). -/
def coreIdle (s : State) : Bool :=
  s.pwr.jobs.isEmpty && s.pwr.grants.isEmpty && s.cmt.pipe.isEmpty && s.cmt.s1wait.isEmpty &&
    s.cmt.auditHeld.isEmpty && s.ent.waiting.isEmpty && s.ent.raw.isNone && s.ent.rawReq.isNone &&
    s.peal.eventWait.isEmpty && s.peal.copyWait.isEmpty && s.peal.mgmtWait.isEmpty &&
    s.grd.posted.isEmpty && s.grd.applyQ.isEmpty && s.st.current.isNone && !s.cmt.recovering &&
    !s.knellRunning

/-- The banks that the next index entry is programmed in (R106). -/
def indexAt (s : State) : List Nat :=
  [(s.journalLine (journalExtA s.cmt.jpos) s.cmt.jpos).bank,
    (s.journalLine (journalExtB s.cmt.jpos) s.cmt.jpos).bank]

/-- The banks that a record's programming takes (R83, R87). -/
def recBanks (s : State) (p : PipeRec) : List Nat :=
  (s.pipeLines p 0 p.sectors).map (fun l => l.bank) ++ s.indexAt

/-- A granted job needs a domain (R194): CORE always; its banks; SEAL for seal or sign work. -/
def jobNeeds (s : State) (j : Job) (d : Nat) : Bool :=
  let bank := 9 ≤ d && d ≤ 12
  d == 4 || match j.kind with
    | .recGrant id => d == 13 || (bank && match s.pipeRec id with
      | some p => (s.recBanks p).contains (d - 9)
      | none => false)
    | .checkpoint | .kIndex | .batch | .bivik _ | .knell => d == 13 || bank
    | .kSign k => d == 13 || (bank && ((s.slotImages k).any (fun im => im.1 == d - 9) ||
        s.indexAt.contains (d - 9)))
    | .exportSeal | .peal _ => d == 13
    | .selftest _ unit => bank && unit == d - 9
    | .levelMove | .scrub => bank
    | .calibrate _ _ | .loggerSample | .fieldWrite => false

/-- A bank or SEAL holds work in progress (R195): a record that is granted or runs ahead, a granted job,
or a self-test of the bank. -/
def busyDom (s : State) (d : Nat) : Bool :=
  s.pwr.grants.any (fun j => s.jobNeeds j d) ||
    s.cmt.pipe.any (fun p => (p.granted.isSome || (p.runAhead && p.openFrame.isSome)) &&
      (d == 13 || (s.recBanks p).contains (d - 9))) ||
    (match s.st.current with | some (_, unit) => unit == d - 9 | none => false)

/-- The gating condition of R194 for the domains that gate by an idle time. -/
def domIdle (s : State) (d : Nat) : Bool :=
  if d = 2 || d = 3 then s.fld.st = 0
  else if d = 4 then s.coreIdle
  else if 5 ≤ d && d ≤ 8 then !s.quarterUsed (d - 5)
  else if 9 ≤ d && d ≤ 13 then !s.busyDom d
  else if d = 19 then !s.usableSrc 0
  else false

/-- DOMAIN_IDLE_GATE (R194 to R196). CORE takes the entropy pool, the entropy registers and the Peal
deliveries with it (R283, R397, R417). -/
def effDomainIdleGate (s : State) (d : Nat) : State :=
  if !s.domOn d || s.pinned d || !(s.domIdle d) then s
  else
    let s := if d = 3 then s.boundary .fdigGate else s
    let s := s.setDom d false
    if d = 4 then s.entCoreGate.pealForget else s

/-- A job is granted (R187, R188) and what begins with its grant. -/
def grantHead (s : State) (j : Job) : State :=
  let s := s.wakeDoms (s.jobNeeds j)
  if s.cmt.pipe.any (fun (p : PipeRec) => p.id == j.id && p.granted.isNone) then
    { s with cmt.pipe := s.cmt.pipe.map (fun (p : PipeRec) =>
        if p.id = j.id then { p with granted := some j.cost, band := s.pwr.band } else p) }
  else match j.kind with
    | .batch => (s.dropJob j.id).createBatch j.cost
    | .kSign _ | .kIndex =>
      let s := s.grantJob j
      if s.kn.state = 6 then { s with kn.state := 7 } else s
    | .bivik p => (s.grantJob j).askBlock 4 (.bivik p)
    | .exportSeal => if s.fldx.exportPend.isSome then (s.grantJob j).askBlock 4 EntUse.fieldExport
      else s.dropJob j.id
    | .selftest req unit =>
      let s := s.grantJob j
      let s := { s with st.current := some (req, unit), st.begun := if unit < 4 then s.clk.rtc else 0 }
      if unit < 4 then { s with arr.banks := setNth s.arr.banks unit 1 } else s.tryCal
    | .calibrate _ _ => (s.grantJob j).tryCal
    | .peal stroke => (s.dropJob j.id).admitSend stroke
    | _ => s.grantJob j

/-- JOB_ADMIT (R185 to R188, R191): held audit records that the queue admits now pass S1 (R337); then one decision on the head of a queue, in priority order. While a dark
start-up is deferred, an array job waits for it (R527). -/
def effJobAdmit (s : State) (q : Nat) : State :=
  let s := (s.boundary .admission).drain
  let q := s.servedQueue q
  match s.queueHead q with
  | none => s
  | some j =>
    let v := s.verdict j
    let s := s.markHead j.id v
    match v with
    | .grant => if s.boot.darkPending.isSome then s else s.grantHead j
    | _ => s

/-- The heads of the queues above `q` that can be granted are granted before a decision on queue `q`
(R185). -/
def serveAbove (s : State) (q fuel : Nat) : State := match fuel with
  | 0 => s
  | fuel + 1 => if s.servedQueue q = q then s else (s.effJobAdmit q).serveAbove q fuel

/-- Serves every queue above `q`, with fuel for all that waits. -/
def serveHigher (s : State) (q : Nat) : State := s.serveAbove q (s.pwr.jobs.length + s.cmt.pipe.length)

end State

end Sys2Proof.Machine
end

