-- ==== Sys2Proof/Machine/RegValues.lean ====
section
/-! DEFINITION. What each register reads (R12, R13, R488 to R509 and the field tables of each block): last written values, event bits and counters as held, and the read-only fields computed from the state. -/

namespace Sys2Proof.Machine

/-- The set of the positions at which a list of flags is true, as a number. -/
def flagBits (l : List Bool) : Nat := l.foldr (fun b n => bitNat b + 2 * n) 0

/-- A word from fields: value and lowest bit. -/
def fields (l : List (Nat × Nat)) : Word :=
  l.foldl (fun w f => w ||| Word.place f.1 f.2) 0#32

namespace State

/-- GLB_CFG_PEND (R480, R488). -/
def cfgPending (s : State) : Word :=
  let w := s.rf.pend.foldl (fun m p => match regDesc p.1 with
    | some d => (match d.block.pendBit with
      | some n => m ||| Word.oneBit n
      | none => m)
    | none => m) 0#32
  let w := if s.peal.peersWait then w ||| Word.oneBit 4 else w
  if (List.range 7).any (fun m => s.guardDirty m) then w ||| Word.oneBit 8 else w

/-- PWR_STATE.SUPPLY (R171, R201): the first usable source. -/
def supplyCode (s : State) : Nat :=
  ((List.range 6).find? (fun n => s.usableSrc n)).getD 0

/-- Read-only fields of GLB (R493). -/
def glbValue (s : State) (off : Nat) : Word := match off with
  | 0x000 => 0x4B54_3438#32
  | 0x004 => 0x0001_0001#32
  | 0x010 => s.cfgPending
  | 0x018 => fields [(bitNat s.tocsin, 31), (bitNat s.fld.wake, 30), (bitNat s.rf.ready, 29),
      (bitNat s.rf.lockUsed, 28)]
  | 0x024 => s.rf.cause
  | 0x028 => s.rf.locked
  | _ => 0#32

/-- Read-only fields of PWR (R201). -/
def pwrValue (s : State) (off : Nat) : Word :=
  let g := s.pwr.gauge
  match off with
  | 0x074 => fields [(s.pwr.mode, 28), (s.pwr.step, 20), (s.supplyCode, 8), (flagBits s.pwr.usable, 0)]
  | 0x078 => fields [(s.pwr.capUf, 16), (saturate 65535 g.holdMv, 0)]
  | 0x07C => fields [(saturate 65535 s.eHoldUj, 0)]
  | 0x080 => fields [(saturate 65535 g.storeMv, 0)]
  | 0x084 => fields [(saturate 4294967295 s.eStoreUj, 0)]
  | 0x088 => fields [(saturate 65535 g.fieldUw, 16), (saturate 65535 g.harv10nw, 0)]
  | 0x08C => fields [(saturate 65535 s.pwr.target, 16), (saturate 65535 s.pwr.voc, 0)]
  | 0x090 => fields [(saturate 4095 g.drawn10uah, 20), (s.pwr.cellState, 16),
      (saturate 65535 s.pwr.cellMv, 0)]
  | 0x094 => fields [(s.pwr.band, 16), (leNat (leSigned 2 s.pwr.temp), 0)]
  | 0x098 => fields [(flagBits s.pwr.domOn, 0)]
  | 0x0A0 => fields [(flagBits ((List.range 8).map (fun q => s.deferred q)), 24),
      (flagBits ((List.range 8).map (fun q => s.waiting q)), 16),
      (saturate 65535 (s.eGrant / 1000), 0)]
  | 0x0A8 => fields [(match s.pwr.darkSince with
      | some t => saturate 60 ((s.clk.up - t) / (60 * second))
      | none => 0, 0)]
  | _ => 0#32

/-- The toll counter that CMT_TOLL_SEL selects. -/
def tollSel (s : State) : Nat := (s.reg 0x10C).field 4 0

/-- BANK_BUSY (R131): the banks in which a pulse that has failed its verify is being repeated. A pulse that
ends within its command shows no bank busy between commands (log entry 58). -/
def busyBanks (s : State) : Nat :=
  let bankOf := fun (t : PulseTarget) => match t with
    | .line bank _ => some bank
    | .toll c copyB => (if copyB then (s.toll c).ringB else (s.toll c).ringA).map (fun r => r.bank)
  total ((List.range 4).map (fun b =>
    if s.cmt.pulseRetries.any (fun e => bankOf e.1 == some b) then 2 ^ b else 0))

/-- Read-only fields of CMT (R104, R131). CMT_WEAR and CMT_SPARE are loaded when recovery ends (R130). -/
def cmtValue (s : State) (off : Nat) : Word := match off with
  | 0x0EC => fields [(bitNat s.cmt.rebuilding, 31), (bitNat s.cmt.recovering, 30),
      (s.busyBanks, 24), (ceilDiv s.pipeSectors 32, 8), (s.cmt.pipe.length, 0)]
  | 0x0F0 => fields [(s.bankByte, 0)]
  | 0x0F4 => if !s.cmt.loaded then 0#32 else fields ((List.range 4).map (fun b => (s.wearOf b, 8 * b)))
  | 0x0F8 => if !s.cmt.loaded then 0#32 else fields ((List.range 4).map (fun b => (255 - nth s.arr.spareUsed b, 8 * b)))
  | 0x110 => if s.tollSel ≤ 1 then 0#32 else fields [(s.tollValue s.tollSel, 0)]
  | 0x114 =>
    let t := s.toll s.tollSel
    fields [(bitNat t.worn, 31), (saturate 65535 (max t.usedA t.usedB / 1000), 0)]
  | 0x11C => if !s.cmt.loaded then 0#32 else fields [(saturate 65535 ((s.clk.up - s.cmt.lastCkptUp) / second), 16),
      (saturate 65535 s.cmt.entriesSince, 0)]
  | 0x120 => if !s.cmt.loaded then 0#32 else fields [(s.cmt.headPart, 0)]
  | _ => 0#32

/-- B_lim at the present energy (R144, R170). -/
def budget (s : State) : Nat :=
  let lim := s.sizeLimit
  min (energyLimit (eLine s.pwr.band) s.eAvail lim) lim

/-- Read-only fields of KNL (R170). The slots and what the last Knell left are loaded when recovery ends
(R169). -/
def knlValue (s : State) (off : Nat) : Word := match off with
  | 0x16C => fields [(bitNat (s.pwr.mode != 0 && s.sizeLimit ≤ s.budget), 9), (bitNat s.holdOk, 8), (s.kn.lastSlot, 4),
      (s.kn.state, 0)]
  | 0x170 => if s.pwr.mode = 0 then 0#32 else fields [(s.budget, 0)]
  | 0x174 =>
    let lim := s.sizeLimit
    if s.pwr.mode = 0 then 0#32 else fields [(saturate 65535 ((knellCost (eLine s.pwr.band) lim lim + 10 * s.eRes) / 10000), 16),
      (saturate 65535 (s.eAvail / 1000), 0)]
  | 0x178 => if !s.cmt.loaded then 0#32 else fields ((List.range 8).map (fun k =>
      let x := s.kn.slots.getD k emptySlot
      (8 * bitNat x.oneImage + x.state, 4 * k)))
  | 0x17C => fields (s.kn.mirrorPend.map (fun k => (1, k)))
  | 0x180 => if !s.cmt.loaded then 0#32 else fields [(saturate 65535 s.kn.lastSegs, 16), (s.kn.lastEnd, 8), (s.kn.lastTrigger, 4),
      (s.kn.closedSlot, 0)]
  | 0x184 => if !s.cmt.loaded then 0#32 else fields [(ceilDiv s.kn.lastAnnounced 1024, 16), (ceilDiv s.kn.lastStored 1024, 0)]
  | _ => 0#32

/-- Milliseconds left of the grace period, rounded up, so that 0 is shown when none is left (DESIGN CHOICE,
log entry 33: R247 gives no rounding). -/
def graceLeft (s : State) : Nat :=
  if s.stm.held then saturate 1023 (ceilDiv ((s.stm.graceEnd - s.clk.up) * 1000) second) else 0

/-- Read-only fields of STM (R247). -/
def stmValue (s : State) (off : Nat) : Word := match off with
  | 0x1B0 =>
    let on := s.linkActive
    fields [(s.stm.st, 28), (bitNat s.stm.held, 27), (bitNat s.stm.req.isSome, 26),
      (if on then s.stm.rxLanes.toNat else 0, 20), (if on then s.stm.txLanes.toNat else 0, 16),
      (s.excludedAll.toNat, 12), (s.graceLeft, 0)]
  | 0x1B4 => fields [(s.lnk.next.toNat, 16), (s.lnk.oldest.toNat, 0)]
  | 0x1B8 => fields [(s.lnk.window, 16), (s.lnk.expected.toNat, 0)]
  | 0x1C0 =>
    let c := (s.reg 0x1BC).field 1 0
    fields [(s.rxCredit c, 16), (nth s.lnk.rxHeld c, 0)]
  | 0x1C4 => fields [(s.txCredit .mgmt, 16), (s.txCredit .peal, 0)]
  | 0x1C8 => fields [(s.errCount, 0)]
  | _ => 0#32

/-- The items that a STAGE_PULL returns (R271, R272): of the records at or below the stroke head
`head`, the newest STAGE_CFG record of each item that is not withdrawn, in ascending item order. -/
def stagedAt (s : State) (head : Nat) : List Stored :=
  let all := (s.recsOf 8).filter (fun (r : Stored) => r.record.hdr.stroke ≤ head)
  let live := all.filter (fun (r : Stored) =>
    r.record.hdr.typ == 0x60#8 && byteAt r.record.payload 2 % 2 == 0 &&
    !supersededBy r.record ((all.filter (fun (x : Stored) =>
      r.record.hdr.stroke < x.record.hdr.stroke)).map (fun x => x.record)))
  let ids := sortNats (live.map (fun (r : Stored) => stageItem r.record.payload))
  ids.flatMap (fun n => live.filter (fun (r : Stored) => stageItem r.record.payload == n))

/-- The items that a STAGE_PULL would return now. -/
def stagedItems (s : State) : List Stored := s.stagedAt s.cmt.shadow

/-- Read-only fields of PEAL (R290). -/
def pealValue (s : State) (off : Nat) : Word := match off with
  | 0x234 => fields [(bitNat s.pealReady, 31), (s.peal.unsettled.length, 16),
      (saturate 65535 s.peal.backlog.length, 0)]
  | 0x248 =>
    let one := fun (l : Option Lease) (sh : Nat) => match l with
      | some x => [(1, sh + 15), (x.host % 64, sh + 9), (s.leaseLeft l, sh)]
      | none => []
    fields (one s.peal.lease9 16 ++ one s.peal.lease8 0)
  | 0x24C => fields [(saturate 65535 s.peal.pulls, 16), (saturate 65535 s.stagedItems.length, 0)]
  | _ => 0#32

/-- The source that serves the field engine (R309, R320). -/
def fieldSource (s : State) : Nat :=
  if s.fld.st = 0 then 0
  else if !s.srcFailed .a then 1
  else if !s.srcFailed .b then 2 else 0

/-- Read-only fields of FLD (R320, R362). -/
def fldValue (s : State) (off : Nat) : Word := match off with
  | 0x2B0 => fields [(s.fld.st, 28), (flagBits s.fld.inv, 24), (bitNat s.fld.sl, 23),
      (bitNat s.fld.present, 22), (s.fld.supply, 20), (s.fieldSource, 18), (s.fld.q, 12),
      (s.bufBits, 0)]
  | 0x2B4 => s.fld.link
  | 0x2B8 => fields [(s.fldx.wakeSeen, 16), (s.fld.wakeCause, 0)]
  | 0x2D4 => fields [(s.fmem.head, 16), (s.fjPending.length, 0)]
  | 0x2E4 => fields [(s.fld.gwReason.toNat, 0)]
  | 0x2E8 => fields [(s.fmem.lock.toNat, 0)]
  | _ => 0#32

/-- Read-only fields of SNR (R391). SNR_LIVE shows a condition from the event that its deglitched beginning
makes to the event's end, since no command brings a comparator's level by itself (DEDUCED, log entry 115). -/
def snrValue (s : State) (off : Nat) : Word := match off with
  | 0x330 => fields [(s.snr.ring, 28), (bitNat s.snr.capture.isSome, 24), (s.snr.faulty.toNat, 16),
      (s.capturesWaiting, 12), (bitNat s.snr.calBusy.isSome, 7),
      (match s.snr.calBusy with | some (ch, _) => ch | none => 0, 4), (bitNat (s.snr.armed && s.wired), 0)]
  | 0x334 => s.snr.capNum
  | 0x338 =>
    let (mask, stored, secs, flags) := s.snr.last
    fields [(mask.toNat, 24), (stored.toNat, 16), (secs, 8), (flags.toNat, 0)]
  | 0x33C =>
    let live := fun (high : Bool) => flagBits ((List.range 8).map (fun n =>
      s.snr.events.any (fun e => e.ch == n && e.high == high)))
    fields [(live true, 8), (live false, 0)]
  | 0x348 => fields [(s.snr.blindUs, 0)]
  | _ => 0#32

/-- Consumers that wait for a block, by priority 1 to 5 (R406, R415). -/
def entWaits (s : State) : List Bool :=
  let w := fun (p : Nat) => s.ent.waiting.any (fun r => r.prio == p)
  [s.bufferWants, w 2, w 3, w 4, s.fifoWants]

/-- Read-only fields of ENT (R418). -/
def entValue (s : State) (off : Nat) : Word :=
  let margin := fun (v : Source) => fields [(v.rctMax, 16), (v.aptMax, 0)]
  match off with
  | 0x3EC => fields [(s.ent.b.state, 28), (s.ent.a.state, 24), (bitNat s.ent.b.fast, 23),
      (bitNat s.ent.a.fast, 22), (s.ent.pool.length, 16), (flagBits s.entWaits, 8)]
  | 0x3F8 => fields [(match s.ent.fifo with | (x, _) :: _ => srcNum x + 1 | [] => 0, 6),
      (s.ent.fifo.length, 0)]
  | 0x3FC => fields [(s.ent.b.code, 24), (s.ent.a.code, 16)]
  | 0x408 => margin s.ent.a
  | 0x40C => margin s.ent.b
  | 0x410 => match s.ent.raw with
    | some r => fields [(bitNat !r.running, 31), (srcNum r.src, 30), (r.rct, 24), (r.apt, 20),
        (s.rawBytes r, 0)]
    | none => 0#32
  | _ => 0#32

/-- The key of the region that GRD_SEL selects; none for master 7, which reads as disabled
(R460). -/
def selectedRegion (s : State) : Option Nat :=
  let m := (s.reg 0x424).field 10 8
  if m = 7 then none else some (regionKey m ((s.reg 0x424).field 3 0))

/-- Read-only fields of GRD and the selected shadow region (R459, R460). -/
def grdValue (s : State) (off : Nat) : Word :=
  let region := match s.selectedRegion with
    | some k => s.shadowRegion k
    | none => (0#32, 0#32)
  match off with
  | 0x428 => region.1
  | 0x42C => region.2
  | 0x434 =>
    let waits := fun (m : Nat) => match s.grd.applyQ with
      | (f :: _, _) :: _ => f == m
      | _ => false
    fields [(flagBits ((List.range 7).map waits), 16),
      (flagBits ((List.range 7).map (fun m => s.guardDirty m)), 0)]
  | 0x438 => match s.grd.fault with
    | some f => fields [(1, 31), (bitNat f.imprecise, 30), (f.master, 24), (f.requester, 16),
        (f.reason, 12), (bitNat f.s, 11), (bitNat f.w, 10), (bitNat f.r, 9)]
    | none => 0#32
  | 0x43C => match s.grd.fault with
    | some f => f.addr
    | none => 0#32
  | 0x440 => s.grd.noticeAddr
  | _ => 0#32

/-- State code of a session context (R462). -/
def ctxCode (c : CtxState) : Nat := match c with
  | .hello => 1 | .opened => 2 | .field => 3

/-- Slots that the read of the Keys partition at start-up has found LOADED (R440, R441), and those loaded
since. -/
def loadedSlots (s : State) : Nat :=
  if s.cmt.loaded then flagBits ((List.range 8).map (fun k => k == 0 || (s.keyPayload k).isSome)) else 0

/-- Read-only fields of SES (R462). -/
def sesValue (s : State) (off : Nat) : Word := match off with
  | 0x4AC =>
    let hosts := (s.ses.ctxs.filter (fun e => 4 ≤ e.1)).length
    fields [(s.epoch % 4, 30), (hosts, 16), (s.ses.ctxs.length - hosts, 8),
      (s.loadedSlots, 0)]
  | 0x4B4 => match s.ctx ((s.reg 0x4B0).field 5 0) with
    | some x => fields [(ctxCode x.state, 29), (x.method, 26), (x.rights.toNat, 16),
        (if x.state = .field then 63 else x.requester % 64, 10),
        (saturate 1023 ((s.clk.up - x.lastUse) / second), 0)]
    | none => 0#32
  | 0x4B8 => fields [(s.ses.keyRej.1, 8), (s.ses.keyRej.2, 0)]
  | _ => 0#32

/-- The logger samples in the current mode (R509, R510). -/
def loggerActive (s : State) : Bool :=
  s.cfgBit 0x560 0 && (s.pwr.mode == 3 || s.pwr.mode == 4 || (s.pwr.mode == 1 && s.cfgBit 0x564 1) ||
    (s.pwr.mode == 5 && s.cfgBit 0x564 0))

/-- The core clock's source (R509, R511): 2 the backup oscillator, 1 the switch reference while the
Stream Port's receive clock is present, 0 the RTC. -/
def coreClkCode (s : State) : Nat :=
  if s.log.backup then 2
  else if s.cfgBit 0x568 1 && 2 ≤ s.stm.st && s.stm.st ≤ 4 then 1 else 0

/-- Read-only fields of LOG (R509). -/
def logValue (s : State) (off : Nat) : Word := match off with
  | 0x570 => fields [(s.log.batch.length, 24), (bitNat (s.log.xtal == 2), 15), (s.coreClkCode, 12),
      (bitNat s.clk.unsync, 11), (bitNat s.log.chassisHigh, 10), (bitNat s.loggerActive, 9)]
  | 0x574 => if s.loggerActive then fields [(saturate 65535 s.log.nextDue, 0)] else 0#32
  | _ => 0#32

/-- The MBX registers of a port (R489). -/
def mbxValue (s : State) (p : Port) (off : Nat) : Word :=
  let m := s.mbx p
  match off with
  | 0x520 => m.sel
  | 0x528 => fields [(bitNat m.valid, 31), (bitNat m.busy, 30), (m.detail, 8), (m.result, 0)]
  | 0x52C => fields [(m.len, 0)]
  | 0x530 => m.d0
  | 0x534 => m.d1
  | 0x538 => m.d2
  | 0x53C => m.d3
  | _ => 0#32

/-- Read-only fields of a register. -/
def roValue (s : State) (p : Port) (d : RegDesc) : Word := match d.block with
  | .glb => s.glbValue d.off
  | .pwr => s.pwrValue d.off
  | .cmt => s.cmtValue d.off
  | .knl => s.knlValue d.off
  | .stm => s.stmValue d.off
  | .peal => s.pealValue d.off
  | .fld => s.fldValue d.off
  | .snr => s.snrValue d.off
  | .ent => s.entValue d.off
  | .grd => s.grdValue d.off
  | .ses => s.sesValue d.off
  | .log => s.logValue d.off
  | .mbx => s.mbxValue p d.off

/-- The bits of a register that the register storage holds: last written values and event bits. -/
def storedMask (d : RegDesc) : Word := match d.block with
  | .mbx => 0#32
  | _ => if d.off = 0x428 || d.off = 0x42C then 0#32 else d.config ||| d.rc

/-- The value that a read of a register returns (R12); a reserved location reads 0 (R13). -/
def regValue (s : State) (p : Port) (off : Nat) : Word := match regDesc off with
  | some d => (s.reg off &&& storedMask d) ||| s.roValue p d
  | none => 0#32

end State

end Sys2Proof.Machine
end

