-- ==== Sys2Proof/Machine/Mailbox.lean ====
section
/-! DEFINITION. The mailbox (R483 to R489) and its items (R513 to R521, R62 to R66, R291, R532 to R536). -/

namespace Sys2Proof.Machine

/-- A commit-form or read-form length rule and the right a host needs (R513). -/
structure ItemRule where
  code : Nat
  reads : Bool
  commits : Option (Nat × Nat)
  readRight : Byte
  commitRight : Byte
  keyed : Bool
  deriving DecidableEq, Repr

/-- The mailbox items (R513): rights READ 0x01, CONFIG 0x04, CARILLON 0x08, EXPORT 0x20, OWNER 0x40.
KEY_LOAD checks its own rights under R439. -/
def itemTable : List ItemRule :=
  [ ⟨0x01, true, none, 0x01#8, 0#8, false⟩, ⟨0x02, true, some (8, 8), 0x01#8, 0x04#8, false⟩,
    ⟨0x03, true, none, 0x01#8, 0#8, false⟩, ⟨0x04, true, none, 0x01#8, 0#8, false⟩,
    ⟨0x05, true, none, 0x01#8, 0#8, false⟩, ⟨0x06, true, none, 0x01#8, 0#8, false⟩,
    ⟨0x07, true, some (160, 160), 0x40#8, 0x40#8, true⟩,
    ⟨0x08, false, some (16, 256), 0#8, 0xFF#8, false⟩,
    ⟨0x10, true, some (48, 48), 0x01#8, 0x08#8, false⟩, ⟨0x20, true, none, 0x01#8, 0#8, false⟩,
    ⟨0x21, false, some (0, 65535), 0#8, 0#8, true⟩, ⟨0x22, false, some (12, 12), 0#8, 0x20#8, false⟩,
    ⟨0x23, true, none, 0x20#8, 0#8, false⟩, ⟨0x30, true, none, 0x01#8, 0#8, false⟩,
    ⟨0x40, true, none, 0x04#8, 0#8, false⟩, ⟨0x50, false, some (8, 8), 0#8, 0x04#8, false⟩,
    ⟨0x51, true, none, 0x01#8, 0#8, false⟩ ]

/-- The rule of an item; none for an undefined code. -/
def itemRule (code : Nat) : Option ItemRule := itemTable.find? (fun r => r.code == code)

/-- Items whose READ takes bytes from the custody array, and whose COMMIT needs it (R526). -/
def readsArray (code : Nat) : Bool := [0x01, 0x04, 0x05, 0x20, 0x23, 0x30].contains code
def commitsArray (code : Nat) : Bool := [0x02, 0x08, 0x21, 0x22].contains code

/-- A USER_DATA payload from a host or the board controller that R327 refuses. -/
def badUserData (pl : List Byte) : Bool :=
  let (bank, first, p) := userRange pl
  let window := if bank = 3 then 2048 else 2
  pl.length != 16 + 32 * p || (bank != 1 && bank != 3) || byteAt pl 1 != 0 || p < 1 || 8 < p ||
    window < first + p || slice pl 5 11 != zeroBytes 11

/-- A STAGE_CFG payload that R271 refuses. -/
def badStageCfg (pl : List Byte) : Bool :=
  pl.length < 8 || 4032 < pl.length || stageItem pl == 0xFFFF || 1 < byteAt pl 2 || byteAt pl 3 != 0

/-- A record payload of a host or the board controller that is refused as malformed. -/
def badPayload (typ : Byte) (pl : List Byte) : Bool :=
  if typ = 0x60#8 then badStageCfg pl else if typ = 0x70#8 then badUserData pl else 4032 < pl.length

/-- The types that a host and the board controller may write (R27). -/
def hostType (typ : Byte) : Bool := [0x60, 0x70, 0xB0].contains typ.toNat

/-- Least and most size of each movable partition in units of 64 KiB (R58). -/
def sizeBounds (p : Nat) : Option (Nat × Nat) := match p with
  | 3 => some (16, 65535) | 4 => some (68, 200) | 5 => some (4, 65535) | 6 => some (2, 65535)
  | 7 => some (4, 65535) | 8 => some (1, 65535) | 9 => some (1, 65535) | _ => none

/-- A size of a map passes SIZE_RULE (R63, R66); a fixed partition keeps its size (log entry 29). -/
def sizeOk (failed : Bool) (p sz : Nat) : Bool := match sizeBounds p with
  | none => sz == nth homeSizes p
  | some (lo, hi) =>
    sz ≤ hi && (if failed && p != 4 then 4 * lo ≤ 3 * sz else lo ≤ sz)

namespace State

/-- Requests that wait in the self-test queue: all but the running one (R532, log entry 30). -/
def queuedTests (s : State) : List (Nat × Nat) :=
  s.st.queue.filter (fun q => match s.st.current with
    | some (r, _) => q.1 != r
    | none => true)

/-- TIME (R515). -/
def timeItem (s : State) : List Byte :=
  leBytes 8 s.clk.rtc ++ leBytes 8 s.clk.lastStamp ++ leBytes 8 s.log.chassisAt ++
    [BitVec.ofNat 8 (bitNat s.clk.unsync + 2 * bitNat (s.log.xtal == 2) +
      4 * bitNat s.log.backup)] ++ zeroBytes 7

/-- PART_FLOOR (R517). -/
def floorItem (s : State) : List Byte :=
  (List.range 11).flatMap (fun p =>
    let some_ := !(s.recsOf p).isEmpty
    leBytes 8 (s.floorOf p) ++ leBytes 8 (if some_ then (s.part p).newestStroke else 0))

/-- WEAR_DETAIL (R518). -/
def wearItem (s : State) : List Byte :=
  (List.range 4).flatMap (fun b =>
    let w := s.wearStats b
    leBytes 4 (nth w 0) ++ leBytes 4 (nth w 1) ++ leBytes 4 (nth w 2) ++ leBytes 2 (nth w 3) ++
      leBytes 2 (nth w 4))

/-- BANK_LOSS (R519). -/
def lossItem (s : State) : List Byte :=
  leBytes 2 s.arr.losses.length ++
    [BitVec.ofNat 8 (flagBits (s.arr.banks.map (fun b => b == 2)))] ++ zeroBytes 13 ++
  s.arr.losses.flatMap (fun l => [BitVec.ofNat 8 l.part, BitVec.ofNat 8 l.bank] ++ zeroBytes 6 ++
    leBytes 8 l.lower ++ leBytes 8 l.upper)

/-- The size of a partition now in units of 64 KiB (R520), rounded down after a bank failure. -/
def sizeNow (s : State) (p : Nat) : Nat :=
  if p ≤ 2 || p = 4 then nth s.arr.sizes p else (s.part p).extents / 16

/-- PART_MAP (R520). -/
def mapItem (s : State) : List Byte :=
  let pend := match s.arr.mapPending with
    | some (sizes, _, _) => sizes
    | none => List.replicate 11 0
  (List.range 11).flatMap (fun p => leBytes 2 (s.sizeNow p)) ++
    [BitVec.ofNat 8 (bitNat s.arr.mapPending.isSome), 0#8] ++
    (List.range 11).flatMap (fun p => leBytes 2 (nth pend p)) ++
    leBytes 4 (s.arr.mapEpoch.getD 0) ++ leBytes 4 (s.tollValue 5) ++ zeroBytes 10

/-- The payload of the newest SNARE_CAL record of a channel, or zeros (R387). -/
def newestCal (s : State) (ch : Nat) : List Byte :=
  match ((s.fromStroke 5 0).filter (fun r =>
      r.record.hdr.typ == 0x32#8 && byteAt r.record.payload 0 == ch)).getLast? with
  | some r => slice r.record.payload 0 32
  | none => zeroBytes 32

/-- SELFTEST_RES (R536). -/
def selftestItem (s : State) : List Byte :=
  let one := fun (r : TestResult) =>
    leBytes 4 r.req ++ [BitVec.ofNat 8 r.unit, BitVec.ofNat 8 r.outcome, BitVec.ofNat 8 r.detail, 0#8] ++
      leBytes 8 r.begun ++ leBytes 8 r.back ++ leBytes 4 r.value ++ zeroBytes 4
  leBytes 4 s.st.next ++ [BitVec.ofNat 8 s.st.results.length, BitVec.ofNat 8 s.queuedTests.length,
    match s.st.current with | some (_, u) => BitVec.ofNat 8 u | none => 0xFF#8] ++ zeroBytes 9 ++
  slice (s.st.results.flatMap one) 0 256

/-- What a READ of an item presents; none for an item that addresses a held object which is not
there. -/
def itemBytes (s : State) (p : Port) (code : Nat) : Option (List Byte) := match code with
  | 0x01 => match (s.recsOf 0).head? with
    | some r => some (slice r.record.payload 0 128)
    | none => some (zeroBytes 128)
  | 0x02 => some s.timeItem
  | 0x03 => some (leBytes 8 s.cmt.shadow ++ leBytes 8 s.storedStroke)
  | 0x04 => some s.floorItem
  | 0x05 => some s.wearItem
  | 0x06 => some s.lossItem
  | 0x07 => some s.mapItem
  | 0x10 => some (s.peal.peers.flatMap (fun w => leBytes 8 w.toNat))
  | 0x20 => some s.keyInfo
  | 0x23 => (s.mbx p).container.map (fun c => zeroBytes (bivikLength c))
  | 0x30 => some ((List.range 8).flatMap (fun ch => s.newestCal ch))
  | 0x40 => match s.ent.raw with
    | some r => if r.running then none else some r.bytes
    | none => none
  | 0x51 => some s.selftestItem
  | _ => none

/-- Items that are read from the held object at every index (R485). -/
def directItem (code : Nat) : Bool := code == 0x23 || code == 0x40

/-- Ends a READ with data: VALID, the item's length, 16 bytes (R484, R486). -/
def endRead (s : State) (p : Port) (len : Nat) (bytes : List Byte) : State :=
  (s.endMbx p 0 0 (slice bytes 0 16)).modMbx p (fun m => { m with len := len })

/-- Ends a READ or STAGE without data; MBX_LEN keeps its value. -/
def failRead (s : State) (p : Port) (result : Nat) : State :=
  let len := (s.mbx p).len
  (s.endMbx p result 0 []).modMbx p (fun m => { m with len := len })

/-- 16 bytes of a held object at a block index: a container's records are read again from the array
(R456). -/
def heldChunk (s : State) (p : Port) (code idx : Nat) (bytes : List Byte) : Option (List Byte) :=
  if code = 0x23 then
    match (s.mbx p).container with
    | some c => s.bivikChunk c (16 * idx) 16
    | none => none
  else some (slice bytes (16 * idx) 16)

/-- The port's guard lets it read the records that a block of its container comes from (R422, R456). -/
def guardHeld (s : State) (p : Port) (code idx : Nat) : State × Bool :=
  if code = 0x23 then
    match (s.mbx p).container with
    | some c => s.guardChunk (portMaster p) c (16 * idx) 16 (s.portRights p) (s.portRequester p)
    | none => (s, true)
  else (s, true)

/-- MBX READ (R484, R485, R514). -/
def mbxDoRead (s : State) (p : Port) : State :=
  let m := s.mbx p
  let code := m.sel.field 23 16
  let idx := m.sel.field 15 0
  match itemRule code with
  | none => s.failRead p 1
  | some r =>
    if !r.reads then s.failRead p 1
    else if p != .regp && r.readRight &&& ~~~ (s.portRights p) != 0#8 then s.failRead p 5
    else if readsArray code && !s.rf.ready then s.failRead p 0xA
    else if directItem code then
      match s.itemBytes p code with
      | none => s.failRead p 8
      | some bytes =>
        if bytes.length ≤ 16 * idx then s.failRead p 2
        else match s.guardHeld p code idx with
          | (s, false) => s.failRead p 5
          | (s, true) => match s.heldChunk p code idx bytes with
            | none => s.failRead p 8
            | some b => s.endRead p bytes.length b
    else if idx = 0 then
      let bytes := (s.itemBytes p code).getD []
      (s.modMbx p (fun m => { m with snap := some (code, bytes) })).endRead p bytes.length bytes
    else match m.snap with
      | some (c, bytes) =>
        if c != code then s.failRead p 3
        else if bytes.length ≤ 16 * idx then s.failRead p 2
        else s.endRead p bytes.length (slice bytes (16 * idx) 16)
      | none => s.failRead p 3

/-- MBX STAGE (R484). -/
def mbxDoStage (s : State) (p : Port) : State :=
  let m := s.mbx p
  let idx := m.sel.field 15 0
  if 15 < idx then s.failRead p 2
  else
    let d := wordBytes m.d0 ++ wordBytes m.d1 ++ wordBytes m.d2 ++ wordBytes m.d3
    let s := s.modMbx p (fun m => { m with inbuf := overlay (slice m.inbuf 0 256) (16 * idx) d })
    (s.failRead p 0).modMbx p (fun m => { m with valid := true })

/-- TIME's COMMIT (R515): the load follows at the next RTC second (TIME_RTC_LOAD). -/
def mbxTime (s : State) (p : Port) (d : List Byte) : State :=
  if 2 ≤ s.pwr.step then s.endMbx p 6 2 []
  else if !s.s1Open || s.clk.rtcLoad.isSome then s.endMbx p 0xA 0 []
  else { s with clk.rtcLoad := some (leNat (slice d 0 8), s.clk.up, p, s.portActor p) }

/-- The refusal code of a new map (R63), or none. -/
def mapRefusal (s : State) (c : List Byte) (sizes : List Nat) : Option Nat :=
  let failed := s.arr.banks.any (fun b => b == 2)
  let movable := total ((List.range' 3 7).map (fun p => nth sizes p))
  if !(s.ownerContainerOk c 2 32) then some 1
  else if s.arr.mapEpoch = some s.epoch then some 2
  else if !((List.range 11).all (fun p => sizeOk failed p (nth sizes p))) then some 3
  else if movable != 230 then some 4
  else none

/-- PART_MAP's COMMIT (R62 to R66); in epoch 3 every owner container is refused with NOT_PERMITTED
(R446; DEDUCED, log entry 38). -/
def mbxPartMap (s : State) (p : Port) (c : List Byte) : State :=
  if 3 ≤ s.epoch then s.endMbx p 5 0 []
  else
  let sizes := (List.range 11).map (fun i => leNat (slice c (64 + 2 * i) 2))
  match s.mapRefusal c sizes with
  | some code =>
    (s.audit 0 9 (s.portActor p) (portIface p) s.epoch [BitVec.ofNat 8 code]).endMbx p 6 code []
  | none =>
    ({ s with
      arr.mapPending := some (sizes, s.epoch, s.portActor p)
      arr.mapEpoch := some s.epoch }).endMbx p 0 0 []

/-- PEAL_PEERS' COMMIT (R291). -/
def mbxPeers (s : State) (p : Port) (d : List Byte) : State :=
  let sets := (List.range 6).map (fun i => BitVec.ofNat 64 (leNat (slice d (8 * i) 8)))
  (({ s with peal.peersWant := sets, peal.peersWait := true }).tryBoundary).endMbx p 0 0 []

/-- SELFTEST_REQ's refusal of a unit (R532, R533): 2 FAILED, 3 undefined or out of use. -/
def unitRefusal (s : State) (unit : Nat) : Option Nat :=
  if unit < 4 then (if nth s.arr.banks unit = 2 then some 2 else none)
  else if unit = 0x10 then (if s.srcFailed .a then some 2 else none)
  else if unit = 0x11 then (if s.srcFailed .b then some 2 else none)
  else if 0x20 ≤ unit && unit < 0x28 then
    (if (s.chCfg (unit - 0x20)).bit 0 then none else some 3)
  else some 3

/-- SELFTEST_REQ's COMMIT (R532). -/
def mbxSelftest (s : State) (p : Port) (d : List Byte) : State :=
  let unit := byteAt d 0
  match s.unitRefusal unit with
  | some code => s.endMbx p 6 code []
  | none =>
    if slice d 1 7 != zeroBytes 7 then s.endMbx p 6 3 []
    else match s.queuedTests.find? (fun q => q.2 == unit) with
      | some (r, _) => s.endMbx p 0 0 (leBytes 4 r)
      | none =>
        if 8 ≤ s.queuedTests.length then s.endMbx p 6 1 []
        else
          let r := s.st.next
          let s := { s with st.queue := s.st.queue ++ [(r, unit)], st.next := r + 1 }
          (s.startNextTest).endMbx p 0 0 (leBytes 4 r)

/-- The guard's check at S2 of a record that has entered the pipeline last (R422, R432): a refused
record is abandoned, and false is answered. -/
def guardNewRec (s : State) (id master : Nat) (rights : Byte) (req : Nat) : State × Bool :=
  match s.pipeRec id with
  | none => (s, true)
  | some r =>
    let (s, ok) := s.guarded master
      (s.recAccess r.record.hdr.part r.sector r.sectors false true true true rights req)
    if ok then (s, true) else ((s.setPipe { r with hook := .none }).drop { r with hook := .none }, false)

/-- A host or board-controller write of a reserved type is counted (R26); one of a defined type is
not (R27). -/
def countReserved (s : State) (typ : Byte) : State := if definedType typ then s else s.count 0x0FC

/-- REC_WRITE's COMMIT once S1 has room (R521). -/
def mbxRecAccept (s : State) (typ : Byte) (fl : Nat) (seq : Word) (pl : List Byte) : State :=
  let src := s.source 5
  let s := s.accept src 5 typ (setFlags (fl % 2 == 1) (fl / 2 % 2 == 1)) seq 0#32 pl .mbxWrite
    false true none none
  match s.cmt.pipe.getLast? with
  | some r =>
    (match s.guardNewRec r.id 0 0xFF#8 0 with
    | (s, true) => s
    | (s, false) => s.endMbx .regp 6 8 [])
  | none => s

/-- REC_WRITE's COMMIT (R521): its checks, and a wait while S1 has no room (R85). -/
def mbxRec (s : State) (len : Nat) : State :=
  let d := (s.rf.mbx.inbuf ++ zeroBytes 256).take len
  let typ : Byte := d.getD 0 0#8
  let fl := byteAt d 1
  let seq : Word := BitVec.ofNat 32 (leNat (slice d 4 4))
  let pl := d.drop 16
  let part := partOf typ
  if !(hostType typ) then (s.countReserved typ).endMbx .regp 6 1 []
  else if len < 16 || 3 < fl || slice d 2 2 != zeroBytes 2 || slice d 8 8 != zeroBytes 8 ||
      badPayload typ pl then s.endMbx .regp 6 2 []
  else if 6 ≤ s.pwr.step then s.endMbx .regp 6 7 []
  else if s.leaseBlocks part none then s.endMbx .regp 6 3 []
  else if !s.s1Open then s.endMbx .regp 0xA 0 []
  else if s.seqCheck (s.source 5) 5 seq = .duplicate then (s.count 0x100).endMbx .regp 6 5 []
  else if !(s.partRoom part (sectorsOf pl.length)) then s.endMbx .regp 6 4 []
  else if !(s.roomFor (s.source 5) 5 seq (sectorsOf pl.length)) then
    { s with rf.mbx.waitLen := some len }
  else ({ s with rf.mbx.waitLen := none }).mbxRecAccept typ fl seq pl

/-- A REC_WRITE COMMIT that waits for room at S1 is tried again. -/
def serveMbx (s : State) : State := match s.rf.mbx.waitLen with
  | some len => s.mbxRec len
  | none => s

/-- An UNLOCK_MISUSE audit record (R31, R476). -/
def unlockMisuse (s : State) (p : Port) (off : Nat) : State :=
  s.audit 0 7 (s.portActor p) (portIface p) off []

/-- What a COMMIT gives its item (R484, R513). -/
def itemCommit (s : State) (p : Port) (code len : Nat) : State :=
  let d := ((s.mbx p).inbuf ++ zeroBytes 256).take len
  match code with
  | 0x02 => s.mbxTime p d
  | 0x07 => s.mbxPartMap p d
  | 0x08 => s.mbxRec len
  | 0x10 => s.mbxPeers p d
  | 0x21 => s.keyLoad p d
  | 0x22 => s.bivikOpen p d s.bothFailed
  | 0x50 => s.mbxSelftest p d
  | _ => s.endMbx p 1 0 []

/-- MBX COMMIT (R484, R485, R514, R526): form, key, rights, length, and the item. -/
def mbxDoCommit (s : State) (p : Port) (len : Nat) (armed : Bool) : State :=
  let code := (s.mbx p).sel.field 23 16
  match itemRule code with
  | none => s.endMbx p 1 0 []
  | some r => match r.commits with
    | none => s.endMbx p 1 0 []
    | some (lo, hi) =>
      if r.keyed && !armed then (s.unlockMisuse p 0x524).endMbx p 4 0 []
      else if p != .regp && r.commitRight &&& ~~~ (s.portRights p) != 0#8 then s.endMbx p 5 0 []
      else if len < lo || hi < len then s.endMbx p 6 (if code = 8 then 2 else 0xFF) []
      else if commitsArray code && !s.rf.ready then s.endMbx p 0xA 0 []
      else s.itemCommit p code len

/-- MBX_CTL.ABORT (R486): a BIVIK_OPEN whose signature job still waits, and a REC_WRITE that waits for room at
S1, have not been acted on. -/
def mbxDoAbort (s : State) (p : Port) : State :=
  let waits := s.pwr.jobs.any (fun j => j.kind == .bivik p) || (s.mbx p).waitLen.isSome
  if (s.mbx p).busy && waits then (s.dropKind (.bivik p)).endMbx p 7 0 [] else s

/-- A write to MBX_CTL (R484 to R486); the answer is false while a command runs. -/
def mbxControl (s : State) (p : Port) (v : Word) (armed : Bool) : State × Bool :=
  if v.bit 2 then (s.mbxDoAbort p, true)
  else if (s.mbx p).busy then (s, false)
  else
    let start := s.modMbx p (fun m => { m with busy := true, valid := false })
    match v.field 1 0 with
    | 1 => (start.mbxDoRead p, true)
    | 2 => (start.mbxDoStage p, true)
    | 3 => (start.mbxDoCommit p (v.field 31 16) armed, true)
    | _ => (s, true)

/-- The port's last COMMIT was a key load refused as SLOT_USED, which the next transaction reports
(R444). -/
def slotUsedNow (s : State) (p : Port) : Bool :=
  let m := s.mbx p
  m.sel.field 23 16 == 0x21 && !m.busy && m.result == 6 && m.detail == 1

/-- TIME_RTC_LOAD (R515): at the next RTC second the RTC takes the value and the time elapsed since
the COMMIT, and the TIME_SET record is created. -/
def effTimeRtcLoad (s : State) : State := match s.clk.rtcLoad with
  | none => s
  | some (v, at0, p, setter) =>
    let s := s.elapse ((second - s.clk.rtc % second) % second)
    let before := s.clk.rtc
    let after := time64 (v + (s.clk.up - at0))
    let s := { s with clk.rtc := after, clk.unsync := false, clk.rtcLoad := none }
    let payload := leBytes 8 before ++ leBytes 8 after ++ leBytes 2 setter.toNat ++
      [BitVec.ofNat 8 (if p = .regp then 0 else 1)] ++ zeroBytes 13
    (s.raise 0x56C 3).create 3 0x05#8 payload (.timeSet p)

end State

end Sys2Proof.Machine
end

