-- ==== Sys2Proof/Machine/RegAccess.lean ====
section
/-! DEFINITION. Register accesses (R12, R13, R473 to R482, R496): one access engine for the register port and the in-band register requests, with the unlock key, the locks, the aliases, buffered configuration and every command field; and the posted-write buffers (R427 to R429, R433). -/

namespace Sys2Proof.Machine

/-- A load of a used key slot was refused: the next transaction reports WONCE_VIOL (R444). It is no
completion code of R260. -/
def stLate : Nat := 0x100

/-- Window of an address: 0 the registers, 1 SET, 2 CLR, 3 TOG (R475). -/
def windowOfAddr (a : Nat) : Nat := a / 0x800 % 4

/-- Offset of an address within its window. -/
def regOff (a : Nat) : Nat := a % 0x800

/-- The configuration bits `cfg` of a register after a write of `v` to the bytes `mask` (R475). -/
def newConfig (win : Nat) (old v mask cfg : Word) : Word :=
  let w := v &&& mask &&& cfg
  match win with
  | 0 => (old &&& ~~~ (mask &&& cfg)) ||| w
  | 1 => old ||| w
  | 2 => old &&& ~~~ w
  | _ => old ^^^ w

/-- The configuration bits that a write names (R475, R480). -/
def touchedBits (win : Nat) (v mask cfg : Word) : Word :=
  if win = 0 then mask &&& cfg else v &&& mask &&& cfg

/-- What a write gives to command, key and write-once fields: nothing through an alias (R475). -/
def commandBits (win : Nat) (d : RegDesc) (v mask : Word) : Word :=
  if win = 0 then v &&& mask &&& (d.wo ||| d.wok ||| d.w1k) else 0#32

/-- The GRD registers whose every field the lock of GRD locks (R496). -/
def grdLocked (off : Nat) : Bool := off == 0x420 || off == 0x428 || off == 0x42C

/-- A write would change a locked field (R496). -/
def lockHit (locked : Word) (d : RegDesc) (old new cmd : Word) : Bool := match d.block.pendBit with
  | some n => locked.bit n && ((old ^^^ new) &&& d.rwk != 0#32 ||
      (grdLocked d.off && (old != new || cmd != 0#32)))
  | none => false

/-- A write is key-guarded (R12): it writes a W1/K field, would change an RW/K field, or writes a
nonzero value to a WO/K field. It changes a field whose last written value or whose value in force `now` it
differs from: the repeat of a value that is still buffered needs the key again (R476; DEDUCED from the worked
example, log entry 111). -/
def keyGuarded (win : Nat) (d : RegDesc) (old now new cmd : Word) : Bool :=
  (win == 0 && d.w1k != 0#32) || ((old ^^^ new) ||| (now ^^^ new)) &&& d.rwk != 0#32 ||
    cmd &&& d.wok != 0#32

/-- The bytes of a narrow access within its word, as a mask. -/
def byteMask (a w : Nat) : Word :=
  BitVec.ofNat 32 ((2 ^ (8 * widthBytes w) - 1) * 2 ^ (8 * (a % 4)))

/-- The RESULT code of the register port for an access status (R472). -/
def resultCode (st : Nat) : Nat :=
  if st = stKey then 1 else if st = stWonce || st = stLate then 2 else if st = stGuard then 3
  else if st = stUnaligned then 4 else if st = stBusy then 8 else if st = stValue then 9 else 0

/-- The first code that is not OK, in address order (R472, R474). -/
def firstBad (rs : List Nat) : Nat := (rs.find? (fun r => r != 0)).getD 0

/-- An access reaches the mailbox block 0x520 to 0x55F (R483). -/
def meetsMailbox (off n : Nat) : Bool := off < 0x560 && 0x520 < off + n

namespace State

/-- The configuration bits last written to a register, wherever they are held. -/
def configOf (s : State) (p : Port) (d : RegDesc) : Word := match d.block with
  | .mbx => s.mbxValue p d.off &&& d.config
  | .grd => if d.off = 0x428 || d.off = 0x42C then s.grdValue d.off &&& d.config
      else s.reg d.off &&& d.config
  | _ => s.reg d.off &&& d.config

/-- Disarms a port's unlock key (R476). -/
def disarmKey (s : State) (p : Port) : State :=
  { s with rf.keyArmed := s.rf.keyArmed.filter (fun (q : Port) => q != p) }

/-- Records whether a port's last register write was rejected (R261). -/
def setReject (s : State) (p : Port) (bad : Bool) : State :=
  let l := s.rf.prevReject.filter (fun (q : Port) => q != p)
  { s with rf.prevReject := if bad then l ++ [p] else l }

/-- A second write to a write-once register, or one that meets a lock (R12, R496). -/
def wonceViolation (s : State) (p : Port) (off : Nat) (v : Word) : State :=
  (s.audit 0 1 (s.portActor p) (portIface p) off (wordBytes v)).raise 0x014 1

/-- Stores a mailbox register of a port (R489). -/
def storeMbx (s : State) (p : Port) (off : Nat) (v : Word) : State :=
  s.modMbx p (fun m => match off with
    | 0x520 => { m with sel := v }
    | 0x530 => { m with d0 := v }
    | 0x534 => { m with d1 := v }
    | 0x538 => { m with d2 := v }
    | 0x53C => { m with d3 := v }
    | _ => m)

/-- Stores GRD_RBASE or GRD_RCFG in the shadow region that GRD_SEL selects; fixed regions ignore
writes (R424, R436). -/
def storeShadow (s : State) (off : Nat) (v : Word) : State := match s.selectedRegion with
  | none => s
  | some k =>
    if fixedRegion (k / 16) (k % 16) then s
    else if off = 0x428 then s.setShadowRegion k (v, (s.shadowRegion k).2)
    else s.setShadowRegion k ((s.shadowRegion k).1, v)

/-- Stores configuration: immediate fields come into force, the others wait for their boundary
(R480). -/
def storeConfig (s : State) (d : RegDesc) (new touched : Word) : State :=
  let imm := d.config &&& ~~~ d.buffered
  let s := s.setReg d.off ((s.reg d.off &&& ~~~ d.config) ||| new)
  let s := s.setForce d.off ((s.force d.off &&& ~~~ imm) ||| (new &&& imm))
  let t := touched &&& d.buffered
  if t = 0#32 then s
  else s.setPend d.off (s.pendBits d.off ||| t ||| ((new ^^^ s.force d.off) &&& d.buffered))

/-- Local source of the party behind a port, which a CARILLON record names as its setter (R562). -/
def setterOf (s : State) (p : Port) : Nat := if p = Port.regp then 5 else 16 + s.portRequester p

/-- What a stored value brings about at once. -/
def afterStore (s : State) (p : Port) (off : Nat) (new : Word) : State := match off with
  | 0x09C => s.wakePinned
  | 0x0E4 => s.tryBoundary
  | 0x160 => s.rearmKnell
  | 0x1A0 => s.setStmEn (new.bit 0)
  | 0x1A8 => if creditCfgOk new then s else (s.setPend 0x1A8 0#32).raise 0x1AC 11
  | 0x220 => s.tryBoundary
  | 0x22C => s.tryBoundary
  | 0x224 => { s with peal.setter := s.setterOf p }.tryBoundary
  | 0x228 => { s with peal.setter := s.setterOf p }.tryBoundary
  | 0x320 =>
    if new.bit 0 then s.armBoundary
    else (((s.disarm).setForce 0x320 (s.force 0x320 &&& ~~~ (1#32))).setPend 0x320
      (s.pendBits 0x320 &&& ~~~ (1#32))).armBoundary
  | 0x324 => s.armBoundary
  | 0x3E4 => if s.domOn 14 || s.domOn 15 then s else s.boundary .entBlock
  | _ => if 0x360 ≤ off && off < 0x3A0 then s.armBoundary else s

/-- Stores the configuration part of a write. -/
def storeRegister (s : State) (p : Port) (d : RegDesc) (new touched : Word) : State :=
  if touched = 0#32 then s
  else match d.block with
    | .mbx => s.storeMbx p d.off new
    | _ =>
      if d.off = 0x428 || d.off = 0x42C then s.storeShadow d.off new
      else (s.storeConfig d new touched).afterStore p d.off new

/-- RESET_KEYED passes S1 once there is room (R85, R530), with its grant and that of a GAP record ahead of
it. -/
def passKeyedAudit (s : State) : State := match s.boot.keyedAudit with
  | none => s
  | some r =>
    if !s.roomOwn r then s
    else
      let s := ({ s with boot.keyedAudit := none }).passOwn r .none false true 0 0 none
      { s with cmt.pipe := s.cmt.pipe.map (fun (p : PipeRec) =>
        if p.granted.isNone then
          { p with granted := some (recordCost s.pwr.band false p.sectors), band := s.pwr.band } else p) }

/-- The orderly stop of a GLB_RESET device reset begins (R530): S1 stops, the records that are not
granted are abandoned, and RESET_KEYED follows the granted ones to its commit point. -/
def beginKeyedStop (s : State) (src : BitVec 16) (iface : Nat) : State :=
  let s := { s with boot.keyedPending := some (src, iface), boot.keyedStop := true }
  let s := s.reach (s.dropAll (fun p => p.granted.isNone))
  let r := s.newInternal 0 6 0x80#8 (flagFirst ||| flagLast) (auditPayload 0xF src iface src.toNat [])
  let s := { s.stamp with boot.keyedAudit := some r }
  s.passKeyedAudit.serveFrames.serveMbx

/-- GLB_RESET.DEVICE (R530): during a Knell it waits until the engine leaves CLOSE. -/
def requestReset (s : State) (p : Port) : State :=
  if s.boot.keyedPending.isSome then s
  else if s.knellRunning then
    { s with boot.keyedPending := some (s.portActor p, portIface p) }
  else s.beginKeyedStop (s.portActor p) (portIface p)

/-- GLB_LOCK takes its one write (R496). -/
def writeLock (s : State) (v : Word) : State :=
  { s with rf.locked := v &&& 0x7FF#32, rf.lockUsed := true }.raise 0x014 8

/-- Runs `f` when bit `n` of a command word is 1. -/
def onBit (s : State) (v : Word) (n : Nat) (f : State → State) : State := if v.bit n then f s else s

/-- The command fields of a write (the WO, W1 and WO/K fields of each block), with its status. -/
def runCommand (s : State) (p : Port) (off : Nat) (c : Word) (armed : Bool) : State × Nat :=
  match off with
  | 0x008 => (if c = 0x9B6D#32 then { s with rf.keyArmed := s.rf.keyArmed ++ [p] } else s, stOk)
  | 0x00C => (s.onBit c 0 (fun s => s.requestReset p), stOk)
  | 0x028 => (s.writeLock c, stOk)
  | 0x060 => ((s.onBit c 2 requestMppt).onBit c 3 (fun s => { s with pwr.shipReq := true }), stOk)
  | 0x0E0 => ((s.onBit c 6 requestScrub).onBit c 7 requestCkpt, stOk)
  | 0x118 =>
    match s.tollInc c with
      | (s, true) => (s, stOk)
      | (s, false) => (s, stValue)
  | 0x160 => ((s.onBit c 2 requestCons).onBit c 1 forceKnell, stOk)
  | 0x1A0 => ((s.onBit c 2 (fun s => s.requestRetrain false)).onBit c 3
      (fun s => s.requestRetrain true), stOk)
  | 0x220 => (s.onBit c 1 clearLeases, stOk)
  | 0x2A0 => ((s.onBit c 1 (fun s => (s.wakeTrigger 4).1)).onBit c 2 wakeRelease, stOk)
  | 0x320 => ((s.requestCal 2 ((List.range 8).filter (fun n => c.bit (8 + n)))).onBit c 16
      snareForce, stOk)
  | 0x3E0 => (((s.onBit c 1 rawStart).onBit c 2 rawStop).onBit c 3 rawRelease, stOk)
  | 0x420 => (s.requestApply c, stOk)
  | 0x4A0 => (s.sesControl c, stOk)
  | 0x524 => match s.mbxControl p c armed with
    | (s, true) => (s, if c.field 1 0 = 3 && !c.bit 2 && s.slotUsedNow p then stLate else stOk)
    | (s, false) => (s, stBusy)
  | 0x560 => ((s.onBit c 2 (fun s => { s with log.sampleNow := true })).onBit c 3
      (fun s => { s with log.flushReq := true }), stOk)
  | _ => (s, stOk)

/-- One register write of 32 bits, or of the bytes `mask` of a plain register, with its status (R12,
R13, R475 to R480, R496). It consumes the port's unlock key. -/
def wordWrite (s : State) (p : Port) (a : Nat) (v mask : Word) : State × Nat :=
  let armed := s.rf.keyArmed.contains p
  let s := s.disarmKey p
  let off := regOff a
  let win := windowOfAddr a
  match regDesc off with
  | none => (s, stOk)
  | some d =>
    let old := s.configOf p d
    let new := newConfig win old v mask d.config
    let cmd := commandBits win d v mask
    let again := win == 0 && d.w1k != 0#32 && s.rf.lockUsed
    if again || lockHit s.rf.locked d old new cmd then (s.wonceViolation p off v, stWonce)
    else if keyGuarded win d old (s.force d.off) new cmd && !armed then (s.unlockMisuse p off, stKey)
    else
      let s := s.storeRegister p d new (touchedBits win v mask d.config)
      if win = 0 && (d.wo ||| d.wok ||| d.w1k) != 0#32 then s.runCommand p off cmd armed
      else (s, stOk)

/-- A write of 8 or 16 bits (R473). -/
def narrowWrite (s : State) (p : Port) (a width : Nat) (data : Nat) : State × Nat :=
  match regDesc (regOff (a - a % 4)) with
  | none => (s.disarmKey p, stOk)
  | some d =>
    if d.special then (s.disarmKey p, stWidth)
    else if d.readOnly then (s.disarmKey p, stOk)
    else s.wordWrite p (a - a % 4) (BitVec.ofNat 32 (data * 2 ^ (8 * (a % 4)))) (byteMask a width)

/-- A register write of any width that its guard has let through (R473, R474). -/
def performWrite (s : State) (p : Port) (a width : Nat) (data : BitVec 64) : State × Nat :=
  match width with
  | 2 => s.wordWrite p a (data.setWidth 32) allBits
  | 3 =>
    let (s, r0) := s.wordWrite p a (data.setWidth 32) allBits
    let (s, r1) := s.wordWrite p (a + 4) ((data >>> 32).setWidth 32) allBits
    (s, firstBad [r0, r1])
  | w => s.narrowWrite p a w data.toNat

/-- One register read of 32 bits with its side effects (R12, R410, R475, R477). -/
def wordRead (s : State) (p : Port) (a : Nat) : State × Word :=
  if windowOfAddr a != 0 then (s, 0#32)
  else if regOff a = 0x3F0 || regOff a = 0x3F4 then s.entRead
  else
    let v := s.regValue p (regOff a)
    match regDesc (regOff a) with
    | none => (s, v)
    | some d => if d.rc = 0#32 then (s, v) else (s.clearOnRead d.off d.rc, v)

/-- A register read of any width: its bytes (R473, R474). -/
def performRead (s : State) (p : Port) (a width : Nat) : State × List Byte :=
  match width with
  | 2 =>
    let (s, v) := s.wordRead p a
    (s, wordBytes v)
  | 3 =>
    let (s, v) := s.wordRead p a
    let (s, w) := s.wordRead p (a + 4)
    (s, wordBytes v ++ wordBytes w)
  | w =>
    let (s, v) := s.wordRead p (a - a % 4)
    (s, slice (wordBytes v) (a % 4) (widthBytes w))

/-- The access that a register guard checks: at the base offset; an address beyond the windows
matches no region (R422). -/
def regAccess (s : State) (p : Port) (a n : Nat) (wr : Bool) : Access :=
  { addr := if a < 0x2000 then regOff a else a, len := n, needR := !wr, needW := wr, needS := false
    recWrite := false, rights := s.portRights p, requester := s.portRequester p }

/-- The register port's guard: its GLB and GRD accesses are never refused (R421). -/
def regpGuard (s : State) (a : Nat) (wr : Bool) : State × Bool :=
  let off := regOff a
  if off < 0x60 || (0x420 ≤ off && off < 0x4A0) then (s, true)
  else s.guarded 0 (s.regAccess .regp a 4 wr)

/-- The notice of a posted write of which its target at address `a` refused its part (R433, R434). -/
def postedNotice (s : State) (w : Posted) (a : Nat) : State :=
  let x := s.regAccess w.port a (widthBytes w.width) true
  let s := s.guardFault w.master 6 (regOff a) { x with requester := w.requester } true
  { s with grd.noticeAddr := BitVec.ofNat 32 (regOff a) }

/-- A posted write reaches its target: its status, and the address that gave it, which in a write of 64
bits is that of the half that was refused (R433, R474). -/
def performPosted (s : State) (w : Posted) : State × Nat × Nat :=
  if w.width = 3 then
    let (s, r0) := s.wordWrite w.port w.addr (w.data.setWidth 32) allBits
    let (s, r1) := s.wordWrite w.port (w.addr + 4) ((w.data >>> 32).setWidth 32) allBits
    (s, firstBad [r0, r1], if r0 = stOk then w.addr + 4 else w.addr)
  else
    let (s, r) := s.performWrite w.port w.addr w.width w.data
    (s, r, w.addr)

/-- Removes the oldest posted write of a master. -/
def takePosted (s : State) (m : Nat) : Option (Posted × State) :=
  match s.grd.posted.find? (fun w => w.master == m) with
  | none => none
  | some w =>
    let rest := s.grd.posted.takeWhile (fun x => x.master != m) ++
      (s.grd.posted.dropWhile (fun x => x.master != m)).drop 1
    some (w, { s with grd.posted := rest })

/-- The oldest posted write of a master drains to its target (R429, R433). -/
def drainPosted (s : State) (m : Nat) : State := match s.takePosted m with
  | none => s
  | some (w, s) =>
    let (s, st, a) := s.performPosted w
    let s := s.setReject w.port (st != stOk)
    let s := if st = stOk then s
      else { s with rf.notices := s.rf.notices.filter (fun (q : Port) => q != w.port) ++ [w.port] }
    if st = stWonce || st = stKey || st = stWidth then s.postedNotice w a else s

/-- Every posted write of a master drains, in order. -/
def drainMaster (s : State) (m : Nat) : State :=
  (List.range (s.grd.posted.length)).foldl (fun s _ => s.drainPosted m) s

/-- POSTED_WRITE_DRAIN (R429, R433). -/
def effPostedWriteDrain (s : State) (m : Nat) : State := s.drainPosted m

/-- A posted write changes bytes that a read of `n` bytes at `a` covers. -/
def postedOver (s : State) (m a n : Nat) : Bool :=
  s.grd.posted.any (fun w => w.master == m && regOff w.addr < regOff a + n &&
    regOff a < regOff w.addr + widthBytes w.width)

/-- Accepts a posted write; a full buffer of 8 first drains its oldest entry (R429). -/
def postWrite (s : State) (p : Port) (a width : Nat) (data : BitVec 64) : State :=
  let mine := s.grd.posted.filter (fun w => w.master == 1)
  let s := if 8 ≤ mine.length then s.drainPosted 1 else s
  { s with grd.posted := s.grd.posted ++ [{
      master := 1, port := p, requester := s.portRequester p, addr := a, width := width
      data := data }] }

/-- An in-band register write that is turned away before its target: it waits for the posted writes
before it and consumes the key (R429, R476). -/
def turnAway (s : State) (p : Port) (st : Nat) : State × Nat :=
  ((s.drainMaster 1).disarmKey p, st)

/-- An in-band register write (R261, R427 to R429, R473, R474): its status. -/
def inbandWrite (s : State) (p : Port) (a width : Nat) (data : BitVec 64) : State × Nat :=
  let n := widthBytes width
  if a % n != 0 then s.turnAway p stUnaligned
  else match s.guarded 1 (s.regAccess p a n true) with
    | (s, false) => s.turnAway p stGuard
    | (s, true) =>
      let host := match p with | .host _ => true | _ => false
      if host && meetsMailbox (regOff a) n then s.turnAway p stNoSession
      else if s.guardAttr 1 (regOff a) = 0 then (s.postWrite p a width data, stOk)
      else (s.drainMaster 1).performWrite p a width data

/-- An in-band register read: its status and bytes (R261, R429, R473). -/
def inbandRead (s : State) (p : Port) (a width : Nat) : State × Nat × List Byte :=
  let n := widthBytes width
  if a % n != 0 then (s, stUnaligned, [])
  else match s.guarded 1 (s.regAccess p a n false) with
    | (s, false) => (s, stGuard, zeroBytes n)
    | (s, true) =>
      let host := match p with | .host _ => true | _ => false
      if host && meetsMailbox (regOff a) n then (s, stNoSession, zeroBytes n)
      else
        let s := if s.postedOver 1 a n then s.drainMaster 1 else s
        let (s, bytes) := s.performRead p a width
        (s, stOk, bytes)

/-- A session or a host without one may use its port: the tag serves in-band requests, the context
is open, the host number exists (R257, R261). -/
def portOpen (s : State) (p : Port) : Bool := match p with
  | .regp => s.wired && !s.boot.resetLow
  | .session c => s.wired && !s.knellRunning && (match s.ctx c with
    | some x => x.state == .opened
    | none => false)
  | .host n => s.wired && !s.knellRunning && n < 48

/-- A register access wakes CORE, and one of the register port REGP (R194, R468). -/
def wakeFor (s : State) (p : Port) : State :=
  if p = .regp then (s.wakeCore).setDom 19 true else s.wakeCore

/-- One word of a register-port write: its RESULT code (R421, R464, R472). -/
def regpWord (s : State) (a : Nat) (v : Word) : State × Nat :=
  match s.regpGuard a true with
  | (s, false) => (s.disarmKey .regp, 3)
  | (s, true) =>
    let (s, st) := s.wordWrite .regp a v allBits
    (s, resultCode st)

/-- The status byte (R471). -/
def statusByte (s : State) : Byte :=
  BitVec.ofNat 8 (0x40 + (if s.rf.keyArmed.contains .regp then 0x20 else 0) +
    (if s.tocsin then 0x10 else 0) + s.rf.result % 16)

/-- A register write by a port that a row of the command table names: through the register port as
a WRITE transaction, or in-band without its completion frame. -/
def portWrite (s : State) (p : Port) (a : Nat) (v : Word) : State :=
  if !s.portOpen p then s
  else
    let s := s.wakeFor p
    match p with
    | .regp =>
      let first := s.statusByte
      let (s, r) := s.regpWord a v
      { s with rf.result := r, rf.sdo := first :: zeroBytes 6 }
    | _ =>
      let (s, st) := (s.boundary .request).inbandWrite p a 2 (v.setWidth 64)
      s.setReject p (st != stOk)

/-- One word of a register-port read: its bytes and RESULT code (R421, R464, R472). -/
def regpReadWord (s : State) (a : Nat) : State × List Byte × Nat :=
  match s.regpGuard a false with
  | (s, false) => (s, zeroBytes 4, 3)
  | (s, true) =>
    let (s, v) := s.wordRead .regp a
    (s, wordBytes v, 0)

/-- A register read by a port. -/
def portRead (s : State) (p : Port) (a : Nat) : State :=
  if !s.portOpen p then s
  else
    let s := s.wakeFor p
    match p with
    | .regp =>
      let first := s.statusByte
      let (s, bytes, r) := s.regpReadWord a
      { s with rf.result := r, rf.sdo := first :: zeroBytes 2 ++ bytes }
    | _ => ((s.boundary .request).inbandRead p a 2).1

/-- The configuration bits last written at an offset, with the bits `m` replaced by those of `v`: the
word a program writes to change only them. -/
def withBits (s : State) (p : Port) (off : Nat) (m v : Word) : Word := match regDesc off with
  | some d => (s.configOf p d &&& ~~~ m) ||| (v &&& m)
  | none => v &&& m

/-- GUARD_UPDATE (R437): the guard at the front of the APPLY in progress reaches its natural boundary,
drains, and copies a valid shadow. The FIELD guard waits while a field reply is due. -/
def effGuardUpdate (s : State) : State := match s.grd.applyQ with
  | (m :: _, _) :: _ =>
    if m = 2 && s.fldx.exportPend.isSome then s
    else ((s.drainMaster m).copyPolicy m).nextGuard
  | _ => s

end State

end Sys2Proof.Machine
end

