-- ==== Sys2Proof/Machine/RegPort.lean ====
section
/-! DEFINITION. The register port's transactions (R463 to R472), and the register writes that rows of the command table name. -/

namespace Sys2Proof.Machine

/-- RESULT codes of R472 that no single access gives. -/
def resUnaligned : Nat := 4
def resBadOpcode : Nat := 5
def resFraming : Nat := 6
def resBoundary : Nat := 7

/-- The address of a transaction is aligned and reaches the register map (R464). -/
def addrOk (a : Nat) : Bool := a % 4 == 0 && a < 0x2000

/-- Word `i` of a burst from `a` stays in its window (R466). -/
def inWindow (a i : Nat) : Bool := regOff a + 4 * i < 0x800

namespace State

/-- A transaction that the tag sees: TAG_VAUX above the trip level, no reset held (R470). It wakes
CORE and REGP. -/
def regpSees (s : State) : Bool := s.portOpen .regp

/-- TAG_RDY (R467, R470): high while the port is ready for the next unit of a transaction, low while REGP is
gated or the device reset is held. Between two transactions every word has been read or written. -/
def tagRdy (s : State) : Bool := s.wired && s.domOn 19 && !s.boot.resetLow

/-- Ends a transaction: RESULT, and the bytes driven after the status byte (R464, R471). -/
def endTransaction (s : State) (first : Byte) (result : Nat) (bytes : List Byte) : State :=
  { s with rf.result := result, rf.sdo := first :: bytes }

/-- Runs a transaction when the tag sees it; `f` gives RESULT and the bytes after the status byte. -/
def transaction (s : State) (f : State → State × Nat × List Byte) : State :=
  if !s.regpSees then s
  else
    let first := s.statusByte
    let (s, r, bytes) := f (s.wakeFor .regp)
    s.endTransaction first r bytes

/-- STATUS (R465, R472). -/
def effStatus (s : State) : State := s.transaction (fun s => (s, 0, []))

/-- BAD_OPCODE (R465): nothing is acted on, and the tag drives zeros for the rest of the transaction: here
for the address and one word, as of the other opcodes (DESIGN CHOICE, log entry 112: the row gives no
length). -/
def effBadOpcode (s : State) : State := s.transaction (fun s => (s, resBadOpcode, zeroBytes 6))

/-- The words of a write burst, in order, with their RESULT codes (R466). -/
def burstWrite (s : State) (a i : Nat) (ws : List Word) : State × List Nat := match ws with
  | [] => (s, [])
  | w :: t =>
    let (s, r) := if inWindow a i then s.regpWord (a + 4 * i) w else (s, resBoundary)
    let (s, rs) := s.burstWrite a (i + 1) t
    (s, r :: rs)

/-- A write transaction: whole words, and whether it ended within a further one (R464 to R466,
R469). -/
def writeWords (s : State) (a : Nat) (ws : List Word) (cut : Bool) : State × Nat × List Byte :=
  let bytes := zeroBytes (2 + 4 * ws.length)
  let late := if cut then [resFraming] else []
  if !addrOk a then
    if ws.isEmpty then (s, firstBad late, bytes) else (s.disarmKey .regp, resUnaligned, bytes)
  else
    let (s, rs) := s.burstWrite a 0 ws
    (s, firstBad (rs ++ late), bytes)

/-- WRITE (R465, R469). -/
def effRegpWrite (s : State) (a : Nat) (data : Option Word) : State :=
  s.transaction (fun s => match data with
    | some w => s.writeWords a [w] false
    | none => s.writeWords a [] true)

/-- WRITE_INC (R465, R466, R469). -/
def effWriteInc (s : State) (a : Nat) (data : List Word) (cut : Bool) : State :=
  s.transaction (fun s => s.writeWords a data cut)

/-- Words of a read burst from word `i` on; `step` is 1 for READ_INC and 0 for READ_REP. A word is false that
the transaction cut off, or that was clocked while TAG_RDY was low: it is zeros and has no side effect
(R469). A read beyond the window's end gives zeros (R466). -/
def burstRead (s : State) (a step i : Nat) (ws : List Bool) : State × List Byte × List Nat := match ws with
  | [] => (s, [], [])
  | whole :: t =>
    let (s, b, r) := if !whole then (s, zeroBytes 4, resFraming)
      else if inWindow a (step * i) then s.regpReadWord (a + 4 * (step * i))
      else (s, zeroBytes 4, resBoundary)
    let (s, bs, rs) := s.burstRead a step (i + 1) t
    (s, b ++ bs, r :: rs)

/-- A read transaction of words, each whole or not (R465, R466, R469). -/
def readWords (s : State) (a step : Nat) (ws : List Bool) : State × Nat × List Byte :=
  if !addrOk a then
    (s, if ws.any (fun w => w) then resUnaligned else firstBad (ws.map (fun _ => resFraming)),
      zeroBytes (2 + 4 * ws.length))
  else
    let (s, bs, rs) := s.burstRead a step 0 ws
    (s, firstBad rs, zeroBytes 2 ++ bs)

/-- Which words of a burst are read whole (R469). -/
def wholeWords (words : Nat) (cut : List Nat) : List Bool := (List.range words).map (fun i => !cut.contains i)

/-- READ (R465, R469). -/
def effRegpRead (s : State) (a : Nat) (whole : Bool) : State :=
  s.transaction (fun s => s.readWords a 0 [whole])

/-- READ_INC (R465, R466, R469). -/
def effReadInc (s : State) (a words : Nat) (cut : List Nat) : State :=
  s.transaction (fun s => s.readWords a 1 (wholeWords words cut))

/-- READ_REP (R465, R466, R469). -/
def effReadRep (s : State) (a words : Nat) (cut : List Nat) : State :=
  s.transaction (fun s => s.readWords a 0 (wholeWords words cut))

/-- A write that sets command bit `n` of a register, whatever else the word holds. -/
def commandWrite (s : State) (p : Port) (off n : Nat) (v : Word) : State :=
  s.portWrite p off (v ||| Word.oneBit n)

/-- A write that gives bit 0 of a control register a value and leaves its other fields as last
written. -/
def enableWrite (s : State) (p : Port) (off : Nat) (en : Bool) : State :=
  s.portWrite p off (s.withBits p off 1#32 (if en then 1#32 else 0#32))

/-- The MBX_CTL write that commits `len` bytes to the item `code`, when MBX_SEL names it. -/
def commitItem (s : State) (p : Port) (code len : Nat) : State :=
  if (s.mbx p).sel.field 23 16 = code then
    s.portWrite p 0x524 (fields [(len % 65536, 16), (3, 0)])
  else s

/-- A read of an RC register by a port. -/
def effRcRead (s : State) (p : Port) (off : Nat) : State := s.portRead p off

/-- A register write by a port. -/
def effRegisterWrite (s : State) (p : Port) (a : Nat) (v : Word) : State := s.portWrite p a v

end State

end Sys2Proof.Machine
end

