-- ==== Sys2Proof/Machine/Mgmt.lean ====
section
/-! DEFINITION. In-band management (R257 to R272): the two queues of requests, register requests, record reads and writes, sessions, leases and STAGE_PULL, and their completions. -/

namespace Sys2Proof.Machine

/-- Request opcodes (R259). -/
def opRegRead : Nat := 0x01
def opRegWrite : Nat := 0x02
def opRecRead : Nat := 0x10
def opRecWrite : Nat := 0x11
def opOpen : Nat := 0x20
def opClose : Nat := 0x21
def opLease : Nat := 0x30
def opPull : Nat := 0x40

/-- Completion flags of R258 byte 5. -/
def cMore : Nat := 2
def cVerified : Nat := 4
def cCont : Nat := 8

/-- Most bytes of a completion's body (R267). -/
def maxBody : Nat := 4032

/-- Byte 1 of a request names no requester (R257): bits 7:6 not 0, or a host number 48 to 62. -/
def badRequester (r : Byte) : Bool := 64 ≤ r.toNat || (48 ≤ r.toNat && r.toNat ≤ 62)

/-- The switch die as a requester (R257). -/
def switchDie : Byte := 63#8

/-- The header and trailer of a record, which a DAMAGED completion returns (R260). -/
def recEnds (r : Rec) : List Byte := r.hdr.bytes ++ r.trailer

/-- The origin record of a verified copy: header, decrypted payload, trailer unchanged (R264). -/
def openedCopy (body : List Byte) : List Byte :=
  slice body 0 32 ++ copyPlain body ++ slice body (body.length - 32) 32

namespace State

/-- A request that names a session renews its idle time (R452). -/
def touchSession (s : State) (h : MgmtHdr) : State := match h.session with
  | none => s
  | some c => match s.ctx c with
    | some x => s.setCtx c { x with lastUse := s.clk.up }
    | none => s

/-- Sends a completion whose body may need a second frame (R267); `flags` stand in the frame that
ends it, `more` says that another record follows. -/
def completeBody (s : State) (h : MgmtHdr) (op status flags : Nat) (more : Bool) (stroke : Nat)
    (body : List Byte) : State :=
  let f := leBytes 8 stroke
  let m := if more then cMore else 0
  if body.length ≤ maxBody then s.complete h op status (flags ||| m) f body
  else
    let one := body.take maxBody
    let s := s.sendFrame .mgmt (s.completionHeader h op status cMore one.length f) one
    s.complete h op status (flags ||| m ||| cCont) f (body.drop maxBody)

/-- REG_READ (R259, R261, R473). -/
def serveRegRead (s : State) (h : MgmtHdr) (a width : Nat) : State :=
  if 3 < width then s.answer h opRegRead stMalformed
  else
    let (s, st, body) := s.inbandRead (MgmtHdrPort h) a width
    s.complete h opRegRead st 0 [] body

/-- REG_WRITE (R259, R261, R473): PREV_REJECT of its completion tells of the write before it. A request that
is MALFORMED is no register write: it neither sets PREV_REJECT nor disarms the unlock key (DESIGN CHOICE,
log entry 106). -/
def serveRegWrite (s : State) (h : MgmtHdr) (a width : Nat) (data : BitVec 64) : State :=
  if 3 < width then s.answer h opRegWrite stMalformed
  else
    let p := MgmtHdrPort h
    let (s, st) := s.inbandWrite p a width data
    let s := s.answer h opRegWrite (if st = stLate then stOk else st)
    if p = .regp then s else s.setReject p (st != stOk)

/-- The record that a REC_READ asks for (R112, R263). -/
def findRead (s : State) (stroke mode arg : Nat) : Option Stored := match mode with
  | 0 => s.byNumber stroke
  | 1 => (s.fromStroke arg (stroke + 1)).head?
  | _ => ((s.recsOf 7).filter (fun r => r.record.hdr.typ == 0x50#8 &&
      (copyIdentity r.record.payload).1 == arg &&
      stroke < (copyIdentity r.record.payload).2)).foldl (fun (m : Option Stored) r => match m with
        | none => some r
        | some x => if (copyIdentity r.record.payload).2 < (copyIdentity x.record.payload).2 then some r
          else some x) none

/-- Returns a record that was found and may be read (R263, R264, R267). -/
def returnRecord (s : State) (h : MgmtHdr) (r : Stored) (opened : Bool) : State :=
  let n := r.record.hdr.stroke
  if !r.intact then s.completeBody h opRecRead stDamaged 0 false n (recEnds r.record)
  else if opened then
    let body := r.record.payload
    if copyVerifies body then s.completeBody h opRecRead stOk cVerified false n (openedCopy body)
    else s.completeBody h opRecRead stDamaged 0 false n
      (slice body 0 32 ++ slice body (body.length - 32) 32)
  else s.completeBody h opRecRead stOk cVerified false n (recBytes r.record false)

/-- The record that a read found when it came has been reclaimed since (R45). -/
def goneSince (s : State) (found : Option Nat) : Bool := match found with
  | some n => (s.byNumber n).isNone
  | none => false

/-- REC_READ (R45, R263, R264, R267): the guard checks the record's bytes, and Seal where plaintext
passes the sealing engine (R425). `found` is the record that it found when it came. OPEN outside mode 2 is
a field out of range (DESIGN CHOICE, log entry 106: R264 gives it no meaning there). -/
def serveRecRead (s : State) (h : MgmtHdr) (stroke mode arg : Nat) (opened : Bool)
    (found : Option Nat) : State :=
  let bad := 2 < mode || (mode == 1 && 10 < arg) || (mode == 2 && 63 < arg) || (opened && mode != 2)
  if bad then s.answer h opRecRead stMalformed
  else if mode = 1 && arg = 1 then s.answer h opRecRead stGuard
  else if s.cmt.rebuilding || s.cmt.recovering then s.answer h opRecRead stBusy
  else if s.goneSince found then s.answer h opRecRead stReclaimed
  else match s.findRead stroke mode arg with
    | none => s.answer h opRecRead stNoRecord
    | some r =>
      if r.record.hdr.typ = 0xA0#8 then s.answer h opRecRead stGuard
      else
        let p := MgmtHdrPort h
        let x := s.readAccess r (opened || isSealed r) (s.portRights p) (s.portRequester p)
        match s.guarded 1 x with
        | (s, false) =>
          s.completeBody h opRecRead stGuard 0 false 0
            (zeroBytes (32 * sectorsOf r.record.hdr.length))
        | (s, true) => s.returnRecord h r opened

/-- A REC_WRITE that stores nothing is answered, and its frame's `n` credits return (R224). -/
def refuseWriteReq (s : State) (h : MgmtHdr) (n status : Nat) : State :=
  (s.releaseCredits 2 n).answer h opRecWrite status

/-- REC_WRITE (R265, R270): none when it must wait for room at S1 (R85). Its record keeps the frame's `c`
credits until its commit point or abandonment (R224). -/
def serveRecWrite (s : State) (h : MgmtHdr) (typ : Byte) (first last : Bool) (seq : Word)
    (pl : List Byte) (c : Nat) : Option State :=
  let host := h.requester.toNat
  let src := s.source (16 + host)
  let part := partOf typ
  let n := sectorsOf pl.length
  if !(hostType typ) then some ((s.countReserved typ).refuseWriteReq h c stType)
  else if badPayload typ pl then some (s.refuseWriteReq h c stMalformed)
  else if 6 ≤ s.pwr.step || !s.s1Open then some (s.refuseWriteReq h c stPower)
  else if s.leaseBlocks part (some host) then some (s.refuseWriteReq h c stLeased)
  else if s.seqCheck src 2 seq = .duplicate then
    some ((s.count 0x100).refuseWriteReq h c stDuplicate)
  else if !(s.partRoom part n) then some (s.refuseWriteReq h c stFull)
  else if !(s.roomFor src 2 seq n) then none
  else
    let s := s.accept src 2 typ (setFlags first last) seq 0#32 pl (.mgmtWrite h) false true
      (some (.mgmt, c)) none
    match s.cmt.pipe.getLast? with
    | none => some s
    | some r =>
      match s.guardNewRec r.id 1 (s.portRights (MgmtHdrPort h)) host with
      | (s, true) => some s
      | (s, false) => some (s.answer h opRecWrite stGuard)

/-- SESSION_OPEN is refused by shedding or for want of entropy (R266). -/
def openRefused (s : State) : Option Nat :=
  if 2 ≤ s.pwr.step then some stPower else if s.bothFailed then some stNoEntropy else none

/-- SESSION_OPEN, HELLO (R266, R449); a session that it names must be its requester's own. SES_CFG
applies at every SESSION_OPEN (R461). -/
def serveHello (s : State) (h : MgmtHdr) (method : Nat) (rights : Byte) (point : List Byte) : State :=
  let s := s.boundary .sesOpen
  match s.openRefused with
  | some st => s.refuseOpenStatus h st
  | none =>
    if s.sessionOk h then ((s.touchSession h).helloStart h method rights point).entPower.feed
    else s.refuseOpenStatus h stNoSession

/-- SESSION_OPEN, PROVE (R266, R449, R451, R461). -/
def serveProve (s : State) (h : MgmtHdr) (sig : List Byte) : State :=
  let s := s.boundary .sesOpen
  match s.openRefused with
  | some st => s.refuseOpenStatus h st
  | none => s.prove h sig

/-- SESSION_CLOSE (R259, R453). -/
def serveClose (s : State) (h : MgmtHdr) : State := match h.session with
  | some c => (s.closeCtx c).answer h opClose stOk
  | none => s.answer h opClose stNoSession

/-- LEASE (R269, R270, R426): it takes effect at the next commit-group boundary. -/
def serveLease (s : State) (h : MgmtHdr) (part op seconds : Nat) : State :=
  if (part != 8 && part != 9) || 1 < op || (op == 1 && (seconds < 1 || 500 < seconds)) then
    s.answer h opLease stMalformed
  else if s.portRights (MgmtHdrPort h) &&& 0x02#8 = 0#8 then s.answer h opLease stGuard
  else
    let q : LeaseReq := { hdr := h, part := part, op := op, seconds := seconds }
    ({ s with peal.leaseWait := s.peal.leaseWait ++ [q] }).tryBoundary

/-- The items of a pull, one completion frame or two for each, and one for a damaged item, whose header and
trailer alone return (R260, R267, R272). -/
def sendItems (s : State) (h : MgmtHdr) (rs : List Stored) : State := match rs with
  | [] => s
  | x :: t =>
    let r := x.record
    let s := if x.intact then
        s.completeBody h opPull stOk cVerified (!t.isEmpty) r.hdr.stroke (recBytes r false)
      else s.completeBody h opPull stDamaged 0 (!t.isEmpty) r.hdr.stroke (recEnds r)
    s.sendItems h t

/-- STAGE_PULL (R272), with the stroke head of its arrival as the snapshot; while the array is rebuilt it
is answered BUSY (R128, R260). -/
def servePull (s : State) (h : MgmtHdr) : State :=
  let head := s.peal.pullHeads.headD s.cmt.shadow
  let s : State := { s with peal.pullHeads := s.peal.pullHeads.drop 1 }
  if s.cmt.rebuilding || s.cmt.recovering then s.answer h opPull stBusy
  else
    let s := ({ s with peal.pulls := saturate 65535 (s.peal.pulls + 1) }).raise 0x230 7
    match s.stagedAt head with
    | [] => s.complete h opPull stOk 0 [] []
    | rs => s.sendItems h rs

/-- A host's request without a session that it needs, or with one that is not its own (R259, R261,
R266). -/
def needsSession (s : State) (h : MgmtHdr) (op : Nat) (f : State → Option State) : Option State :=
  if h.session.isNone || !(s.sessionOk h) then some (s.answer h op stNoSession)
  else f (s.touchSession h)

/-- Serves one request that is not a register request; none when it must wait for room at S1. A record write
comes behind the posted writes of its master (R429). -/
def runMgmt (s : State) (i : Instr) : Option State := match i with
  | .recRead h stroke mode arg opened =>
    let found := s.peal.readFound.headD none
    ({ s with peal.readFound := s.peal.readFound.drop 1 }).needsSession h opRecRead (fun s =>
      some (s.serveRecRead h stroke mode arg opened found))
  | .recWrite h typ first last seq payload =>
    let c := s.peal.writeCredits.headD 0
    let s := { s with peal.writeCredits := s.peal.writeCredits.drop 1 }
    if h.session.isNone || !(s.sessionOk h) then some (s.refuseWriteReq h c stNoSession)
    else ((s.touchSession h).drainMaster 1).serveRecWrite h typ first last seq payload c
  | .sessionOpenHello h method rights point => some (s.serveHello h method rights point)
  | .sessionOpenProve h sig => some (s.serveProve h sig)
  | .sessionClose h => s.needsSession h opClose (fun s => some (s.serveClose h))
  | .lease h part op seconds => s.needsSession h opLease (fun s => some (s.serveLease h part op seconds))
  | .stagePull h => some (s.servePull h)
  | _ => some s

/-- Counts a request that is served (R290). -/
def served (s : State) : State := s.countBy 0x250 15 0 1

/-- Serves the waiting requests in order, once start-up has ended (R262, R526). -/
def serveQueue (s : State) (fuel : Nat) : State := match fuel with
  | 0 => s
  | fuel + 1 =>
    if !s.rf.ready then s
    else match s.peal.mgmtWait with
      | [] => s
      | i :: t => match (({ s with peal.mgmtWait := t }).served).runMgmt i with
        | some u => u.serveQueue fuel
        | none => s

/-- Serves the waiting requests. -/
def serveMgmt (s : State) : State := s.serveQueue s.peal.mgmtWait.length

/-- The frame of the request `i` ends (R248, R251, R254, R257): one that fails its end check or names no
requester is counted and has no completion, and one with an unknown opcode or a reserved field is turned
away. `f` takes the frame's credits. -/
def receiveRequest (s : State) (h : MgmtHdr) (i : Instr) (f : State → Nat → State) : State :=
  if s.knellRunning || !s.linkOn then s
  else
    let (s, n) := s.wakeCore.takeDone 2
    match requestOf i with
    | none => s.releaseCredits 2 n
    | some (_, q) =>
      let e := requestCheck h q
      if e != .good then (s.releaseCredits 2 n).countFailed e
      else if badRequester h.requester then (s.releaseCredits 2 n).badFrame
      else match requestFault h q with
        | some (op, st) => ((s.releaseCredits 2 n).served).answer h op st
        | none => f s n

/-- A host's request: the switch die may send STAGE_PULL alone (R259). -/
def hostRequest (s : State) (h : MgmtHdr) (op : Nat) (i : Instr) (f : State → Nat → State) : State :=
  s.receiveRequest h i (fun s n =>
    if h.requester = switchDie then ((s.releaseCredits 2 n).served).answer h op stUnsupported
    else f (s.boundary .request) n)

/-- A register request, served at once (R262, R482). -/
def regRequest (s : State) (h : MgmtHdr) (op : Nat) (i : Instr) (f : State → State) : State :=
  s.hostRequest h op i (fun s n =>
    let s := (s.releaseCredits 2 n).served
    if s.sessionOk h then f (s.touchSession h) else s.answer h op stNoSession)

/-- What a request of the second queue leaves on record at its arrival: the credits of a REC_WRITE, which
its record keeps, and the record that a REC_READ finds (R45, R224). -/
def noteRequest (s : State) (i : Instr) (n : Nat) : State := match i with
  | .recWrite .. => { s with peal.writeCredits := s.peal.writeCredits ++ [n] }
  | .recRead _ stroke mode arg _ =>
    let found := (s.findRead stroke mode arg).map (fun r => r.record.hdr.stroke)
    ({ s with peal.readFound := s.peal.readFound ++ [found] }).releaseCredits 2 n
  | _ => s.releaseCredits 2 n

/-- Any other request joins the second queue (R262). -/
def queueRequest (s : State) (h : MgmtHdr) (op : Nat) (i : Instr) : State :=
  s.hostRequest h op i (fun s n =>
    let s := s.noteRequest i n
    ({ s with peal.mgmtWait := s.peal.mgmtWait ++ [i] }).serveMgmt)

/-- REG_READ. -/
def effRegRead (s : State) (h : MgmtHdr) (a width : Nat) : State :=
  s.regRequest h opRegRead (.regRead h a width) (fun s => s.serveRegRead h a width)

/-- REG_WRITE. -/
def effRegWrite (s : State) (h : MgmtHdr) (a width : Nat) (data : BitVec 64) : State :=
  s.regRequest h opRegWrite (.regWrite h a width data) (fun s => s.serveRegWrite h a width data)

/-- REC_READ. -/
def effRecRead (s : State) (h : MgmtHdr) (stroke mode arg : Nat) (opened : Bool) : State :=
  s.queueRequest h opRecRead (.recRead h stroke mode arg opened)

/-- REC_WRITE. -/
def effRecWrite (s : State) (h : MgmtHdr) (typ : Byte) (first last : Bool) (seq : Word)
    (pl : List Byte) : State :=
  s.queueRequest h opRecWrite (.recWrite h typ first last seq pl)

/-- SESSION_OPEN_HELLO. -/
def effSessionOpenHello (s : State) (h : MgmtHdr) (method : Nat) (rights : Byte)
    (point : List Byte) : State :=
  s.queueRequest h opOpen (.sessionOpenHello h method rights point)

/-- SESSION_OPEN_PROVE. -/
def effSessionOpenProve (s : State) (h : MgmtHdr) (sig : List Byte) : State :=
  s.queueRequest h opOpen (.sessionOpenProve h sig)

/-- SESSION_CLOSE. -/
def effSessionClose (s : State) (h : MgmtHdr) : State := s.queueRequest h opClose (.sessionClose h)

/-- LEASE. -/
def effLease (s : State) (h : MgmtHdr) (part op seconds : Nat) : State :=
  s.queueRequest h opLease (.lease h part op seconds)

/-- STAGE_PULL (R259, R272): the switch die's own request; a session that it names is another's (R266). -/
def effStagePull (s : State) (h : MgmtHdr) : State :=
  s.receiveRequest h (.stagePull h) (fun s n =>
    let s := s.releaseCredits 2 n
    if h.requester != switchDie then (s.served).answer h opPull stUnsupported
    else if !(s.sessionOk h) then (s.served).answer h opPull stNoSession
    else ({ s with
      peal.mgmtWait := s.peal.mgmtWait ++ [Instr.stagePull h]
      peal.pullHeads := s.peal.pullHeads ++ [s.cmt.shadow] }).serveMgmt)

end State

end Sys2Proof.Machine
end

