-- ==== Sys2Proof/Machine/Logger.lean ====
section
/-! DEFINITION. The logger, the clocks and the chassis input (R30, R508 to R512). -/

namespace Sys2Proof.Machine

namespace State

/-- LOG_CFG.INTERVAL_S in force (R509). -/
def logInterval (s : State) : Nat := max 10 (s.cfg 0x564 31 16)

/-- LOG_CFG.BATCH in force (R509). -/
def logBatch (s : State) : Nat := clampTo 1 251 (s.cfg 0x564 15 8)

/-- LOG_CTRL.EN in force. -/
def logEn (s : State) : Bool := s.cfgBit 0x560 0

/-- XTAL_EN applies at an RTC second (R509, R511): the crystal starts, or the RTC leaves it. -/
def applyXtal (s : State) : State :=
  let s := s.boundary .rtcSecond
  if s.cfgBit 0x568 2 then
    (if s.log.xtal = 0 then { s with log.xtal := 1 } else s)
  else { s with log.xtal := 0 }

/-- The schedule of the logger moves on by a second; it starts anew at the tick at which EN takes
effect (R510). -/
def advanceSchedule (s : State) : State :=
  let was := s.logEn
  let s := s.boundary .loggerTick
  { s with log.nextDue := if s.logEn && !was then s.logInterval else s.log.nextDue - 1 }

/-- LOGGER_TICK (R509 to R511): the RTC reaches its next whole second; EN and LOG_CLK_CFG apply, the
schedule moves on, and the latched FLUSH and SAMPLE_NOW commands act. -/
def effLoggerTick (s : State) : State :=
  if !s.aonRuns then s
  else
    let s := s.elapse (second - s.clk.rtc % second)
    let s := s.advanceSchedule.applyXtal
    let flush := s.log.flushReq
    let s := { s with
      log.extra := s.log.extra || s.log.sampleNow, log.sampleNow := false, log.flushReq := false }
    if flush then s.requestBatch else s

/-- The sample that the logger takes now (R30). -/
def newSample (s : State) (temp : Int) : Sample :=
  { seconds := s.clk.rtc / second % 1099511627776
    flags := BitVec.ofNat 8 (bitNat s.log.fieldSeen + 2 * bitNat (s.usableSrc 0) +
      4 * bitNat s.clk.unsync)
    temp := temp, storeMv := s.pwr.gauge.storeMv
    vbatMv := if s.pwr.cellState = 0 then 0 else s.pwr.cellMv
    harv := s.pwr.gauge.harv10nw, voc := s.pwr.voc }

/-- A sample is skipped for energy (R185, R510). -/
def skipSample (s : State) : State := (s.countBy 0x578 31 16 1).raise 0x56C 2

/-- The open batch is committed when it holds BATCH samples, or more after BATCH was lowered (R510). -/
def fullBatch (s : State) : State :=
  if s.logBatch ≤ s.log.batch.length then s.requestBatch else s

/-- A sample joins the open batch, which is committed when it is full (R510). -/
def addSample (s : State) (temp : Int) : State :=
  let s := { s with
    log.batch := s.log.batch ++ [s.newSample temp], log.batchInterval := s.logInterval
    log.fieldSeen := s.fld.present }
  ((s.raise 0x56C 0).countBy 0x578 15 0 1).fullBatch

/-- The Logger job of one sample (R185, R186), at which PWR_TEMP is updated (R180): taken or skipped.
Each batch carries one interval: the open batch of another interval is committed first, and while its
commit cannot be granted the sample is skipped. -/
def runSample (s : State) (temp : Int) : State :=
  let s := { s.boundary .admission with pwr.temp := temp }
  let job : Job :=
    { id := s.cmt.nextId, queue := 2, cost := 270000, weight := 0, kind := .loggerSample }
  if s.verdict job != .grant then s.skipSample
  else
    let other := !s.log.batch.isEmpty && s.log.batchInterval != s.logInterval
    let s := if other then s.requestBatch else s
    if (other && !s.log.batch.isEmpty) || 251 ≤ s.log.batch.length then s.skipSample
    else s.addSample temp

/-- LOGGER_SAMPLE (R509, R510): the extra sample of SAMPLE_NOW, which leaves the schedule as it is,
or the scheduled one that has fallen due. -/
def effLoggerSample (s : State) (temp : Int) : State :=
  if !s.aonRuns then s
  else if s.log.extra then
    (({ s with log.extra := false }).boundary .loggerSample).fullBatch.runSample temp
  else if s.logEn && s.log.nextDue = 0 then
    let s := (s.boundary .loggerSample).fullBatch
    let s := { s with log.nextDue := s.logInterval }
    if s.loggerActive then s.runSample temp else s
  else s

/-- CRYSTAL_SWITCH (R511): the crystal has run within tolerance, and the RTC moves to it. -/
def effCrystalSwitch (s : State) : State :=
  if s.log.xtal = 1 then { s with log.xtal := 2 } else s

/-- CRYSTAL_FAIL (R511). -/
def effCrystalFail (s : State) : State :=
  if s.log.xtal = 1 || s.log.xtal = 2 then { s with log.xtal := 3 }.raise 0x56C 5 else s

/-- CLOCK_BACKUP (R511): the core moves to the backup oscillator until the next wired start-up. -/
def effClockBackup (s : State) : State :=
  if s.aonRuns && !s.log.backup then { s with log.backup := true }.raise 0x56C 6 else s

/-- CHASSIS_SAMPLE (R512). -/
def effChassisSample (s : State) (high : Bool) : State :=
  if !s.aonRuns then s
  else if high = s.log.chassisHigh then { s with log.chassisDiff := 0, log.chassisExit := none }
  else { s with log.chassisDiff := min 3 (s.log.chassisDiff + 1) }

/-- CHASSIS_CHANGE (R512): three consecutive samples differ. A level found changed at a CUTOFF exit
is stamped at the exit. -/
def effChassisChange (s : State) : State :=
  if s.log.chassisDiff < 3 then s
  else
    let s := { s with
      log.chassisHigh := !s.log.chassisHigh, log.chassisDiff := 0
      log.chassisAt := s.log.chassisExit.getD s.clk.rtc, log.chassisExit := none }
    (s.countBy 0x580 15 0 1).raise 0x56C 7

end State

end Sys2Proof.Machine
end

