-- ==== Sys2Proof/Machine/Group.lean ====
section
/-! DEFINITION. SEAL and COMMIT_GROUP with all that follows a commit point (R87, R88, R94), what waits for room at S1, and the bank self-test (R535). -/

namespace Sys2Proof.Machine

namespace State

/-- The lines that S7 programs: header and trailer of a run-ahead record, every sector of another
(R83). -/
def sealLines (s : State) (p : PipeRec) : List Prog :=
  if p.runAhead then s.pipeLines p 0 1 ++ s.pipeLines p (p.sectors - 1) 1
  else s.pipeLines p 0 p.sectors

/-- SEAL (R86, R94): stage S7 of the next record. -/
def effSeal (s : State) : State :=
  let k := (s.cmt.pipe.takeWhile (fun (p : PipeRec) => p.sealed)).length
  let t := s.sealNext
  match t.cmt.pipe[k]? with
  | some p => if p.sealed then t.touchAll (t.sealLines p) else s
  | none => s

/-- What waits for room at S1 is served (R85): internal records, frames, the register port's write,
management requests and closed captures. -/
def serveAll (s : State) : State := s.drain.serveFrames.serveMbx.serveMgmt.snareFeed

/-- The parties that waited for a record's commit point (R265, R286, R350, R445, R515, R521, R562). -/
def runHook (s : State) (q : PipeRec) : State :=
  let stroke := q.record.hdr.stroke
  let pl := q.record.payload
  match q.hook with
  | .none => s
  | .mgmtWrite h => s.complete h 0x11 stOk 0 (leBytes 8 stroke) []
  | .mbxWrite => s.endMbx .regp 0 0 (leBytes 8 stroke)
  | .timeSet p =>
    (s.audit 3 0xA (BitVec.ofNat 16 (leNat (slice pl 16 2))) (portIface p) stroke []).endMbx p 0 0 []
  | .fieldWrite fj => s.markApplied fj
  | .copy origin st => (s.countBy 0x240 15 0 1).sendPack 0 origin s.cid st
  | .keySlot slot p actor => (s.keyLoaded slot pl actor (portIface p)).endMbx p 0 0 []
  | .segment => s.segmentCommitted q
  | .manifest slot => s.manifestCommitted slot stroke
  | .batch => (s.raise 0x56C 1).count 0x57C
  | .captureEnd => s.raise 0x32C 1
  | .degrade => (s.raise 0x230 0).count 0x244

/-- All that follows one record's commit point (R89, R278). -/
def committed (s : State) (q : PipeRec) : State :=
  ((s.runHook q).releaseRec q).takeForMirror q.record

/-- COMMIT_GROUP (R87, R88): up to 8 sealed records commit, each in the mirror degree then in force
(R21); a host's USER_DATA reaches the field shadow (R326); then the boundary comes. -/
def effCommitGroup (s : State) : State :=
  let s := s.reseal
  match s.nextGroup with
  | [] => s
  | g =>
    let s := s.commitGroup g
    let s := g.foldl (fun s q => s.committed q) s
    let s := if g.any (fun q => q.record.hdr.typ == 0x70#8) then s.fixShadow else s
    s.groupBoundary.serveAll

/-- Seals every record that may pass S7 (R86). -/
def sealAll (s : State) : State := (List.range s.cmt.pipe.length).foldl (fun s _ => s.effSeal) s

/-- Commits what may commit, group by group (R87). -/
def commitAll (s : State) : State := (List.range 4).foldl (fun s _ => s.sealAll.effCommitGroup) s

/-- Steps 7 and 8 of a bank failure (R125): the records that were allocated again commit in their S1
order, then the CHAIN_BREAK records of the lost ranges (R127), then the rebuild has ended and a
checkpoint is due (R108). -/
def finishRebuild (s : State) : State := match s.cmt.rebuildTail with
  | none => s
  | some breaks =>
    let s := ({ s with cmt.rebuildTail := none }).commitAll
    let s := breaks.foldl (fun s b => s.createNow 0 0x80#8
      (auditPayload 0xE (s.source 0) 6 b.1 (leBytes 8 b.2))) s
    ({ s with cmt.rebuilding := false, cmt.ckptDue := true }).raise 0x0E8 4

/-- The spare lines that a bank self-test programs: those not yet in use (R535). -/
def testSpares (s : State) (bank : Nat) : State :=
  let used := nth s.arr.spareUsed bank
  s.touchAll ((List.range (255 - used)).map (fun k => ⟨bank, 32768 + used + k, 0x0F, 0⟩))

/-- BANK_SELFTEST (R535, R536): the admitted test of a bank ends. -/
def effBankSelftest (s : State) (low : List Nat) (badSpares : Nat) (timeout : Bool) : State :=
  match s.st.current with
  | none => s
  | some (_, bank) =>
    if 4 ≤ bank || nth s.arr.banks bank != 1 then s
    else
      let s := (s.testSpares bank).touchAll (low.map (fun l => s.ownLine bank l))
      let bad := min badSpares (255 - nth s.arr.spareUsed bank)
      let s := { s with
        arr.banks := setNth s.arr.banks bank 0
        arr.spareUsed := modNth s.arr.spareUsed bank (fun n => n + bad) }
      if timeout || 8 < badSpares then
        ((s.endSelftest 1 0 low.length 0 (some 0)).failBank bank).finishRebuild.startNextTest
      else
        let s := if 0 < bad && 255 - nth s.arr.spareUsed bank < 16 then s.raise 0x0E8 6 else s
        (s.endSelftest 0 0 low.length s.clk.rtc none).startNextTest

end State

end Sys2Proof.Machine
end

