-- ==== Sys2Proof/Machine/Recovery.lean ====
section
/-! DEFINITION. Recovery of the array (R113 to R115), the slot states (R150, R159), the keys (R441, R446), and a partition map that takes effect (R64, R66, R561). -/

namespace Sys2Proof.Machine

/-- The BOOT payload (R29). -/
def bootPayload (f : DarkFacts) : List Byte :=
  leBytes 4 f.bootCount ++ [BitVec.ofNat 8 f.cause, BitVec.ofNat 8 f.src, BitVec.ofNat 8 f.action, 0#8] ++
    leBytes 8 f.stroke ++ leBytes 8 f.ckptStroke ++ leBytes 4 f.abandoned ++ zeroBytes 4

/-- The movable partitions that the free pool serves, in placement order (R58, R561). -/
def movablePooled : List Nat := [3, 5, 6, 7, 8, 9]

/-- The REPART payload (R29). -/
def repartPayload (epoch : Nat) (setter : BitVec 16) (old new : List Nat) : List Byte :=
  leBytes 4 epoch ++ [0#8, 0#8] ++ leBytes 2 setter.toNat ++
    (List.range 11).flatMap (fun p => leBytes 2 (nth old p) ++ leBytes 2 (nth new p))

/-- The plan of a Knell that a power loss cut (R159): the end code POWER_LOST and the outcomes of the
committed bytes. What only AON held is lost with it, and the spec gives it no value: each is a free
value within its field's range (log entry 23). -/
def lostPlan (i : Intake) (dropCode : Nat) (f : Nat → Nat) : Plan :=
  let done := i.bytes.take (i.segsDone * 3968)
  let dir := if i.directory = 1 then 32 + 16 * i.sections.length else 0
  let outs := outcomes { i with bytes := done } dropCode i.sections 0 dir
  { i.plan with
    trigger := 1 + f 0 % 3, endCode := 5, cut := outs.any (fun o => 2 ≤ o.outcome)
    overwrote := f 1 % 2 = 1, downshift := f 2 % 2 = 1, bankFail := f 3 % 2 = 1
    width := nth [0, 1, 2, 4] (f 4 % 4), stored := done.length, limit := f 5 % 786433
    avail := f 6, capUf := f 7 % 2048, temp := (f 8 % 65536 : Nat) - 32768
    time := time64 (f 9), bracket := BitVec.ofNat 32 (f 10), atBoot := true, outcomes := outs }

namespace State

/-- The newest checkpoint set, which recovery loads (R113). -/
def newestCkpt (s : State) : Option Ckpt := s.arr.ckpts.head?

/-- The save-ring entry is at or above the newest checkpoint (R113). -/
def saveIsNewer (s : State) : Bool := match s.newestSave, s.newestCkpt with
  | some v, some c => c.strokeHead ≤ v.shadow
  | some _, none => true
  | none, _ => false

/-- What AON takes from the save ring or the checkpoint when it has lost its state (R25, R113):
local sequences, the bracket, and the floor of the stamps. -/
def restoreAon (s : State) : State :=
  let stampOf := fun (m : Nat) (r : Stored) => max m r.record.hdr.time
  let floor := s.arr.recs.foldl stampOf (max
    (match s.newestSave with | some v => v.stamp | none => 0)
    (match s.newestCkpt with | some c => c.stampFloor - 1 | none => 0))
  let s := { s with clk.lastStamp := floor }
  match s.saveIsNewer, s.newestSave, s.newestCkpt with
  | true, some v, _ => { s with cmt.localSeq := v.seqs, clk.bracket := v.bracket }
  | _, _, some c => { s with cmt.localSeq := c.seqs, clk.bracket := c.bracket }
  | _, _, none => s

/-- Brings the lagging copy of a counter up to the higher valid one (R113); the flag says whether
one was. -/
def levelToll (s : State) (c : Nat) : State × Bool :=
  let t := s.toll c
  match t.valA, t.valB with
  | some a, some b =>
    if a = b then (s, false) else if a < b then (s.tollWriteA c b, true) else (s.tollWriteB c a, true)
  | some a, none => if t.ringB.isSome then (s.tollWriteB c a, true) else (s, false)
  | none, some b => if t.ringA.isSome then (s.tollWriteA c b, true) else (s, false)
  | none, none => (s, false)

/-- Every counter's copies but those of CKPT are level again (R113). -/
def levelTolls (s : State) : State × Bool :=
  ((List.range 32).filter (fun c => c != 2)).foldl (fun (p : State × Bool) c =>
    let (s, done) := p.1.levelToll c
    (s, p.2 || done)) (s, false)

/-- A checkpoint set is complete: every record of it is there and valid (R113). -/
def setComplete (s : State) (epoch : Nat) : Bool :=
  match s.arr.ckpts.find? (fun c => c.epoch == epoch) with
  | some c => c.strokes.all (fun n => s.arr.recs.any (fun (r : Stored) =>
      r.record.hdr.stroke == n && r.intact))
  | none => false

/-- The choice of the checkpoint set by the CKPT copies (R113): a checkpoint cut between its steps has
copy A one ahead; its set counts when it is complete, and copy B follows A. The flag says whether copy
B was brought up. -/
def loadCkpt (s : State) : State × Bool :=
  match (s.toll 2).valA, (s.toll 2).valB with
  | some a, some b =>
    if a = b + 1 then
      let e := if s.setComplete a then a else b
      let s := { s with arr.ckpts := s.arr.ckpts.filter (fun c => c.epoch ≤ e) }
      (s.tollWriteB 2 a, true)
    else (s, false)
  | _, _ => (s, false)

/-- The live stroke toll in AON: the higher copy whose parity checks (R100), none when neither does. -/
def liveStroke (s : State) : Option Nat :=
  match parity64 s.cmt.shadow == s.cmt.par, parity64 s.cmt.shadowB == s.cmt.parB with
  | true, true => some (max s.cmt.shadow s.cmt.shadowB)
  | true, false => some s.cmt.shadow
  | false, true => some s.cmt.shadowB
  | false, false => none

/-- The stored stroke toll, none when one of its counters has no valid copy. -/
def storedBound (s : State) : Option Nat := match s.tollStored 0, s.tollStored 1 with
  | some a, some b => some (a + 4294967296 * b)
  | _, _ => none

/-- The values of which S is the highest (R113): the shadow, the stored stroke toll, the newest save. -/
def strokeBounds (s : State) : List Nat :=
  s.liveStroke.toList ++ s.storedBound.toList ++ (s.newestSave.map (fun v => v.shadow)).toList

/-- S when none of its three values exists (R115): the highest stroke number of an entry whose two copies
are valid and whose record verifies, and no less than the checkpoint's stroke head. -/
def fallbackStroke (s : State) : Nat :=
  let good := s.arr.journal.filter (fun e => e.kind == .record && e.okA && e.okB &&
    s.arr.recs.any (fun (r : Stored) => r.record.hdr.stroke == e.stroke && r.intact))
  good.foldl (fun m e => max m e.stroke)
    (match s.newestCkpt with | some c => c.strokeHead | none => 0)

/-- S of R113 and R115. -/
def recoveredStroke (s : State) : Nat := match s.strokeBounds with
  | [] => s.fallbackStroke
  | l => l.foldl max 0

/-- Entries with one valid copy are programmed again from it (R113); the flag says whether one was. A slot
with neither holds no entry. -/
def rollForward (s : State) (top : Nat) : State × Bool :=
  let es := s.arr.journal.filter (fun e => e.okA || e.okB)
  let half := es.filter (fun e => e.stroke ≤ top && !(e.okA && e.okB))
  let lines := half.map (fun e =>
    s.journalLine (if e.okA then journalExtB e.slot else journalExtA e.slot) e.slot)
  let s := s.touchAll lines
  ({ s with arr.journal := es.map (fun e =>
      if e.stroke ≤ top then { e with okA := true, okB := true } else e) }, !half.isEmpty)

/-- The stroke numbers of the records whose entry has one valid copy: without a valid S they are rolled
back (R115). -/
def halfStrokes (s : State) : List Nat :=
  (s.arr.journal.filter (fun e => e.kind == .record && !(e.okA && e.okB))).map (fun e => e.stroke)

/-- The chain fields of a partition in the newest checkpoint set, unless their record is rolled back. -/
def ckptLink (s : State) (p : Nat) (out : Nat → Bool) : Nat × BitVec 64 := match s.newestCkpt with
  | some c => match c.parts[p]? with
    | some x => if out x.stroke then (0, 0#64) else (x.stroke, x.link)
    | none => (0, 0#64)
  | none => (0, 0#64)

/-- The newest record of one partition after a roll-back: the newest that it holds, or the checkpoint's when
no record since is left (R67). -/
def rollPart (s : State) (p : Nat) (out : Nat → Bool) : State :=
  let base := s.ckptLink p out
  let (stroke, link) := match ((s.recsOf p).foldl insertStored []).getLast? with
    | some r => if base.1 < r.record.hdr.stroke then (r.record.hdr.stroke, r.record.link) else base
    | none => base
  s.modPart p (fun x => { x with newestStroke := stroke, newestLink := link })

/-- Undoes one extent change (R92, R113): the logical extent returns to its old physical extent, and the
records that it had reclaimed are there again, unless a change undone before had put the old extent to
other use. -/
def undoChange (p : State × List Nat) (c : ExtChange) (out : Nat → Bool) : State × List Nat :=
  let (s, reused) := p
  let s := ((s.giveFree c.new).takeFree c.old).setCode c.part c.ext c.old
  let s := s.modPart c.part (fun x => { x with used := c.used })
  let back := (if reused.contains c.old then [] else c.recs).filter (fun r => !out r.record.hdr.stroke)
  let voids := s.arr.voids.filter (fun v => !(v.part == c.part && v.sector / extSectors == c.ext))
  let s := { s with
    arr.recs := back.foldl insertStored s.arr.recs
    arr.voids := voids ++ (if reused.contains c.old then [] else c.voids) }
  (s, c.new :: reused)

/-- Undoes the extent changes of the records rolled back, the latest first; an extent that a record left
uses stays (R92). -/
def undoChanges (s : State) (out : Nat → Bool) : State :=
  let uses := fun (c : ExtChange) => (s.recsOf c.part).any (fun r => r.sector / extSectors == c.ext)
  let late := fun (c : ExtChange) => out c.stroke && !uses c
  let t := ((s.arr.changes.filter late).reverse.foldl (fun p c => undoChange p c out) (s, [])).1
  { t with arr.changes := t.arr.changes.filter (fun c => !late c) }

/-- The place of a committed record that is rolled back (R92). -/
def vacateStored (s : State) (r : Stored) : State :=
  let p := r.record.hdr.part
  s.vacate p r.sector (sectorsOf r.record.hdr.length)
    (if p ≤ 1 then s.fixedLines p r.sector 1 else s.linesOf p r.sector 1 [])

/-- Rolls back the records whose stroke numbers are `out` (R92, R113, R115), the newest first: the
records, their entries, their extents and what these had reclaimed; the number says how many. -/
def rollBack (s : State) (out : Nat → Bool) : State × Nat :=
  let gone := (s.arr.recs.filter (fun r => out r.record.hdr.stroke)).foldl insertStored []
  let s := { s with arr.journal := s.arr.journal.filter (fun e => !out e.stroke) }
  if gone.isEmpty then (s, 0)
  else
    let s := { s with arr.recs := s.arr.recs.filter (fun r => !out r.record.hdr.stroke) }
    let s := (gone.reverse.foldl (fun s r => s.vacateStored r) s).undoChanges out
    let parts := (gone.map (fun r => r.record.hdr.part)).eraseDups
    ((parts.foldl (fun s p => s.rollPart p out) s).countBy 0x104 31 0 gone.length, gone.length)

/-- The stroke head of the checkpoint from which recovery starts. -/
def ckptHeadStroke (s : State) : Nat := match s.newestCkpt with
  | some c => c.strokeHead
  | none => 0

/-- The records between the checkpoint's stroke head and S that recovery cannot claim (R113, R116): no
entry names them, and the scan from the partition heads, which takes records above the highest stroke
applied that verify, does not find them. -/
def unclaimed (s : State) (top : Nat) : List Stored :=
  let strokes := (s.arr.journal.filter (fun e => e.kind == .record)).map (fun e => e.stroke)
  let applied := strokes.foldl max s.ckptHeadStroke
  s.arr.recs.filter (fun r =>
    let n := r.record.hdr.stroke
    s.ckptHeadStroke < n && n ≤ top && !strokes.contains n && !(applied < n && r.intact))

/-- The claiming scan (R113): what cannot be claimed is gone, and each partition concerned has a chain
break at the first record after it (R116). -/
def claim (s : State) (top : Nat) : State × List (Nat × Nat) :=
  let lost := s.unclaimed top
  if lost.isEmpty then (s, [])
  else
    let gone := lost.map (fun r => r.record.hdr.stroke)
    let s := { s with arr.recs := s.arr.recs.filter (fun (r : Stored) =>
      !gone.contains r.record.hdr.stroke) }
    let parts := (lost.map (fun r => r.record.hdr.part)).eraseDups
    (s, parts.map (fun p =>
      let first := ((lost.filter (fun r => r.record.hdr.part == p)).foldl insertStored []).headD
        (factoryStored identityRec)
      let after := ((s.recsOf p).filter (fun r =>
        first.record.hdr.stroke < r.record.hdr.stroke)).foldl insertStored []
      (p, match after.head? with | some r => r.record.hdr.stroke | none => 0)))

/-- Applies one journal entry to the streams and the local sequences (R113). -/
def applyEntry (s : State) (e : Entry) : State :=
  if e.kind != .record then s
  else
    let loc := e.source.toNat % 1024
    let s := s.setStream e.source e.cls (e.seq + 1#32)
    if loc < 9 then s.laterSeq loc e.cls (e.seq + 1#32) else s

/-- The INTERNAL streams whose numbers the save does not hold take them from the stream table when AON has
lost its state (log entry 73). -/
def seedInner (s : State) : State :=
  [1, 4, 7].foldl (fun s loc => match s.streamOf (s.source loc) 6 with
    | some e => s.setSeq loc 6 e
    | none => s) s

/-- The streams of the checkpoint and of the entries since it (R113, R114, R539). -/
def rebuildStreams (s : State) : State :=
  let base := match s.newestCkpt with | some c => c.streams | none => []
  let s := { s with cmt.streams := base }
  s.arr.journal.foldl (fun s e => if e.okA || e.okB then s.applyEntry e else s) s

/-- Recovery takes the fast path (R114): AON kept power, or the newest save ended a clean stop and no
entry was written after the checkpoint. -/
def fastPath (s : State) (aonKept : Bool) : Bool :=
  aonKept || match s.newestSave, s.newestCkpt with
    | some v, some c => v.clean && v.journalPos == (c.journalPos + c.strokes.length) % 8192
    | _, _ => false

/-- What a recovery finds: whether a copy, counter or checkpoint was completed, how many records were
rolled back, and the chain breaks of strokes that it could not claim. -/
structure Recovered where
  completed : Bool
  gone : Nat
  breaks : List (Nat × Nat)

/-- The full journal scan (R113, R115). -/
def fullScan (s : State) : State × Recovered :=
  let (s, level) := s.levelTolls
  let (s, ckpt) := s.loadCkpt
  let known := !s.strokeBounds.isEmpty
  let top := s.recoveredStroke
  let torn := if known then [] else s.halfStrokes
  let (s, half) := if known then s.rollForward top else (s, false)
  let (s, gone) := s.rollBack (fun n => top < n || torn.contains n)
  let (s, breaks) := s.claim top
  ((s.setShadow top).rebuildStreams,
    { completed := level || ckpt || half, gone := gone, breaks := breaks })

/-- The fast path (R114): the checkpoint is loaded; intact retained state is used as it stands, and
otherwise each entry since the checkpoint is applied, or abandoned above S. -/
def fastScan (s : State) (retained : Bool) : State × Recovered :=
  let (s, ckpt) := s.loadCkpt
  let top := s.recoveredStroke
  if retained then (s.setShadow top, { completed := ckpt, gone := 0, breaks := [] })
  else
    let (s, gone) := s.rollBack (fun n => top < n)
    ((s.setShadow top).rebuildStreams, { completed := ckpt, gone := gone, breaks := [] })

/-- Recovery (R113 to R115). -/
def recover (s : State) (f : StartFacts) : State × Recovered :=
  let (s, r) := if s.fastPath f.aonKept then s.fastScan f.retained else s.fullScan
  (if f.aonKept then s else s.seedInner, r)

/-- The slot states that the array gives (R150): COMPLETE when the manifest lies at or below the
stroke head of the loaded checkpoint. -/
def deriveSlot (s : State) (k : Nat) (x : Slot) : Slot :=
  let dead := fun b => nth s.arr.banks b = 2
  let a := dead (k % 4)
  let b := dead ((k + 1) % 4)
  let rs := s.slotRecords k
  let segs := rs.filter (fun r => r.record.hdr.typ == 0x21#8)
  let man := match rs.find? (fun r => r.record.hdr.typ == 0x20#8) with
    | some r => r.record.hdr.stroke
    | none => 0
  let top := match s.newestCkpt with | some c => c.strokeHead | none => 0
  let x := { x with oneImage := decide a || decide b }
  if a && b then { x with state := 4 }
  else match segs with
    | [] => { x with state := 0, firstStroke := 0, segments := 0, manifest := 0 }
    | r :: _ => { x with
        state := if man ≠ 0 && man ≤ top then 3 else 2
        firstStroke := r.record.hdr.stroke, segments := segs.length, manifest := man }

/-- Recovery derives every slot's state (R150). -/
def deriveSlots (s : State) : State :=
  { s with kn.slots := ((List.range 8).zip s.kn.slots).map (fun p => s.deriveSlot p.1 p.2) }

/-- KNL_LAST and its sizes after AON has lost them: those of the newest bundle's manifest,
or of its plan where a power loss cut the Knell (log entry 23). -/
def reloadLast (s : State) : State :=
  let newest := ((List.range 8).zip s.kn.slots).foldl (fun (m : Option (Nat × Slot)) e =>
    if e.2.state != 2 && e.2.state != 3 then m
    else match m with
      | some y => if y.2.number < e.2.number then some e else m
      | none => some e) none
  match newest with
  | none => s
  | some (k, x) =>
    let s := { s with kn.closedSlot := k }
    match s.arr.recs.find? (fun r => x.manifest != 0 && r.record.hdr.stroke == x.manifest) with
    | none =>
      match s.kn.plans.find? (fun p => p.number == x.number) with
      | some p =>
        { s with
          kn.lastTrigger := p.trigger, kn.lastEnd := p.endCode, kn.lastSegs := x.segments
          kn.lastAnnounced := p.announced, kn.lastStored := p.stored }
      | none => { s with kn.lastSegs := x.segments }
    | some r =>
      let pl := r.record.payload
      { s with
        kn.lastTrigger := byteAt pl 8, kn.lastEnd := byteAt pl 9, kn.lastSegs := x.segments
        kn.lastAnnounced := leNat (slice pl 12 4), kn.lastStored := leNat (slice pl 16 4) }

/-- The highest capture number in the Snare partition (R369): SNARE_TRIG and SNARE_WAVE records carry one. -/
def highestCapture (s : State) : Word :=
  BitVec.ofNat 32 (((s.recsOf 5).filter (fun r =>
    r.record.hdr.typ == 0x30#8 || r.record.hdr.typ == 0x31#8)).foldl (fun m r =>
    max m (leNat (slice r.record.payload 0 4))) 0)

/-- A Knell that the power loss cut (R152, R159): its slot is PENDING when a segment has committed,
and in its former state otherwise. -/
def cutKnell (s : State) : State := match s.kn.intake with
  | none => s
  | some i => match i.claimed with
    | none => { s with kn.intake := none }
    | some k =>
      if i.segsDone = 0 then { s.modSlot k (fun _ => i.slotWas) with kn.intake := none }
      else { (s.modSlot k (fun x => { x with state := 2, segments := i.segsDone, manifest := 0 })) with
        kn.intake := none
        kn.plans := [lostPlan i s.kn.dropCode (fun k => Config.freeNat (s.fresh + k))]
        fresh := s.fresh + 11 }

/-- The read of the Keys partition (R441). -/
def readKeys (s : State) : State :=
  let ks := (s.recsOf 1).filter (fun r => r.record.hdr.typ == 0xA0#8)
  let slotOf := fun (r : Stored) => byteAt r.record.payload 0
  let bad := (ks.filter (fun r => !r.intact)).map slotOf
  let s := { s with
    ses.keys := (ks.filter (fun r => r.intact)).map (fun r => (slotOf r, r.record.payload))
    ses.damaged := bad }
  bad.foldl (fun s k => (s.raise 0x014 5).auditSelf 6 0xD (0x30 + k) []) s

/-- Recovery completes an owner change that a power loss cut (R446). -/
def completeOwner (s : State) : State :=
  if 3 ≤ s.epoch || !(s.ses.keys.any (fun k => k.1 == 5 + s.epoch)) then s
  else
    let e := s.epoch + 1
    ((s.tollUpdate 4 e).auditSelf 6 0xC e []).raise 0x4A8 8

/-- The shadow is compared with the array and fixed where it differs (R326). -/
def compareShadow (s : State) : State :=
  if s.shadowWanted = s.fmem then s else (s.fixShadow).raise 0x2D0 8

/-- Steps 1 to 3 of a start-up (R525), with the facts of its BOOT record. Of the CHECKPOINT set that recovery
used, BOOT names the stroke number of the first record (R29; DESIGN CHOICE, log entry 100). -/
def runRecovery (s : State) (f : StartFacts) : State × DarkFacts :=
  let count := (s.tollValue 3 + 1) % 4294967296
  let s := s.tollUpdate 3 count
  let (s, r) := s.recover f
  let used := match s.newestCkpt with | some c => c.strokes.headD 0 | none => 0
  let action := if f.rolled || 0 < r.gone then 2 else if r.completed then 1 else 0
  let s := if action = 0 then s else s.raise 0x0E8 3
  let facts : DarkFacts := {
    cause := f.cause, src := f.src, action := action, abandoned := f.lost + r.gone, bootCount := count
    stroke := s.cmt.shadow, ckptStroke := used, breaks := r.breaks }
  let s := (s.deriveSlots.compareShadow).replayJournal
  let s := if s.clk.unsync then s.raise 0x56C 4 else s
  ({ s with cmt.loaded := true, rf.cause := BitVec.ofNat 32 (f.cause + 256 * f.src + 4096 * action) }, facts)

/-- The extents of fixed placement that stay with their owner when a map takes effect whose Knell images
begin at `base`: those of Identity and Keys (R64), and the places of images that the new map has as well. -/
def keepsFixed (base : Nat) (e : Nat × Nat) : Bool := codeExt e.1 < 8 || base ≤ codeExt e.1

/-- The extents of a bank that a map leaves free (R561): those below the Knell images that partitions
2 and 10 do not hold, and to which retirement has moved nothing that stays (R119). -/
def mapPool (s : State) (base b : Nat) : List Nat :=
  if nth s.arr.banks b = 2 then []
  else
    let held := [2, 10].flatMap (fun p => (List.range (s.extentsOf p)).map (fun k => s.codeOf p k)) ++
      (s.arr.fixedMap.filter (keepsFixed base)).map (fun e => e.2)
    (List.range' 8 (base - 8)).filter (fun e =>
      !held.contains (extCode b e) && !s.arr.retired.contains (b, e))

/-- Moves the extents of partitions 2 and 10 that lie where the new Knell images go (R561). -/
def clearImages (s : State) (base : Nat) : State :=
  let here := [2, 10].flatMap (fun p => ((List.range (s.extentsOf p)).filter (fun k =>
    base ≤ codeExt (s.codeOf p k))).map (fun k => (p, k)))
  here.foldl (fun s e =>
    let was := s.codeOf e.1 e.2
    match s.pickFree (codeBank was) [] with
    | none => s
    | some x =>
      let code := extCode (codeBank was) x
      let s := (s.stampEpoch [code] (s.tollValue 2)).touchAll (extentLines e.1 e.2 code)
      ((s.journal [extentEntry e.1 e.2 code was s.cmt.shadow]).takeFree code).setCode e.1 e.2 code) s

/-- The places of the new Knell images that have retired before move to free extents (R119). -/
def fixImages (s : State) (base : Nat) : State :=
  (s.arr.retired.filter (fun r => base ≤ r.2 && s.fixedCode (extCode r.1 r.2) == extCode r.1 r.2)).foldl
    (fun s r => match s.pickFree r.1 [] with
      | none => s
      | some x =>
        let home := extCode r.1 r.2
        let s := (s.stampEpoch [extCode r.1 x] (s.tollValue 2)).takeFree (extCode r.1 x)
        { s with arr.fixedMap := nset s.arr.fixedMap home (extCode r.1 x) home }) s

/-- Places one movable partition anew (R561), with the extents it takes in the banks in service
(R66): those of its stated size that fall in them, three quarters with one bank failed. -/
def placePart (s : State) (p : Nat) : State :=
  let size := nth s.arr.sizes p
  let full := 16 * size
  let exts := full * s.liveBanks.length / 4
  let s := { s with cmt.parts := setNth s.cmt.parts p { newPart size 0 0 0#64 with extents := exts } }
  (List.range exts).foldl (fun s k =>
    let b := s.bankFor p k
    match s.pickFree b [] with
    | some e => ((s.stampEpoch [extCode b e] (s.tollValue 2)).takeFree (extCode b e)).setCode p k
        (extCode b e)
    | none => s) s

/-- A pending map takes effect (R64, R66, R561): the movable partitions are emptied and placed anew,
and their chains restart (R68), whatever an earlier checkpoint says of them. The answer names the sizes
before and after. -/
def applyMap (s : State) (sizes : List Nat) : State × List Nat × List Nat :=
  let old := (List.range 11).map (fun p => s.sizeNow p)
  let base := 1056 - 4 * nth sizes 4
  let kept := fun (p : Nat) => p ≤ 2 || p = 10
  let s := { s with
    arr.recs := s.arr.recs.filter (fun r => kept r.record.hdr.part)
    arr.voids := s.arr.voids.filter (fun v => kept v.part)
    arr.losses := s.arr.losses.filter (fun l => kept l.part)
    arr.journal := s.arr.journal.filter (fun e => kept e.part)
    arr.changes := s.arr.changes.filter (fun c => kept c.part)
    arr.fixedMap := s.arr.fixedMap.filter (keepsFixed base)
    arr.ckpts := s.arr.ckpts.map (fun (c : Ckpt) => { c with
      parts := ((List.range c.parts.length).zip c.parts).map (fun (x : Nat × CorePart) =>
        if kept x.1 then x.2 else { x.2 with stroke := 0 }) })
    arr.free := (List.range 4).map (fun b => s.mapPool base b)
    arr.mapPending := none }
  let s := (s.clearImages base).fixImages base
  let s := { s with
    arr.sizes := sizes
    cmt.parts := setNth s.cmt.parts 4 (newPart (nth sizes 4) 0 0 0#64)
    kn.plans := [], kn.mirrorPend := [] }
  let s := movablePooled.foldl (fun s p => s.placePart p) s
  let s := s.tollUpdate 5 ((s.tollValue 5 + 1) % 4294967296)
  let s := (s.deriveSlots).fixShadow
  (s, old, (List.range 11).map (fun p => s.sizeNow p))

/-- The map that waits takes effect at a device reset (R64). -/
def takeMap (s : State) (device : Bool) : State × Option (Nat × BitVec 16 × List Nat × List Nat) :=
  match device, s.arr.mapPending with
  | true, some (sizes, epoch, setter) =>
    let (s, old, new) := s.applyMap sizes
    (s, some (epoch, setter, old, new))
  | _, _ => (s, none)

/-- The REPART record and then REPART_DONE (R64). -/
def recordMap (s : State) (m : Option (Nat × BitVec 16 × List Nat × List Nat)) : State := match m with
  | none => s
  | some (epoch, setter, old, new) =>
    let s := s.createNow 0 0x07#8 (repartPayload epoch setter old new)
    s.createNow 0 0x80#8 (auditPayload 8 setter (if setter.toNat % 1024 = 5 then 5 else 2) s.cmt.shadow [])

end State

end Sys2Proof.Machine
end

