-- ==== Sys2Proof/Machine/Startup.lean ====
section
/-! DEFINITION. Start-ups and resets (R523 to R531), long darkness and CUTOFF (R197), and the SHIP request (R198). -/

namespace Sys2Proof.Machine

/-- Registers held in AON (R169, R200, R319, R461, R494, R508); those of the other blocks return to
reset at every start-up (R531). -/
def aonReg (off : Nat) : Bool :=
  off < 0x0E0 || (0x160 ≤ off && off < 0x1A0) || (0x2A0 ≤ off && off < 0x320) ||
    (0x4A0 ≤ off && off < 0x520) || 0x560 ≤ off

/-- A source that has failed with a test code, as a save-ring entry keeps it (R102, R403). -/
def savedSource (code : Nat) : Source := if code = 0 then {} else { state := 5, code := code }

/-- The next logger sample of a tag whose AON starts from reset: INTERVAL_S is 600 (R509, R527). -/
def freshLog : Log := { nextDue := 600 }

namespace State

/-- What every start-up finds gone (R524, R531): the registers of CORE and SNARE, the uncommitted
records, every queue and engine outside AON, and the Stream Port's state. The noise sources that serve a
field session run on (R393, R408). The answer also tells how many run-ahead records were lost, and whether
any record was. -/
def clearCore (s : State) : State × Nat × Bool :=
  let lost := (s.cmt.pipe.filter (fun (p : PipeRec) => p.runAhead)).length
  let rolled := !s.cmt.pipe.isEmpty
  let s := s.resetRegs aonReg
  let s := s.cmt.pipe.reverse.foldl (fun s p => s.abandon p) s
  let s := { s with
    cmt.pipe := [], cmt.s1wait := [], cmt.ckptDue := false, cmt.scrubReq := false
    cmt.pulseRetries := [], cmt.retires := [], cmt.rebuildTail := none, cmt.loaded := false
    pwr.jobs := s.pwr.jobs.filter (fun j => j.kind == JobKind.batch), pwr.grants := [], pwr.deferred := [], pwr.waiting := []
    stm := {}, lnk := {}, peal := {}, snr := { capNum := s.snr.capNum } }
  let s := { s with
    ent := { a := s.ent.a, b := s.ent.b }
    kn.state := 0, kn.signWait := none, kn.cellCons := false
    fldx.mapBuilt := false, fldx.exportPend := none
    grd := { live := s.grd.live, shadow := s.grd.shadow }
    clk.rtcLoad := none
    boot.resetLow := false, boot.keyedPending := none, boot.keyedStop := false
    boot.s1Stopped := false }
  let s := { s with
    rf.keyArmed := [], rf.prevReject := [], rf.notices := [], rf.result := 0, rf.sdo := [], rf.mbx := {}
    rf.ready := false }
  (s, lost, rolled)

/-- The self-tests are forgotten; a bank under test is in service again (R534). -/
def forgetTests (s : State) : State :=
  { s with st := {}, arr.banks := s.arr.banks.map (fun b => if b = 1 then 0 else b) }

/-- A device reset with AON powered (R529, R531): the GLB registers and the guards return to reset,
the sessions close, failed entropy sources may start again, the self-tests are forgotten. -/
def deviceClear (s : State) : State :=
  let s := s.closeAllCtx
  let s := s.resetRegs (fun off => 0x060 ≤ off)
  let s := (s.resetGuards).stopField
  { s with
    rf := { cur := s.rf.cur, inForce := s.rf.inForce, pend := s.rf.pend }
    ent := {}, ses.expired := []
    pwr.domOn := (List.range 20).map (fun d => d ≤ 1 && s.domOn d) }.forgetTests

/-- AON has lost its state (R197, R531): everything in it returns to reset. The slots of COMPLETE
bundles are to be mirrored again, held audit records are lost. -/
def aonClear (s : State) : State :=
  let held := !s.cmt.auditHeld.isEmpty
  let cut := match s.kn.intake with | some i => i.claimed.isSome && 0 < i.segsDone | none => false
  let s := s.cutKnell
  let plans := if cut then s.kn.plans else []
  let s := { (s.resetRegs (fun _ => false)).stopField with rf := {} }
  let s := { s with
    cmt.auditHeld := [], cmt.innerSeq := [0#32, 0#32, 0#32], pwr := {}
    kn := { slots := s.kn.slots, plans := plans }
    fld := { inv := s.fld.inv, sl := s.fld.sl }, fldx := {}
    grd := {}, ses := { keys := s.ses.keys, damaged := s.ses.damaged }
    log := freshLog, boot := {} }
  let s := (s.forgetTests.deriveSlots).reloadLast
  let s := { s with
    kn.mirrorPend := (List.range 8).filter (fun k => (s.kn.slots.getD k emptySlot).state == 3)
    snr := { capNum := s.highestCapture } }
  let s := (s.raise 0x014 2).raise 0x070 7
  let s := if held then s.raise 0x014 7 else s
  (if cut then s.raise 0x168 6 else s).restoreAon

/-- Both copies of the shadow without power. -/
def blankShadow (s : State) : State :=
  { s with cmt.shadow := 0, cmt.shadowB := 0, cmt.par := true, cmt.parB := true }

/-- The shadow as the array gives it (R113): the highest value of its bounds, where there is one. -/
def shadowFromArray (s : State) : State := match s.strokeBounds with
  | [] => s
  | l => s.setShadow (l.foldl max 0)

/-- The RTC and the toll shadow are lost as well (R172, R531): records carry TIME_UNSYNC, and the
shadow comes from the array (R113). The RTC starts from 0 (DESIGN CHOICE, log entry 24). -/
def loseTime (s : State) : State :=
  let s := s.blankShadow.shadowFromArray
  { s with clk.rtc := 0, clk.unsync := true, ent := {} }.raise 0x56C 4

/-- Commits the CHAIN_BREAK records of what a recovery could not claim (R116). -/
def commitBreaks (s : State) (breaks : List (Nat × Nat)) : State :=
  breaks.foldl (fun s b => s.createNow 0 0x80#8
    (auditPayload 0xE (s.source 0) 6 b.1 (leBytes 8 b.2))) s

/-- Commits the BOOT records of a wired start-up (R116, R528): that of a held dark start-up first. -/
def commitBoots (s : State) (f : DarkFacts) : State :=
  let s := match s.boot.dark with
    | some d => (s.createNow 0 0x04#8 (bootPayload d)).commitBreaks d.breaks
    | none => s
  { (s.createNow 0 0x04#8 (bootPayload f)).commitBreaks f.breaks with boot.dark := none }

/-- Plans of slots that a start-up finds PENDING without a manifest (R164). -/
def markAtBoot (s : State) : State :=
  let open_ := fun (p : Plan) =>
    let x := s.kn.slots.getD p.slot emptySlot
    x.state == 2 && x.manifest == 0
  { s with kn.plans := s.kn.plans.map (fun p => if open_ p then { p with atBoot := true } else p) }

/-- A rebuild that a Knell or recovery held back runs at the power-up (R128). -/
def repeatRebuild (s : State) : State :=
  if !s.cmt.rebuilding then s
  else
    let todo := (List.range 4).filter (fun b => nth s.arr.banks b = 2 && !(s.inService b).isEmpty)
    if todo.isEmpty then { s with cmt.rebuilding := false }
    else (todo.foldl (fun s b => s.rebuild b) s).finishRebuild

/-- The supplies and domains of a wired start-up (R526): TAG_VAUX feeds the tag, TAG_HOLD is charged
and measured, CORE, the array, the link, the Snare and the noise sources wake. The field clock is trimmed
against the core clock (R295): what the trim comes to is a free value (log entry 91). -/
def wireUp (s : State) : State :=
  let s := { s with
    pwr.usable := setNth s.pwr.usable 0 true, pwr.vauxOk := true, pwr.step := 0
    rf := (if s.pwr.step = 0 then s else s.raise 0x070 4).rf
    pwr.shipReq := false, pwr.pumpOn := true, pwr.holdMeasuring := true, pwr.darkSince := none
    pwr.mode := 1, kn.state := 0, log.backup := false, fld.supply := 0, boot.darkPending := none
    cmt.recovering := true
    fld.trim := some (Config.freeNat s.fresh), fresh := s.fresh + 1 }
  ((s.setDom 0 true).wakeArray.wakeLink).entPower

/-- A wired start-up (R525, R526): recovery, BOOT, the map that waited, the closing checkpoint, the
keys, and READY with all that it lets begin. -/
def wiredStart (s : State) (f : StartFacts) : State :=
  let s := s.wireUp
  let (s, facts) := s.runRecovery f
  let (s, m) := s.takeMap f.device
  let s := (s.commitBoots facts).recordMap m
  let s := { s with cmt.recovering := false }
  let s := (s.takeCkpt).completeSlots.markAtBoot
  let s := (s.readKeys).completeOwner
  let s := { s with rf.ready := true }.raise 0x014 0
  let s := (s.snareWake true).repeatRebuild.queueCons
  s.serveAll.startNextTest.wakePinned

/-- A dark start-up runs (R527): recovery and the keys, without BOOT record and checkpoint; a rebuild that a
Knell held back is repeated (R128). -/
def darkStart (s : State) (f : StartFacts) : State :=
  let s := (s.wakeArray).runRecovery f
  let (s, facts) := s
  let (s, m) := s.takeMap f.device
  let s := { s with boot.darkPending := none, boot.dark := some facts, cmt.recovering := false }
  let s := s.recordMap m
  ((s.readKeys).completeOwner.repeatRebuild.queueCons).serveAll

/-- Without TAG_VAUX a start-up is deferred (R527): until it has run, S1 accepts nothing. -/
def deferStart (s : State) (f : StartFacts) : State :=
  let s := if s.pwr.step = 0 then s.raise 0x070 5 else s
  { s with
    boot.darkPending := some f, cmt.recovering := true, pwr.step := 7, pwr.vauxOk := false
    pwr.mode := 3 }.fixMode

/-- The first usable source in the order of R171 (R29 byte 5). -/
def firstSource (s : State) : Nat := ((List.range 6).find? (fun c => s.usableSrc c)).getD 0

/-- A start-up with its facts: wired above the trip level, deferred otherwise. A device reset forgets the
ranges lost to earlier bank failures, which BANK_LOSS then no longer lists (R519). -/
def startUp (s : State) (f : StartFacts) : State :=
  let s := if f.device then { s with arr.losses := [] } else s
  if s.wired then s.wiredStart f else s.deferStart f

/-- The supply with which AON starts: TAG_VAUX, or the source named; the harvester starts cold (R177). A
cell from which AON starts is usable before its first measurement (R171; DESIGN CHOICE, log entry 86). -/
def supplyUp (s : State) (vaux : Bool) (src : Nat) : State :=
  let s := { s with
    pwr.usable := setNth s.pwr.usable (if vaux then 0 else src) true, pwr.vauxOk := vaux
    pwr.mode := 3, pwr.domOn := (List.range 20).map (fun d => d = 0) }
  if !vaux && src = 4 then
    ({ s.setDom 1 true with pwr.harvRunning := true }).raise 0x070 3
  else s

/-- AON starts again while the tank feeds a field session of `t` (R298): FDIG and its noise source have
kept their state, and what AON held of the session is gone (log entry 91). -/
def keepField (t s : State) : State :=
  if t.fld.st = 0 || !t.fld.tank then s
  else
    let s := { s with
      fld := { t.fld with
        supply := 0, trim := s.fld.trim, priv := min t.fld.priv 3, pwCount := 0, lockout := false
        wake := false, wakeCause := 0, wakeStart := none, wakeLevel := false, gwReason := 0#8 }
      fldx.reply := t.fldx.reply, log.fieldSeen := true
      ent.a := if t.domOn 14 then t.ent.a else s.ent.a
      ent.b := if t.domOn 15 then t.ent.b else s.ent.b
      pwr.domOn := (List.range 20).map (fun d => s.domOn d ||
        ((d == 2 || d == 3 || d == 14 || d == 15) && t.domOn d)) }
    ((s.raise 0x2AC 0).raise 0x070 1).feedField

/-- POWER_ON (R523, R531): AON starts after losing all power. -/
def effPowerOn (s : State) (vaux : Bool) (src : Nat) : State :=
  if !vaux && (src = 0 || 6 ≤ src) then s
  else
    let t := s
    let (s, lost, rolled) := s.clearCore
    let s := s.aonClear.loseTime
    let s := keepField t (s.supplyUp vaux src)
    s.startUp { cause := 1, src := if vaux then 0 else src, lost := lost, rolled := rolled
                retained := false, aonKept := false, device := true }

/-- VAUX_RETURN (R523, R526, R528): with AON powered, in DARK, FIELD, SHIP or step 7, a wired
start-up runs; a deferred one becomes it and keeps its cause and source. Otherwise TAG_VAUX is
above the trip level again. -/
def effVauxReturn (s : State) : State :=
  if s.pwr.mode = 0 || s.pwr.mode = 6 then s
  else
    let up := { s with pwr.usable := setNth s.pwr.usable 0 true, pwr.vauxOk := true }
    if s.wired || s.pwr.step != 7 || s.boot.resetLow then up.feedField.wakePinned.fixMode
    else
      let (t, lost, rolled) := up.clearCore
      match s.boot.darkPending with
      | some f => t.wiredStart f
      | none => t.wiredStart { cause := 2, src := 0, lost := lost, rolled := rolled
                               retained := true, aonKept := true, device := false }

/-- CUTOFF_EXIT (R197, R531): AON restarts from the save; TAG_VBAT has kept the RTC and the toll
shadow. Without a usable cell nothing was kept, as after a loss of all power. -/
def effCutoffExit (s : State) (src : Nat) : State :=
  if s.pwr.mode != 6 || !(src = 0 || src = 2 || src = 4) then s
  else
    let cell := s.usableSrc 5
    let high := s.log.chassisHigh
    let t := s
    let codes := match s.newestSave with | some v => v.entCodes.toNat | none => 0
    let (s, lost, rolled) := s.clearCore
    let s := s.aonClear
    let s := { s with
      log := { freshLog with chassisHigh := high, chassisExit := some s.clk.rtc } }
    let s := if cell then
        { s with
          ent := { a := savedSource (codes % 16), b := savedSource (codes / 16) } }
      else s.loseTime
    let s := keepField t ((s.raise 0x070 10).supplyUp (src = 0) src)
    s.startUp { cause := 3, src := src, lost := lost, rolled := rolled, retained := false, aonKept := false
                device := !cell }

/-- RESET_ASSERT (R529): recognised while TAG_VAUX is above the trip level and no Knell runs; all
activity stops. -/
def effResetAssert (s : State) : State :=
  if s.wired && !s.knellRunning then { s with boot.resetLow := true, kn.state := 0 } else s

/-- PIN_RESET (R523, R529): TAG_RESET_N is released after a recognised assertion. -/
def effPinReset (s : State) : State :=
  if !s.boot.resetLow then s
  else
    let (s, lost, rolled) := s.clearCore
    let s := { s.deviceClear with kn.intake := none }
    s.startUp { cause := 4, src := s.firstSource, lost := lost, rolled := rolled
                retained := false, aonKept := true, device := true }

/-- KEYED_RESET (R530): the orderly stop ends with a save once nothing is granted any more, and the
device resets. A stop that a Knell held back begins here. -/
def effKeyedReset (s : State) : State := match s.boot.keyedPending with
  | none => s
  | some (src, iface) =>
    if s.knellRunning then s
    else
      let s := if s.boot.keyedStop then s else s.beginKeyedStop src iface
      let s := s.passKeyedAudit
      if !s.cmt.pipe.isEmpty then s
      else
        let s := s.saveNow true
        let (s, lost, rolled) := s.clearCore
        let s := { s.deviceClear with kn.intake := none }
        s.startUp { cause := 5, src := s.firstSource, lost := lost, rolled := rolled
                    retained := false, aonKept := true, device := true }

/-- DARK_STARTUP (R527): the deferred start-up runs once a field command has woken CORE or an array
job would be admitted. -/
def effDarkStartup (s : State) : State := match s.boot.darkPending with
  | none => s
  | some f =>
    let job := [0, 1, 3, 4].any (fun q => match s.queueHead q with
      | some j => s.verdict j == .grant
      | none => false)
    if s.domOn 4 || job then s.darkStart f else s

/-- The harvester stops in mode SHIP (R198). -/
def shipMode (s : State) : State :=
  let s := s.fixMode
  if s.pwr.mode = 5 then s.stopHarv.losePower else s

/-- CUTOFF (R197 steps 4 and 5): TAG_STORE is disconnected, every domain gates, TAG_VBAT alone keeps
the RTC and the toll shadow. -/
def enterCutoff (s : State) : State :=
  let cell := s.usableSrc 5
  let s := s.gateMost.stopField
  { s with
    pwr.mode := 6, pwr.domOn := List.replicate 20 false, pwr.harvRunning := false, fld.wake := false
    pwr.usable := [false, false, false, false, false, cell], pwr.darkSince := none }

/-- LONG_DARKNESS_CUTOFF (R197): after 60 minutes. While a slot is PENDING and the cell is GOOD, its
consolidation from TAG_VBAT goes first, by its own commands; granted records are waited for. -/
def effLongDarknessCutoff (s : State) : State :=
  let due := match s.pwr.darkSince with
    | some t => t + 3600 * second ≤ s.clk.up
    | none => false
  if !due || !s.cutoffEn || !(s.pwr.mode = 3 || s.pwr.mode = 4) then s
  else if s.pwr.cellState = 1 && (List.range 8).any (fun k => s.consolidable k) then
    let s := match s.boot.darkPending with
      | some f => s.darkStart f
      | none => s
    ({ s with kn.cellCons := true }).queueCons
  else if s.cmt.pipe.any (fun p => p.granted.isSome) then s
  else
    let s := match s.boot.darkPending with
      | some f => if s.log.batch.isEmpty then s else s.darkStart f
      | none => s
    let s := s.dropAll (fun _ => true)
    ((s.commitBatch).keepAlive true).enterCutoff

/-- Runs an effect while the tag has power and TAG_RESET_N is not asserted; without power, and while
the reset is asserted, nothing happens (R523, R529). -/
def live (s : State) (f : State → State) : State :=
  if s.pwr.mode = 0 || s.boot.resetLow then s else f s

/-- Runs an effect of the field engine or of the noise source that serves it: while the tag has power, or
the field tank feeds them (R298), and TAG_RESET_N is not asserted. -/
def liveAir (s : State) (f : State → State) : State :=
  if (s.pwr.mode = 0 && s.fld.st = 0) || s.boot.resetLow then s else f s

/-- The answer of a command of the field or of a noise source. -/
def runAir (s : State) (f : State → State) : Host.Outcome State Fault Refusal := .next (s.liveAir f)

/-- The answer of a command whose effect is `f`: a next state. -/
def run (s : State) (f : State → State) : Host.Outcome State Fault Refusal := .next (s.live f)

end State

end Sys2Proof.Machine
end

