-- ==== Sys2Proof/Machine/LinkCommands.lean ====
section
/-! DEFINITION. The meanings of the Stream Port link rows of the table: each runs the shared operation of its row. -/

namespace Sys2Proof.Machine

/-- DATA_PACKET (R217). -/
def execDataPacket (seq : BitVec 12) (cls : Cls) (sof : Bool) (eof : Bool) (len : Nat) (ack : Option (BitVec 12)) (s : State) :
    Host.Outcome State Fault Refusal :=
  s.run (fun s => (s.effDataPacket seq cls sof eof len ack).wakeDrum.serveAll)

/-- BAD_PACKET (R217). -/
def execBadPacket (s : State) (lane : Nat := 0) (sent : Nat := 0) (raw : List Byte := []) :
    Host.Outcome State Fault Refusal :=
  s.run (fun s => (s.effBadPacket lane sent raw).wakeDrum.serveAll)

/-- ACK_PACKET (R217). -/
def execAckPacket (seq : BitVec 12) (s : State) :
    Host.Outcome State Fault Refusal :=
  s.run (fun s => s.effAckPacket seq)

/-- NAK_PACKET (R218). -/
def execNakPacket (seq : BitVec 12) (s : State) :
    Host.Outcome State Fault Refusal :=
  s.run (fun s => s.effNakPacket seq)

/-- CREDIT_PACKET (R223). -/
def execCreditPacket (mgmt : BitVec 16) (peal : BitVec 16) (s : State) :
    Host.Outcome State Fault Refusal :=
  s.run (fun s => s.effCreditPacket mgmt peal)

/-- LINK_REQ_PACKET (R232). -/
def execLinkReqPacket (num : Byte) (typ : Byte) (lanes : BitVec 4) (cap : Nat) (s : State) :
    Host.Outcome State Fault Refusal :=
  s.run (fun s => s.effLinkReqPacket num typ lanes cap)

/-- TS1 (R228). -/
def execTs1 (lane : Nat) (trainId : Byte) (reqEcho : Byte) (cap : Nat) (window : Nat) (s : State) :
    Host.Outcome State Fault Refusal :=
  s.run (fun s => s.effTs1 lane trainId reqEcho cap window)

/-- TS2 (R230). -/
def execTs2 (lane : Nat) (trainId : Byte) (cap : Nat) (rxSet : BitVec 4) (resume : Bool) (next : BitVec 12) (window : Nat) (sent : Nat) (s : State) :
    Host.Outcome State Fault Refusal :=
  s.run (fun s => (s.effTs2 lane trainId cap rxSet resume next window sent).serveAll)

/-- ACK_TIMER (R219). -/
def execAckTimer (s : State) :
    Host.Outcome State Fault Refusal :=
  s.run (fun s => s.effAckTimer)

/-- REPLAY_TIMEOUT (R220). -/
def execReplayTimeout (s : State) :
    Host.Outcome State Fault Refusal :=
  s.run (fun s => s.effReplayTimeout)

/-- LINK_REQ_REPEAT (R232). -/
def execLinkReqRepeat (s : State) :
    Host.Outcome State Fault Refusal :=
  s.run (fun s => s.effLinkReqRepeat)

/-- TS1_PHASE_TIMER (R228). -/
def execTs1PhaseTimer (s : State) :
    Host.Outcome State Fault Refusal :=
  s.run (fun s => s.effTs1PhaseTimer)

/-- TRAINING_PHASE_TIMEOUT (R228). -/
def execTrainingPhaseTimeout (s : State) :
    Host.Outcome State Fault Refusal :=
  s.run (fun s => s.effTrainingPhaseTimeout)

/-- RETRAIN_TIMEOUT (R233). -/
def execRetrainTimeout (s : State) :
    Host.Outcome State Fault Refusal :=
  s.run (fun s => s.effRetrainTimeout)

/-- NO_VALID_SYMBOL_TIMEOUT (R234). -/
def execNoValidSymbolTimeout (s : State) :
    Host.Outcome State Fault Refusal :=
  s.run (fun s => s.effNoValidSymbolTimeout)

/-- ERROR_WINDOW_LINK_DOWN (R234). -/
def execErrorWindowLinkDown (s : State) :
    Host.Outcome State Fault Refusal :=
  s.run (fun s => s.effErrorWindowLinkDown)

/-- LANE_FAULT (R237). -/
def execLaneFault (lanes : BitVec 4) (s : State) :
    Host.Outcome State Fault Refusal :=
  s.run (fun s => s.effLaneFault lanes)

/-- GRACE_EXPIRY (R236). -/
def execGraceExpiry (s : State) :
    Host.Outcome State Fault Refusal :=
  s.run (fun s => s.effGraceExpiry.serveAll)

/-- CLOCK_LOCKED (R243). -/
def execClockLocked (s : State) :
    Host.Outcome State Fault Refusal :=
  s.run (fun s => s.effClockLocked)

/-- PACKET_BOUNDARY_TRANSMIT (R214). -/
def execPacketBoundaryTransmit (s : State) :
    Host.Outcome State Fault Refusal :=
  s.run (fun s => s.effPacketBoundaryTransmit)

/-- RETRAIN (R231). -/
def execRetrain (p : Port) (v : Word) (s : State) :
    Host.Outcome State Fault Refusal :=
  s.run (fun s => s.commandWrite p 0x1A0 2 v)

/-- FULL_RETRAIN (R231). -/
def execFullRetrain (p : Port) (v : Word) (s : State) :
    Host.Outcome State Fault Refusal :=
  s.run (fun s => s.commandWrite p 0x1A0 3 v)

/-- STM_EN (R247). -/
def execStmEn (p : Port) (en : Bool) (s : State) :
    Host.Outcome State Fault Refusal :=
  s.run (fun s => s.enableWrite p 0x1A0 en)

end Sys2Proof.Machine
end

