-- ==== Sys2Proof/Machine/FrameCommands.lean ====
section
/-! DEFINITION. The meanings of the frame, in-band management and Peal rows: each runs the shared operation of its row. -/

namespace Sys2Proof.Machine

/-- EVENT_FRAME (R253). -/
def execEventFrame (ph : FramePhase) (h : EventHdr) (body : List Byte) (s : State) :
    Host.Outcome State Fault Refusal :=
  s.run (fun s => (s.effEventFrame ph h body).serveAll)

/-- REG_READ (R259). -/
def execRegRead (h : MgmtHdr) (addr : Nat) (width : Nat) (s : State) :
    Host.Outcome State Fault Refusal :=
  s.run (fun s => s.effRegRead h addr width)

/-- REG_WRITE (R259). -/
def execRegWrite (h : MgmtHdr) (addr : Nat) (width : Nat) (data : BitVec 64) (s : State) :
    Host.Outcome State Fault Refusal :=
  s.run (fun s => s.effRegWrite h addr width data)

/-- REC_READ (R263). -/
def execRecRead (h : MgmtHdr) (stroke : Nat) (mode : Nat) (arg : Nat) (opened : Bool) (s : State) :
    Host.Outcome State Fault Refusal :=
  s.run (fun s => s.effRecRead h stroke mode arg opened)

/-- REC_WRITE (R265). -/
def execRecWrite (h : MgmtHdr) (typ : Byte) (first : Bool) (last : Bool) (seq : Word) (payload : List Byte) (s : State) :
    Host.Outcome State Fault Refusal :=
  s.run (fun s => s.effRecWrite h typ first last seq payload)

/-- SESSION_OPEN_HELLO (R449). -/
def execSessionOpenHello (h : MgmtHdr) (method : Nat) (rights : Byte) (point : List Byte) (s : State) :
    Host.Outcome State Fault Refusal :=
  s.run (fun s => s.effSessionOpenHello h method rights point)

/-- SESSION_OPEN_PROVE (R451). -/
def execSessionOpenProve (h : MgmtHdr) (sig : List Byte) (s : State) :
    Host.Outcome State Fault Refusal :=
  s.run (fun s => s.effSessionOpenProve h sig)

/-- SESSION_CLOSE (R453). -/
def execSessionClose (h : MgmtHdr) (s : State) :
    Host.Outcome State Fault Refusal :=
  s.run (fun s => s.effSessionClose h)

/-- LEASE (R269). -/
def execLease (h : MgmtHdr) (part : Nat) (op : Nat) (seconds : Nat) (s : State) :
    Host.Outcome State Fault Refusal :=
  s.run (fun s => s.effLease h part op seconds)

/-- STAGE_PULL (R272). -/
def execStagePull (h : MgmtHdr) (s : State) :
    Host.Outcome State Fault Refusal :=
  s.run (fun s => s.effStagePull h)

/-- LEASE_EXPIRY (R269). -/
def execLeaseExpiry (part : Nat) (s : State) :
    Host.Outcome State Fault Refusal :=
  s.run (fun s => s.effLeaseExpiry part)

/-- PEAL_SEND (R278). -/
def execPealSend (s : State) :
    Host.Outcome State Fault Refusal :=
  s.run (fun s => s.effPealSend)

/-- PEAL_RETRY_WAIT_EXPIRY (R280). -/
def execPealRetryWaitExpiry (stroke : Nat) (s : State) :
    Host.Outcome State Fault Refusal :=
  s.run (fun s => s.effPealRetryWaitExpiry stroke)

/-- PACK_FRAME (R282). -/
def execPackFrame (e : FrameEnd) (h : PackHdr) (s : State) :
    Host.Outcome State Fault Refusal :=
  s.run (fun s => s.effPackFrame e h)

/-- PEAL_COPY_FRAME (R284). -/
def execPealCopyFrame (ph : FramePhase) (h : CopyHdr) (body : List Byte) (s : State) :
    Host.Outcome State Fault Refusal :=
  s.run (fun s => (s.effPealCopyFrame ph h body).serveAll)

/-- KNELL_MIRROR_START (R166). -/
def execKnellMirrorStart (s : State) :
    Host.Outcome State Fault Refusal :=
  s.run (fun s => s.effKnellMirrorStart)

end Sys2Proof.Machine
end

