-- ==== Sys2Proof/Machine/CommitCommands.lean ====
section
/-! DEFINITION. The meanings of the commit pipeline and array rows: each runs the shared operation of its row. -/

namespace Sys2Proof.Machine

/-- SEAL (R94). -/
def execSeal (s : State) :
    Host.Outcome State Fault Refusal :=
  s.run (fun s => s.effSeal)

/-- COMMIT_GROUP (R87). -/
def execCommitGroup (s : State) :
    Host.Outcome State Fault Refusal :=
  s.run (fun s => s.effCommitGroup)

/-- SECTOR_PULSE_DONE (R117). -/
def execSectorPulseDone (t : PulseTarget) (ok : Bool) (s : State) :
    Host.Outcome State Fault Refusal :=
  s.run (fun s => s.reach (s.effSectorPulseDone t ok).finishRebuild)

/-- BANK_FAIL (R124). -/
def execBankFail (bank : Nat) (s : State) :
    Host.Outcome State Fault Refusal :=
  s.run (fun s => s.reach (s.effBankFail bank).finishRebuild)

/-- CHECKPOINT_INTERVAL (R108). -/
def execCheckpointInterval (s : State) :
    Host.Outcome State Fault Refusal :=
  s.run (fun s => s.reach s.effCheckpointInterval)

/-- CHECKPOINT_ENTRY_COUNT (R108). -/
def execCheckpointEntryCount (s : State) :
    Host.Outcome State Fault Refusal :=
  s.run (fun s => s.reach s.effCheckpointEntryCount)

/-- CHECKPOINT (R108). -/
def execCheckpoint (s : State) :
    Host.Outcome State Fault Refusal :=
  s.run (fun s => s.reach s.effCheckpoint)

/-- CKPT_REQ (R131). -/
def execCkptReq (p : Port) (v : Word) (s : State) :
    Host.Outcome State Fault Refusal :=
  s.run (fun s => s.commandWrite p 0x0E0 7 v)

/-- SCRUB_REQ (R131). -/
def execScrubReq (p : Port) (v : Word) (s : State) :
    Host.Outcome State Fault Refusal :=
  s.run (fun s => s.commandWrite p 0x0E0 6 v)

/-- SCRUB_EXTENT (R120). -/
def execScrubExtent (bank : Nat) (ext : Nat) (low : List Nat) (damaged : List Nat) (breaks : List (Nat × Nat)) (s : State) :
    Host.Outcome State Fault Refusal :=
  s.run (fun s => s.reach (s.effScrubExtent bank ext low damaged breaks))

/-- STATIC_LEVEL_MOVE (R122). -/
def execStaticLevelMove (bank : Nat) (s : State) :
    Host.Outcome State Fault Refusal :=
  s.run (fun s => s.reach (s.effStaticLevelMove bank))

/-- CMT_TOLL_INC (R103). -/
def execCmtTollInc (p : Port) (v : Word) (s : State) :
    Host.Outcome State Fault Refusal :=
  s.run (fun s => s.portWrite p 0x118 v)

/-- KEEP_ALIVE_ENERGY_LOW (R184). -/
def execKeepAliveEnergyLow (s : State) :
    Host.Outcome State Fault Refusal :=
  s.run (fun s => s.reach s.effKeepAliveEnergyLow)

end Sys2Proof.Machine
end

