-- ==== Sys2Proof/Machine/KnellCommands.lean ====
section
/-! DEFINITION. The meanings of the Knell rows: each runs the shared operation of its row. -/

namespace Sys2Proof.Machine

/-- VAUX_FAIL (R134). -/
def execVauxFail (s : State) :
    Host.Outcome State Fault Refusal :=
  .next (s.effVauxFail)

/-- FORCE (R133). -/
def execForce (p : Port) (v : Word) (s : State) :
    Host.Outcome State Fault Refusal :=
  s.run (fun s => s.commandWrite p 0x160 1 v)

/-- KNELL_OPENING_FRAME (R145). -/
def execKnellOpeningFrame (ph : FramePhase) (body : List Byte) (s : State) :
    Host.Outcome State Fault Refusal :=
  s.run (fun s => s.reach (s.effKnellOpeningFrame ph body))

/-- KNELL_DATA_FRAME (R140). -/
def execKnellDataFrame (e : FrameEnd) (body : List Byte) (s : State) :
    Host.Outcome State Fault Refusal :=
  s.run (fun s => s.reach (s.effKnellDataFrame e body))

/-- DIR_WAIT_EXPIRY (R147). -/
def execDirWaitExpiry (s : State) :
    Host.Outcome State Fault Refusal :=
  s.run (fun s => s.reach s.effDirWaitExpiry.serveAll)

/-- INTAKE_MS_EXPIRY (R141). -/
def execIntakeMsExpiry (s : State) :
    Host.Outcome State Fault Refusal :=
  s.run (fun s => s.reach s.effIntakeMsExpiry)

/-- KNELL_SEGMENT_START (R155). -/
def execKnellSegmentStart (s : State) :
    Host.Outcome State Fault Refusal :=
  s.run (fun s => s.effKnellSegmentStart)

/-- K_SIGN (R161). -/
def execKSign (s : State) :
    Host.Outcome State Fault Refusal :=
  s.run (fun s => s.effKSign)

/-- K_INDEX (R161). -/
def execKIndex (s : State) :
    Host.Outcome State Fault Refusal :=
  s.run (fun s => s.reach s.effKIndex.shipMode)

/-- KNELL_ARM (R135). -/
def execKnellArm (s : State) :
    Host.Outcome State Fault Refusal :=
  s.run (fun s => s.effKnellArm)

/-- CONS_REQ (R170). -/
def execConsReq (p : Port) (v : Word) (s : State) :
    Host.Outcome State Fault Refusal :=
  s.run (fun s => s.commandWrite p 0x160 2 v)

/-- KNL_EN (R170). -/
def execKnlEn (p : Port) (en : Bool) (s : State) :
    Host.Outcome State Fault Refusal :=
  s.run (fun s => s.enableWrite p 0x160 en)

end Sys2Proof.Machine
end

