-- ==== Sys2Proof/Machine/EnergyCommands.lean ====
section
/-! DEFINITION. The meanings of the energy and scheduling rows: each runs the shared operation of its row. -/

namespace Sys2Proof.Machine

/-- SHED_STEP (R192). -/
def execShedStep (step : Nat) (s : State) :
    Host.Outcome State Fault Refusal :=
  s.run (fun s => s.effShedStep step)

/-- SHED_STEP6 (R192). -/
def execShedStep6 (s : State) :
    Host.Outcome State Fault Refusal :=
  s.run (fun s => s.effShedStep6)

/-- SHED_STEP7 (R192). -/
def execShedStep7 (s : State) :
    Host.Outcome State Fault Refusal :=
  s.run (fun s => s.reach s.effShedStep7)

/-- SHED_LEAVE (R193). -/
def execShedLeave (s : State) :
    Host.Outcome State Fault Refusal :=
  s.run (fun s => s.effShedLeave)

/-- SUPPLY_CHANGE (R172). -/
def execSupplyChange (src : Nat) (usable : Bool) (s : State) :
    Host.Outcome State Fault Refusal :=
  .next (s.effSupplyChange src usable)

/-- HOLD_TOP_UP (R173). -/
def execHoldTopUp (s : State) :
    Host.Outcome State Fault Refusal :=
  s.run (fun s => s.effHoldTopUp)

/-- HOLD_CAP_DONE (R174). -/
def execHoldCapDone (riseUs : Nat) (s : State) :
    Host.Outcome State Fault Refusal :=
  s.run (fun s => s.effHoldCapDone riseUs)

/-- HOLD_CAP_TIMEOUT (R174). -/
def execHoldCapTimeout (s : State) :
    Host.Outcome State Fault Refusal :=
  s.run (fun s => s.effHoldCapTimeout)

/-- CELL_MEASURE (R176). -/
def execCellMeasure (mv : Nat) (s : State) :
    Host.Outcome State Fault Refusal :=
  s.run (fun s => s.effCellMeasure mv)

/-- VBAT_DETECT (R176). -/
def execVbatDetect (mv : Nat) (s : State) :
    Host.Outcome State Fault Refusal :=
  s.run (fun s => s.effVbatDetect mv)

/-- HARV_COLD_START (R177). -/
def execHarvColdStart (voc : Nat) (s : State) :
    Host.Outcome State Fault Refusal :=
  s.run (fun s => s.effHarvColdStart voc)

/-- TRACKING_SAMPLE (R178). -/
def execTrackingSample (sample : Tracked) (s : State) :
    Host.Outcome State Fault Refusal :=
  s.run (fun s => s.effTrackingSample sample)

/-- MPPT_SAMPLE (R178). -/
def execMpptSample (p : Port) (v : Word) (s : State) :
    Host.Outcome State Fault Refusal :=
  s.run (fun s => s.commandWrite p 0x060 2 v)

/-- GAUGE_UPDATE (R181). -/
def execGaugeUpdate (g : GaugeReading) (s : State) :
    Host.Outcome State Fault Refusal :=
  s.run (fun s => s.effGaugeUpdate g)

/-- JOB_ADMIT (R187). -/
def execJobAdmit (queue : Nat) (s : State) :
    Host.Outcome State Fault Refusal :=
  s.run (fun s => s.effJobAdmit queue)

/-- DERATE_BAND_CHANGE (R190). -/
def execDerateBandChange (temp : Int) (s : State) :
    Host.Outcome State Fault Refusal :=
  s.run (fun s => s.effDerateBandChange temp)

/-- DOMAIN_IDLE_GATE (R194). -/
def execDomainIdleGate (dom : Nat) (s : State) :
    Host.Outcome State Fault Refusal :=
  s.run (fun s => s.effDomainIdleGate dom)

/-- LONG_DARKNESS_CUTOFF (R197). -/
def execLongDarknessCutoff (s : State) :
    Host.Outcome State Fault Refusal :=
  s.run (fun s => s.effLongDarknessCutoff)

/-- SHIP (R201). -/
def execShip (p : Port) (v : Word) (s : State) :
    Host.Outcome State Fault Refusal :=
  s.run (fun s => (s.commandWrite p 0x060 3 v).shipMode)

end Sys2Proof.Machine
end

