-- ==== Sys2Proof/Machine/AirCommands.lean ====
section
/-! DEFINITION. The meanings of the field air interface and access rows: each runs the shared operation of its row. -/

namespace Sys2Proof.Machine

/-- FIELD_DETECT (R299). -/
def execFieldDetect (s : State) :
    Host.Outcome State Fault Refusal :=
  .next (s.effFieldDetect)

/-- SNIFFER_SAMPLE (R299). -/
def execSnifferSample (seen : Bool) (s : State) :
    Host.Outcome State Fault Refusal :=
  s.runAir (fun s => s.effSnifferSample seen)

/-- FIELD_INTERRUPTED (R300). -/
def execFieldInterrupted (receiving : Bool) (s : State) :
    Host.Outcome State Fault Refusal :=
  s.runAir (fun s => s.reach (s.effFieldInterrupted receiving))

/-- FIELD_GONE (R300). -/
def execFieldGone (s : State) :
    Host.Outcome State Fault Refusal :=
  s.runAir (fun s => s.reach s.effFieldGone)

/-- SELECT (R312). -/
def execSelect (target : Nat) (action : Nat) (bank : Nat) (pointer : Nat) (mask : List Bool) (_truncate : Bool) (s : State) :
    Host.Outcome State Fault Refusal :=
  s.runAir (fun s => s.effSelect target action bank pointer mask)

/-- QUERY (R312). -/
def execQuery (dr : Bool) (m : Nat) (trext : Bool) (sel : Nat) (session : Nat) (targetB : Bool) (q : Nat) (tari : Nat) (blf : Nat) (s : State) :
    Host.Outcome State Fault Refusal :=
  s.runAir (fun s => s.effQuery dr m trext sel session targetB q tari blf)

/-- QUERY_ADJUST (R312). -/
def execQueryAdjust (session : Nat) (updn : Nat) (s : State) :
    Host.Outcome State Fault Refusal :=
  s.runAir (fun s => s.effQueryAdjust session updn)

/-- QUERY_REP (R312). -/
def execQueryRep (session : Nat) (s : State) :
    Host.Outcome State Fault Refusal :=
  s.runAir (fun s => s.effQueryRep session)

/-- ACK (R312). -/
def execAck (rn : BitVec 16) (s : State) :
    Host.Outcome State Fault Refusal :=
  s.runAir (fun s => s.effAck rn)

/-- NAK (R312). -/
def execNak (s : State) :
    Host.Outcome State Fault Refusal :=
  s.runAir (fun s => s.effNak)

/-- REQ_RN (R313). -/
def execReqRn (rn : BitVec 16) (s : State) :
    Host.Outcome State Fault Refusal :=
  s.runAir (fun s => s.effReqRn rn)

/-- T2_EXPIRY (R312). -/
def execT2Expiry (s : State) :
    Host.Outcome State Fault Refusal :=
  s.runAir (fun s => s.effT2Expiry)

/-- INVALID_COMMAND (R294, R338). -/
def execInvalidCommand (s : State) (gweuno : Option (BitVec 16) := none) :
    Host.Outcome State Fault Refusal :=
  s.runAir (fun s => s.effBadCommand gweuno)

/-- READ (R329). -/
def execRead (handle : BitVec 16) (bank : Nat) (word : Nat) (count : Nat) (s : State) :
    Host.Outcome State Fault Refusal :=
  s.runAir (fun s => s.effRead handle bank word count)

/-- WRITE (R350). -/
def execWrite (handle : BitVec 16) (bank : Nat) (word : Nat) (data : BitVec 16) (s : State) :
    Host.Outcome State Fault Refusal :=
  s.runAir (fun s => s.effWrite handle bank word data)

/-- BLOCK_WRITE (R329). -/
def execBlockWrite (handle : BitVec 16) (bank : Nat) (word : Nat) (data : List (BitVec 16)) (s : State) :
    Host.Outcome State Fault Refusal :=
  s.runAir (fun s => s.effBlockWrite handle bank word data)

/-- LOCK (R330). -/
def execLock (handle : BitVec 16) (mask : BitVec 10) (action : BitVec 10) (s : State) :
    Host.Outcome State Fault Refusal :=
  s.runAir (fun s => s.effLock handle mask action)

/-- ACCESS (R334). -/
def execAccess (handle : BitVec 16) (password : Word) (s : State) :
    Host.Outcome State Fault Refusal :=
  s.runAir (fun s => s.effAccess handle password)

/-- AUTHENTICATE (R335). -/
def execAuthenticate (handle : BitVec 16) (method : Nat) (keyId : Nat) (challenge : List Byte) (response : List Byte) (s : State) :
    Host.Outcome State Fault Refusal :=
  s.runAir (fun s => s.effAuthenticate handle method keyId challenge response)

/-- KILL (R293). -/
def execKill (handle : BitVec 16) (s : State) :
    Host.Outcome State Fault Refusal :=
  s.runAir (fun s => s.effKill handle)

/-- PASSWORD_LOCKOUT_END (R334). -/
def execPasswordLockoutEnd (s : State) :
    Host.Outcome State Fault Refusal :=
  s.runAir (fun s => s.effPasswordLockoutEnd)

/-- S1_PERSISTENCE_EXPIRY (R296). -/
def execS1PersistenceExpiry (s : State) :
    Host.Outcome State Fault Refusal :=
  .next (s.effS1PersistenceExpiry)

/-- FLAG_PERSISTENCE_EXPIRY (R296). -/
def execFlagPersistenceExpiry (flag : Nat) (s : State) :
    Host.Outcome State Fault Refusal :=
  .next (s.effFlagPersistenceExpiry flag)

end Sys2Proof.Machine
end

