-- ==== Sys2Proof/Machine/GweunoCommands.lean ====
section
/-! DEFINITION. The meanings of the Gweuno and wake rows: each runs the shared operation of its row. -/

namespace Sys2Proof.Machine

/-- G_REC_READ (R340). -/
def execGRecRead (handle : BitVec 16) (mode : Nat) (part : Nat) (stroke : Nat) (offset : Nat) (count : Nat) (s : State) :
    Host.Outcome State Fault Refusal :=
  s.runAir (fun s => s.effGRecRead handle mode part stroke offset count)

/-- G_GAUGE (R342). -/
def execGGauge (handle : BitVec 16) (s : State) :
    Host.Outcome State Fault Refusal :=
  s.runAir (fun s => s.effGGauge handle)

/-- G_SHIP_READ (R343). -/
def execGShipRead (handle : BitVec 16) (fromSeconds : Nat) (maxSamples : Nat) (s : State) :
    Host.Outcome State Fault Refusal :=
  s.runAir (fun s => s.effGShipRead handle fromSeconds maxSamples)

/-- G_STAGE_WRITE (R344). -/
def execGStageWrite (handle : BitVec 16) (item : Nat) (flags : Byte) (version : Word) (body : List Byte) (s : State) :
    Host.Outcome State Fault Refusal :=
  s.runAir (fun s => s.effGStageWrite handle item flags version body)

/-- G_EXPORT_OPEN (R345). -/
def execGExportOpen (handle : BitVec 16) (part : Nat) (stroke : Nat) (count : Nat) (s : State) :
    Host.Outcome State Fault Refusal :=
  s.runAir (fun s => (s.serveHigher 3).effGExportOpen handle part stroke count)

/-- G_EXPORT_CHUNK (R345). -/
def execGExportChunk (handle : BitVec 16) (index : Nat) (count : Nat) (s : State) :
    Host.Outcome State Fault Refusal :=
  s.runAir (fun s => (s.serveHigher 4).effGExportChunk handle index count)

/-- G_EXPORT_CLOSE (R345). -/
def execGExportClose (handle : BitVec 16) (s : State) :
    Host.Outcome State Fault Refusal :=
  s.runAir (fun s => s.effGExportClose handle)

/-- G_WAKE (R346). -/
def execGWake (handle : BitVec 16) (reason : Byte) (s : State) :
    Host.Outcome State Fault Refusal :=
  s.runAir (fun s => s.effGWake handle reason)

/-- WAKE_TEST (R317). -/
def execWakeTest (p : Port) (v : Word) (s : State) :
    Host.Outcome State Fault Refusal :=
  s.run (fun s => s.commandWrite p 0x2A0 1 v)

/-- WAKE_RELEASE (R318). -/
def execWakeRelease (p : Port) (v : Word) (s : State) :
    Host.Outcome State Fault Refusal :=
  s.run (fun s => s.commandWrite p 0x2A0 2 v)

/-- WAKE_PULSE_END (R318). -/
def execWakePulseEnd (s : State) :
    Host.Outcome State Fault Refusal :=
  s.run (fun s => s.effWakePulseEnd)

/-- WAKE_LEVEL_TIMEOUT (R318). -/
def execWakeLevelTimeout (s : State) :
    Host.Outcome State Fault Refusal :=
  s.run (fun s => s.effWakeLevelTimeout)

/-- USER_MAP_BUILT (R328). -/
def execUserMapBuilt (s : State) :
    Host.Outcome State Fault Refusal :=
  s.run (fun s => s.effUserMapBuilt.wakeDrum)

end Sys2Proof.Machine
end

