-- ==== Sys2Proof/Machine/SnareCommands.lean ====
section
/-! DEFINITION. The meanings of the Snare rows: each runs the shared operation of its row. -/

namespace Sys2Proof.Machine

/-- CHANNEL_EVENT (R366). -/
def execChannelEvent (ch : Nat) (high : Bool) (tick : Nat) (s : State) :
    Host.Outcome State Fault Refusal :=
  s.run (fun s => s.effChannelEvent ch high tick)

/-- POST_WINDOW_END (R368). -/
def execPostWindowEnd (waves : List (Nat × List Byte)) (s : State) :
    Host.Outcome State Fault Refusal :=
  s.run (fun s => (s.effPostWindowEnd waves).wakeDrum)

/-- RING_STAGING_DONE (R375). -/
def execRingStagingDone (s : State) :
    Host.Outcome State Fault Refusal :=
  s.run (fun s => s.effRingStagingDone)

/-- SNR_FORCE (R367). -/
def execSnrForce (p : Port) (v : Word) (s : State) :
    Host.Outcome State Fault Refusal :=
  s.run (fun s => s.commandWrite p 0x320 16 v)

/-- CAL_REQ (R385). -/
def execCalReq (p : Port) (v : Word) (s : State) :
    Host.Outcome State Fault Refusal :=
  s.run (fun s => s.portWrite p 0x320 v)

/-- PERIODIC_CALIBRATION (R385). -/
def execPeriodicCalibration (s : State) :
    Host.Outcome State Fault Refusal :=
  s.run (fun s => s.effPeriodicCalibration)

/-- CALIBRATION (R386). -/
def execCalibration (before : Int) (after : Int) (adcOffset : Int) (gain : Int) (blindUs : Nat) (s : State) :
    Host.Outcome State Fault Refusal :=
  s.run (fun s => s.effCalibration before after adcOffset gain blindUs)

/-- SNR_EN (R391). -/
def execSnrEn (p : Port) (en : Bool) (s : State) :
    Host.Outcome State Fault Refusal :=
  s.run (fun s => s.enableWrite p 0x320 en)

end Sys2Proof.Machine
end

