-- ==== Sys2Proof/Machine/EntropyCommands.lean ====
section
/-! DEFINITION. The meanings of the entropy rows: each runs the shared operation of its row. -/

namespace Sys2Proof.Machine

/-- BLOCK_RELEASE (R396). -/
def execBlockRelease (src : Src) (window : BitVec 1024) (s : State)
    (next : BitVec 128 := BitVec.ofNat 128 (2 ^ 128 / 3)) : Host.Outcome State Fault Refusal :=
  s.runAir (fun s => (s.effBlockRelease src window next).wakeDrum)

/-- HEALTH_TEST_FAIL (R400). -/
def execHealthTestFail (src : Src) (test : Nat) (count : Nat) (window : Nat) (s : State) :
    Host.Outcome State Fault Refusal :=
  s.runAir (fun s => s.effHealthTestFail src test count window)

/-- ENT_IDLE_GATE (R408). -/
def execEntIdleGate (src : Src) (s : State) :
    Host.Outcome State Fault Refusal :=
  s.run (fun s => s.effEntIdleGate src)

/-- ENT_SELFTEST (R412). -/
def execEntSelftest (src : Src) (kat : Bool) (w0 : BitVec 1024) (w1 : BitVec 1024) (s : State) :
    Host.Outcome State Fault Refusal :=
  s.run (fun s => s.effEntSelftest src kat w0 w1)

/-- RAW_START (R413). -/
def execRawStart (p : Port) (v : Word) (s : State) :
    Host.Outcome State Fault Refusal :=
  s.run (fun s => (s.commandWrite p 0x3E0 1 v).wakeDrum)

/-- RAW_STOP (R414). -/
def execRawStop (p : Port) (v : Word) (s : State) :
    Host.Outcome State Fault Refusal :=
  s.run (fun s => s.commandWrite p 0x3E0 2 v)

/-- RAW_CAPTURE_END (R414): the failures are counted from the samples. -/
def execRawCaptureEnd (bytes : List Byte) (_rctFails : Nat) (_aptFails : Nat) (s : State) :
    Host.Outcome State Fault Refusal :=
  s.run (fun s => s.effRawCaptureEnd bytes)

/-- RAW_RELEASE (R414). -/
def execRawRelease (p : Port) (v : Word) (s : State) :
    Host.Outcome State Fault Refusal :=
  s.run (fun s => s.commandWrite p 0x3E0 3 v)

/-- ENT_DATA_READ (R410). -/
def execEntDataRead (p : Port) (second : Bool) (s : State) :
    Host.Outcome State Fault Refusal :=
  s.run (fun s => s.effRcRead p (if second then 0x3F4 else 0x3F0))

end Sys2Proof.Machine
end

