-- ==== Sys2Proof/Machine/GuardCommands.lean ====
section
/-! DEFINITION. The meanings of the guard and session rows: each runs the shared operation of its row. -/

namespace Sys2Proof.Machine

/-- GRD_APPLY (R436). -/
def execGrdApply (p : Port) (v : Word) (s : State) :
    Host.Outcome State Fault Refusal :=
  s.run (fun s => s.portWrite p 0x420 v)

/-- GUARD_UPDATE (R437). -/
def execGuardUpdate (s : State) :
    Host.Outcome State Fault Refusal :=
  s.run (fun s => s.effGuardUpdate)

/-- POSTED_WRITE_DRAIN (R429). -/
def execPostedWriteDrain (master : Nat) (s : State) :
    Host.Outcome State Fault Refusal :=
  s.run (fun s => s.effPostedWriteDrain master)

/-- GUARD_FAULT_AUDIT (R32). -/
def execGuardFaultAudit (master : Nat) (s : State) :
    Host.Outcome State Fault Refusal :=
  s.run (fun s => s.effGuardFaultAudit master)

/-- SESSION_IDLE_TIMEOUT (R452). -/
def execSessionIdleTimeout (ctx : Nat) (s : State) :
    Host.Outcome State Fault Refusal :=
  s.run (fun s => s.effSessionIdleTimeout ctx)

/-- HELLO_EXPIRY (R451). -/
def execHelloExpiry (ctx : Nat) (s : State) :
    Host.Outcome State Fault Refusal :=
  s.run (fun s => s.effHelloExpiry ctx)

/-- CLOSE_SEL (R462). -/
def execCloseSel (p : Port) (v : Word) (s : State) :
    Host.Outcome State Fault Refusal :=
  s.run (fun s => s.commandWrite p 0x4A0 1 v)

/-- CLOSE_ALL (R462). -/
def execCloseAll (p : Port) (v : Word) (s : State) :
    Host.Outcome State Fault Refusal :=
  s.run (fun s => s.commandWrite p 0x4A0 0 v)

end Sys2Proof.Machine
end

