-- ==== Sys2Proof/Machine/PortCommands.lean ====
section
/-! DEFINITION. The meanings of the register port and mailbox rows: each runs the shared operation of its row. -/

namespace Sys2Proof.Machine

/-- STATUS (R465). -/
def execStatus (s : State) :
    Host.Outcome State Fault Refusal :=
  s.run (fun s => s.effStatus)

/-- REGP_WRITE (R465). -/
def execRegpWrite (addr : Nat) (data : Option Word) (s : State) :
    Host.Outcome State Fault Refusal :=
  s.run (fun s => s.effRegpWrite addr data)

/-- REGP_READ (R465). -/
def execRegpRead (addr : Nat) (whole : Bool) (s : State) :
    Host.Outcome State Fault Refusal :=
  s.run (fun s => s.effRegpRead addr whole)

/-- WRITE_INC (R466). -/
def execWriteInc (addr : Nat) (data : List Word) (cut : Bool) (s : State) :
    Host.Outcome State Fault Refusal :=
  s.run (fun s => s.effWriteInc addr data cut)

/-- READ_INC (R466). -/
def execReadInc (addr words : Nat) (cut : List Nat) (s : State) :
    Host.Outcome State Fault Refusal :=
  s.run (fun s => s.effReadInc addr words cut)

/-- READ_REP (R466). -/
def execReadRep (addr words : Nat) (cut : List Nat) (s : State) :
    Host.Outcome State Fault Refusal :=
  s.run (fun s => s.effReadRep addr words cut)

/-- BAD_OPCODE (R465). -/
def execBadOpcode (_op : Byte) (s : State) :
    Host.Outcome State Fault Refusal :=
  s.run (fun s => s.effBadOpcode)

/-- GLB_KEY (R476). -/
def execGlbKey (p : Port) (v : Word) (s : State) :
    Host.Outcome State Fault Refusal :=
  s.run (fun s => s.portWrite p 0x008 v)

/-- GLB_RESET (R530). -/
def execGlbReset (p : Port) (v : Word) (s : State) :
    Host.Outcome State Fault Refusal :=
  s.run (fun s => s.commandWrite p 0x00C 0 v)

/-- GLB_LOCK (R496). -/
def execGlbLock (p : Port) (v : Word) (s : State) :
    Host.Outcome State Fault Refusal :=
  s.run (fun s => s.portWrite p 0x028 v)

/-- RC_READ (R477). -/
def execRcRead (p : Port) (off : Nat) (s : State) :
    Host.Outcome State Fault Refusal :=
  s.run (fun s => s.effRcRead p off)

/-- REGISTER_WRITE (R480). -/
def execRegisterWrite (p : Port) (addr : Nat) (v : Word) (s : State) :
    Host.Outcome State Fault Refusal :=
  s.run (fun s => s.effRegisterWrite p addr v)

/-- MBX_READ (R485). -/
def execMbxRead (p : Port) (s : State) :
    Host.Outcome State Fault Refusal :=
  s.run (fun s => s.portWrite p 0x524 1#32)

/-- MBX_STAGE (R484). -/
def execMbxStage (p : Port) (s : State) :
    Host.Outcome State Fault Refusal :=
  s.run (fun s => s.portWrite p 0x524 2#32)

/-- MBX_ABORT (R486). -/
def execMbxAbort (p : Port) (s : State) :
    Host.Outcome State Fault Refusal :=
  s.run (fun s => s.portWrite p 0x524 4#32)

/-- TIME_COMMIT (R515). -/
def execTimeCommit (p : Port) (len : Nat) (s : State) :
    Host.Outcome State Fault Refusal :=
  s.run (fun s => s.commitItem p 0x02 len)

/-- TIME_RTC_LOAD (R515). -/
def execTimeRtcLoad (s : State) :
    Host.Outcome State Fault Refusal :=
  s.run (fun s => s.effTimeRtcLoad)

/-- PART_MAP_COMMIT (R63). -/
def execPartMapCommit (p : Port) (len : Nat) (s : State) :
    Host.Outcome State Fault Refusal :=
  s.run (fun s => s.commitItem p 0x07 len)

/-- MBX_REC_WRITE (R521). -/
def execMbxRecWrite (len : Nat) (s : State) :
    Host.Outcome State Fault Refusal :=
  s.run (fun s => s.commitItem .regp 0x08 len)

/-- PEAL_PEERS_COMMIT (R291). -/
def execPealPeersCommit (p : Port) (len : Nat) (s : State) :
    Host.Outcome State Fault Refusal :=
  s.run (fun s => s.commitItem p 0x10 len)

/-- KEY_LOAD (R444). -/
def execKeyLoad (p : Port) (len : Nat) (s : State) :
    Host.Outcome State Fault Refusal :=
  s.run (fun s => s.commitItem p 0x21 len)

/-- BIVIK_OPEN (R457). -/
def execBivikOpen (p : Port) (len : Nat) (s : State) :
    Host.Outcome State Fault Refusal :=
  s.run (fun s => s.commitItem p 0x22 len)

/-- SELFTEST_REQ (R532). -/
def execSelftestReq (p : Port) (len : Nat) (s : State) :
    Host.Outcome State Fault Refusal :=
  s.run (fun s => s.commitItem p 0x50 len)

/-- BANK_SELFTEST (R535). -/
def execBankSelftest (low : List Nat) (badSpares : Nat) (timeout : Bool) (s : State) :
    Host.Outcome State Fault Refusal :=
  s.run (fun s => s.reach (s.effBankSelftest low badSpares timeout))

end Sys2Proof.Machine
end

