-- ==== Sys2Proof/Machine/SystemCommands.lean ====
section
/-! DEFINITION. The meanings of the logger, clock, chassis, start-up and reset rows: each runs the shared operation of its row. -/

namespace Sys2Proof.Machine

/-- LOGGER_TICK (R510). -/
def execLoggerTick (s : State) :
    Host.Outcome State Fault Refusal :=
  s.run (fun s => s.effLoggerTick)

/-- LOGGER_SAMPLE (R510). -/
def execLoggerSample (temp : Int) (s : State) :
    Host.Outcome State Fault Refusal :=
  s.run (fun s => s.effLoggerSample temp)

/-- FLUSH_REQ (R509). -/
def execFlushReq (p : Port) (v : Word) (s : State) :
    Host.Outcome State Fault Refusal :=
  s.run (fun s => s.commandWrite p 0x560 3 v)

/-- SAMPLE_NOW (R509). -/
def execSampleNow (p : Port) (v : Word) (s : State) :
    Host.Outcome State Fault Refusal :=
  s.run (fun s => s.commandWrite p 0x560 2 v)

/-- CRYSTAL_SWITCH (R511). -/
def execCrystalSwitch (s : State) :
    Host.Outcome State Fault Refusal :=
  s.run (fun s => s.effCrystalSwitch)

/-- CRYSTAL_FAIL (R511). -/
def execCrystalFail (s : State) :
    Host.Outcome State Fault Refusal :=
  s.run (fun s => s.effCrystalFail)

/-- CLOCK_BACKUP (R511). -/
def execClockBackup (s : State) :
    Host.Outcome State Fault Refusal :=
  s.run (fun s => s.effClockBackup)

/-- CHASSIS_SAMPLE (R512). -/
def execChassisSample (high : Bool) (s : State) :
    Host.Outcome State Fault Refusal :=
  s.run (fun s => s.effChassisSample high)

/-- CHASSIS_CHANGE (R512). -/
def execChassisChange (s : State) :
    Host.Outcome State Fault Refusal :=
  s.run (fun s => s.effChassisChange)

/-- POWER_ON (R523). -/
def execPowerOn (vaux : Bool) (src : Nat) (s : State) :
    Host.Outcome State Fault Refusal :=
  .next (s.effPowerOn vaux src)

/-- VAUX_RETURN (R526). -/
def execVauxReturn (s : State) :
    Host.Outcome State Fault Refusal :=
  .next (s.effVauxReturn)

/-- CUTOFF_EXIT (R197). -/
def execCutoffExit (src : Nat) (s : State) :
    Host.Outcome State Fault Refusal :=
  s.run (fun s => s.effCutoffExit src)

/-- RESET_ASSERT (R529). -/
def execResetAssert (s : State) :
    Host.Outcome State Fault Refusal :=
  s.run (fun s => s.effResetAssert)

/-- PIN_RESET (R523). -/
def execPinReset (s : State) :
    Host.Outcome State Fault Refusal :=
  .next (s.effPinReset)

/-- KEYED_RESET (R530). -/
def execKeyedReset (s : State) :
    Host.Outcome State Fault Refusal :=
  s.run (fun s => s.effKeyedReset)

/-- DARK_STARTUP (R527). -/
def execDarkStartup (s : State) :
    Host.Outcome State Fault Refusal :=
  s.run (fun s => s.effDarkStartup)

/-- STORE_FULL (R175). -/
def execStoreFull (s : State) :
    Host.Outcome State Fault Refusal :=
  s.run (fun s => s.effStoreFull)

/-- CHANNEL_EVENT_END (R366). -/
def execChannelEventEnd (ch : Nat) (tick : Nat) (s : State) :
    Host.Outcome State Fault Refusal :=
  s.run (fun s => s.effChannelEventEnd ch tick)

end Sys2Proof.Machine
end

