-- ==== Sys2Proof/Machine/Dispatch.lean ====
section
/-! DEFINITION. The dispatch: one arm for each constructor of Instr, one direct call of its meaning. -/

namespace Sys2Proof.Machine

/-- The effect of a command on everything but the queue. -/
def exec (i : Instr) (s : State) : Host.Outcome State Fault Refusal :=
  match i with
  | .dataPacket seq cls sof eof len ack => Sys2Proof.Machine.execDataPacket seq cls sof eof len ack s
  | .badPacket lane sent raw => Sys2Proof.Machine.execBadPacket s lane sent raw
  | .ackPacket seq => Sys2Proof.Machine.execAckPacket seq s
  | .nakPacket seq => Sys2Proof.Machine.execNakPacket seq s
  | .creditPacket mgmt peal => Sys2Proof.Machine.execCreditPacket mgmt peal s
  | .linkReqPacket num typ lanes cap => Sys2Proof.Machine.execLinkReqPacket num typ lanes cap s
  | .ts1 lane trainId reqEcho cap window => Sys2Proof.Machine.execTs1 lane trainId reqEcho cap window s
  | .ts2 lane trainId cap rxSet resume next window sent => Sys2Proof.Machine.execTs2 lane trainId cap rxSet resume next window sent s
  | .ackTimer => Sys2Proof.Machine.execAckTimer s
  | .replayTimeout => Sys2Proof.Machine.execReplayTimeout s
  | .linkReqRepeat => Sys2Proof.Machine.execLinkReqRepeat s
  | .ts1PhaseTimer => Sys2Proof.Machine.execTs1PhaseTimer s
  | .trainingPhaseTimeout => Sys2Proof.Machine.execTrainingPhaseTimeout s
  | .retrainTimeout => Sys2Proof.Machine.execRetrainTimeout s
  | .noValidSymbolTimeout => Sys2Proof.Machine.execNoValidSymbolTimeout s
  | .errorWindowLinkDown => Sys2Proof.Machine.execErrorWindowLinkDown s
  | .laneFault lanes => Sys2Proof.Machine.execLaneFault lanes s
  | .graceExpiry => Sys2Proof.Machine.execGraceExpiry s
  | .clockLocked => Sys2Proof.Machine.execClockLocked s
  | .packetBoundaryTransmit => Sys2Proof.Machine.execPacketBoundaryTransmit s
  | .retrain p v => Sys2Proof.Machine.execRetrain p v s
  | .fullRetrain p v => Sys2Proof.Machine.execFullRetrain p v s
  | .stmEn p en => Sys2Proof.Machine.execStmEn p en s
  | .eventFrame ph h body => Sys2Proof.Machine.execEventFrame ph h body s
  | .regRead h addr width => Sys2Proof.Machine.execRegRead h addr width s
  | .regWrite h addr width data => Sys2Proof.Machine.execRegWrite h addr width data s
  | .recRead h stroke mode arg opened => Sys2Proof.Machine.execRecRead h stroke mode arg opened s
  | .recWrite h typ first last seq payload => Sys2Proof.Machine.execRecWrite h typ first last seq payload s
  | .sessionOpenHello h method rights point => Sys2Proof.Machine.execSessionOpenHello h method rights point s
  | .sessionOpenProve h sig => Sys2Proof.Machine.execSessionOpenProve h sig s
  | .sessionClose h => Sys2Proof.Machine.execSessionClose h s
  | .lease h part op seconds => Sys2Proof.Machine.execLease h part op seconds s
  | .stagePull h => Sys2Proof.Machine.execStagePull h s
  | .leaseExpiry part => Sys2Proof.Machine.execLeaseExpiry part s
  | .pealSend => Sys2Proof.Machine.execPealSend s
  | .pealRetryWaitExpiry stroke => Sys2Proof.Machine.execPealRetryWaitExpiry stroke s
  | .packFrame e h => Sys2Proof.Machine.execPackFrame e h s
  | .pealCopyFrame ph h body => Sys2Proof.Machine.execPealCopyFrame ph h body s
  | .knellMirrorStart => Sys2Proof.Machine.execKnellMirrorStart s
  | .seal => Sys2Proof.Machine.execSeal s
  | .commitGroup => Sys2Proof.Machine.execCommitGroup s
  | .sectorPulseDone t ok => Sys2Proof.Machine.execSectorPulseDone t ok s
  | .bankFail bank => Sys2Proof.Machine.execBankFail bank s
  | .checkpointInterval => Sys2Proof.Machine.execCheckpointInterval s
  | .checkpointEntryCount => Sys2Proof.Machine.execCheckpointEntryCount s
  | .checkpoint => Sys2Proof.Machine.execCheckpoint s
  | .ckptReq p v => Sys2Proof.Machine.execCkptReq p v s
  | .scrubReq p v => Sys2Proof.Machine.execScrubReq p v s
  | .scrubExtent bank ext low damaged breaks => Sys2Proof.Machine.execScrubExtent bank ext low damaged breaks s
  | .staticLevelMove bank => Sys2Proof.Machine.execStaticLevelMove bank s
  | .cmtTollInc p v => Sys2Proof.Machine.execCmtTollInc p v s
  | .keepAliveEnergyLow => Sys2Proof.Machine.execKeepAliveEnergyLow s
  | .vauxFail => Sys2Proof.Machine.execVauxFail s
  | .force p v => Sys2Proof.Machine.execForce p v s
  | .knellOpeningFrame ph body => Sys2Proof.Machine.execKnellOpeningFrame ph body s
  | .knellDataFrame e body => Sys2Proof.Machine.execKnellDataFrame e body s
  | .dirWaitExpiry => Sys2Proof.Machine.execDirWaitExpiry s
  | .intakeMsExpiry => Sys2Proof.Machine.execIntakeMsExpiry s
  | .knellSegmentStart => Sys2Proof.Machine.execKnellSegmentStart s
  | .kSign => Sys2Proof.Machine.execKSign s
  | .kIndex => Sys2Proof.Machine.execKIndex s
  | .knellArm => Sys2Proof.Machine.execKnellArm s
  | .consReq p v => Sys2Proof.Machine.execConsReq p v s
  | .knlEn p en => Sys2Proof.Machine.execKnlEn p en s
  | .shedStep step => Sys2Proof.Machine.execShedStep step s
  | .shedStep6 => Sys2Proof.Machine.execShedStep6 s
  | .shedStep7 => Sys2Proof.Machine.execShedStep7 s
  | .shedLeave => Sys2Proof.Machine.execShedLeave s
  | .supplyChange src usable => Sys2Proof.Machine.execSupplyChange src usable s
  | .holdTopUp => Sys2Proof.Machine.execHoldTopUp s
  | .holdCapDone riseUs => Sys2Proof.Machine.execHoldCapDone riseUs s
  | .holdCapTimeout => Sys2Proof.Machine.execHoldCapTimeout s
  | .cellMeasure mv => Sys2Proof.Machine.execCellMeasure mv s
  | .vbatDetect mv => Sys2Proof.Machine.execVbatDetect mv s
  | .harvColdStart voc => Sys2Proof.Machine.execHarvColdStart voc s
  | .trackingSample sample => Sys2Proof.Machine.execTrackingSample sample s
  | .mpptSample p v => Sys2Proof.Machine.execMpptSample p v s
  | .gaugeUpdate g => Sys2Proof.Machine.execGaugeUpdate g s
  | .jobAdmit queue => Sys2Proof.Machine.execJobAdmit queue s
  | .derateBandChange temp => Sys2Proof.Machine.execDerateBandChange temp s
  | .domainIdleGate dom => Sys2Proof.Machine.execDomainIdleGate dom s
  | .longDarknessCutoff => Sys2Proof.Machine.execLongDarknessCutoff s
  | .ship p v => Sys2Proof.Machine.execShip p v s
  | .fieldDetect => Sys2Proof.Machine.execFieldDetect s
  | .snifferSample seen => Sys2Proof.Machine.execSnifferSample seen s
  | .fieldInterrupted receiving => Sys2Proof.Machine.execFieldInterrupted receiving s
  | .fieldGone => Sys2Proof.Machine.execFieldGone s
  | .select target action bank pointer mask truncate => Sys2Proof.Machine.execSelect target action bank pointer mask truncate s
  | .query dr m trext sel session targetB q tari blf => Sys2Proof.Machine.execQuery dr m trext sel session targetB q tari blf s
  | .queryAdjust session updn => Sys2Proof.Machine.execQueryAdjust session updn s
  | .queryRep session => Sys2Proof.Machine.execQueryRep session s
  | .ack rn => Sys2Proof.Machine.execAck rn s
  | .nak => Sys2Proof.Machine.execNak s
  | .reqRn rn => Sys2Proof.Machine.execReqRn rn s
  | .t2Expiry => Sys2Proof.Machine.execT2Expiry s
  | .invalidCommand gweuno => Sys2Proof.Machine.execInvalidCommand s gweuno
  | .read handle bank word count => Sys2Proof.Machine.execRead handle bank word count s
  | .write handle bank word data => Sys2Proof.Machine.execWrite handle bank word data s
  | .blockWrite handle bank word data => Sys2Proof.Machine.execBlockWrite handle bank word data s
  | .lock handle mask action => Sys2Proof.Machine.execLock handle mask action s
  | .access handle password => Sys2Proof.Machine.execAccess handle password s
  | .authenticate handle method keyId challenge response => Sys2Proof.Machine.execAuthenticate handle method keyId challenge response s
  | .kill handle => Sys2Proof.Machine.execKill handle s
  | .passwordLockoutEnd => Sys2Proof.Machine.execPasswordLockoutEnd s
  | .s1PersistenceExpiry => Sys2Proof.Machine.execS1PersistenceExpiry s
  | .flagPersistenceExpiry flag => Sys2Proof.Machine.execFlagPersistenceExpiry flag s
  | .gRecRead handle mode part stroke offset count => Sys2Proof.Machine.execGRecRead handle mode part stroke offset count s
  | .gGauge handle => Sys2Proof.Machine.execGGauge handle s
  | .gShipRead handle fromSeconds maxSamples => Sys2Proof.Machine.execGShipRead handle fromSeconds maxSamples s
  | .gStageWrite handle item flags version body => Sys2Proof.Machine.execGStageWrite handle item flags version body s
  | .gExportOpen handle part stroke count => Sys2Proof.Machine.execGExportOpen handle part stroke count s
  | .gExportChunk handle index count => Sys2Proof.Machine.execGExportChunk handle index count s
  | .gExportClose handle => Sys2Proof.Machine.execGExportClose handle s
  | .gWake handle reason => Sys2Proof.Machine.execGWake handle reason s
  | .wakeTest p v => Sys2Proof.Machine.execWakeTest p v s
  | .wakeRelease p v => Sys2Proof.Machine.execWakeRelease p v s
  | .wakePulseEnd => Sys2Proof.Machine.execWakePulseEnd s
  | .wakeLevelTimeout => Sys2Proof.Machine.execWakeLevelTimeout s
  | .userMapBuilt => Sys2Proof.Machine.execUserMapBuilt s
  | .channelEvent ch high tick => Sys2Proof.Machine.execChannelEvent ch high tick s
  | .postWindowEnd waves => Sys2Proof.Machine.execPostWindowEnd waves s
  | .ringStagingDone => Sys2Proof.Machine.execRingStagingDone s
  | .snrForce p v => Sys2Proof.Machine.execSnrForce p v s
  | .calReq p v => Sys2Proof.Machine.execCalReq p v s
  | .periodicCalibration => Sys2Proof.Machine.execPeriodicCalibration s
  | .calibration before after adcOffset gain blindUs => Sys2Proof.Machine.execCalibration before after adcOffset gain blindUs s
  | .snrEn p en => Sys2Proof.Machine.execSnrEn p en s
  | .blockRelease src window next => Sys2Proof.Machine.execBlockRelease src window s next
  | .healthTestFail src test count window => Sys2Proof.Machine.execHealthTestFail src test count window s
  | .entIdleGate src => Sys2Proof.Machine.execEntIdleGate src s
  | .entSelftest src kat w0 w1 => Sys2Proof.Machine.execEntSelftest src kat w0 w1 s
  | .rawStart p v => Sys2Proof.Machine.execRawStart p v s
  | .rawStop p v => Sys2Proof.Machine.execRawStop p v s
  | .rawCaptureEnd bytes rctFails aptFails => Sys2Proof.Machine.execRawCaptureEnd bytes rctFails aptFails s
  | .rawRelease p v => Sys2Proof.Machine.execRawRelease p v s
  | .entDataRead p second => Sys2Proof.Machine.execEntDataRead p second s
  | .grdApply p v => Sys2Proof.Machine.execGrdApply p v s
  | .guardUpdate => Sys2Proof.Machine.execGuardUpdate s
  | .postedWriteDrain master => Sys2Proof.Machine.execPostedWriteDrain master s
  | .guardFaultAudit master => Sys2Proof.Machine.execGuardFaultAudit master s
  | .sessionIdleTimeout ctx => Sys2Proof.Machine.execSessionIdleTimeout ctx s
  | .helloExpiry ctx => Sys2Proof.Machine.execHelloExpiry ctx s
  | .closeSel p v => Sys2Proof.Machine.execCloseSel p v s
  | .closeAll p v => Sys2Proof.Machine.execCloseAll p v s
  | .status => Sys2Proof.Machine.execStatus s
  | .regpWrite addr data => Sys2Proof.Machine.execRegpWrite addr data s
  | .regpRead addr whole => Sys2Proof.Machine.execRegpRead addr whole s
  | .writeInc addr data cut => Sys2Proof.Machine.execWriteInc addr data cut s
  | .readInc addr words cut => Sys2Proof.Machine.execReadInc addr words cut s
  | .readRep addr words cut => Sys2Proof.Machine.execReadRep addr words cut s
  | .badOpcode op => Sys2Proof.Machine.execBadOpcode op s
  | .glbKey p v => Sys2Proof.Machine.execGlbKey p v s
  | .glbReset p v => Sys2Proof.Machine.execGlbReset p v s
  | .glbLock p v => Sys2Proof.Machine.execGlbLock p v s
  | .rcRead p off => Sys2Proof.Machine.execRcRead p off s
  | .registerWrite p addr v => Sys2Proof.Machine.execRegisterWrite p addr v s
  | .mbxRead p => Sys2Proof.Machine.execMbxRead p s
  | .mbxStage p => Sys2Proof.Machine.execMbxStage p s
  | .mbxAbort p => Sys2Proof.Machine.execMbxAbort p s
  | .timeCommit p len => Sys2Proof.Machine.execTimeCommit p len s
  | .timeRtcLoad => Sys2Proof.Machine.execTimeRtcLoad s
  | .partMapCommit p len => Sys2Proof.Machine.execPartMapCommit p len s
  | .mbxRecWrite len => Sys2Proof.Machine.execMbxRecWrite len s
  | .pealPeersCommit p len => Sys2Proof.Machine.execPealPeersCommit p len s
  | .keyLoad p len => Sys2Proof.Machine.execKeyLoad p len s
  | .bivikOpen p len => Sys2Proof.Machine.execBivikOpen p len s
  | .selftestReq p len => Sys2Proof.Machine.execSelftestReq p len s
  | .bankSelftest low badSpares timeout => Sys2Proof.Machine.execBankSelftest low badSpares timeout s
  | .loggerTick => Sys2Proof.Machine.execLoggerTick s
  | .loggerSample temp => Sys2Proof.Machine.execLoggerSample temp s
  | .flushReq p v => Sys2Proof.Machine.execFlushReq p v s
  | .sampleNow p v => Sys2Proof.Machine.execSampleNow p v s
  | .crystalSwitch => Sys2Proof.Machine.execCrystalSwitch s
  | .crystalFail => Sys2Proof.Machine.execCrystalFail s
  | .clockBackup => Sys2Proof.Machine.execClockBackup s
  | .chassisSample high => Sys2Proof.Machine.execChassisSample high s
  | .chassisChange => Sys2Proof.Machine.execChassisChange s
  | .powerOn vaux src => Sys2Proof.Machine.execPowerOn vaux src s
  | .vauxReturn => Sys2Proof.Machine.execVauxReturn s
  | .cutoffExit src => Sys2Proof.Machine.execCutoffExit src s
  | .resetAssert => Sys2Proof.Machine.execResetAssert s
  | .pinReset => Sys2Proof.Machine.execPinReset s
  | .keyedReset => Sys2Proof.Machine.execKeyedReset s
  | .darkStartup => Sys2Proof.Machine.execDarkStartup s
  | .storeFull => Sys2Proof.Machine.execStoreFull s
  | .channelEventEnd ch tick => Sys2Proof.Machine.execChannelEventEnd ch tick s

end Sys2Proof.Machine
end

