-- ==== Sys2Proof/Machine/Step.lean ====
section
/-! DEFINITION. The step: the command at the front of the queue runs; on an empty queue time passes. -/

namespace Sys2Proof.Machine

/-- One step: the first waiting command runs on the state whose queue is the rest. On an empty queue
the block idles while its clocks advance by one unit of tag time, 2^-24 s (DESIGN CHOICE, log entry
4). -/
def step (s : State) : Host.Outcome State Fault Refusal := match s.pending with
  | [] => .next (s.elapse 1)
  | c :: rest => exec c { s with pending := rest }

/-- The state with the command that a word spells in front of its queue. -/
def State.withFetchWord (s : State) (nbits w : Nat) : State := match decodeTableWord nbits w with
  | some c => { s with pending := c :: s.pending }
  | none => s

end Sys2Proof.Machine
end

