-- ==== Sys2Proof/Safety.lean ====
section
/-! DEFINITION. What the statements speak of: a tag that runs, register storage in its one canonical form, and the conditions and results that several of them name. -/

namespace Sys2Proof.Machine

/-- Keys that rise strictly from `lo` on. -/
def risingFrom {α : Type} (lo : Nat) (m : List (Nat × α)) : Bool := match m with
  | [] => true
  | (k, _) :: t => lo ≤ k && risingFrom (k + 1) t

/-- A sparse map in its canonical form: rising keys, and no key listed with the value that an
unlisted key holds. -/
def canonical {α : Type} [DecidableEq α] (m : List (Nat × α)) (d : Nat → α) : Bool :=
  risingFrom 0 m && m.all (fun p => p.2 != d p.1)

/-- The three register maps are canonical: equal register contents are equal data. -/
def regsCanonical (s : State) : Bool :=
  canonical s.rf.cur regReset && canonical s.rf.inForce regReset && canonical s.rf.pend (fun _ => 0#32)

/-- The tag has power and TAG_RESET_N is not asserted: commands have their effect (R523, R529). -/
abbrev runs (s : State) : Prop := s.pwr.mode ≠ 0 ∧ s.boot.resetLow = false

/-- Nothing waits for room at S1, for READY or for the next group boundary (R85, R262). -/
abbrev nothingWaits (s : State) : Prop :=
  s.cmt.auditHeld = [] ∧ s.cmt.s1wait = [] ∧ s.peal.eventWait = [] ∧ s.peal.copyWait = [] ∧
    s.peal.mgmtWait = [] ∧ s.rf.mbx.waitLen = none ∧ s.snr.waiting = []

/-- The register port may write the register at `a`: TAG_VAUX is above the trip level and the guard
lets the access through (R420, R470). -/
abbrev portReady (s : State) (a : Nat) : Prop :=
  s.wired = true ∧ ((s.wakeFor .regp).regpGuard a true).2 = true

/-- The register port's unlock key is armed (R476). -/
abbrev keyReady (s : State) : Prop := s.rf.keyArmed.contains .regp = true

/-- How many packets an acknowledgement of `seq` covers (R217). -/
def ackCovers (s : State) (seq : BitVec 12) : Nat := (seq - (s.lnk.oldest - 1#12)).toNat

/-- How many packets are outstanding (R216). -/
def outstanding (s : State) : Nat := (s.lnk.next - s.lnk.oldest).toNat

/-- The link's packet state when a packet that passed its CRC has entered the error window (R234). -/
def goodPacket (s : State) : Lnk :=
  { s.lnk with errHist := (false :: s.lnk.errHist).take 4096, badRun := 0 }

/-- ... and the packets up to `seq` are released (R217). -/
def released (s : State) (seq : BitVec 12) : Lnk :=
  { goodPacket s with
    replay := s.lnk.replay.drop (ackCovers s seq), cursor := s.lnk.cursor - ackCovers s seq
    oldest := seq + 1#12
    noProgress := if ackCovers s seq = 0 then s.lnk.noProgress else 0 }


/-- S1 takes a record of `len` payload bytes of a local source's stream at once, with no GAP record ahead of
it (R37, R46, R85). -/
abbrev s1Takes (s : State) (loc cls len : Nat) : Prop :=
  (s.s1Open = true ∧ s.cmt.s1wait = [] ∧ s.cmt.auditHeld = [] ∧ s.snareSetOpen = false) ∧
  s.ownGap (s.source loc) cls = none ∧ s.hasRoom (sectorsOf len) = true ∧
  (cls = 6 → s.fld.st = 0 ∨ (s.wired = true ∧ s.knellRunning = false))

/-- The window that a source's tests run over: its first 128 samples may have been taken already (R396). -/
abbrev takenWindow (s : State) (x : Src) (v : BitVec 1024) : BitVec 1024 := withLead (s.source1 x).lead v

/-- The tests over that window, with the run that the samples before it left (R398). -/
abbrev windowRun (s : State) (x : Src) (v : BitVec 1024) : TestRun :=
  testWindow (takenWindow s x v) (s.source1 x).run (s.source1 x).last

/-- The tests over the 128 samples after it, which the release waits for (R396). -/
abbrev nextRun (s : State) (x : Src) (v : BitVec 1024) (nx : BitVec 128) : TestRun :=
  testSamples nx (windowRun s x v).run (windowRun s x v).last

/-- A source that has released a block: its counts carried on, its margins, and the samples taken for the
next window (R396, R398, R399). -/
def releasedSource (s : State) (x : Src) (v : BitVec 1024) (nx : BitVec 128) : Source :=
  { State.afterWindow (s.source1 x) (windowRun s x v) with
    rctMax := saturate 255 (max (max (s.source1 x).rctMax (windowRun s x v).runMax) (nextRun s x v nx).runMax)
    state := 2, fast := s.wired, lead := some nx, lastRelease := s.clk.up, woken := false }

/-- A record of the tag's own with the number and STREAM_NEW that it gets at S1 (R19, R35, R36). -/
def numbered (s : State) (r : Rec) : Rec :=
  { r with hdr := { r.hdr with
    seq := s.ownNumber r.hdr.source r.hdr.cls
    flags := r.hdr.flags ||| (if (s.streamOf r.hdr.source r.hdr.cls).isNone then flagNew else 0#8) } }

/-- What a reply's data holds after its first byte (R333). -/
def replyTail (t : State) : List Byte := match t.fldx.reply with
  | .data d => d.drop 1
  | _ => []

/-- The pipeline of `t` is that of `s` and one more record, of a tag-internal source (R35, R40, R85). -/
abbrev oneMore (s t : State) (loc : Nat) (typ : Byte) (payload : List Byte) : Prop :=
  t.cmt.pipe.map (fun p => p.record) = s.cmt.pipe.map (fun p => p.record) ++
    [numbered s (s.newInternal loc 6 typ (flagFirst ||| flagLast) payload)]

/-- A MGMT request frame of a host that the tag takes (R248, R257, R259). -/
abbrev hostAsks (s : State) (h : MgmtHdr) : Prop :=
  s.linkOn = true ∧ s.knellRunning = false ∧ h.ending = .good ∧ badRequester h.requester = false ∧
    h.requester ≠ switchDie

/-- ... and that it serves at once, in its turn (R262). -/
abbrev served (s : State) (h : MgmtHdr) : Prop :=
  hostAsks s h ∧ s.rf.ready = true ∧ s.peal.mgmtWait = []

/-- The request names an open session of its requester (R261). -/
abbrev inSession (s : State) (h : MgmtHdr) (c : Nat) (x : Ctx) : Prop :=
  h.session = some c ∧ 4 ≤ c ∧ s.ctx c = some x ∧ x.state = .opened ∧
    x.requester = h.requester.toNat

/-- The one frame queued for sending since `s` is this completion (R249, R258). -/
abbrev answered (s t : State) (h : MgmtHdr) (op status flags : Nat) (fields body : List Byte) : Prop :=
  t.lnk.txQ = s.lnk.txQ ++ cutPackets .mgmt 64 true
    (frameBytes (s.completionHeader h op status flags body.length fields) body)

/-- The state in which a host's register request is served: CORE is awake, the request is counted, its
frame's credits return and its session counts as used (R194, R224, R262, R290, R452). -/
def asked (s : State) (h : MgmtHdr) : State :=
  let (u, n) := s.wakeCore.takeDone 2
  (((u.boundary .request).releaseCredits 2 n).served).touchSession h

/-- The completion frames of a STAGE_PULL, one for each item, each but the last with MORE (R258, R267,
R272). -/
def pullFrames (s : State) (h : MgmtHdr) (rs : List Stored) : List TxPkt := match rs with
  | [] => []
  | r :: t =>
    let bytes := State.recBytes r.record false
    cutPackets .mgmt 64 true (frameBytes (s.completionHeader h 0x40 0 (if t.isEmpty then 4 else 6)
      bytes.length (leBytes 8 r.record.hdr.stroke)) bytes) ++ pullFrames s h t

/-- The status, the flags and the body with which REC_READ returns a record that it may read: the record
whole and verified, the plaintext of an opened copy that verifies, or the two ends of what is damaged (R263,
R264, R267). -/
def readReply (r : Stored) (opened : Bool) : Nat × Nat × List Byte :=
  let p := r.record.payload
  if r.intact = false then (0x0F, 0, recEnds r.record)
  else if opened = false then (0, 4, State.recBytes r.record false)
  else if copyVerifies p then (0, 4, openedCopy p)
  else (0x0F, 0, slice p 0 32 ++ slice p (p.length - 32) 32)

/-- The frames of a REC_READ's answer: a body of more than 4,032 bytes goes on in a second frame with CONT,
and the first has MORE (R258, R267). -/
def readFrames (s : State) (h : MgmtHdr) (stroke : Nat) (a : Nat × Nat × List Byte) : List TxPkt :=
  let f := leBytes 8 stroke
  let frame := fun (flags : Nat) (b : List Byte) =>
    cutPackets .mgmt 64 true (frameBytes (s.completionHeader h 0x10 a.1 flags b.length f) b)
  if a.2.2.length ≤ 4032 then frame a.2.1 a.2.2
  else frame 2 (a.2.2.take 4032) ++ frame (a.2.1 ||| 8) (a.2.2.drop 4032)

/-- The most-worn free extent of a bank that no uncommitted record has reserved, the first among equals
(R122). -/
def mostWornFree (s : State) (bank : Nat) : Option Nat :=
  ((s.arr.free.getD bank []).filter (fun e => !s.reserved.contains (extCode bank e))).foldl
    (fun (m : Option Nat) e => match m with
    | none => some e
    | some x => if s.extCycles bank x < s.extCycles bank e then some e else some x) none

/-- The least-worn extent of a bank in service: partition, logical extent, extent (R122). -/
def leastWorn (s : State) (bank : Nat) : Option (Nat × Nat × Nat) :=
  (s.inService bank).foldl (fun (m : Option (Nat × Nat × Nat)) e => match m with
    | none => some e
    | some x => if s.extCycles bank e.2.2 < s.extCycles bank x.2.2 then some e else some x) none

/-- Nothing waits for the commit-group boundary (R87, R130). -/
abbrev boundaryClear (s : State) : Prop :=
  s.rf.pend = [] ∧ s.peal.peersWait = false ∧ s.peal.leaseWait = []

/-- The flag that an effect of Select leaves: 0 no change, 1 the value `on`, 2 its opposite, 3 toggled
(R312). -/
def selected (e : Nat) (on f : Bool) : Bool :=
  if e = 0 then f else if e = 1 then on else if e = 2 then !on else !f

/-- The journal entry that a field write programs (R348). -/
def fieldEntry (s : State) (target addr : Nat) (data : List Byte) : FJEntry :=
  { pos := s.fmem.head, count := ceilDiv (24 + data.length) 32, target := target, addr := addr
    data := data, value := (s.tollValue 7 + 1) % 4294967296
    seq := s.ownNumber (s.source 4) 4, applied := false }

/-- Sectors of the record of a field write. -/
def writeSectors (target addr len : Nat) : Nat :=
  sectorsOf (if target = 5 then len else 16 + 32 * (writeSpan target addr len).2)

/-- The grant that a field write asks for. -/
def writeJob (s : State) (cost : Nat) : Job :=
  { id := s.cmt.nextId, queue := 1, cost := cost, weight := 1, kind := .fieldWrite }

/-- A field write of `len` bytes at an address of a target is admitted: no boundary is awaited, CORE
is awake and the maps are built, no lease and no pending entry is in its way, S1 and the partition
have room, the energy grant is given and the guard lets it through (R350). -/
abbrev writeAdmitted (s : State) (target addr len part cost : Nat) : Prop :=
  (s.rf.pend = [] ∧ s.domOn 4 = true ∧ s.arrayBusy false = none ∧ s.arrayBusy true = none) ∧
  (part = (if target = 5 then 8 else 9)) ∧
  (cost = fieldWriteCost s.pwr.band (max (ceilDiv (24 + len) 32) (writeSpan target addr len).2)) ∧
  ((if target = 5 then s.peal.lease8 else s.peal.lease9) = none ∧ s.fjPending = []) ∧
  s1Takes s 4 4 (if target = 5 then len else 16 + 32 * (writeSpan target addr len).2) ∧
  (s.cmt.pipe = [] ∧ (s.newLogical part (s.part part).head (writeSectors target addr len)).length ≤
    s.freeLogical part) ∧
  s.verdict (writeJob s cost) = .grant ∧
  s.partRoom part (writeSectors target addr len) = true ∧
  (s.guardWrite target addr len part (s.part part).head (writeSectors target addr len)).2 = true

/-- An admitted field write has been taken: its record is in the pipeline under a grant, its journal
entry is programmed, toll counter 7 has advanced and the shadow follows the journal (R348 to R352). -/
abbrev writeTaken (s t : State) (target addr cost : Nat) (data : List Byte) : Prop :=
  t.cmt.pipe.map (fun p => (p.record.hdr.typ, p.record.hdr.source, p.record.hdr.seq, p.granted)) =
    [((if target = 5 then 0x60#8 else 0x70#8), s.source 4,
      s.ownNumber (s.source 4) 4, some cost)] ∧
  t.fmem.journal.getLast? = some (fieldEntry s target addr data) ∧
  t.fmem.head = (s.fmem.head + ceilDiv (24 + data.length) 32) % 256 ∧
  t.tollValue 7 = (s.tollValue 7 + 1) % 4294967296 ∧
  { t with
    rf := s.rf, fmem := s.fmem, cmt := s.cmt, clk.lastStamp := s.clk.lastStamp, fldx.reply := s.fldx.reply
    arr.tags := s.arr.tags, arr.extEpochs := s.arr.extEpochs, arr.tolls := s.arr.tolls
    arr.spareRings := s.arr.spareRings
    pwr.domOn := s.pwr.domOn } = s

/-- A write of words to a bank that reaches the admission: its span is allowed, and no lock is in its
way (R329 to R331). -/
abbrev writable (s : State) (bank word : Nat) (ds : List (BitVec 16)) : Prop :=
  (bank = 1 ∨ bank = 3 ∨ (bank = 0 ∧ 2 ≤ word)) ∧ 1 ≤ ds.length ∧ ds.length ≤ 116 ∧
  word + ds.length ≤ bankWords bank ∧ 2 * word / 256 = (2 * (word + ds.length) - 1) / 256 ∧
  (bank = 1 → 1 ≤ word) ∧ (bank = 1 → word = 1 → (ds.headD 0#16).getLsbD 9 = false) ∧
  s.fmem.lock.getLsbD (lockShift bank word) = false ∧ s.fmem.lock.getLsbD (lockShift bank word + 1) = false

/-- No boundary is awaited, CORE is awake and the maps are built, and no lease holds the target. -/
abbrev writeReady (s : State) (target : Nat) : Prop :=
  (s.rf.pend = [] ∧ s.domOn 4 = true ∧ s.arrayBusy false = none ∧ s.arrayBusy true = none) ∧
  (if target = 5 then s.peal.lease8 else s.peal.lease9) = none

/-- The scheduler refuses the grant of a field write (R187). -/
abbrev writeRefused (s : State) (target addr len : Nat) : Prop :=
  writeReady s target ∧ s.fjPending = [] ∧ s.s1Open = true ∧
  s.verdict (writeJob s (fieldWriteCost s.pwr.band (max (ceilDiv (24 + len) 32)
    (writeSpan target addr len).2))) ≠ .grant

/-- The next journal entry would lie on a sector of a pending one. -/
abbrev journalBlocked (s : State) (target len : Nat) : Prop :=
  writeReady s target ∧ (s.fjPending.any (fun e => (fjSectors e).any (fun q =>
    (List.range (ceilDiv (24 + len) 32)).any (fun i => (s.fmem.head + i) % 256 == q)))) = true

/-- The commands that act without power or while TAG_RESET_N is held low: power and its sources, a field,
the release of the pin, and the decay of the inventory flags. -/
def actsUnpowered (c : Instr) : Bool := match c with
  | .powerOn _ _ | .vauxReturn | .supplyChange _ _ | .vauxFail | .fieldDetect | .pinReset
  | .s1PersistenceExpiry | .flagPersistenceExpiry _ => true
  | _ => false

/-- The commands of the field and of the noise sources, which act while the tag has power or the field tank
feeds the field engine (R298). -/
def actsInField (c : Instr) : Bool := match c with
  | .snifferSample _ | .fieldInterrupted _ | .fieldGone | .select _ _ _ _ _ _ | .query _ _ _ _ _ _ _ _ _
  | .queryAdjust _ _ | .queryRep _ | .ack _ | .nak | .reqRn _ | .t2Expiry | .invalidCommand _
  | .read _ _ _ _ | .write _ _ _ _ | .blockWrite _ _ _ _ | .lock _ _ _ | .access _ _
  | .authenticate _ _ _ _ _ | .kill _ | .passwordLockoutEnd | .gRecRead _ _ _ _ _ _ | .gGauge _
  | .gShipRead _ _ _ | .gStageWrite _ _ _ _ _ | .gExportOpen _ _ _ _ | .gExportChunk _ _ _
  | .gExportClose _ | .gWake _ _ | .blockRelease _ _ _ | .healthTestFail _ _ _ _ => true
  | _ => false

/-- The commands that start the tag anew with GLB_LOCK open, or with the toll shadow taken from the
array (R496, R529 to R531). -/
def startsAnew (c : Instr) : Bool := match c with
  | .powerOn _ _ | .cutoffExit _ | .pinReset | .keyedReset => true
  | _ => false

/-- The two copies of the stroke toll shadow agree, and their parity checks, or they hold 0 (R100). -/
abbrev shadowSound (s : State) : Prop :=
  s.cmt.shadow = s.cmt.shadowB ∧ s.cmt.par = s.cmt.parB ∧
    (s.cmt.par = parity64 s.cmt.shadow ∨ s.cmt.shadow = 0)

end Sys2Proof.Machine
end

