-- ==== Sys2Proof/Certificates/Slice0/Obligations.lean ====
section
/-! DEFINITION. The statements for the provers. -/

open Sys2Proof Sys2Proof.Machine

/-- A step of a state with a command in front of its queue is exec of that command on the state with
the queue's rest. On an empty queue the block idles for one unit of tag time, which is the model's
choice (log entry 4). -/
def Obligations.StepRunsFront : Prop :=
  (∀ (c : Instr) (rest : List Instr) (s : State),
    step { s with pending := c :: rest } = exec c { s with pending := rest }) ∧
  (∀ s : State, s.pending = [] → step s = .next (s.elapse 1))

/-- Every command answers a next state; without power no command but the eight of actsUnpowered and,
while the field tank feeds the field engine, those of actsInField has an effect (R298, R523), and
none but the eight has one while TAG_RESET_N is held low (R529; log entry 3). -/
def Obligations.CommandsAnswer : Prop :=
  (∀ (c : Instr) (s : State), ∃ t, exec c s = .next t) ∧
  (∀ (c : Instr) (s : State), actsUnpowered c = false →
    (s.pwr.mode = 0 ∧ (actsInField c = false ∨ s.fld.st = 0)) ∨ s.boot.resetLow = true →
    exec c s = .next s)

/-- State.reset is a tag as manufacture leaves it (R33, R58, R100, R325, R330): no command waits,
two records are held, IDENTITY and the attestation key's KEY_SLOT with the stroke numbers 1 and 2,
both copies of the toll shadow hold 2, every register holds its reset value, the access password
is 0, every bank is ACTIVE and every Knell slot EMPTY. That it has no power yet is the model's
choice (log entry 2). -/
def Obligations.ResetState : Prop :=
  State.reset.pending = [] ∧
  State.reset.arr.recs.map (fun r => (r.record.hdr.typ, r.record.hdr.stroke)) = [(0x90#8, 1), (0xA0#8, 2)] ∧
  State.reset.cmt.shadow = 2 ∧ State.reset.cmt.shadowB = 2 ∧
  (∀ off, State.reset.reg off = regReset off ∧ State.reset.force off = regReset off) ∧
  State.reset.accessPassword = 0 ∧ State.reset.fmem.lock = 0x30C#10 ∧
  State.reset.arr.banks = [0, 0, 0, 0] ∧ State.reset.kn.slots = List.replicate 8 emptySlot ∧
  State.reset.ses.keys.map (fun k => k.1) = [1] ∧ State.reset.pwr.mode = 0

/-- At State.reset the register maps are canonical, and the two copies of the toll shadow agree with
their parities right (R100). -/
def Obligations.ResetMeetsInvariants : Prop :=
  regsCanonical State.reset = true ∧ shadowSound State.reset

/-- Whatever a command does, the commands that wait behind it stay as they are, in their order. -/
def Obligations.QueueUntouched : Prop :=
  ∀ (c : Instr) (s t : State), exec c s = .next t → t.pending = s.pending

/-- Every step keeps the three register maps in their canonical form: rising offsets, and no entry
that equals what an unlisted register holds. Equal register contents are then equal data. -/
def Obligations.RegistersStayCanonical : Prop :=
  ∀ s t : State, regsCanonical s = true → step s = .next t → regsCanonical t = true

/-- Every step keeps the two copies of the stroke toll shadow equal, with equal parities that check
unless the copies hold 0, the value from which a tag whose AON has lost all power starts until its
recovery finds the stroke (R100, R113). -/
def Obligations.ShadowCopiesAgree : Prop :=
  ∀ s t : State, shadowSound s → step s = .next t → shadowSound t

/-- No command but the four that start the tag anew lowers the stroke toll shadow while its copies
are sound (R41, R100), and once GLB_LOCK has taken its one write none of them changes it (R496).
-/
def Obligations.TollAndLockPersist : Prop :=
  ∀ (c : Instr) (s t : State), startsAnew c = false → exec c s = .next t →
    (shadowSound s → s.cmt.shadow ≤ t.cmt.shadow) ∧
    (s.rf.lockUsed = true → t.rf.lockUsed = true ∧ t.rf.locked = s.rf.locked)

/-- The byte address of an access is decided by the highest-numbered region that covers it; a byte
that no region covers faults; a disabled sub-region does not cover its bytes (R424). -/
def Obligations.DecidingRegion : Prop :=
  ∀ (s : State) (m a : Nat),
    (∀ r, r < 16 → guardedSpace a = true → regionCovers (s.liveRegion (regionKey m r)) a = true →
      (∀ q, r < q → q < 16 → regionCovers (s.liveRegion (regionKey m q)) a = false) →
      s.deciding m a = some (s.liveRegion (regionKey m r)).2) ∧
    (∀ x : Access, x.addr = a →
      (∀ r, r < 16 → regionCovers (s.liveRegion (regionKey m r)) a = false) →
      (s.guarded m x).2 = false) ∧
    (∀ (r : Word × Word) (k : Nat), 7 ≤ regionSz r.2 → r.2.bit (8 + k) = true →
      r.1.toNat + k * 2 ^ (regionSz r.2 - 3) ≤ a → a < r.1.toNat + (k + 1) * 2 ^ (regionSz r.2 - 3) →
      regionCovers r a = false)

/-- Whatever the guard's policy, the register port's accesses to the GLB and GRD blocks are never
refused (R421): every read of them ends OK, and no write of them, through any window, ends in
GUARD_FAULT. -/
def Obligations.PortNeverLockedOut : Prop :=
  ∀ (s : State) (a : Nat), runs s → s.wired = true → a % 4 = 0 → regOff a < 0x60 ∨ (0x420 ≤ regOff a
    ∧ regOff a < 0x4A0) →
    (a < 2048 → ∃ t, exec (.regpRead a true) s = .next t ∧ t.rf.result = 0) ∧
    (a < 8192 → ∃ t, exec (.regpRead a true) s = .next t ∧ t.rf.result ≠ 3) ∧
    (∀ (v : Word), a < 8192 → ∃ t, exec (.regpWrite a (some v)) s = .next t ∧ t.rf.result ≠ 3)

/-- A field write of any of the four commands that R187 refuses is answered with error 0x0B before
step 2 (R353): nothing is stamped, journaled or counted as a state change; PWR_STATUS.REFUSED is
set and PWR_REFUSE_CNT counts it. -/
def Obligations.FieldWriteRefused : Prop :=
  ∀ (s : State), runs s → 5 ≤ s.fld.st → s.cfgBit 0x2A0 0 = true →
    (∀ (bank w : Nat) (d : BitVec 16), writable s bank w [d ^^^ s.fld.rn16] → writeRefused s bank w
      2 → ∃ t, exec (.write s.fld.handle bank w d) s = .next t ∧ t.fldx.reply = .error 0x0B ∧
      (regsCanonical s = true → (t.reg 0x070).bit 6 = true ∧ t.reg 0x0A4 = BitVec.ofNat 32 (saturate
      4294967295 ((s.reg 0x0A4).toNat + 1))) ∧
      { t with rf := s.rf, fldx.reply := s.fldx.reply, pwr.domOn := s.pwr.domOn } = s) ∧
    (∀ (bank w : Nat) (ds : List (BitVec 16)), writable s bank w ds → writeRefused s bank w (2 *
      ds.length) → ∃ t, exec (.blockWrite s.fld.handle bank w ds) s = .next t ∧ t.fldx.reply =
      .error 0x0B ∧ (regsCanonical s = true → (t.reg 0x070).bit 6 = true ∧ t.reg 0x0A4 =
      BitVec.ofNat 32 (saturate 4294967295 ((s.reg 0x0A4).toNat + 1))) ∧
      { t with rf := s.rf, fldx.reply := s.fldx.reply, pwr.domOn := s.pwr.domOn } = s) ∧
    (∀ (m a : BitVec 10), s.fld.priv ≠ 1 → lockRefused s.fmem.lock (lockAfter s.fmem.lock m a) =
      false → writeRefused s 4 0 2 → ∃ t, exec (.lock s.fld.handle m a) s = .next t ∧ t.fldx.reply =
      .error 0x0B ∧ (regsCanonical s = true → (t.reg 0x070).bit 6 = true ∧ t.reg 0x0A4 =
      BitVec.ofNat 32 (saturate 4294967295 ((s.reg 0x0A4).toNat + 1))) ∧
      { t with rf := s.rf, fldx.reply := s.fldx.reply, pwr.domOn := s.pwr.domOn } = s) ∧
    (∀ (item : Nat) (fl : Byte) (vs : Word) (bd : List Byte), s.fld.priv = 4 → item < 65535 → fl =
      0#8 ∨ fl = 1#8 → bd.length ≤ 224 → writeRefused s 5 item (8 + bd.length) → ∃ t, exec
      (.gStageWrite s.fld.handle item fl vs bd) s = .next t ∧ t.fldx.reply = .error 0x0B ∧
      (regsCanonical s = true → (t.reg 0x070).bit 6 = true ∧ t.reg 0x0A4 = BitVec.ofNat 32 (saturate
      4294967295 ((s.reg 0x0A4).toNat + 1))) ∧
      { t with rf := s.rf, fldx.reply := s.fldx.reply, pwr.domOn := s.pwr.domOn } = s)

/-- A field write of any of the four commands whose journal entry would overwrite a sector of an
entry whose apply mark is 0x00 is answered with error 0x0F before step 2, and FLD_REFUSE_CNT.OTHER
counts it (R354). -/
def Obligations.FieldJournalFull : Prop :=
  ∀ (s : State), runs s → 5 ≤ s.fld.st → s.cfgBit 0x2A0 0 = true →
    (∀ (bank w : Nat) (d : BitVec 16), writable s bank w [d ^^^ s.fld.rn16] → journalBlocked s bank
      2 → ∃ t, exec (.write s.fld.handle bank w d) s = .next t ∧ t.fldx.reply = .error 0x0F ∧
      (regsCanonical s = true → t.reg 0x2DC = (s.reg 0x2DC &&& 0xFFFFFF00#32) ||| BitVec.ofNat 32
      (saturate 255 ((s.reg 0x2DC).toNat % 256 + 1))) ∧
      { t with rf := s.rf, fldx.reply := s.fldx.reply, pwr.domOn := s.pwr.domOn } = s) ∧
    (∀ (bank w : Nat) (ds : List (BitVec 16)), writable s bank w ds → journalBlocked s bank (2 *
      ds.length) → ∃ t, exec (.blockWrite s.fld.handle bank w ds) s = .next t ∧ t.fldx.reply =
      .error 0x0F ∧ (regsCanonical s = true → t.reg 0x2DC = (s.reg 0x2DC &&& 0xFFFFFF00#32) |||
      BitVec.ofNat 32 (saturate 255 ((s.reg 0x2DC).toNat % 256 + 1))) ∧
      { t with rf := s.rf, fldx.reply := s.fldx.reply, pwr.domOn := s.pwr.domOn } = s) ∧
    (∀ (m a : BitVec 10), s.fld.priv ≠ 1 → lockRefused s.fmem.lock (lockAfter s.fmem.lock m a) =
      false → journalBlocked s 4 2 → ∃ t, exec (.lock s.fld.handle m a) s = .next t ∧ t.fldx.reply =
      .error 0x0F ∧ (regsCanonical s = true → t.reg 0x2DC = (s.reg 0x2DC &&& 0xFFFFFF00#32) |||
      BitVec.ofNat 32 (saturate 255 ((s.reg 0x2DC).toNat % 256 + 1))) ∧
      { t with rf := s.rf, fldx.reply := s.fldx.reply, pwr.domOn := s.pwr.domOn } = s) ∧
    (∀ (item : Nat) (fl : Byte) (vs : Word) (bd : List Byte), s.fld.priv = 4 → item < 65535 → fl =
      0#8 ∨ fl = 1#8 → bd.length ≤ 224 → journalBlocked s 5 (8 + bd.length) → ∃ t, exec
      (.gStageWrite s.fld.handle item fl vs bd) s = .next t ∧ t.fldx.reply = .error 0x0F ∧
      (regsCanonical s = true → t.reg 0x2DC = (s.reg 0x2DC &&& 0xFFFFFF00#32) ||| BitVec.ofNat 32
      (saturate 255 ((s.reg 0x2DC).toNat % 256 + 1))) ∧
      { t with rf := s.rf, fldx.reply := s.fldx.reply, pwr.domOn := s.pwr.domOn } = s)

/-- A change of supply under R172 does not disturb any inventoried flag, nor SL (the flag of S0
reverts only where FDIG gates for want of any supply); the flags that the AON timer holds pass
through a cut-off (R297). -/
def Obligations.SupplyKeepsFlags : Prop :=
  ∀ (s : State), runs s →
    (∀ (src : Nat) (u : Bool), ∃ t, exec (.supplyChange src u) s = .next t ∧ t.fld.sl = s.fld.sl ∧
      t.fld.inv.drop 1 = s.fld.inv.drop 1 ∧ (t.fld.st ≠ 0 → t.fld.inv = s.fld.inv)) ∧
    (∃ t, exec (.longDarknessCutoff) s = .next t ∧ t.fld.inv.drop 1 = s.fld.inv.drop 1 ∧ t.fld.sl =
      s.fld.sl)

/-- A PACK is ignored, and STRAY_ACK set, when its origin tag index, Carillon ID and origin stroke
number match no unsettled record, or when its peer is not in that record's peer set (R282). -/
def Obligations.StrayAcknowledgements : Prop :=
  ∀ (s : State) (h : PackHdr), runs s → s.knellRunning = false → s.linkOn = true →
    (s.peal.unsettled.all (fun u => u.stroke != h.stroke) = true ∨ h.origin ≠ s.tagIndex ∨ h.cid ≠
      s.cid → ∃ t, exec (.packFrame .good h) s = .next t ∧ (regsCanonical s = true → (t.reg
      0x230).bit 5 = true) ∧ { t with rf := s.rf, lnk := s.lnk, pwr.domOn := s.pwr.domOn } = s) ∧
    (∀ (u : Unsettled), s.peal.unsettled = [u] → h.stroke = u.stroke → u.set &&& BitVec.ofNat 64 (2
      ^ (h.acker % 64)) = 0#64 → ∃ t, exec (.packFrame .good h) s = .next t ∧ (regsCanonical s =
      true → (t.reg 0x230).bit 5 = true) ∧
      { t with rf := s.rf, lnk := s.lnk, pwr.domOn := s.pwr.domOn } = s)

/-- A packet or ordered set whose fields lie in their ranges is read back from its bytes on the
lanes, whatever its fields hold (R208, R209, R211, R212, R227): no field is dropped, its CRC-32C
checks, and its reserved bits are 0, so the bytes are never malformed. -/
def Obligations.PacketsRoundTrip : Prop :=
  ∀ p : Packet, p.inRange = true → parsePacket p.bytes = some p

/-- The timers of the link (R219, R220, R228, R231, R232, R237). A pending acknowledgement is asked
for; a LINK_REQ goes again while a reason for it holds; a training phase that lasts too long
returns to CLKWAIT; bad packets in a row or a lane whose IDLE bits differ ask for a retrain, over
an outstanding request with their lanes added to its own (log entry 87); a replay timeout replays
every held packet, and one that comes after four replays without progress also asks for a retrain
unless a request is outstanding (that the fourth replay is judged at the next timeout is the
model's reading, log entry 35). The link goes down (R233 to R235): no valid symbol for 1 µs, 8 bad
packets among the last 4,096, or a retrain that did not finish in time. Outside a Knell the tag
waits for the clock again, holds what was open, offers RESUME when there was a link to resume, and
starts the grace period of STM_CFG.GRACE_MS; the link down is counted in STM_LINKDOWN_CNT and
reported in STM_STATUS. The grace period ends (R236), with no frame open and no record held: the
tag's packets to send and to replay are discarded and counted, and the hold ends. -/
def Obligations.LinkTimersAndFalls : Prop :=
  ∀ (s : State), runs s →
    (s.stm.st = 4 → s.lnk.unacked ≠ 0 → exec (.ackTimer) s = .next
      ({ s with lnk.ackPending := true })) ∧
    (s.stm.st = 4 → s.stm.req.isSome = true → s.stm.reqWhy.any (fun w => s.whyHolds w) = true → exec
      (.linkReqRepeat) s = .next ({ s with lnk.linkReqPending := true })) ∧
    (s.stm.st = 2 ∨ s.stm.st = 3 → exec (.trainingPhaseTimeout) s = .next ({ s with stm.st := 1 })) ∧
    (∀ (lanes : BitVec 4), s.stm.st = 4 → 2 ≤ s.lnk.badRun ∨ lanes ≠ 0#4 → s.stm.req = none → exec
      (.laneFault lanes) s = .next ({ s with
        stm.reqNum := if s.stm.reqNum = 255 then 1 else s.stm.reqNum + 1, stm.req := some (if
          s.stm.reqNum = 255 then 1 else s.stm.reqNum + 1, 1, lanes), stm.reqWhy := [if lanes = 0#4
          then .crc else .idle], lnk.linkReqPending := true })) ∧
    (∀ (lanes old : BitVec 4) (n typ : Nat), s.stm.st = 4 → lanes ≠ 0#4 → s.stm.req = some (n, typ,
      old) → exec (.laneFault lanes) s = .next ({ s with
        stm.req := some (n, typ, old ||| lanes), stm.reqWhy := if s.stm.reqWhy.contains .idle then
          s.stm.reqWhy else s.stm.reqWhy ++ [.idle], lnk.linkReqPending := true })) ∧
    (s.stm.st = 4 → s.lnk.replay ≠ [] → s.lnk.noProgress < 4 ∨ s.stm.req.isSome = true → ∃ t, exec
      (.replayTimeout) s = .next t ∧ t.rf = ((s.count 0x1D0).raise 0x1AC 1).rf ∧ t.lnk =
      { s.lnk with cursor := 0, noProgress := s.lnk.noProgress + 1 } ∧
      { t with rf := s.rf, lnk := s.lnk } = s) ∧
    (s.stm.st = 4 → s.lnk.replay ≠ [] → 4 ≤ s.lnk.noProgress → s.stm.req = none → ∃ t, exec
      (.replayTimeout) s = .next t ∧ t.rf = ((s.count 0x1D0).raise 0x1AC 1).rf ∧ t.lnk =
      { s.lnk with cursor := 0, noProgress := s.lnk.noProgress + 1, linkReqPending := true } ∧
      t.stm.req = some (t.stm.reqNum, 1, 0#4) ∧ t.stm.reqWhy = [.stalled] ∧ 1 ≤ t.stm.reqNum ∧
      { t with
        rf := s.rf, lnk := s.lnk, stm.req := s.stm.req, stm.reqNum := s.stm.reqNum, stm.reqWhy :=
          s.stm.reqWhy } = s) ∧
    (s.knellRunning = false → s.stm.st = 4 → ∃ t, exec (.noValidSymbolTimeout) s = .next t ∧ t.stm =
      { s.stm with
        st := 1, rxLanes := 0#4, txLanes := 0#4, retraining := false, req := none, reqWhy := [],
          wasDown := true, held := true, resumeOk := s.stm.resumeOk || decide (s.stm.st = 4),
          graceEnd := s.clk.up + usUnits (1000 * (s.boundary .linkDown).graceMs) } ∧ t.lnk =
      { s.lnk with linkReqPending := false, nakPending := none, ackPending := false } ∧ t.rf =
      (((s.boundary .linkDown).raise 0x1AC 6).count 0x1E0).rf ∧
      { t with rf := s.rf, stm := s.stm, lnk := s.lnk } = s) ∧
    (s.knellRunning = false → s.stm.st = 4 → 8 ≤ s.errCount → ∃ t, exec (.errorWindowLinkDown) s =
      .next t ∧ t.stm = { s.stm with
        st := 1, rxLanes := 0#4, txLanes := 0#4, retraining := false, req := none, reqWhy := [],
          wasDown := true, held := true, resumeOk := s.stm.resumeOk || decide (s.stm.st = 4),
          graceEnd := s.clk.up + usUnits (1000 * (s.boundary .linkDown).graceMs) } ∧ t.lnk =
      { s.lnk with linkReqPending := false, nakPending := none, ackPending := false } ∧ t.rf =
      (((s.boundary .linkDown).raise 0x1AC 6).count 0x1E0).rf ∧
      { t with rf := s.rf, stm := s.stm, lnk := s.lnk } = s) ∧
    (s.knellRunning = false → s.stm.retraining = true → s.stm.st ≠ 4 → ∃ t, exec (.retrainTimeout) s
      = .next t ∧ t.stm = { s.stm with
        st := 1, rxLanes := 0#4, txLanes := 0#4, retraining := false, req := none, reqWhy := [],
          wasDown := true, held := true, resumeOk := s.stm.resumeOk || decide (s.stm.st = 4),
          graceEnd := s.clk.up + usUnits (1000 * (s.boundary .linkDown).graceMs) } ∧ t.lnk =
      { s.lnk with linkReqPending := false, nakPending := none, ackPending := false } ∧ t.rf =
      (((s.boundary .linkDown).raise 0x1AC 6).count 0x1E0).rf ∧
      { t with rf := s.rf, stm := s.stm, lnk := s.lnk } = s) ∧
    (nothingWaits s → s.stm.held = true → s.cmt.pipe = [] → s.lnk.openFrame = [none, none, none,
      none] → ∃ t, exec (.graceExpiry) s = .next t ∧ t.stm =
      { s.stm with held := false, resumeOk := false } ∧ t.lnk =
      { s.lnk with txQ := [], replay := [], cursor := 0, oldest := s.lnk.next } ∧ t.rf =
      (((s.countBy 0x1E4 15 0 0).countBy 0x1E4 31 16 (s.lnk.replay.length + s.lnk.txQ.length)).raise
      0x1AC 8).rf ∧ { t with rf := s.rf, stm := s.stm, lnk := s.lnk } = s)

/-- Received control packets (R217, R218, R220, R223). An ACK inside the window releases the packets
it covers; a NAK does so too and starts a replay from the new oldest packet if one is still held;
outside the window both are ignored and counted in STM_BADACK_CNT. Bytes that are no valid packet
and no IDLE word are counted and answered by a NAK with reason 0x01 unless one is outstanding. The
first CREDIT after a fresh training sets the limits of MGMT and PEAL, and neither of them falls
back at a later one. Nothing else changes. A DATA packet of 1 to 512 bytes (R217, R223, R225),
with nothing waiting for room. The next in order is accepted: the expected number rises, the
packet's credits are used, an acknowledgement falls due at the eighth, and its frame begins, goes
on or ends. One behind is a duplicate: it is counted and acknowledged. One ahead is discarded and
answered by a NAK with reason 0x02 unless one is outstanding. One that needs more credits than its
class has is malformed, whether it is next or ahead. -/
def Obligations.ReceivedPackets : Prop :=
  ∀ (s : State), runs s → s.stm.st = 4 → nothingWaits s →
    (∀ (seq : BitVec 12), ackCovers s seq ≤ outstanding s → exec (.ackPacket seq) s = .next
      ({ s with lnk := released s seq })) ∧
    (∀ (seq : BitVec 12), outstanding s < ackCovers s seq → ∃ t, exec (.ackPacket seq) s = .next t ∧
      t.lnk = goodPacket s ∧ t.rf = ((s.count 0x1D4).raise 0x1AC 2).rf ∧
      { t with rf := s.rf, lnk := s.lnk } = s) ∧
    (∀ (seq : BitVec 12), ackCovers s seq ≤ outstanding s → (released s seq).replay ≠ [] → ∃ t, exec
      (.nakPacket seq) s = .next t ∧ t.lnk =
      { released s seq with cursor := 0, noProgress := (released s seq).noProgress + 1 } ∧ t.rf =
      ((s.count 0x1D0).raise 0x1AC 1).rf ∧ { t with rf := s.rf, lnk := s.lnk } = s) ∧
    (∀ (seq : BitVec 12), ackCovers s seq ≤ outstanding s → (released s seq).replay = [] → exec
      (.nakPacket seq) s = .next ({ s with lnk := released s seq })) ∧
    (∀ (seq : BitVec 12), outstanding s < ackCovers s seq → ∃ t, exec (.nakPacket seq) s = .next t ∧
      t.lnk = goodPacket s ∧ t.rf = ((s.count 0x1D4).raise 0x1AC 2).rf ∧
      { t with rf := s.rf, lnk := s.lnk } = s) ∧
    (∀ (lane sent : Nat) (raw : List Byte), parsePacket raw = none → raw ≠ idleWord → ∃ t, exec
      (.badPacket lane sent raw) s = .next t ∧ t.lnk = { s.lnk with
        errHist := (true :: s.lnk.errHist).take 4096, badRun := s.lnk.badRun + 1, nakPending := if
          s.lnk.nakSent then s.lnk.nakPending else some 1, nakSent := true } ∧ t.rf = ((s.count
      0x1CC).raise 0x1AC 0).rf ∧ { t with rf := s.rf, lnk := s.lnk, pwr.domOn := s.pwr.domOn } = s) ∧
    (∀ (mgmt peal : BitVec 16), exec (.creditPacket mgmt peal) s = .next ({ s with
        lnk := { goodPacket s with
            txMgmtLimit := if s.lnk.txCredited = false ∨ (mgmt - s.lnk.txMgmtLimit).toNat < 32768
              then mgmt else s.lnk.txMgmtLimit, txPealLimit := if s.lnk.txCredited = false ∨ (peal -
              s.lnk.txPealLimit).toNat < 32768 then peal else s.lnk.txPealLimit, txCredited := true } })) ∧
    (∀ (seq : BitVec 12) (cls : Cls) (sof eof : Bool) (len : Nat), 1 ≤ len → len ≤ 512 → seq =
      s.lnk.expected → creditsOf len ≤ s.rxCredit cls.code → s.knellRunning = false →
      (s.lnk.openFrame.getD cls.code none).isSome = !sof → sof = true ∨ s.lnk.discard.getD cls.code
      false = false → ∃ t, exec (.dataPacket seq cls sof eof len none) s = .next t ∧ t.lnk =
      { goodPacket s with
        expected := s.lnk.expected + 1#12, nakSent := false, unacked := s.lnk.unacked + 1,
          ackPending := s.lnk.ackPending || decide (8 ≤ s.lnk.unacked + 1), rxUsed := modNth
          s.lnk.rxUsed cls.code (fun x => (x + creditsOf len) % 65536), rxHeld := modNth
          s.lnk.rxHeld cls.code (fun x => x + creditsOf len), discard := if sof then setNth
          s.lnk.discard cls.code false else s.lnk.discard, openFrame := setNth s.lnk.openFrame
          cls.code (if eof then none else some ((s.lnk.openFrame.getD cls.code none).getD 0 +
          creditsOf len)), doneFrames := if eof then modNth s.lnk.doneFrames cls.code (fun l => l ++
          [(s.lnk.openFrame.getD cls.code none).getD 0 + creditsOf len]) else s.lnk.doneFrames } ∧
      { t with lnk := s.lnk, pwr.domOn := s.pwr.domOn } = s) ∧
    (∀ (seq : BitVec 12) (cls : Cls) (sof eof : Bool) (len : Nat), 1 ≤ len → len ≤ 512 → 2048 ≤ (seq
      - s.lnk.expected).toNat → ∃ t, exec (.dataPacket seq cls sof eof len none) s = .next t ∧ t.lnk
      = { goodPacket s with ackPending := true } ∧ t.rf = (s.count 0x1D8).rf ∧
      { t with rf := s.rf, lnk := s.lnk, pwr.domOn := s.pwr.domOn } = s) ∧
    (∀ (seq : BitVec 12) (cls : Cls) (sof eof : Bool) (len : Nat), 1 ≤ len → len ≤ 512 → 1 ≤ (seq -
      s.lnk.expected).toNat → (seq - s.lnk.expected).toNat < 2048 → creditsOf len ≤ s.rxCredit
      cls.code → ∃ t, exec (.dataPacket seq cls sof eof len none) s = .next t ∧ t.lnk =
      { goodPacket s with
        nakPending := if s.lnk.nakSent then s.lnk.nakPending else some 2, nakSent := true } ∧
      { t with lnk := s.lnk, pwr.domOn := s.pwr.domOn } = s) ∧
    (∀ (seq : BitVec 12) (cls : Cls) (sof eof : Bool) (len : Nat), 1 ≤ len → len ≤ 512 → (seq -
      s.lnk.expected).toNat < 2048 → s.rxCredit cls.code < creditsOf len → ∃ t, exec (.dataPacket
      seq cls sof eof len none) s = .next t ∧ t.lnk = { s.lnk with
        errHist := (true :: s.lnk.errHist).take 4096, badRun := s.lnk.badRun + 1, nakPending := if
          s.lnk.nakSent then s.lnk.nakPending else some 1, nakSent := true } ∧ t.rf = ((s.count
      0x1CC).raise 0x1AC 0).rf ∧ { t with rf := s.rf, lnk := s.lnk, pwr.domOn := s.pwr.domOn } = s)

/-- At a packet boundary the transmitter sends the first pending item in the order NAK, CREDIT, ACK,
LINK_REQ, replayed DATA, new DATA (R214); a NAK, an ACK and a DATA packet carry the
acknowledgement that was due (R215, R219). New DATA goes out within the window, the replay buffer
and the credits of its class, and is held for replay. -/
def Obligations.TransmitOrder : Prop :=
  ∀ (s : State), runs s → s.stm.st = 4 →
    (∀ (r : Nat), s.lnk.nakPending = some r → exec (.packetBoundaryTransmit) s = .next ({ s with
        lnk.nakPending := none, lnk.sent := some (.nak (s.lnk.expected - 1#12) r), lnk.unacked := 0 })) ∧
    (s.lnk.nakPending = none → s.lnk.creditPending = true → s.lnk.credited = true ∨ s.rf.ready =
      true → exec (.packetBoundaryTransmit) s = .next ({ s with
        lnk.creditPending := false, lnk.credited := true, lnk.rxSent := s.lnk.rxLimit, lnk.sent :=
          some (.credit (nth s.lnk.rxLimit 0) (nth s.lnk.rxLimit 1) (nth s.lnk.rxLimit 2) (nth
          s.lnk.rxLimit 3)) })) ∧
    (s.lnk.nakPending = none → s.lnk.creditPending = false → s.lnk.ackPending = true → exec
      (.packetBoundaryTransmit) s = .next ({ s with
        lnk.ackPending := false, lnk.unacked := 0, lnk.sent := some (.ack (s.lnk.expected - 1#12)) })) ∧
    (∀ (n typ : Nat) (lanes : BitVec 4), s.lnk.nakPending = none → s.lnk.creditPending = false →
      s.lnk.ackPending = false → s.lnk.linkReqPending = true → s.stm.req = some (n, typ, lanes) →
      exec (.packetBoundaryTransmit) s = .next
      ({ s with lnk.linkReqPending := false, lnk.sent := some (.linkReq n typ lanes) })) ∧
    (∀ (p : TxPkt), s.lnk.nakPending = none → s.lnk.creditPending = false → s.lnk.ackPending = false
      → s.lnk.linkReqPending = false → s.lnk.replay[s.lnk.cursor]? = some p → exec
      (.packetBoundaryTransmit) s = .next
      ({ s with lnk.cursor := s.lnk.cursor + 1, lnk.sent := some (.replay p) })) ∧
    (∀ (p : TxPkt) (q : List TxPkt), s.lnk.nakPending = none → s.lnk.creditPending = false →
      s.lnk.ackPending = false → s.lnk.linkReqPending = false → s.lnk.replay = [] → s.lnk.cursor = 0
      → s.lnk.txQ = p :: q → p.cls = .mgmt → 1 ≤ p.payload.length → p.payload.length ≤ 64 →
      outstanding s < s.lnk.window → s.lnk.txMgmtUsed ≠ s.lnk.txMgmtLimit → s.knellRunning = false →
      exec (.packetBoundaryTransmit) s = .next ({ s with
        lnk.sent := some (.data { p with seq := s.lnk.next } (if s.lnk.unacked = 0 then none else
          some (s.lnk.expected - 1#12))), lnk.next := s.lnk.next + 1#12, lnk.replay :=
          [{ p with seq := s.lnk.next }], lnk.cursor := 1, lnk.txQ := q, lnk.unacked := 0,
          lnk.txMgmtUsed := s.lnk.txMgmtUsed + 1#16 }))

/-- Training (R228, R229, R232, R243). The locked clock and a LINK_REQ of the switch die start a
training in TS1 with every count at 0; a lane becomes good with its fourth valid set in a row;
when every candidate lane is good, or 5 µs after entry with at least one good, the tag excludes
the candidates that are not, chooses its receive set under the width cap and enters TS2. Training
ends (R230, R233): after four valid TS2 sets on a lane and eight sent, the link is ACTIVE with the
switch die's receive set as the transmit set. When both ends offer RESUME and the number announced
lies inside the window, the packets it covers are released and replay starts from the oldest left.
Otherwise, with nothing held, both directions start afresh: sequence numbers, replay store and
credits, with the packets not yet sent still queued, and what was buffered for a fresh training
comes into force. -/
def Obligations.Training : Prop :=
  ∀ (s : State), runs s →
    (s.stm.st = 1 → s.domOn 16 = true → ∃ t, exec (.clockLocked) s = .next t ∧ t.stm.st = 2 ∧
      t.stm.ts1 = [0, 0, 0, 0] ∧ t.stm.ts2 = [0, 0, 0, 0] ∧ t.stm.rxLanes = 0#4 ∧ t.stm.txLanes =
      0#4 ∧ t.stm.excluded = s.stm.excluded ∧ t.rf = (s.boundary .training).rf ∧
      { t with rf := s.rf, stm := s.stm } = s) ∧
    (∀ (num typ : Byte) (lanes : BitVec 4) (cap : Nat), s.stm.st = 4 → s.stm.req = none → ∃ t, exec
      (.linkReqPacket num typ lanes cap) s = .next t ∧ t.stm.st = 2 ∧ t.stm.retraining = true ∧
      t.stm.oldRx = s.stm.rxLanes ∧ t.stm.cap = (if typ = 2#8 then cap else 4) ∧ t.stm.excluded =
      (if typ = 3#8 then 0#4 else s.stm.excluded) ∧ t.lnk = goodPacket s ∧ t.rf = (s.boundary
      .training).rf ∧ { t with rf := s.rf, stm := s.stm, lnk := s.lnk } = s) ∧
    (∀ (lane : Nat) (trainId reqEcho : Byte) (cap window : Nat), s.stm.st = 2 → lane < 4 →
      s.stm.trainId = trainId.toNat → ∃ t, exec (.ts1 lane trainId reqEcho cap window) s = .next t ∧
      t.stm.ts1 = modNth s.stm.ts1 lane (fun x => x + 1) ∧ t.stm.pWindow = window ∧ t.stm.cap = min
      cap 4 ∧ (t.stm.st = 3 ↔ ~~~ s.excludedAll ≠ 0#4 ∧ ~~~ s.excludedAll &&& ~~~ goodLanes (modNth
      s.stm.ts1 lane (fun x => x + 1)) = 0#4) ∧ (t.stm.st = 3 → t.stm.rxLanes = chooseLanes (~~~
      s.excludedAll) (min cap 4)) ∧ { t with stm := s.stm } = s) ∧
    (s.stm.st = 2 → goodLanes s.stm.ts1 &&& ~~~ s.excludedAll ≠ 0#4 → ∃ t, exec (.ts1PhaseTimer) s =
      .next t ∧ t.stm.st = 3 ∧ t.stm.rxLanes = chooseLanes (goodLanes s.stm.ts1 &&& ~~~
      s.excludedAll) s.stm.cap ∧ t.stm.excluded = s.stm.excluded ||| (~~~ s.excludedAll &&& ~~~
      goodLanes s.stm.ts1) ∧ { t with stm := s.stm } = s) ∧
    (∀ (lane : Nat) (trainId : Byte) (cap : Nat) (rxSet : BitVec 4) (resume : Bool) (next : BitVec
      12) (window sent : Nat), nothingWaits s → s.stm.st = 3 → lane < 4 → trainId.toNat =
      s.stm.trainId → goodLanes (modNth s.stm.ts2 lane (fun x => x + 1)) ≠ 0#4 → 8 ≤ sent →
      s.stm.retraining = false → s.stm.reeval = false → s.stm.resumeOk = true → resume = true →
      ackCovers s (next - 1#12) ≤ outstanding s → ∃ t, exec (.ts2 lane trainId cap rxSet resume next
      window sent) s = .next t ∧ t.stm.st = 4 ∧ t.stm.txLanes = rxSet ∧ t.stm.rxLanes =
      s.stm.rxLanes ∧ t.stm.held = false ∧ t.lnk = { s.lnk with
        replay := s.lnk.replay.drop (ackCovers s (next - 1#12)), cursor := 0, oldest := next, sent
          := some (.idle 8), noProgress := if ackCovers s (next - 1#12) = 0 then s.lnk.noProgress
          else 0 } ∧ t.rf = (s.raise 0x1AC 7).rf ∧ { t with rf := s.rf, stm := s.stm, lnk := s.lnk }
      = s) ∧
    (∀ (lane : Nat) (trainId : Byte) (cap : Nat) (rxSet : BitVec 4) (resume : Bool) (next : BitVec
      12) (window sent : Nat), nothingWaits s → s.stm.st = 3 → lane < 4 → trainId.toNat =
      s.stm.trainId → goodLanes (modNth s.stm.ts2 lane (fun x => x + 1)) ≠ 0#4 → 8 ≤ sent →
      s.stm.retraining = false → s.stm.reeval = false → s.stm.resumeOk = false ∨ resume = false →
      s.stm.held = false → s.stm.wasDown = false → ∃ t, exec (.ts2 lane trainId cap rxSet resume
      next window sent) s = .next t ∧ t.stm.st = 4 ∧ t.stm.txLanes = rxSet ∧ t.stm.rxLanes =
      s.stm.rxLanes ∧ t.lnk.expected = 0#12 ∧ t.lnk.next = 0#12 ∧ t.lnk.oldest = 0#12 ∧ t.lnk.replay
      = [] ∧ t.lnk.txQ = s.lnk.txQ ∧ t.lnk.rxLimit = (s.boundary .freshTraining).firstLimits ∧
      t.lnk.rxSent = [0, 0, 0, 0] ∧ t.lnk.credited = false ∧ t.lnk.rxUsed = [0, 0, 0, 0] ∧
      t.lnk.creditPending = true ∧ t.lnk.txMgmtLimit = 0#16 ∧ t.lnk.txPealLimit = 0#16 ∧
      t.lnk.txCredited = false ∧ t.lnk.sent = some (.idle 8) ∧ t.lnk.window = min (s.boundary
      .freshTraining).windowCfg window ∧ t.rf = ((s.boundary .freshTraining).raise 0x1AC 7).rf ∧
      { t with
        rf := s.rf, stm := s.stm, lnk := s.lnk, cmt.pipe := s.cmt.pipe, peal.writeCredits :=
          s.peal.writeCredits } = s)

/-- Command bits without a key, written through the register port (R108, R131, R178, R318, R414,
R509). Each asks its engine for what the bit names, whatever configuration the same word carries;
the transaction ends with RESULT OK. Nothing else changes than the register map, the supply of
CORE and REGP, and what the bit asks for. Keyed command fields, written through the register port
with its unlock key armed (R103, R198, R317, R413, R436, R462); the write consumes the key. A SHIP
request stands; a TEST trigger asserts TAG_WAKE_N; a raw capture is asked for when both sources
are RUNNING and the staging share has room; an APPLY of the named guards waits its turn; a host
toll counter goes up by one in both copies; a selected context closes. -/
def Obligations.CommandBits : Prop :=
  ∀ (s : State), runs s →
    (∀ (v : Word), portReady s 0x0E0 → ∃ t, exec (.ckptReq .regp v) s = .next t ∧ t.cmt.ckptDue =
      true ∧ t.rf.result = 0 ∧ { t with
        rf := s.rf, pwr.domOn := s.pwr.domOn, cmt.ckptDue := s.cmt.ckptDue, cmt.scrubReq :=
          s.cmt.scrubReq } = s) ∧
    (∀ (v : Word), portReady s 0x0E0 → ∃ t, exec (.scrubReq .regp v) s = .next t ∧ t.cmt.scrubReq =
      true ∧ t.rf.result = 0 ∧ { t with
        rf := s.rf, pwr.domOn := s.pwr.domOn, cmt.ckptDue := s.cmt.ckptDue, cmt.scrubReq :=
          s.cmt.scrubReq } = s) ∧
    (∀ (v : Word), portReady s 0x560 → ∃ t, exec (.flushReq .regp v) s = .next t ∧ t.log.flushReq =
      true ∧ t.rf.result = 0 ∧ { t with
        rf := s.rf, pwr.domOn := s.pwr.domOn, log.flushReq := s.log.flushReq, log.sampleNow :=
          s.log.sampleNow } = s) ∧
    (∀ (v : Word), portReady s 0x560 → ∃ t, exec (.sampleNow .regp v) s = .next t ∧ t.log.sampleNow
      = true ∧ t.rf.result = 0 ∧ { t with
        rf := s.rf, pwr.domOn := s.pwr.domOn, log.flushReq := s.log.flushReq, log.sampleNow :=
          s.log.sampleNow } = s) ∧
    (∀ (v : Word), portReady s 0x060 → v.bit 3 = false → ∃ t, exec (.mpptSample .regp v) s = .next t
      ∧ t.pwr.mpptReq = true ∧ t.rf.result = 0 ∧
      { t with rf := s.rf, pwr.domOn := s.pwr.domOn, pwr.mpptReq := s.pwr.mpptReq } = s) ∧
    (∀ (v : Word) (r : Raw), portReady s 0x3E0 → v.bit 1 = false → v.bit 3 = false → s.ent.raw =
      some r → r.running = true → ∃ t, exec (.rawStop .regp v) s = .next t ∧ t.ent.raw = some
      { r with stop := true } ∧ t.rf.result = 0 ∧
      { t with rf := s.rf, pwr.domOn := s.pwr.domOn, ent.raw := s.ent.raw } = s) ∧
    (∀ (v : Word) (r : Raw), portReady s 0x3E0 → v.bit 1 = false → s.ent.raw = some r → r.running =
      false → ∃ t, exec (.rawRelease .regp v) s = .next t ∧ t.ent.raw = none ∧ t.rf.result = 0 ∧
      { t with rf := s.rf, pwr.domOn := s.pwr.domOn, ent.raw := s.ent.raw } = s) ∧
    (∀ (v : Word), portReady s 0x2A0 → v.bit 1 = false → v.bit 0 = (s.reg 0x2A0).bit 0 →
      s.fld.wakeLevel = true → ∃ t, exec (.wakeRelease .regp v) s = .next t ∧ t.fld.wake = false ∧
      t.rf.result = 0 ∧ { t with rf := s.rf, pwr.domOn := s.pwr.domOn, fld.wake := s.fld.wake } = s) ∧
    (∀ (v : Word), keyReady s → portReady s 0x060 → v.bit 2 = false → s.pwr.mode ≠ 6 → ∃ t, exec
      (.ship .regp v) s = .next t ∧ t.pwr.shipReq = true ∧ t.pwr.mode = 1 ∧ t.rf.result = 0 ∧
      { t with
        rf := s.rf, pwr.domOn := s.pwr.domOn, pwr.shipReq := s.pwr.shipReq, pwr.mode := s.pwr.mode }
      = s) ∧
    (∀ (v : Word), keyReady s → portReady s 0x2A0 → v.bit 2 = false → s.rf.locked = 0#32 → s.aonRuns
      = true → ∃ t, exec (.wakeTest .regp v) s = .next t ∧ t.fld.wake = true ∧ t.fld.wakeCause = 4 ∧
      t.fld.wakeStart = some s.clk.up ∧ t.fld.wakeLevel = t.cfgBit 0x2A8 4 ∧ t.fldx.wakeSeen =
      saturate 65535 (s.fldx.wakeSeen + 1) ∧ (regsCanonical s = true → (t.reg 0x2AC).bit 9 = true) ∧
      t.rf.result = 0 ∧ { t with
        rf := s.rf, pwr.domOn := s.pwr.domOn, fld.wake := s.fld.wake, fld.wakeCause :=
          s.fld.wakeCause, fld.wakeStart := s.fld.wakeStart, fld.wakeLevel := s.fld.wakeLevel,
          fldx.wakeSeen := s.fldx.wakeSeen } = s) ∧
    (∀ (v : Word), keyReady s → portReady s 0x3E0 → v.bit 2 = false → v.bit 3 = false → s.pwr.step <
      4 → s.ent.a.state = 2 → s.ent.b.state = 2 → s.ent.raw = none → s.ent.rawReq = none → 131072 +
      s.stagingUsed ≤ s.stagingBytes → ∃ t, exec (.rawStart .regp v) s = .next t ∧ t.ent.rawReq =
      some (if t.cfgBit 0x3E0 0 then .b else .a) ∧ (regsCanonical s = true → t.cfgBit 0x3E0 0 =
      v.bit 0) ∧ t.rf.result = 0 ∧
      { t with rf := s.rf, pwr.domOn := s.pwr.domOn, ent.rawReq := s.ent.rawReq } = s) ∧
    (∀ (v : Word), keyReady s → portReady s 0x420 → s.rf.locked.bit 8 = false → v.bit 8 = false →
      (List.range 7).filter (fun m => v.bit m) ≠ [] → ∃ t, exec (.grdApply .regp v) s = .next t ∧
      t.grd.applyQ = s.grd.applyQ ++ [((List.range 7).filter (fun m => v.bit m), false)] ∧
      t.rf.result = 0 ∧ t.rf.keyArmed.contains .regp = false ∧
      { t with rf := s.rf, pwr.domOn := s.pwr.domOn, grd.applyQ := s.grd.applyQ } = s) ∧
    (∀ (v : Word) (n : Nat) (ra rb : TollRing), keyReady s → portReady s 0x118 → 16 ≤ v.toNat →
      v.toNat ≤ 31 → s.toll v.toNat = { ringA := some ra, ringB := some rb, worn := false } →
      ra.value = some n → rb.value = some n → n + 1 < 4294967296 → ra.used + 1 < State.tollLife →
      rb.used + 1 < State.tollLife → ∃ t, exec (.cmtTollInc .regp v) s = .next t ∧ t.toll v.toNat =
      {
        ringA := some (State.TollRing.put ra (n + 1)), ringB := some (State.TollRing.put rb (n +
          1)), worn := false } ∧ t.tollValue v.toNat = n + 1 ∧ (∀ c, c < 32 → c ≠ v.toNat → t.toll c
      = s.toll c) ∧ t.rf.result = 0 ∧ { t with
        rf := s.rf, pwr.domOn := s.pwr.domOn, arr.tolls := s.arr.tolls, arr.tags := s.arr.tags,
          arr.extEpochs := s.arr.extEpochs } = s) ∧
    (∀ (v : Word) (c : Nat) (x : Ctx), keyReady s → portReady s 0x4A0 → v.bit 0 = false → v.bit 1 =
      true → c = (s.reg 0x4B0).field 5 0 → s.ctx c = some x → ∃ t, exec (.closeSel .regp v) s =
      .next t ∧ t.ctx c = none ∧ (∀ k, k < 64 → k ≠ c → t.ctx k = s.ctx k) ∧ t.peal.lease8.map (fun
      l => l.ctx) ≠ some c ∧ t.peal.lease9.map (fun l => l.ctx) ≠ some c ∧ (regsCanonical s = true →
      (t.reg 0x4A8).bit 1 = true) ∧ t.rf.result = 0 ∧ { t with
        rf := s.rf, pwr := s.pwr, ses := s.ses, ent.waiting := s.ent.waiting, peal := s.peal,
          fldx.ctx := s.fldx.ctx } = s)

/-- A write of 0x9B6D to GLB_KEY arms the port's unlock key (R476); a write of any other value, and
every other register write, leaves it disarmed. GLB_LOCK takes its one write (R12, R496): with the
key armed it locks the named blocks and reports LOCKED in GLB_STATUS; without the key nothing is
locked and the transaction answers KEY; every later write answers WONCE_VIOL, sets WONCE_VIOL in
GLB_STATUS and leaves the lock as it is, and an audit record follows. The write always consumes
the key. A device reset written to GLB_RESET (R530): during a Knell it waits and nothing else
changes; otherwise its orderly stop begins at once: S1 takes nothing more, and RESET_KEYED enters
the pipeline already granted. SES_CTRL.CLOSE_ALL, written with the key, closes every host context
(R448, R453, R462): contexts 4 to 63 are free afterwards, the contexts of the other parties stay,
and no lease or mailbox command of a closed one is left. -/
def Obligations.KeyLockAndReset : Prop :=
  ∀ (s : State), runs s →
    (∀ (v : Word), s.wired = true → v = 0x9B6D#32 → ∃ t, exec (.glbKey .regp v) s = .next t ∧
      t.rf.keyArmed.contains .regp = true ∧ t.rf.result = 0 ∧
      { t with rf := s.rf, pwr.domOn := s.pwr.domOn } = s) ∧
    (∀ (v : Word), s.wired = true → v ≠ 0x9B6D#32 → ∃ t, exec (.glbKey .regp v) s = .next t ∧
      t.rf.keyArmed.contains .regp = false ∧ t.rf.result = 0 ∧
      { t with rf := s.rf, pwr.domOn := s.pwr.domOn } = s) ∧
    (∀ (v : Word), s.wired = true → portReady s 0x10C → ∃ t, exec (.registerWrite .regp 0x10C v) s =
      .next t ∧ t.rf.keyArmed.contains .regp = false ∧ t.rf.result = 0 ∧
      { t with rf := s.rf, pwr.domOn := s.pwr.domOn } = s) ∧
    (∀ (v : Word), s.wired = true → keyReady s → s.rf.lockUsed = false → ∃ t, exec (.glbLock .regp
      v) s = .next t ∧ t.rf.locked = v &&& 0x7FF#32 ∧ t.rf.lockUsed = true ∧ (regsCanonical s = true
      → (t.reg 0x014).bit 8 = true) ∧ t.rf.result = 0 ∧ t.rf.keyArmed.contains .regp = false ∧
      { t with rf := s.rf, pwr.domOn := s.pwr.domOn } = s) ∧
    (∀ (v : Word), s.wired = true → s.rf.keyArmed.contains .regp = false → s.rf.lockUsed = false →
      s1Takes s 0 6 32 → s.cmt.pipe = [] → ∃ t, exec (.glbLock .regp v) s = .next t ∧ t.rf.locked =
      s.rf.locked ∧ t.rf.lockUsed = false ∧ t.rf.result = 1 ∧ t.cmt.pipe.map (fun p =>
      (p.record.hdr.typ, p.record.hdr.part)) = [(0x80#8, 10)] ∧ { t with
        rf := s.rf, pwr.domOn := s.pwr.domOn, cmt := s.cmt, clk.lastStamp := s.clk.lastStamp } = s) ∧
    (∀ (v : Word), s.wired = true → s.rf.lockUsed = true → s1Takes s 0 6 32 → s.cmt.pipe = [] → ∃ t,
      exec (.glbLock .regp v) s = .next t ∧ t.rf.locked = s.rf.locked ∧ t.rf.lockUsed = true ∧
      t.rf.result = 2 ∧ (regsCanonical s = true → (t.reg 0x014).bit 1 = true) ∧ t.cmt.pipe.map (fun
      p => (p.record.hdr.typ, p.record.hdr.part)) = [(0x80#8, 10)] ∧ t.rf.keyArmed.contains .regp =
      false ∧ { t with
        rf := s.rf, pwr.domOn := s.pwr.domOn, cmt := s.cmt, clk.lastStamp := s.clk.lastStamp } = s) ∧
    (∀ (v : Word), s.wired = true → keyReady s → s.boot.keyedPending = none → s.knellRunning = true
      → ∃ t, exec (.glbReset .regp v) s = .next t ∧ t.boot =
      { s.boot with keyedPending := some (s.source 5, 5) } ∧ t.rf.result = 0 ∧
      { t with rf := s.rf, pwr.domOn := s.pwr.domOn, boot.keyedPending := s.boot.keyedPending } = s) ∧
    (∀ (v : Word), s.wired = true → keyReady s → s.boot.keyedPending = none → s.knellRunning = false
      → nothingWaits s → s.ownGap (s.source 0) 6 = none → boundaryClear s → s.cmt.pipe = [] → ∃ t,
      exec (.glbReset .regp v) s = .next t ∧ t.boot =
      { s.boot with keyedPending := some (s.source 5, 5), keyedStop := true } ∧ t.cmt.pipe.map (fun
      p => (p.record.hdr.typ, p.record.payload.take 2, p.granted.isSome)) = [(0x80#8, [0x0F#8, 0#8],
      true)] ∧ t.rf.result = 0 ∧ { t with
        rf := s.rf, pwr.domOn := s.pwr.domOn, boot := s.boot, cmt := s.cmt, clk.lastStamp :=
          s.clk.lastStamp } = s) ∧
    (∀ (v : Word), keyReady s → portReady s 0x4A0 → v.bit 1 = false → ∃ t, exec (.closeAll .regp v)
      s = .next t ∧ (∀ c, 4 ≤ c → c < 64 → t.ctx c = none) ∧ (∀ c, c < 4 → t.ctx c = s.ctx c) ∧
      t.rf.result = 0 ∧ { t with
        rf := s.rf, pwr := s.pwr, ses := s.ses, ent.waiting := s.ent.waiting, peal := s.peal,
          fldx.ctx := s.fldx.ctx } = s)

/-- STM_CTRL (R231, R243, R247). RETRAIN and FULL_RETRAIN with the link ACTIVE and no request
outstanding open a LINK_REQ of type 1 or 3 under the next request number; EN 0 takes the link down
into DISABLED, EN 1 in DISABLED waits for the clock. KNL_CTRL (R133, R135, R160, R170). EN 0
disarms an ARMED engine and EN 1 arms it when the conditions of R135 hold; CONS_REQ queues K-SIGN
for the one PENDING slot; FORCE, with the key, starts a Knell: shedding reaches step 4, ungranted
records are abandoned, the available energy is latched, and the engine is OPEN under trigger 3. -/
def Obligations.EngineCommands : Prop :=
  ∀ (s : State), runs s → regsCanonical s = true →
    (∀ (v : Word), portReady s 0x1A0 → (s.reg 0x1A0).bit 0 = true → s.stm.st = 4 → s.stm.req = none
      → v.bit 0 = true → v.bit 3 = false → ∃ t, exec (.retrain .regp v) s = .next t ∧ t.stm =
      { s.stm with
        reqNum := (if s.stm.reqNum = 255 then 1 else s.stm.reqNum + 1), req := some ((if
          s.stm.reqNum = 255 then 1 else s.stm.reqNum + 1), 1, 0#4), reqWhy := [.control] } ∧ t.lnk
      = { s.lnk with linkReqPending := true } ∧ t.rf.result = 0 ∧
      { t with rf := s.rf, pwr.domOn := s.pwr.domOn, stm := s.stm, lnk := s.lnk } = s) ∧
    (∀ (v : Word), portReady s 0x1A0 → (s.reg 0x1A0).bit 0 = true → s.stm.st = 4 → s.stm.req = none
      → v.bit 0 = true → v.bit 2 = false → keyReady s → ∃ t, exec (.fullRetrain .regp v) s = .next t
      ∧ t.stm = { s.stm with
        reqNum := (if s.stm.reqNum = 255 then 1 else s.stm.reqNum + 1), req := some ((if
          s.stm.reqNum = 255 then 1 else s.stm.reqNum + 1), 3, 0#4), reqWhy := [.control] } ∧ t.lnk
      = { s.lnk with linkReqPending := true } ∧ t.rf.result = 0 ∧
      { t with rf := s.rf, pwr.domOn := s.pwr.domOn, stm := s.stm, lnk := s.lnk } = s) ∧
    (portReady s 0x1A0 → (s.reg 0x1A0).bit 0 = true → s.stm.st = 4 → keyReady s → s.rf.locked = 0#32
      → s.knellRunning = false → ∃ t, exec (.stmEn .regp false) s = .next t ∧ t.stm.st = 5 ∧
      t.stm.rxLanes = 0#4 ∧ t.stm.txLanes = 0#4 ∧ (t.reg 0x1A0).bit 0 = false ∧ t.rf.result = 0 ∧
      { t with rf := s.rf, pwr.domOn := s.pwr.domOn, stm := s.stm, lnk := s.lnk } = s) ∧
    (portReady s 0x1A0 → (s.reg 0x1A0).bit 0 = true → s.stm.st = 5 → s.rf.locked = 0#32 → ∃ t, exec
      (.stmEn .regp true) s = .next t ∧ t.stm = { s.stm with st := 1 } ∧ (t.reg 0x1A0).bit 0 = true
      ∧ t.rf.result = 0 ∧ { t with rf := s.rf, pwr.domOn := s.pwr.domOn, stm := s.stm } = s) ∧
    (portReady s 0x160 → s.rf.locked = 0#32 → s.kn.state = 1 → ∃ t, exec (.knlEn .regp false) s =
      .next t ∧ t.kn.state = 0 ∧ (t.reg 0x160).bit 0 = false ∧ t.rf.result = 0 ∧
      { t with rf := s.rf, pwr.domOn := s.pwr.domOn, kn.state := s.kn.state } = s) ∧
    (portReady s 0x160 → s.rf.locked = 0#32 → s.kn.state = 0 → s.rf.ready = true → s.holdOk = true →
      s.cmt.recovering = false → s.pwr.holdMeasuring = false → ∃ t, exec (.knlEn .regp true) s =
      .next t ∧ t.kn.state = 1 ∧ (t.reg 0x160).bit 0 = true ∧ t.rf.result = 0 ∧
      { t with rf := s.rf, pwr.domOn := s.pwr.domOn, kn.state := s.kn.state } = s) ∧
    (∀ (v : Word) (k : Nat), portReady s 0x160 → s.rf.locked = 0#32 → 6 ≤ s.kn.state → v.bit 1 =
      false → (List.range 8).filter (fun i => (s.kn.slots.getD i emptySlot).state == 2) = [k] →
      (s.kn.slots.getD k emptySlot).manifest = 0 → s.pwr.jobs = [] → s.pwr.grants = [] →
      s.kn.signWait = none → s.cmt.pipe = [] → ∃ t, exec (.consReq .regp v) s = .next t ∧ t.pwr.jobs
      = [{ id := s.cmt.nextId, queue := 3, cost := 215000, weight := 1, kind := .kSign k }] ∧
      t.rf.result = 0 ∧ { t with
        rf := s.rf, pwr.domOn := s.pwr.domOn, pwr.jobs := s.pwr.jobs, cmt.nextId := s.cmt.nextId } =
      s) ∧
    (∀ (v : Word), portReady s 0x160 → s.rf.locked = 0#32 → keyReady s → s.kn.state = 1 → v.bit 0 =
      true → v.bit 2 = false → s.rf.ready = true → s.holdOk = true → s.cmt.recovering = false →
      s.pwr.holdMeasuring = false → s.cmt.pipe = [] → s.st.current = none → ∃ t, exec (.force .regp
      v) s = .next t ∧ t.kn.state = 2 ∧ t.kn.intake.map (fun i => (i.trigger, i.plan.avail,
      i.plan.time)) = some (3, s.eAvail, s.clk.rtc) ∧ t.pwr.step = max s.pwr.step 4 ∧ t.cmt.pipe =
      [] ∧ t.rf.result = 0 ∧ t.arr = s.arr ∧ t.fmem = s.fmem ∧ t.fld = s.fld ∧ t.clk = s.clk ∧ t.log
      = s.log)

/-- SNR_CTRL (R367, R368, R382, R385, R391). FORCE, with the key and the Snare armed, opens a
capture of cause 2 under the next number, or adds a secondary to the open one. CAL_REQ queues a
calibration for each channel named. EN 1 arms the Snare once its start-up calibrations are done,
EN 0 disarms it and stops its rings. -/
def Obligations.SnareCommands : Prop :=
  ∀ (s : State) (v : Word), runs s → portReady s 0x320 → regsCanonical s = true →
    (keyReady s → v.bit 0 = true → v.field 15 8 = 0 → s.snr.armed = true → s.snr.capture.isSome =
      true → ∃ t, exec (.snrForce .regp v) s = .next t ∧ t.snr.capture = s.snr.capture.map (fun c =>
      { c with secondaries := saturate 255 (c.secondaries + 1) }) ∧ (t.reg 0x32C).bit 2 = true ∧
      t.rf.result = 0 ∧ { t with
        rf := s.rf, pwr.domOn := s.pwr.domOn, snr.capture := s.snr.capture, snr.last := s.snr.last }
      = s) ∧
    (keyReady s → v.bit 0 = true → v.field 15 8 = 0 → s.snr.armed = true → s.snr.capture = none → ∃
      t, exec (.snrForce .regp v) s = .next t ∧ t.snr.capNum = s.snr.capNum + 1#32 ∧
      t.snr.capture.map (fun c => (c.number, c.cause, c.mask, c.time, c.bracket)) = some
      (s.snr.capNum + 1#32, 2, 0#8, s.clk.rtc, s.clk.bracket) ∧ (t.reg 0x32C).bit 0 = true ∧
      t.rf.result = 0 ∧ { t with rf := s.rf, pwr.domOn := s.pwr.domOn, snr := s.snr } = s) ∧
    (v.bit 0 = true → v.bit 16 = false → s.snr.capture.isSome = true → ∃ t, exec (.calReq .regp v) s
      = .next t ∧ (∀ ch, ch < 8 → v.bit (8 + ch) = true → t.pwr.jobs.any (fun j => match j.kind with
      | .calibrate c _ => c == ch | .selftest _ u => u == 0x20 + ch | _ => false) = true) ∧
      t.pwr.jobs.take s.pwr.jobs.length = s.pwr.jobs ∧ t.rf.result = 0 ∧ { t with
        rf := s.rf, pwr.domOn := s.pwr.domOn, pwr.jobs := s.pwr.jobs, cmt.nextId := s.cmt.nextId } =
      s) ∧
    (s.snr.armed = false → s.snr.capture = none → s.snr.startCals = [] → s.snr.calFirst = false →
      s.domOn 18 = true → s.pwr.step = 0 → s.knellRunning = false → ∃ t, exec (.snrEn .regp true) s
      = .next t ∧ t.snr.armed = true ∧ (t.reg 0x320).bit 0 = true ∧ t.rf.result = 0 ∧
      { t with rf := s.rf, pwr.domOn := s.pwr.domOn, snr := s.snr } = s) ∧
    (s.snr.armed = true → s.snr.calBusy = none → ∃ t, exec (.snrEn .regp false) s = .next t ∧
      t.snr.armed = false ∧ t.snr.ring = 0 ∧ (t.reg 0x320).bit 0 = false ∧ t.rf.result = 0 ∧
      { t with rf := s.rf, pwr.domOn := s.pwr.domOn, snr := s.snr } = s)

/-- The register port's transactions (R464, R465, R471, R472). STATUS answers the status byte alone
with RESULT OK; an unknown opcode leaves BAD_OPCODE and nothing else; WRITE stores its word and so
does any register write of the port that is not locked, with the key armed, in the configuration
fields of a register without command fields; READ drives the register's bytes after the status
byte and two bytes of zeros; an address that is not a multiple of 4 leaves UNALIGNED and has no
effect. READ_INC and WRITE_INC take consecutive registers, READ_REP one register again and again
(R465, R466); past the end of its window a burst reads zeros, and RESULT is BOUNDARY. Every burst
drives the status byte, two bytes of zeros and four bytes for each word; a word that the
transaction cuts off, or that is clocked while TAG_RDY is low, reads zeros without a side effect
and leaves FRAMING. -/
def Obligations.PortReadsAndWrites : Prop :=
  ∀ (s : State), runs s → s.wired = true →
    (∀ (v : Word) (off : Nat) (d : RegDesc), portReady s off → off < 2048 → off % 4 = 0 → off ≠
      0x428 → off ≠ 0x42C → regDesc off = some d → d.block ≠ .mbx → d.wo ||| d.wok ||| d.w1k = 0#32
      → keyReady s → s.rf.locked = 0#32 → regsCanonical s = true → ∃ t, exec (.registerWrite .regp
      off v) s = .next t ∧ t.reg off &&& d.config = v &&& d.config ∧ t.rf.result = 0 ∧
      t.rf.keyArmed.contains .regp = false) ∧
    (∀ (v : Word) (off : Nat) (d : RegDesc), portReady s off → off < 2048 → off % 4 = 0 → off ≠
      0x428 → off ≠ 0x42C → regDesc off = some d → d.block ≠ .mbx → d.wo ||| d.wok ||| d.w1k = 0#32
      → keyReady s → s.rf.locked = 0#32 → regsCanonical s = true → ∃ t, exec (.regpWrite off (some
      v)) s = .next t ∧ t.reg off &&& d.config = v &&& d.config ∧ t.rf.result = 0 ∧
      t.rf.keyArmed.contains .regp = false) ∧
    (s.pwr.domOn.length = 20 → ∃ t, exec (.status) s = .next t ∧ t.rf.result = 0 ∧ State.tagRdy t =
      true ∧ { t with
        rf.result := s.rf.result, rf.sdo := s.rf.sdo, pwr.domOn := setNth s.pwr.domOn 19 true } =
      { s with pwr.domOn := setNth s.pwr.domOn 19 true }) ∧
    (exec (.status) s = .next ({ s.wakeFor .regp with rf.result := 0, rf.sdo := [s.statusByte] })) ∧
    (∀ (op : Byte), exec (.badOpcode op) s = .next
      ({ s.wakeFor .regp with rf.result := 5, rf.sdo := s.statusByte :: zeroBytes 6 })) ∧
    (∀ (v : Word), portReady s 0x10C → regsCanonical s = true → ∃ t, exec (.regpWrite 0x10C (some
      v)) s = .next t ∧ t.reg 0x10C &&& 0x1F#32 = v &&& 0x1F#32 ∧ (∀ o, o < 2048 → o ≠ 0x10C → t.reg
      o = s.reg o) ∧ t.rf.result = 0 ∧ t.rf.sdo = s.statusByte :: zeroBytes 6 ∧
      { t with rf := s.rf, pwr.domOn := s.pwr.domOn } = s) ∧
    (∀ (v : Word) (a : Nat), a < 65536 → a % 4 ≠ 0 → ∃ t, exec (.regpWrite a (some v)) s = .next t ∧
      t.rf.result = 4 ∧ { t with
        rf.keyArmed := s.rf.keyArmed, rf.result := s.rf.result, rf.sdo := s.rf.sdo, pwr.domOn :=
          s.pwr.domOn } = s) ∧
    (∀ (off : Nat), ((s.wakeFor .regp).regpGuard off false).2 = true → off < 2048 → off % 4 = 0 →
      off ≠ 0x3F0 → off ≠ 0x3F4 → (regDesc off).map (fun d => d.rc) = some 0#32 → ∃ t, exec
      (.regpRead off true) s = .next t ∧ t.rf.result = 0 ∧ t.rf.sdo = s.statusByte :: (zeroBytes 2
      ++ wordBytes ((s.wakeFor .regp).regValue .regp off)) ∧
      { t with rf.result := s.rf.result, rf.sdo := s.rf.sdo, pwr.domOn := s.pwr.domOn } = s) ∧
    (∀ (a : Nat), a < 65536 → a % 4 ≠ 0 → ∃ t, exec (.regpRead a true) s = .next t ∧ t.rf.result = 4
      ∧ t.rf.sdo = s.statusByte :: zeroBytes 6 ∧
      { t with rf.result := s.rf.result, rf.sdo := s.rf.sdo, pwr.domOn := s.pwr.domOn } = s) ∧
    (∀ (v w : Word), portReady s 0x530 → portReady s 0x534 → ∃ t, exec (.writeInc 0x530 [v, w]
      false) s = .next t ∧ t.rf.mbx = { s.rf.mbx with d0 := v, d1 := w } ∧ t.rf.result = 0 ∧
      t.rf.sdo = s.statusByte :: zeroBytes 10 ∧ { t with rf := s.rf, pwr.domOn := s.pwr.domOn } = s) ∧
    (∃ t, exec (.readInc 0x000 2 []) s = .next t ∧ t.rf.result = 0 ∧ t.rf.sdo = s.statusByte ::
      (zeroBytes 2 ++ wordBytes 0x4B543438#32 ++ wordBytes 0x00010001#32) ∧
      { t with rf.result := s.rf.result, rf.sdo := s.rf.sdo, pwr.domOn := s.pwr.domOn } = s) ∧
    (∃ t, exec (.readRep 0x000 2 []) s = .next t ∧ t.rf.result = 0 ∧ t.rf.sdo = s.statusByte ::
      (zeroBytes 2 ++ wordBytes 0x4B543438#32 ++ wordBytes 0x4B543438#32) ∧
      { t with rf.result := s.rf.result, rf.sdo := s.rf.sdo, pwr.domOn := s.pwr.domOn } = s) ∧
    (portReady s 0x53C → ((s.wakeFor .regp).regpGuard 0x7FC false).2 = true → ∃ t, exec (.readInc
      0x7FC 2 []) s = .next t ∧ t.rf.result = 7 ∧ t.rf.sdo = s.statusByte :: zeroBytes 10 ∧
      { t with rf.result := s.rf.result, rf.sdo := s.rf.sdo, pwr.domOn := s.pwr.domOn } = s) ∧
    (∀ (a : Nat) (ws : List Word), a < 65536 → a % 4 = 0 → a + 4 * ws.length ≤ 2048 → ∃ t, exec
      (.writeInc a ws false) s = .next t ∧ t.rf.sdo = s.statusByte :: zeroBytes (2 + 4 * ws.length)
      ∧ t.rf.result < 5) ∧
    (∀ (a n : Nat) (cut : List Nat), a < 65536 → ∃ t, exec (.readInc a n cut) s = .next t ∧
      t.rf.sdo.length = 3 + 4 * n ∧ t.rf.sdo.head? = some s.statusByte) ∧
    (∀ (a n : Nat) (cut : List Nat), a < 65536 → ∃ t, exec (.readRep a n cut) s = .next t ∧
      t.rf.sdo.length = 3 + 4 * n ∧ t.rf.sdo.head? = some s.statusByte) ∧
    (∀ (a : Nat), a < 65536 → a % 4 = 0 → ∃ t, exec (.readInc a 1 [0]) s = .next t ∧ t.rf.result = 6
      ∧ t.rf.sdo = s.statusByte :: zeroBytes 6 ∧
      { t with rf.result := s.rf.result, rf.sdo := s.rf.sdo, pwr.domOn := s.pwr.domOn } = s)

/-- A read of an RC register by the register port answers the value and clears what it showed (R12,
R477): the event bits and counters of a register that is no Tocsin source, and nothing else; a
read of a Tocsin source also releases GLB_ALERT when no alerting bit of it is left (R495). A write
of CMT_CFG with the key (R12, R131, R475, R480): the word read back is what was written, through
the plain window or the SET, CLR and TOG aliases; away from a commit-group boundary the values in
force and everything else stay, and the register is pending. At the boundary the fields that apply
there come into force. -/
def Obligations.ClearsAndConfiguration : Prop :=
  ∀ (s : State), runs s → regsCanonical s = true →
    (∀ (off : Nat) (d : RegDesc), s.wired = true → ((s.wakeFor .regp).regpGuard off false).2 = true
      → off < 2048 → off % 4 = 0 → off ≠ 0x3F0 → off ≠ 0x3F4 → off ≠ 0x01C → alertSource off = none
      → regDesc off = some d → d.rc ≠ 0#32 → ∃ t, exec (.rcRead .regp off) s = .next t ∧ t.reg off =
      s.reg off &&& ~~~ d.rc ∧ (∀ o, o < 2048 → o ≠ off → t.reg o = s.reg o) ∧ t.rf.result = 0 ∧
      t.rf.sdo = s.statusByte :: (zeroBytes 2 ++ wordBytes ((s.wakeFor .regp).regValue .regp off)) ∧
      { t with rf := s.rf, pwr.domOn := s.pwr.domOn } = s) ∧
    (s.wired = true → ((s.wakeFor .regp).regpGuard 0x0E8 false).2 = true → ∃ t, exec (.rcRead .regp
      0x0E8) s = .next t ∧ (t.reg 0x0E8) = s.reg 0x0E8 &&& ~~~ 0x3FF#32 ∧ (t.reg 0x01C).bit 1 =
      false ∧ t.rf.result = 0 ∧ { t with rf := s.rf, pwr.domOn := s.pwr.domOn } = s) ∧
    (∀ (v : Word), keyReady s → s.rf.locked = 0#32 → portReady s 0x0E4 → s.atBoundary = false → ∃ t,
      exec (.registerWrite .regp 0x0E4 v) s = .next t ∧ t.reg 0x0E4 &&& 0x1FFF1FFF#32 = v &&&
      0x1FFF1FFF#32 ∧ t.force 0x0E4 = s.force 0x0E4 ∧ t.rf.result = 0 ∧
      { t with rf := s.rf, pwr.domOn := s.pwr.domOn } = s) ∧
    (∀ (v : Word), keyReady s → s.rf.locked = 0#32 → portReady s 0x0E4 → s.atBoundary = false → ∃ t,
      exec (.registerWrite .regp 0x8E4 v) s = .next t ∧ t.reg 0x0E4 &&& 0x1FFF1FFF#32 = (s.reg 0x0E4
      ||| v) &&& 0x1FFF1FFF#32 ∧ t.force 0x0E4 = s.force 0x0E4 ∧ t.rf.result = 0 ∧
      { t with rf := s.rf, pwr.domOn := s.pwr.domOn } = s) ∧
    (∀ (v : Word), keyReady s → s.rf.locked = 0#32 → portReady s 0x0E4 → s.atBoundary = false → ∃ t,
      exec (.registerWrite .regp 0x10E4 v) s = .next t ∧ t.reg 0x0E4 &&& 0x1FFF1FFF#32 = s.reg 0x0E4
      &&& ~~~ v &&& 0x1FFF1FFF#32 ∧ t.force 0x0E4 = s.force 0x0E4 ∧ t.rf.result = 0 ∧
      { t with rf := s.rf, pwr.domOn := s.pwr.domOn } = s) ∧
    (∀ (v : Word), keyReady s → s.rf.locked = 0#32 → portReady s 0x0E4 → s.atBoundary = false → ∃ t,
      exec (.registerWrite .regp 0x18E4 v) s = .next t ∧ t.reg 0x0E4 &&& 0x1FFF1FFF#32 = (s.reg
      0x0E4 ^^^ v) &&& 0x1FFF1FFF#32 ∧ t.force 0x0E4 = s.force 0x0E4 ∧ t.rf.result = 0 ∧
      { t with rf := s.rf, pwr.domOn := s.pwr.domOn } = s)

/-- The mailbox moves data 16 bytes at a time (R483 to R486). READ at index 0 takes a snapshot of
the item and presents its first bytes with its length; STAGE puts MBX_D0 to MBX_D3 into the input
buffer at 16 times the index; ABORT ends a BIVIK_OPEN whose job still waits, with result ABORTED,
and leaves an idle mailbox as it is. Mailbox commits by the register port (R291, R484, R515,
R532). TIME keeps its value for the next RTC second; PEAL_PEERS takes the six peer sets, which
wait for the group boundary; SELFTEST_REQ of a unit that is in use, not FAILED and not yet asked
for takes the next request number and queues its job. -/
def Obligations.MailboxItems : Prop :=
  ∀ (s : State), runs s →
    (∀ (r : ItemRule) (bytes : List Byte), portReady s 0x524 → s.rf.mbx.busy = false → s.rf.ready =
      true → s.rf.mbx.sel.field 15 0 = 0 → itemRule (s.rf.mbx.sel.field 23 16) = some r → r.reads =
      true → State.directItem (s.rf.mbx.sel.field 23 16) = false → s.itemBytes .regp
      (s.rf.mbx.sel.field 23 16) = some bytes → bytes ≠ [] → ∃ t, exec (.mbxRead .regp) s = .next t
      ∧ t.rf.mbx.snap = some (s.rf.mbx.sel.field 23 16, bytes) ∧ t.rf.mbx.len = bytes.length ∧
      t.rf.mbx.valid = true ∧ wordBytes t.rf.mbx.d0 ++ wordBytes t.rf.mbx.d1 ++ wordBytes
      t.rf.mbx.d2 ++ wordBytes t.rf.mbx.d3 = slice bytes 0 16 ∧ t.rf.mbx.busy = false ∧
      t.rf.mbx.result = 0 ∧ t.rf.result = 0 ∧ { t with rf := s.rf, pwr.domOn := s.pwr.domOn } = s) ∧
    (portReady s 0x524 → s.rf.mbx.busy = false → s.rf.mbx.sel.field 15 0 < 16 → ∃ t, exec (.mbxStage
      .regp) s = .next t ∧ t.rf.mbx.inbuf = overlay (slice s.rf.mbx.inbuf 0 256) (16 *
      s.rf.mbx.sel.field 15 0) (wordBytes s.rf.mbx.d0 ++ wordBytes s.rf.mbx.d1 ++ wordBytes
      s.rf.mbx.d2 ++ wordBytes s.rf.mbx.d3) ∧ t.rf.mbx.valid = true ∧ t.rf.mbx.busy = false ∧
      t.rf.mbx.result = 0 ∧ t.rf.result = 0 ∧ { t with rf := s.rf, pwr.domOn := s.pwr.domOn } = s) ∧
    (portReady s 0x524 → s.rf.mbx.busy = true → s.pwr.jobs.any (fun j => j.kind == .bivik .regp) =
      true → ∃ t, exec (.mbxAbort .regp) s = .next t ∧ t.rf.mbx.busy = false ∧ t.rf.mbx.valid =
      false ∧ t.rf.mbx.result = 7 ∧ t.pwr.jobs = s.pwr.jobs.filter (fun j => j.kind != .bivik .regp)
      ∧ t.rf.result = 0 ∧ { t with rf := s.rf, pwr.domOn := s.pwr.domOn, pwr.jobs := s.pwr.jobs } =
      s) ∧
    (portReady s 0x524 → s.rf.mbx.busy = false → ∃ t, exec (.mbxAbort .regp) s = .next t ∧ t.rf.mbx
      = s.rf.mbx ∧ t.rf.result = 0 ∧ { t with rf := s.rf, pwr.domOn := s.pwr.domOn } = s) ∧
    (portReady s 0x524 → s.rf.mbx.busy = false → s.rf.ready = true → s.rf.mbx.sel.field 23 16 = 2 →
      s.pwr.step < 2 → s.s1Open = true → s.clk.rtcLoad = none → ∃ t, exec (.timeCommit .regp 8) s =
      .next t ∧ t.clk.rtcLoad = some (leNat (slice (s.rf.mbx.inbuf ++ zeroBytes 256) 0 8), s.clk.up,
      .regp, s.source 5) ∧ t.rf.mbx.busy = true ∧ t.rf.result = 0 ∧
      { t with rf := s.rf, pwr.domOn := s.pwr.domOn, clk.rtcLoad := s.clk.rtcLoad } = s) ∧
    (portReady s 0x524 → s.rf.mbx.busy = false → s.rf.ready = true → s.rf.mbx.sel.field 23 16 = 16 →
      s.atBoundary = false → ∃ t, exec (.pealPeersCommit .regp 48) s = .next t ∧ t.peal.peersWant =
      (List.range 6).map (fun i => BitVec.ofNat 64 (leNat (slice (s.rf.mbx.inbuf ++ zeroBytes 256)
      (8 * i) 8))) ∧ t.peal.peersWait = true ∧ t.rf.mbx.busy = false ∧ t.rf.mbx.result = 0 ∧
      t.rf.result = 0 ∧ { t with
        rf := s.rf, pwr.domOn := s.pwr.domOn, peal.peersWant := s.peal.peersWant, peal.peersWait :=
          s.peal.peersWait } = s) ∧
    (portReady s 0x524 → s.rf.mbx.busy = false → s.rf.ready = true → s.rf.mbx.sel.field 23 16 = 80 →
      slice (s.rf.mbx.inbuf ++ zeroBytes 256) 1 7 = zeroBytes 7 → s.unitRefusal (byteAt
      (s.rf.mbx.inbuf ++ zeroBytes 256) 0) = none → s.queuedTests.find? (fun q => q.2 == byteAt
      (s.rf.mbx.inbuf ++ zeroBytes 256) 0) = none → s.queuedTests.length < 8 → ∃ t, exec
      (.selftestReq .regp 8) s = .next t ∧ t.st.queue = s.st.queue ++ [(s.st.next, byteAt
      (s.rf.mbx.inbuf ++ zeroBytes 256) 0)] ∧ t.st.next = s.st.next + 1 ∧ wordBytes t.rf.mbx.d0 =
      leBytes 4 s.st.next ∧ t.rf.mbx.busy = false ∧ t.rf.mbx.result = 0 ∧ t.rf.result = 0) ∧
    (portReady s 0x524 → s.rf.mbx.busy = false → s.rf.ready = true → s.rf.mbx.sel.field 23 16 = 80 →
      slice (s.rf.mbx.inbuf ++ zeroBytes 256) 1 7 = zeroBytes 7 → s.unitRefusal (byteAt
      (s.rf.mbx.inbuf ++ zeroBytes 256) 0) = none → s.st.queue = [] → s.st.current = none →
      s.pwr.jobs = [] → s.pwr.grants = [] → ∃ t, exec (.selftestReq .regp 8) s = .next t ∧ t.st =
      { s.st with
        queue := [(s.st.next, byteAt (s.rf.mbx.inbuf ++ zeroBytes 256) 0)], next := s.st.next + 1 }
      ∧ t.pwr.jobs.map (fun j => (j.queue, j.kind)) = [(6, .selftest s.st.next (byteAt
      (s.rf.mbx.inbuf ++ zeroBytes 256) 0))] ∧ wordBytes t.rf.mbx.d0 = leBytes 4 s.st.next ∧
      t.rf.mbx.busy = false ∧ t.rf.mbx.result = 0 ∧ t.rf.result = 0 ∧ { t with
        rf := s.rf, pwr.domOn := s.pwr.domOn, st := s.st, pwr.jobs := s.pwr.jobs, cmt.nextId :=
          s.cmt.nextId } = s)

/-- REC_WRITE of a type that the board controller may write passes a record of that type, its flags,
its sequence and its payload to S1 as the next of source 5 (R521). KEY_LOAD of an unused slot that
its mode and requester allow, in plain form with a good key and its digest right, passes the
KEY_SLOT record whose commit loads the slot (R439, R440, R444). BIVIK_OPEN of held records that
the guard lets through, with a healthy source, queues the container's job (R455, R457). PART_MAP,
with the key, accepts in an epoch below 3 a map that no check of R63 refuses: it waits for the
next reset and uses up the owner's epoch (R63, R64). -/
def Obligations.MailboxRecords : Prop :=
  ∀ (s : State), runs s →
    (∀ (n : Nat) (typ fl : Byte) (seq : Word), s.s1Open = true → s.cmt.s1wait = [] → s.cmt.auditHeld
      = [] → s.cmt.pipe = [] → s.pwr.step < 6 → portReady s 0x524 → s.rf.mbx.busy = false →
      s.rf.ready = true → s.rf.mbx.sel.field 23 16 = 8 → slice s.rf.mbx.inbuf 0 16 = [typ, fl, 0#8,
      0#8] ++ leBytes 4 seq.toNat ++ zeroBytes 8 → fl &&& 0xFC#8 = 0#8 → 16 ≤ n → n ≤ 256 → hostType
      typ = true → badPayload typ (((s.rf.mbx.inbuf ++ zeroBytes 256).take n).drop 16) = false →
      s.leaseBlocks (partOf typ) none = false → s.seqCheck (s.source 5) 5 seq = .inOrder →
      s.partRoom (partOf typ) (sectorsOf (n - 16)) = true → (s.guarded 0 (s.recAccess (partOf typ)
      (s.part (partOf typ)).head (sectorsOf (n - 16)) false true true true 0xFF#8 0)).2 = true → ∃
      t, exec (.mbxRecWrite n) s = .next t ∧ t.cmt.pipe.map (fun p => (p.record.hdr.typ,
      p.record.hdr.source, p.record.hdr.seq, p.record.payload)) = [(typ, s.source 5, seq,
      ((s.rf.mbx.inbuf ++ zeroBytes 256).take n).drop 16)] ∧ t.rf.mbx.busy = true ∧ t.rf.result = 0) ∧
    (∀ (n : Nat) (seq : Word), s.s1Open = true → s.cmt.s1wait = [] → s.cmt.auditHeld = [] →
      s.cmt.pipe = [] → s.pwr.step < 6 → portReady s 0x524 → s.rf.mbx.busy = false → s.rf.ready =
      true → s.rf.mbx.sel.field 23 16 = 8 → slice s.rf.mbx.inbuf 0 16 = [0xB0#8, 3#8, 0#8, 0#8] ++
      leBytes 4 seq.toNat ++ zeroBytes 8 → 16 ≤ n → n ≤ 256 → s.seqCheck (s.source 5) 5 seq =
      .inOrder → s.partRoom (partOf 0xB0#8) (sectorsOf (n - 16)) = true → (s.guarded 0 (s.recAccess
      (partOf 0xB0#8) (s.part (partOf 0xB0#8)).head (sectorsOf (n - 16)) false true true true 0xFF#8
      0)).2 = true → ∃ t, exec (.mbxRecWrite n) s = .next t ∧ t.cmt.pipe.map (fun p =>
      (p.record.hdr.typ, p.record.hdr.source, p.record.hdr.seq, p.record.payload)) = [(0xB0#8,
      s.source 5, seq, ((s.rf.mbx.inbuf ++ zeroBytes 256).take n).drop 16)] ∧ t.rf.mbx.busy = true ∧
      t.rf.result = 0 ∧ { t with
        rf := s.rf, pwr.domOn := s.pwr.domOn, cmt := s.cmt, clk.lastStamp := s.clk.lastStamp } = s) ∧
    (∀ (k : Nat) (key : List Byte), s.s1Open = true → s.cmt.s1wait = [] → s.cmt.auditHeld = [] →
      s.cmt.pipe = [] → s.pwr.step < 6 → portReady s 0x524 → s.rf.mbx.busy = false → s.rf.ready =
      true → s.rf.mbx.sel.field 23 16 = 33 → keyReady s → s.slotUsed k = false → s.keyPermitted
      .regp k 1 = true → key.length = State.slotSize k → State.keyGood k key = true →
      (s.rf.mbx.inbuf ++ zeroBytes 256).take (8 + State.slotSize k) = [BitVec.ofNat 8 k, 1#8] ++
      leBytes 2 (State.slotSize k) ++ digestBytes (sha256 key) 4 ++ key → k < 8 → s1Takes s 6 5 (16
      + State.slotSize k) → ∃ t, exec (.keyLoad .regp (8 + State.slotSize k)) s = .next t ∧
      t.cmt.pipe.map (fun p => (p.record.hdr.typ, p.record.hdr.source, p.record.hdr.seq,
      p.record.payload)) = [(0xA0#8, s.source 6, s.ownNumber (s.source 6) 5, keySlotPayload k
      (State.slotKind k) 1 s.epoch key)] ∧ t.rf.mbx.busy = true ∧ t.rf.result = 0 ∧ { t with
        rf := s.rf, pwr.domOn := s.pwr.domOn, cmt := s.cmt, clk.lastStamp := s.clk.lastStamp } = s) ∧
    (∀ (part stroke n : Nat) (fl : Byte), portReady s 0x524 → s.rf.mbx.busy = false → s.rf.ready =
      true → s.rf.mbx.sel.field 23 16 = 34 → (s.rf.mbx.inbuf ++ zeroBytes 256).take 12 =
      [BitVec.ofNat 8 part, fl] ++ leBytes 2 n ++ leBytes 8 stroke → part ≤ 10 → part ≠ 1 → fl = 0#8
      ∨ fl = 1#8 → 1 ≤ n → n ≤ 64 → stroke < 18446744073709551616 → (s.fromStroke part stroke).take
      n ≠ [] → ((s.fromStroke part stroke).take n).foldl (fun y r => if y.2 then y.1.guarded 0
      (y.1.readAccess r true 0xFF#8 0) else y) (s, true) = (s, true) → s.bothFailed = false →
      s.rf.mbx.container.isSome = true ∨ s.openContainers < 8 → ∃ t, exec (.bivikOpen .regp 12) s =
      .next t ∧ t.pwr.jobs = s.pwr.jobs ++
      [{ id := s.cmt.nextId, queue := 3, cost := 190000, weight := 1, kind := .bivik .regp }] ∧
      t.rf.mbx.busy = true ∧ t.rf.result = 0) ∧
    (∀ (stroke : Nat) (r : Stored), portReady s 0x524 → s.rf.mbx.busy = false → s.rf.ready = true →
      s.rf.mbx.sel.field 23 16 = 34 → (s.rf.mbx.inbuf ++ zeroBytes 256).take 12 = [0#8, 0#8, 1#8,
      0#8] ++ leBytes 8 stroke → (s.fromStroke 0 stroke).take 1 = [r] → (s.guarded 0 (s.readAccess r
      true 0xFF#8 0)).2 = true → s.bothFailed = false → s.rf.mbx.container.isSome = true ∨
      s.openContainers < 8 → ∃ t, exec (.bivikOpen .regp 12) s = .next t ∧ t.pwr.jobs = s.pwr.jobs
      ++ [{ id := s.cmt.nextId, queue := 3, cost := 190000, weight := 1, kind := .bivik .regp }] ∧
      t.rf.mbx.busy = true ∧ t.rf.result = 0 ∧ { t with
        rf := s.rf, pwr.domOn := s.pwr.domOn, pwr.jobs := s.pwr.jobs, cmt.nextId := s.cmt.nextId } =
      s) ∧
    (portReady s 0x524 → s.rf.mbx.busy = false → s.rf.ready = true → s.rf.mbx.sel.field 23 16 = 7 →
      keyReady s → s.epoch < 3 → s.mapRefusal ((s.rf.mbx.inbuf ++ zeroBytes 256).take 160)
      ((List.range 11).map (fun i => leNat (slice ((s.rf.mbx.inbuf ++ zeroBytes 256).take 160) (64 +
      2 * i) 2))) = none → ∃ t, exec (.partMapCommit .regp 160) s = .next t ∧ t.arr.mapPending =
      some ((List.range 11).map (fun i => leNat (slice ((s.rf.mbx.inbuf ++ zeroBytes 256).take 160)
      (64 + 2 * i) 2)), s.epoch, s.source 5) ∧ t.arr.mapEpoch = some s.epoch ∧ t.rf.mbx.busy = false
      ∧ t.rf.mbx.result = 0 ∧ t.rf.result = 0 ∧ { t with
        rf := s.rf, pwr.domOn := s.pwr.domOn, arr.mapPending := s.arr.mapPending, arr.mapEpoch :=
          s.arr.mapEpoch } = s)

/-- At the next RTC second the committed time enters the RTC with the time that has passed since the
commit, TIME_UNSYNC clears, and a TIME_SET record with the time before and after and its setter
enters the pipeline (R515). A read of ENT_DATA or ENT_DATA2 takes the oldest word of the host FIFO
(R410, R413); with the FIFO empty, or both sources FAILED, it reads 0 and sets EMPTY_READ in
ENT_STATUS. BANK_SELFTEST of the bank under test (R535, R536): without a timeout and with at most
8 bad spare lines the bank is ACTIVE again, the bad spares count as used, and the result of the
request is PASS with the number of lines of low margin. With a timeout the bank has failed, and
the result says so. -/
def Obligations.RtcEntropyAndBankTest : Prop :=
  ∀ (s : State), runs s →
    (∀ (v at0 : Nat) (p : Port) (setter : BitVec 16), s.clk.rtcLoad = some (v, at0, p, setter) →
      s1Takes s 3 6 32 → s.cmt.pipe = [] → ∃ t, exec (.timeRtcLoad) s = .next t ∧ t.clk.up =
      s.clk.up + (second - s.clk.rtc % second) % second ∧ t.clk.rtc = time64 (v + (t.clk.up - at0))
      ∧ t.clk.unsync = false ∧ t.clk.rtcLoad = none ∧ t.cmt.pipe.map (fun p => (p.record.hdr.typ,
      p.record.hdr.source)) = [(0x05#8, s.source 3)] ∧ t.cmt.pipe.map (fun p => slice
      p.record.payload 8 8) = [leBytes 8 t.clk.rtc] ∧
      { t with clk := s.clk, rf := s.rf, cmt := s.cmt } = s) ∧
    (∀ (second : Bool) (x : Src) (w : Word) (rest : List (Src × Word)), s.wired = true → ((s.wakeFor
      .regp).regpGuard (if second then 0x3F4 else 0x3F0) false).2 = true → s.ent.fifo = (x, w) ::
      rest → s.ent.pool = [] → s.bothFailed = false → ∃ t, exec (.entDataRead .regp second) s =
      .next t ∧ t.ent.fifo = rest ∧ t.rf.sdo = s.statusByte :: (zeroBytes 2 ++ wordBytes w) ∧
      t.rf.result = 0 ∧ { t with
        rf.result := s.rf.result, rf.sdo := s.rf.sdo, pwr.domOn := s.pwr.domOn, ent.fifo :=
          s.ent.fifo } = s) ∧
    (∀ (second : Bool), s.wired = true → ((s.wakeFor .regp).regpGuard (if second then 0x3F4 else
      0x3F0) false).2 = true → s.ent.fifo = [] → ∃ t, exec (.entDataRead .regp second) s = .next t ∧
      t.rf.sdo = s.statusByte :: (zeroBytes 2 ++ wordBytes 0#32) ∧ (regsCanonical s = true → (t.reg
      0x3E8).bit 5 = true) ∧ t.rf.result = 0 ∧ { t with rf := s.rf, pwr.domOn := s.pwr.domOn } = s) ∧
    (∀ (second : Bool), s.wired = true → ((s.wakeFor .regp).regpGuard (if second then 0x3F4 else
      0x3F0) false).2 = true → s.bothFailed = true → ∃ t, exec (.entDataRead .regp second) s = .next
      t ∧ t.rf.sdo = s.statusByte :: (zeroBytes 2 ++ wordBytes 0#32) ∧ (regsCanonical s = true →
      (t.reg 0x3E8).bit 5 = true) ∧ t.rf.result = 0 ∧
      { t with rf := s.rf, pwr.domOn := s.pwr.domOn } = s) ∧
    (∀ (req bank : Nat) (low : List Nat) (badSpares : Nat), s.st.current = some (req, bank) → bank <
      4 → nth s.arr.banks bank = 1 → badSpares ≤ 8 → s.st.queue = [(req, bank)] → nth
      s.arr.spareUsed bank + badSpares < 240 → s.arr.banks.length = 4 → s.arr.spareUsed.length = 4 →
      ∃ t, exec (.bankSelftest low badSpares false) s = .next t ∧ nth t.arr.banks bank = 0 ∧ nth
      t.arr.spareUsed bank = nth s.arr.spareUsed bank + badSpares ∧ t.st.current = none ∧ t.st.queue
      = [] ∧ t.st.results = ({
        req := req, unit := bank, outcome := 0, detail := 0, begun := s.st.begun, back := s.clk.rtc,
          value := low.length } :: s.st.results).take 8 ∧ (regsCanonical s = true → (t.reg
      0x014).bit 3 = true) ∧
      { t with arr := s.arr, st := s.st, rf := s.rf, pwr := s.pwr, cmt := s.cmt } = s) ∧
    (∀ (req bank : Nat) (low : List Nat) (badSpares : Nat), s.st.current = some (req, bank) → bank <
      4 → nth s.arr.banks bank = 1 → badSpares ≤ 8 → s.st.queue = [(req, bank)] → nth
      s.arr.spareUsed bank + badSpares < 240 → s.arr.banks.length = 4 → s.arr.spareUsed.length = 4 →
      s.knellRunning = false → s.cmt.pipe = [] → ∃ t, exec (.bankSelftest low badSpares true) s =
      .next t ∧ nth t.arr.banks bank = 2 ∧ t.st.current = none ∧ t.st.results.head?.map (fun r =>
      (r.req, r.unit, r.outcome)) = some (req, bank, 1))

/-- In-band register requests of a host, without a session or in one of its own (R258, R259, R261,
R429, R473): REG_READ of GLB_ID answers its four bytes, and of any register that reading does not
clear the register's word; every read and write of any width is answered with its status, and a
write that was refused is told in the port's next completion; REG_WRITE answers OK, and the value
is stored at once where the guard marks the register ordered, or posted where it does not.
STAGE_PULL by the switch die (R259, R272): outside a bank rebuild and recovery, it is counted,
STAGE_PULLED stands in PEAL_STATUS, and with no staged item the answer is one empty completion;
with items, each goes out in its own frames in order of item ID, the last without MORE; a damaged
item is answered DAMAGED with its header and trailer alone. -/
def Obligations.RegisterAndStageRequests : Prop :=
  ∀ (s : State), runs s →
    (∀ (h : MgmtHdr), hostAsks s h → s.sessionOk h = true → h.session = none → h.requester.toNat <
      48 → ((s.boundary .request).guarded 1 ((s.boundary .request).regAccess (.host
      h.requester.toNat) 0 4 false)).2 = true → s.grd.posted = [] → ∃ t, exec (.regRead h 0 2) s =
      .next t ∧ answered s t h 0x01 0 0 [] (wordBytes 0x4B543438#32) ∧
      { t with rf := s.rf, lnk := s.lnk, pwr.domOn := s.pwr.domOn } = s) ∧
    (∀ (h : MgmtHdr) (data : BitVec 64), hostAsks s h → s.sessionOk h = true → h.session = none →
      h.requester.toNat < 48 → ((s.boundary .request).guarded 1 ((s.boundary .request).regAccess
      (.host h.requester.toNat) 0x10C 4 true)).2 = true → s.guardAttr 1 0x10C = 0 → s.grd.posted =
      [] → ∃ t, exec (.regWrite h 0x10C 2 data) s = .next t ∧ answered s t h 0x02 0 0 [] [] ∧
      t.grd.posted = [{
        master := 1, port := .host h.requester.toNat, requester := h.requester.toNat, addr := 0x10C,
          width := 2, data := data }] ∧
      { t with rf := s.rf, lnk := s.lnk, pwr.domOn := s.pwr.domOn, grd.posted := s.grd.posted } = s) ∧
    (∀ (h : MgmtHdr) (data : BitVec 64), hostAsks s h → s.sessionOk h = true → h.session = none →
      h.requester.toNat < 48 → ((s.boundary .request).guarded 1 ((s.boundary .request).regAccess
      (.host h.requester.toNat) 0x10C 4 true)).2 = true → s.guardAttr 1 0x10C ≠ 0 → s.grd.posted =
      [] → regsCanonical s = true → ∃ t, exec (.regWrite h 0x10C 2 data) s = .next t ∧ answered s t
      h 0x02 0 0 [] [] ∧ t.reg 0x10C &&& 0x1F#32 = data.setWidth 32 &&& 0x1F#32 ∧
      { t with rf := s.rf, lnk := s.lnk, pwr.domOn := s.pwr.domOn } = s) ∧
    (∀ (h : MgmtHdr) (off : Nat), hostAsks s h → s.sessionOk h = true → h.session = none →
      h.requester.toNat < 48 → ((s.boundary .request).guarded 1 ((s.boundary .request).regAccess
      (.host h.requester.toNat) off 4 false)).2 = true → s.grd.posted = [] → off < 2048 → off % 4 =
      0 → off ≠ 0x3F0 → off ≠ 0x3F4 → (regDesc off).map (fun d => d.rc) = some 0#32 → meetsMailbox
      off 4 = false → ∃ t, exec (.regRead h off 2) s = .next t ∧ answered s t h 0x01 0 0 []
      (wordBytes ((asked s h).regValue (.host h.requester.toNat) off)) ∧
      { t with rf := s.rf, lnk := s.lnk, pwr.domOn := s.pwr.domOn } = s) ∧
    (∀ (h : MgmtHdr) (a w st : Nat) (u : State) (body : List Byte), hostAsks s h → s.sessionOk h =
      true → a < 65536 → w ≤ 3 → (asked s h).inbandRead (MgmtHdrPort h) a w = (u, st, body) → exec
      (.regRead h a w) s = .next (u.complete h 0x01 st 0 [] body)) ∧
    (∀ (h : MgmtHdr) (a w st : Nat) (data : BitVec 64) (u : State), hostAsks s h → s.sessionOk h =
      true → a < 65536 → w ≤ 3 → (asked s h).inbandWrite (MgmtHdrPort h) a w data = (u, st) → exec
      (.regWrite h a w data) s = .next ((u.answer h 0x02 (if st = stLate then stOk else
      st)).setReject (MgmtHdrPort h) (st != 0))) ∧
    (∀ (h : MgmtHdr), s.linkOn = true → s.knellRunning = false → h.ending = .good → h.requester =
      switchDie → s.rf.ready = true → s.peal.mgmtWait = [] → s.peal.pullHeads = [] →
      s.cmt.rebuilding = false → s.cmt.recovering = false → s.stagedItems = [] → ∃ t, exec
      (.stagePull h) s = .next t ∧ answered s t h 0x40 0 0 [] [] ∧ t.peal.pulls = saturate 65535
      (s.peal.pulls + 1) ∧ (regsCanonical s = true → (t.reg 0x230).bit 7 = true) ∧
      { t with rf := s.rf, lnk := s.lnk, pwr.domOn := s.pwr.domOn, peal.pulls := s.peal.pulls } = s) ∧
    (∀ (h : MgmtHdr) (rs : List Stored), s.linkOn = true → s.knellRunning = false → h.ending = .good
      → h.requester = switchDie → s.rf.ready = true → s.peal.mgmtWait = [] → s.peal.pullHeads = [] →
      s.cmt.rebuilding = false → s.cmt.recovering = false → s.stagedItems = rs → rs ≠ [] → rs.all
      (fun r => r.intact && decide ((State.recBytes r.record false).length ≤ 4032)) = true →
      s.rf.prevReject = [] → s.rf.notices = [] → ∃ t, exec (.stagePull h) s = .next t ∧ t.lnk.txQ =
      s.lnk.txQ ++ pullFrames s h rs ∧ t.peal.pulls = saturate 65535 (s.peal.pulls + 1) ∧
      (regsCanonical s = true → (t.reg 0x230).bit 7 = true) ∧
      { t with rf := s.rf, lnk := s.lnk, pwr.domOn := s.pwr.domOn, peal.pulls := s.peal.pulls } = s) ∧
    (∀ (h : MgmtHdr) (r : Stored), s.linkOn = true → s.knellRunning = false → h.ending = .good →
      h.requester = switchDie → s.rf.ready = true → s.peal.mgmtWait = [] → s.peal.pullHeads = [] →
      s.cmt.rebuilding = false → s.cmt.recovering = false → s.stagedItems = [r] → r.intact = false →
      ∃ t, exec (.stagePull h) s = .next t ∧ answered s t h 0x40 0x0F 0 (leBytes 8
      r.record.hdr.stroke) (recEnds r.record) ∧ t.peal.pulls = saturate 65535 (s.peal.pulls + 1) ∧
      { t with rf := s.rf, lnk := s.lnk, pwr.domOn := s.pwr.domOn, peal.pulls := s.peal.pulls } = s)

/-- In a session of the requester, outside a bank rebuild and recovery (R263, R264, R265, R267):
REC_READ in any of its modes, and with OPEN in mode 2, of a record that it finds and the guard
lets through, completes with that record, verified, in one or two frames; with the two ends of one
that is damaged, or of a copy opened that does not verify, and DAMAGED; and where there is none
with NO_RECORD. REC_WRITE of a host type with a number that is not a duplicate passes the record
to S1, with a host's class and source, or the guard refuses it; one that is next in order or the
first of its stream, of a partition that needs no compaction for it, joins the pipeline, and no
answer is sent before its commit point. -/
def Obligations.RecordRequests : Prop :=
  ∀ (s : State) (h : MgmtHdr) (c : Nat) (x : Ctx), runs s → served s h → inSession s h c x →
    (∀ (stroke mode arg : Nat) (opened : Bool) (r : Stored), s.cmt.rebuilding = false →
      s.cmt.recovering = false → s.peal.readFound = [] → mode ≤ 2 → mode = 1 → arg ≤ 10 ∧ arg ≠ 1 →
      mode = 2 → arg ≤ 63 → opened = true → mode = 2 → s.findRead stroke mode arg = some r →
      r.record.hdr.typ ≠ 0xA0#8 → (s.guarded 1 (s.readAccess r (opened || State.isSealed r) x.rights
      x.requester)).2 = true → ∃ t, exec (.recRead h stroke mode arg opened) s = .next t ∧ t.lnk.txQ
      = s.lnk.txQ ++ readFrames s h r.record.hdr.stroke (readReply r opened) ∧ t.ctx c = some
      { x with lastUse := s.clk.up } ∧ { t with
        rf := s.rf, lnk := s.lnk, pwr.domOn := s.pwr.domOn, ses.ctxs := s.ses.ctxs, peal.readFound
          := s.peal.readFound } = s) ∧
    (∀ (stroke mode arg : Nat) (opened : Bool), s.cmt.rebuilding = false → s.cmt.recovering = false
      → s.peal.readFound = [] → mode ≤ 2 → mode = 1 → arg ≤ 10 ∧ arg ≠ 1 → mode = 2 → arg ≤ 63 →
      opened = true → mode = 2 → s.findRead stroke mode arg = none → ∃ t, exec (.recRead h stroke
      mode arg opened) s = .next t ∧ answered s t h 0x10 0x09 0 [] [] ∧ t.ctx c = some
      { x with lastUse := s.clk.up } ∧ { t with
        rf := s.rf, lnk := s.lnk, pwr.domOn := s.pwr.domOn, ses.ctxs := s.ses.ctxs, peal.readFound
          := s.peal.readFound } = s) ∧
    (∀ (typ : Byte) (first last : Bool) (seq : Word) (pl : List Byte), s.pwr.step < 6 → s.s1Open =
      true → s.cmt.s1wait = [] → s.cmt.auditHeld = [] → s.grd.posted.all (fun w => w.master != 1) =
      true → hostType typ = true → badPayload typ pl = false → s.leaseBlocks (partOf typ) (some
      h.requester.toNat) = false → s.partRoom (partOf typ) (sectorsOf pl.length) = true → s.seqCheck
      (s.source (16 + h.requester.toNat)) 2 seq = .inOrder ∨ s.seqCheck (s.source (16 +
      h.requester.toNat)) 2 seq = .fresh → s.hasRoom (sectorsOf pl.length) = true → (s.newLogical
      (partOf typ) (s.part (partOf typ)).head (sectorsOf pl.length)).length ≤ s.freeLogical (partOf
      typ) → (s.guarded 1 (s.recAccess (partOf typ) (s.part (partOf typ)).head (sectorsOf pl.length)
      false true true true x.rights h.requester.toNat)).2 = true → ∃ t, exec (.recWrite h typ first
      last seq pl) s = .next t ∧ t.cmt.pipe.map (fun p => (p.record.hdr.typ, p.record.hdr.source,
      p.record.hdr.seq, p.record.payload, p.hook)) = s.cmt.pipe.map (fun p => (p.record.hdr.typ,
      p.record.hdr.source, p.record.hdr.seq, p.record.payload, p.hook)) ++ [(typ, s.source (16 +
      h.requester.toNat), seq, pl, Hook.mgmtWrite h)] ∧ t.lnk.txQ = s.lnk.txQ ∧ t.ctx c = some
      { x with lastUse := s.clk.up } ∧ { t with
        rf := s.rf, lnk := s.lnk, pwr.domOn := s.pwr.domOn, ses.ctxs := s.ses.ctxs, cmt := s.cmt,
          clk.lastStamp := s.clk.lastStamp, peal.writeCredits := s.peal.writeCredits } = s) ∧
    (∀ (typ : Byte) (first last : Bool) (seq : Word) (pl : List Byte), s.pwr.step < 6 → s.s1Open =
      true → s.cmt.s1wait = [] → s.cmt.auditHeld = [] → s.grd.posted.all (fun w => w.master != 1) =
      true → hostType typ = true → badPayload typ pl = false → s.leaseBlocks (partOf typ) (some
      h.requester.toNat) = false → s.partRoom (partOf typ) (sectorsOf pl.length) = true → s.seqCheck
      (s.source (16 + h.requester.toNat)) 2 seq ≠ .duplicate → s.roomFor (s.source (16 +
      h.requester.toNat)) 2 seq (sectorsOf pl.length) = true → ∃ t, exec (.recWrite h typ first last
      seq pl) s = .next t ∧ (t.cmt.pipe.getLast?.map (fun p => (p.record.hdr.typ,
      p.record.hdr.source, p.record.hdr.seq, p.record.payload, p.hook)) = some (typ, s.source (16 +
      h.requester.toNat), seq, pl, Hook.mgmtWrite h) ∨ answered s t h 0x11 0x05 0 [] []) ∧ t.ctx c =
      some { x with lastUse := s.clk.up })

/-- Sessions and leases (R266, R269, R270, R449 to R453). HELLO, of either method, of a point on the
curve takes the lowest free host context, after the eviction that R452 allows where one is needed,
and asks for three entropy blocks; PROVE with the owner key's signature of what R449 names opens
the session with the rights asked for; CLOSE frees the context and ends its leases, and no other
context or lease; LEASE of a partition that no other host holds, by a requester with the right,
takes effect at the commit-group boundary and is answered there: when the engine stands at one at
once, and otherwise it waits for it. When the time of a lease of the Staging partition or of the
Field user area is over the partition is free again and LEASE_EXPIRED stands in PEAL_STATUS
(R269); before that, of a partition without a lease, and of any other, the event changes nothing.
-/
def Obligations.SessionsAndLeases : Prop :=
  ∀ (s : State), runs s →
    (∀ (h : MgmtHdr) (method : Nat) (rights : Byte) (point : List Byte) (u : State) (c : Nat),
      served s h → regsCanonical s = true → s.pwr.step < 2 → s.bothFailed = false → s.sessionOk h =
      true → s.rf.pend = [] → method = 0 ∨ (method = 1 ∧ s.ownerKey.isSome = true) → onCurve point =
      true → (s.touchSession h).makeRoom h.requester.toNat = some u → u.freeCtx = some c →
      s.ent.pool = [] → ∃ t, exec (.sessionOpenHello h method rights point) s = .next t ∧ t.ctx c =
      some (s.newCtx h.requester.toNat method rights point) ∧ t.ent.waiting = u.ent.waiting ++ [⟨2,
      .hello h c⟩, ⟨3, .hello h c⟩, ⟨4, .hello h c⟩] ∧ t.lnk.txQ = s.lnk.txQ ∧ t.arr = s.arr ∧ (∀ k,
      k < 64 → k ≠ c → t.ctx k = u.ctx k)) ∧
    (∀ (h : MgmtHdr) (c : Nat) (x : Ctx) (k sig : List Byte), served s h → regsCanonical s = true →
      s.pwr.step < 2 → s.bothFailed = false → h.session = some c → s.ctx c = some x → x.state =
      .hello → x.requester = h.requester.toNat → x.method = 1 → x.tagPoint ≠ [] → s.ownerKey = some
      k → Config.verify k (blockBytes x.challenge ++ x.tagPoint ++ x.hostPoint ++ [h.requester,
      x.asked] ++ leBytes 8 Config.deviceId.toNat) sig = true → ∃ t, exec (.sessionOpenProve h sig)
      s = .next t ∧ answered s t h 0x20 0 0 [] [0#8, BitVec.ofNat 8 c, x.asked &&& 0x7F#8] ∧ t.ctx c
      = some { x with state := .opened, rights := x.asked &&& 0x7F#8, lastUse := s.clk.up } ∧ (t.reg
      0x4A8).bit 0 = true ∧
      { t with rf := s.rf, lnk := s.lnk, pwr.domOn := s.pwr.domOn, ses.ctxs := s.ses.ctxs } = s) ∧
    (∀ (h : MgmtHdr) (c : Nat) (x : Ctx), served s h → regsCanonical s = true → inSession s h c x →
      ∃ t, exec (.sessionClose h) s = .next t ∧ answered s t h 0x21 0 0 [] [] ∧ t.ctx c = none ∧ (∀
      k, k < 64 → k ≠ c → t.ctx k = s.ctx k) ∧ t.peal.lease8 = s.peal.lease8.bind (fun l : Lease =>
      if l.ctx = c then none else some l) ∧ t.peal.lease9 = s.peal.lease9.bind (fun l : Lease => if
      l.ctx = c then none else some l) ∧ (t.reg 0x4A8).bit 1 = true ∧ { t with
        rf := s.rf, lnk := s.lnk, pwr := s.pwr, ses := s.ses, ent.waiting := s.ent.waiting,
          peal.lease8 := s.peal.lease8, peal.lease9 := s.peal.lease9, fldx.ctx := s.fldx.ctx,
          cmt.pipe := s.cmt.pipe, cmt.s1wait := s.cmt.s1wait, clk.rtcLoad := s.clk.rtcLoad } = s) ∧
    (∀ (h : MgmtHdr) (c part secs : Nat) (x : Ctx), served s h → regsCanonical s = true → inSession
      s h c x → part = 8 ∨ part = 9 → x.rights &&& 0x02#8 ≠ 0#8 → s.atBoundary = true →
      s.leaseBlocks part (some h.requester.toNat) = false → s.peal.leaseWait = [] → s.rf.pend = [] →
      s.peal.peersWait = false → 1 ≤ secs → secs ≤ 500 → ∃ t, exec (.lease h part 1 secs) s = .next
      t ∧ answered s t h 0x30 0 0 (leBytes 2 secs) [] ∧ (if part = 8 then t.peal.lease8 else
      t.peal.lease9) = some
      { host := h.requester.toNat, ctx := c, endAt := s.clk.up + secs * second } ∧ (if part = 8 then
      t.peal.lease9 = s.peal.lease9 else t.peal.lease8 = s.peal.lease8) ∧ t.ctx c = some
      { x with lastUse := s.clk.up } ∧ { t with
        rf := s.rf, lnk := s.lnk, pwr.domOn := s.pwr.domOn, ses.ctxs := s.ses.ctxs, peal.lease8 :=
          s.peal.lease8, peal.lease9 := s.peal.lease9 } = s) ∧
    (∀ (h : MgmtHdr) (c part secs : Nat) (x : Ctx), served s h → regsCanonical s = true → inSession
      s h c x → part = 8 ∨ part = 9 → x.rights &&& 0x02#8 ≠ 0#8 → s.atBoundary = true →
      s.leaseBlocks part (some h.requester.toNat) = false → s.peal.leaseWait = [] → s.rf.pend = [] →
      s.peal.peersWait = false → ∃ t, exec (.lease h part 0 secs) s = .next t ∧ answered s t h 0x30
      0 0 (leBytes 2 0) [] ∧ (if part = 8 then t.peal.lease8 else t.peal.lease9) = none ∧ (if part =
      8 then t.peal.lease9 = s.peal.lease9 else t.peal.lease8 = s.peal.lease8) ∧ t.ctx c = some
      { x with lastUse := s.clk.up } ∧ { t with
        rf := s.rf, lnk := s.lnk, pwr.domOn := s.pwr.domOn, ses.ctxs := s.ses.ctxs, peal.lease8 :=
          s.peal.lease8, peal.lease9 := s.peal.lease9 } = s) ∧
    (∀ (h : MgmtHdr) (c part op secs : Nat) (x : Ctx), served s h → regsCanonical s = true →
      inSession s h c x → part = 8 ∨ part = 9 → x.rights &&& 0x02#8 ≠ 0#8 → s.atBoundary = false →
      op = 0 ∨ (op = 1 ∧ 1 ≤ secs ∧ secs ≤ 500) → ∃ t, exec (.lease h part op secs) s = .next t ∧
      t.peal.leaseWait = s.peal.leaseWait ++ [{ hdr := h, part := part, op := op, seconds := secs }]
      ∧ t.lnk.txQ = s.lnk.txQ ∧ t.ctx c = some { x with lastUse := s.clk.up } ∧ { t with
        rf := s.rf, lnk := s.lnk, pwr.domOn := s.pwr.domOn, ses.ctxs := s.ses.ctxs, peal.leaseWait
          := s.peal.leaseWait } = s) ∧
    (∀ (part : Nat) (l : Lease), part = 8 ∨ part = 9 → (if part = 8 then s.peal.lease8 else
      s.peal.lease9) = some l → l.endAt ≤ s.clk.up → ∃ t, exec (.leaseExpiry part) s = .next t ∧ (if
      part = 8 then t.peal.lease8 = none ∧ t.peal.lease9 = s.peal.lease9 else t.peal.lease9 = none ∧
      t.peal.lease8 = s.peal.lease8) ∧ t.rf = (s.raise 0x230 6).rf ∧
      { t with rf := s.rf, peal.lease8 := s.peal.lease8, peal.lease9 := s.peal.lease9 } = s) ∧
    (∀ (part : Nat) (l : Lease), part = 8 ∨ part = 9 → (if part = 8 then s.peal.lease8 else
      s.peal.lease9) = some l → s.clk.up < l.endAt → exec (.leaseExpiry part) s = .next (s)) ∧
    (∀ (part : Nat), (part ≠ 8 ∧ part ≠ 9) ∨ (part = 8 ∧ s.peal.lease8 = none) ∨ (part = 9 ∧
      s.peal.lease9 = none) → exec (.leaseExpiry part) s = .next (s))

/-- An EVENT frame that passes its end check (R37, R40, R44, R48, R51, R253, R254): its record
enters the pipeline with its type, source, sequence, SSN and body, its stream expects the next
number, and the bracket follows a newer SSN; after a jump a GAP record goes before it; a duplicate
is counted and discarded; a frame that is poisoned or fails its end check leaves no record, is
counted, and gives the stream its number back. A header opens the record, and the frame's end
gives it its body. -/
def Obligations.EventFrames : Prop :=
  ∀ (s : State) (h : EventHdr) (body : List Byte) (n : Nat), runs s → nothingWaits s → s.linkOn =
    true → s.knellRunning = false →
    (s.s1Open = true → s.cmt.pipe = [] → eventFault h = 0 → body.length = h.bodyLen →
      s.lnk.doneFrames = [[], [n], [], []] → s.seqCheck (s.source h.source) 1 h.seq = .inOrder → ∃
      t, exec (.eventFrame (.whole .good) h body) s = .next t ∧ t.cmt.pipe.map (fun p =>
      (p.record.hdr.typ, p.record.hdr.source, p.record.hdr.seq, p.record.hdr.ssn, p.record.payload))
      = [(h.typ, s.source h.source, h.seq, h.ssn, body)] ∧ t.cmt.pipe.all (fun p => p.checked &&
      p.openFrame == none && p.credits == some (Cls.event, n)) = true ∧ t.streamOf (s.source
      h.source) 1 = some (h.seq + 1#32) ∧ t.clk.bracket = (if s.clk.bracketSeen = false ∨ (h.ssn -
      s.clk.bracket).toNat < 2147483648 then h.ssn else s.clk.bracket) ∧ { t with
        rf := s.rf, lnk := s.lnk, pwr.domOn := s.pwr.domOn, cmt := s.cmt, clk := s.clk, arr.tags :=
          s.arr.tags, arr.extEpochs := s.arr.extEpochs } = s) ∧
    (∀ (e : Word), s.s1Open = true → s.cmt.pipe = [] → eventFault h = 0 → body.length = h.bodyLen →
      s.lnk.doneFrames = [[], [n], [], []] → s.seqCheck (s.source h.source) 1 h.seq = .jump e →
      s.ownGap (s.source 0) 6 = none → ∃ t, exec (.eventFrame (.whole .good) h body) s = .next t ∧
      t.cmt.pipe.map (fun p => (p.record.hdr.typ, p.record.hdr.seq)) = [(0x01#8, s.ownNumber
      (s.source 0) 6), (h.typ, h.seq)] ∧ t.cmt.pipe.map (fun p => p.record.payload) = [gapPayload
      (s.source h.source) 1 2 [(e, h.seq - 1#32)], body] ∧ t.streamOf (s.source h.source) 1 = some
      (h.seq + 1#32)) ∧
    (s.s1Open = true → s.cmt.pipe = [] → eventFault h = 0 → body.length = h.bodyLen →
      s.lnk.doneFrames = [[], [n], [], []] → s.seqCheck (s.source h.source) 1 h.seq = .duplicate → ∃
      t, exec (.eventFrame (.whole .good) h body) s = .next t ∧ t.cmt.pipe = [] ∧ t.rf = (s.count
      0x100).rf ∧ { t with
        rf := s.rf, lnk := s.lnk, pwr.domOn := s.pwr.domOn, clk.bracket := s.clk.bracket,
          clk.bracketSeen := s.clk.bracketSeen } = s) ∧
    (s.s1Open = true → eventFault h = 0 → body.length = h.bodyLen → s.openRec .event = none →
      s.cmt.pipe.all (fun p => p.id != s.cmt.nextId) = true → s.seqCheck (s.source h.source) 1 h.seq
      = .inOrder ∨ s.seqCheck (s.source h.source) 1 h.seq = .fresh → s.roomFor (s.source h.source) 1
      h.seq (sectorsOf h.bodyLen) = true → ∃ t, exec (.eventFrame (.whole .good) h body) s = .next t
      ∧ t.cmt.pipe.map (fun p => ((p.record.hdr.typ, p.record.hdr.source, p.record.hdr.seq),
      p.record.payload, p.checked)) = s.cmt.pipe.map (fun p => ((p.record.hdr.typ,
      p.record.hdr.source, p.record.hdr.seq), p.record.payload, p.checked)) ++ [((h.typ, s.source
      h.source, h.seq), body, true)] ∧ t.streamOf (s.source h.source) 1 = some (h.seq + 1#32) ∧
      t.arr.recs = s.arr.recs ∧ t.fmem = s.fmem ∧ t.kn = s.kn) ∧
    (s.s1Open = true → eventFault h = 0 → s.openRec .event = none → s.seqCheck (s.source h.source) 1
      h.seq = .inOrder → s.roomFor (s.source h.source) 1 h.seq (sectorsOf h.bodyLen) = true → ∃ t,
      exec (.eventFrame .header h body) s = .next t ∧ t.cmt.pipe.map (fun p => (p.record.hdr.typ,
      p.record.hdr.source, p.record.hdr.seq, p.checked, p.openFrame)) = s.cmt.pipe.map (fun p =>
      (p.record.hdr.typ, p.record.hdr.source, p.record.hdr.seq, p.checked, p.openFrame)) ++ [(h.typ,
      s.source h.source, h.seq, false, some .event)] ∧ t.streamOf (s.source h.source) 1 = some
      (h.seq + 1#32) ∧ t.lnk = s.lnk ∧ t.arr.recs = s.arr.recs ∧ t.fmem = s.fmem ∧ t.kn = s.kn) ∧
    (∀ (p : PipeRec), s.openRec .event = some p → body.length = p.record.hdr.length → ∃ t, exec
      (.eventFrame (.finish .good) h body) s = .next t ∧ t.cmt.pipe = s.cmt.pipe.map (fun x => if
      x.id = p.id then { p with
        record := { p.record with payload := body }, openFrame := none, checked := true, credits :=
          some (Cls.event, (s.lnk.doneFrames.getD 1 []).headD 0) } else x) ∧
      { t with rf := s.rf, lnk := s.lnk, pwr.domOn := s.pwr.domOn, cmt.pipe := s.cmt.pipe } = s) ∧
    (∀ (p : PipeRec) (w : Word) (e : FrameEnd), s.cmt.pipe = [p] → p.openFrame = some Cls.event →
      p.hook = .none → p.prevExpected = some (some w) → s.streamOf p.record.hdr.source
      p.record.hdr.cls = some (p.record.hdr.seq + 1#32) → e = .poisoned ∨ e = .failed →
      boundaryClear s → ∃ t, exec (.eventFrame (.finish e) h body) s = .next t ∧ t.cmt.pipe = [] ∧
      t.streamOf p.record.hdr.source p.record.hdr.cls = some w ∧ (regsCanonical s = true → (t.reg
      0x230).bit (if e = .poisoned then 3 else 2) = true) ∧ t.arr.recs = s.arr.recs ∧ t.fmem =
      s.fmem ∧ t.kn = s.kn)

/-- Peal mirroring at the origin (R276 to R282). PEAL_SEND takes the next record of the backlog,
sends its COPY to its peer set and keeps it unsettled; when a retry falls due the next attempt
goes to the peers still missing, and after the last attempt the engine gives up with a DEGRADE
record; a PACK of a peer in the set is noted, and the record is settled when every peer has
answered. -/
def Obligations.PealDeliveries : Prop :=
  ∀ (s : State), runs s → s.knellRunning = false → s.linkOn = true →
    (∀ (b : Backlog) (q : List Backlog) (r : Stored), s.wired = true → s.pwr.step < 2 → s.pwr.band <
      3 → s.peal.backlog = b :: q → s.peal.unsettled.length < 64 → s.byNumber b.stroke = some r →
      s.pwr.jobs = [] → s.pwr.grants = [] → (s.boundary .admission).servedQueue 5 = 5 → (s.boundary
      .admission).verdict (s.pealJob b.stroke) = .grant → ∃ t, exec (.pealSend) s = .next t ∧
      t.lnk.txQ = s.lnk.txQ ++ cutPackets .peal 64 true (frameBytes ([1#8, BitVec.ofNat 8
      s.tagIndex, 0#8, 0#8] ++ wordBytes s.cid ++ leBytes 8 b.set.toNat) (carriedCopy r.record)) ∧
      t.peal.backlog = q ∧ t.peal.unsettled = s.peal.unsettled ++ [{
        stroke := b.stroke, typ := r.record.hdr.typ, degree := b.degree, set := b.set, got := 0#64,
          attempt := 0, sends := 1, firstSent := s.clk.rtc, due := false, slot := b.slot }] ∧ t.rf =
      ((s.boundary .admission).count 0x23C).rf ∧ { t with
        rf := s.rf, pwr.deferred := s.pwr.deferred, pwr.waiting := s.pwr.waiting, lnk.txQ :=
          s.lnk.txQ, peal.backlog := s.peal.backlog, peal.unsettled := s.peal.unsettled } = s) ∧
    (∀ (u : Unsettled) (r : Stored), s.pwr.step < 2 → s.peal.unsettled = [u] → u.attempt < 4 →
      s.byNumber u.stroke = some r → s.pwr.jobs = [] → s.pwr.grants = [] → (s.boundary
      .admission).servedQueue 5 = 5 → (s.boundary .admission).verdict (s.pealJob u.stroke) = .grant
      → ∃ t, exec (.pealRetryWaitExpiry u.stroke) s = .next t ∧ t.lnk.txQ = s.lnk.txQ ++ cutPackets
      .peal 64 true (frameBytes ([1#8, BitVec.ofNat 8 s.tagIndex, BitVec.ofNat 8 (u.attempt + 1),
      0#8] ++ wordBytes s.cid ++ leBytes 8 (u.set &&& ~~~ u.got).toNat) (carriedCopy r.record)) ∧
      t.peal.unsettled = [{ u with attempt := u.attempt + 1, due := false, sends := u.sends + 1 }] ∧
      t.rf = ((s.boundary .admission).count 0x23C).rf ∧ { t with
        rf := s.rf, pwr.deferred := s.pwr.deferred, pwr.waiting := s.pwr.waiting, lnk.txQ :=
          s.lnk.txQ, peal.unsettled := s.peal.unsettled } = s) ∧
    (∀ (u : Unsettled), s.peal.unsettled = [u] → 4 ≤ u.attempt → u.slot = none → s1Takes s 7 6 48 →
      ∃ t, exec (.pealRetryWaitExpiry u.stroke) s = .next t ∧ t.peal.unsettled = [] ∧ oneMore s t 7
      0x02#8 (State.degradePayload u (if u.sends < 5 then 3 else 1)) ∧ { t with
        peal.unsettled := s.peal.unsettled, rf := s.rf, cmt := s.cmt, clk.lastStamp :=
          s.clk.lastStamp } = s) ∧
    (∀ (u : Unsettled) (h : PackHdr), s.peal.unsettled = [u] → h.origin = s.tagIndex → h.cid = s.cid
      → h.stroke = u.stroke → h.result ≤ 1 → u.set &&& BitVec.ofNat 64 (2 ^ (h.acker % 64)) ≠ 0#64 →
      u.got ||| BitVec.ofNat 64 (2 ^ (h.acker % 64)) ≠ u.set → ∃ t, exec (.packFrame .good h) s =
      .next t ∧ t.peal.unsettled =
      [{ u with got := u.got ||| BitVec.ofNat 64 (2 ^ (h.acker % 64)) }] ∧ { t with
        rf := s.rf, lnk := s.lnk, pwr.domOn := s.pwr.domOn, peal.unsettled := s.peal.unsettled } =
      s) ∧
    (∀ (u : Unsettled) (h : PackHdr), s.peal.unsettled = [u] → u.slot = none → h.origin = s.tagIndex
      → h.cid = s.cid → h.stroke = u.stroke → h.result ≤ 1 → u.set &&& BitVec.ofNat 64 (2 ^ (h.acker
      % 64)) ≠ 0#64 → u.got ||| BitVec.ofNat 64 (2 ^ (h.acker % 64)) = u.set → ∃ t, exec (.packFrame
      .good h) s = .next t ∧ t.peal.unsettled = [] ∧ { t with
        rf := s.rf, lnk := s.lnk, pwr.domOn := s.pwr.domOn, peal.unsettled := s.peal.unsettled } =
      s)

/-- A COPY whose headers, end check, Carillon ID and tag pass is stored (R284, R285): a PEER_COPY
record with the copy as its payload stands checked in the pipeline. A copy under this tag's own
index is rejected with OWN_INDEX and no record; one under another Carillon ID is rejected after
its end with PACK result 3. Once the link is ACTIVE with TAG_VAUX and Peal ready, the records of
the oldest bundle to be mirrored join the backlog in stroke order with the peer set of class Knell
(R166, R278). -/
def Obligations.CopiesAndBundles : Prop :=
  ∀ (s : State), runs s → s.knellRunning = false → s.pealReady = true →
    (∀ (h : CopyHdr) (body : List Byte) (n : Nat), nothingWaits s → s.linkOn = true → s.s1Open =
      true → s.cmt.pipe = [] → body.length = 64 + copyPayload body → 64 ≤ body.length → body.length
      ≤ 4032 → s.holdsCopy body = false → s.lnk.doneFrames = [[], [], [], [n]] → h.origin ≠
      s.tagIndex → h.cid = s.cid → copyVerifies body = true → ∃ t, exec (.pealCopyFrame (.whole
      .good) h body) s = .next t ∧ t.cmt.pipe.map (fun p => (p.record.hdr.typ, p.record.hdr.source,
      p.record.hdr.part, p.record.payload, p.checked)) = [(0x50#8, s.source 7, 7, body, true)] ∧
      t.lnk.txQ = s.lnk.txQ ∧ { t with
        rf := s.rf, lnk := s.lnk, pwr.domOn := s.pwr.domOn, cmt := s.cmt, clk.lastStamp :=
          s.clk.lastStamp, arr.tags := s.arr.tags, arr.extEpochs := s.arr.extEpochs } = s) ∧
    (∀ (h : CopyHdr) (body : List Byte) (n : Nat), nothingWaits s → s.linkOn = true → s.s1Open =
      true → s.cmt.pipe = [] → body.length = 64 + copyPayload body → 64 ≤ body.length → body.length
      ≤ 4032 → s.holdsCopy body = false → s.lnk.doneFrames = [[], [], [], [n]] → h.origin =
      s.tagIndex → ∃ t, exec (.pealCopyFrame (.whole .good) h body) s = .next t ∧ t.cmt.pipe = [] ∧
      t.lnk.txQ = s.lnk.txQ ∧ (regsCanonical s = true → (t.reg 0x230).bit 8 = true) ∧
      { t with rf := s.rf, lnk := s.lnk, pwr.domOn := s.pwr.domOn } = s) ∧
    (∀ (h : CopyHdr) (body : List Byte) (n : Nat), nothingWaits s → s.linkOn = true → s.s1Open =
      true → s.cmt.pipe = [] → body.length = 64 + copyPayload body → 64 ≤ body.length → body.length
      ≤ 4032 → s.holdsCopy body = false → s.lnk.doneFrames = [[], [], [], [n]] → h.origin ≠
      s.tagIndex → h.cid ≠ s.cid → ∃ t, exec (.pealCopyFrame (.whole .good) h body) s = .next t ∧
      t.cmt.pipe = [] ∧ t.lnk.txQ = s.lnk.txQ ++ cutPackets .peal 64 true (frameBytes ([2#8,
      BitVec.ofNat 8 s.tagIndex, 3#8, BitVec.ofNat 8 h.origin] ++ wordBytes h.cid ++ leBytes 8
      (copyIdentity body).2) [])) ∧
    (∀ (k : Nat) (q : List Nat) (d : Nat), s.wired = true → s.linkActive = true → s.mirrorable = k
      :: q → s.peal.unsettled = [] → s.peal.backlog = [] → ((s.slotRecords k).foldl insertStored
      []).map (fun r => r.record.hdr.degree) = [d] → d ≠ 0 → ∃ t, exec (.knellMirrorStart) s = .next
      t ∧ t.peal.backlog = ((s.slotRecords k).foldl insertStored []).map (fun r => {
        stroke := r.record.hdr.stroke, degree := d, set := s.peal.peers.getD 1 0#64, slot := some k })
      ∧ { t with peal.backlog := s.peal.backlog } = s)

/-- The last stages of the pipeline (R83, R86 to R88, R94, R100, R107). SEAL gives the next granted
record its stroke number, degree, GCM tag, link and CRC, behind the sealed ones before it, and
leaves those behind it unsealed. COMMIT_GROUP writes one journal entry for each record, advances
both copies of the stroke shadow by the number of records, and the record stands in its partition;
the stored records before it stay. -/
def Obligations.SealAndCommit : Prop :=
  ∀ (s : State), runs s →
    (∀ (p : PipeRec) (g : Nat), s.cmt.pipe = [p] → p.hook = .none → p.granted = some g → p.sealed =
      false → ∃ t, exec (.seal) s = .next t ∧ t.cmt.pipe = [{ p with
        record := completeRec p.record (s.cmt.shadow + 1) (s.degreeFor p.record.hdr.typ
          p.record.hdr.length) (s.newestLink p.record.hdr.part), sealed := true, granted := some
          (min 3000 g) }] ∧ { t with
        rf := s.rf, cmt.pipe := s.cmt.pipe, cmt.wear90 := s.cmt.wear90, arr.tags := s.arr.tags } =
      s) ∧
    (∀ (p : PipeRec), s.cmt.pipe = [p] → p.hook = .none → p.sealed = true → p.credits = none →
      p.newExtents = [] → p.record.hdr.typ ≠ 0x70#8 → nothingWaits s → boundaryClear s → ∃ t, exec
      (.commitGroup) s = .next t ∧ t.cmt.shadow = s.cmt.shadow + 1 ∧ t.cmt.shadowB = s.cmt.shadow +
      1 ∧ t.cmt.pipe = [] ∧ t.arr.recs = s.arr.recs ++ [{
        record := completeRec p.record (s.cmt.shadow + 1) (s.degreeFor p.record.hdr.typ
          p.record.hdr.length) (s.newestLink p.record.hdr.part), sector := p.sector, slot := p.slot,
          intact := true }] ∧ t.cmt.jpos = (s.cmt.jpos + 1) % 8192 ∧ (t.arr.journal.getLast?.map
      (fun e => (e.slot, e.kind, e.part, e.stroke, e.seq))) = some (s.cmt.jpos % 8192, .record,
      p.record.hdr.part, s.cmt.shadow + 1, p.record.hdr.seq) ∧
      { t with rf := s.rf, arr := s.arr, cmt := s.cmt, peal.backlog := s.peal.backlog } = s) ∧
    (∀ (l r : List PipeRec) (p : PipeRec), s.cmt.pipe = l ++ [p] ++ r → l.all (fun x => x.sealed) =
      true → p.sealed = false → p.granted.isSome = true → ∃ t, exec (.seal) s = .next t ∧
      t.cmt.pipe.map (fun x => x.sealed) = l.map (fun x => x.sealed) ++ [true] ++ r.map (fun x =>
      x.sealed) ∧ t.cmt.pipe.map (fun x => x.record.hdr.typ) = s.cmt.pipe.map (fun x =>
      x.record.hdr.typ) ∧ (t.cmt.pipe.map (fun x => x.record.hdr.stroke)).getD l.length 0 =
      s.cmt.shadow + 1 + l.length) ∧
    (∀ (g : List PipeRec), s.reseal.nextGroup = g → g ≠ [] → s.cmt.shadowB ≤ s.cmt.shadow → ∃ t,
      exec (.commitGroup) s = .next t ∧ s.cmt.shadow + g.length ≤ t.cmt.shadow ∧ s.cmt.shadowB +
      g.length ≤ t.cmt.shadowB)

/-- SECTOR_PULSE_DONE (R117, R118), each target with repeats of its own: a pulse that verifies ends
its repeats and lowers its record's grant alone; one that fails is repeated on the same line, or
the same toll cell, and counted, up to VERIFY_RETRY times; after that the line goes to the bank's
next spare line, in both copies of its spare map, with the cycles that the spare has had. A bank
fails (R124, R125, R128): it is FAILED, with no free extents and no spare rings, and the Tocsin's
source has it in CMT_STATUS. During a Knell nothing more happens but the note that a rebuild is
due; otherwise the rebuild runs to its end. A bank that has failed already does not fail again. -/
def Obligations.PulsesAndBanks : Prop :=
  ∀ (s : State), runs s → s.cmt.rebuildTail = none → boundaryClear s →
    (∀ (b l : Nat), b < 4 → ∃ t, exec (.sectorPulseDone (.line b l) true) s = .next t ∧
      t.cmt.pulseRetries = s.cmt.pulseRetries.filter (fun e => e.1 != .line b l) ∧ t.cmt.pipe.map
      (fun p => p.record) = s.cmt.pipe.map (fun p => p.record) ∧
      { t with rf := s.rf, cmt.pulseRetries := s.cmt.pulseRetries, cmt.pipe := s.cmt.pipe } = s) ∧
    (∀ (b l : Nat), b < 4 → s.pulseRepeats (.line b l) < s.verifyRetry → risingFrom 0 s.arr.tags =
      true → l < 65536 → ∃ t, exec (.sectorPulseDone (.line b l) false) s = .next t ∧ t.pulseRepeats
      (.line b l) = s.pulseRepeats (.line b l) + 1 ∧ t.lineCycles b l = s.lineCycles b l + 1 ∧ (∀ k,
      k < 4 → k ≠ b → t.pulseRepeats (.line k l) = s.pulseRepeats (.line k l)) ∧ { t with
        rf := s.rf, cmt.pulseRetries := s.cmt.pulseRetries, cmt.wear90 := s.cmt.wear90, arr.tags :=
          s.arr.tags } = s) ∧
    (∀ (b : Nat) (c : Nat) (copyB : Bool) (ra rb : TollRing), b < 4 → s.pulseRepeats (.toll c copyB)
      < s.verifyRetry → s.toll c = { ringA := some ra, ringB := some rb, worn := false } → ∃ t, exec
      (.sectorPulseDone (.toll c copyB) false) s = .next t ∧ t.pulseRepeats (.toll c copyB) =
      s.pulseRepeats (.toll c copyB) + 1 ∧ t.toll c = s.toll c ∧ { t with
        rf := s.rf, cmt.pulseRetries := s.cmt.pulseRetries, cmt.wear90 := s.cmt.wear90, arr.tags :=
          s.arr.tags } = s) ∧
    (∀ (b l : Nat), b < 4 → s.verifyRetry ≤ s.pulseRepeats (.line b l) → nth s.arr.spareUsed b < 255
      → s.cmt.retires = [] → s.arr.spareUsed.length = 4 → risingFrom 0 s.arr.spareMap = true →
      risingFrom 0 s.arr.spareMapB = true → risingFrom 0 s.arr.tags = true → nth s.arr.banks ((b +
      2) % 4) ≠ 2 → l < 32768 → ∃ t, exec (.sectorPulseDone (.line b l) false) s = .next t ∧
      t.pulseRepeats (.line b l) = 0 ∧ nth t.arr.spareUsed b = nth s.arr.spareUsed b + 1 ∧ nget
      t.arr.spareMap (b * 65536 + l) 0 = nth s.arr.spareUsed b + 1 ∧ nget t.arr.spareMapB (b * 65536
      + l) 0 = nth s.arr.spareUsed b + 1 ∧ t.lineCycles b l = s.lineCycles b (32768 + nth
      s.arr.spareUsed b) + 1 ∧ (regsCanonical s = true → (t.reg 0x0E8).bit 2 = true) ∧ { t with
        rf := s.rf, cmt.pulseRetries := s.cmt.pulseRetries, cmt.wear90 := s.cmt.wear90, cmt.retires
          := s.cmt.retires, arr.tags := s.arr.tags, arr.spareUsed := s.arr.spareUsed, arr.spareMap
          := s.arr.spareMap, arr.spareMapB := s.arr.spareMapB } = s) ∧
    (∀ (f : Nat), f < 4 → s.arr.banks.length = 4 → s.arr.free.length = 4 → s.arr.spareRings.length =
      4 → regsCanonical s = true → nth s.arr.banks f ≠ 2 → s.knellRunning = true → ∃ t, exec
      (.bankFail f) s = .next t ∧ nth t.arr.banks f = 2 ∧ t.arr.free.getD f [] = [] ∧ nth
      t.arr.spareRings f = 0 ∧ t.cmt.rebuilding = true ∧ (t.reg 0x0E8).bit 5 = true ∧ (t.reg
      0x01C).bit 1 = true ∧ (t.reg 0x168).bit 4 = true ∧ { t with
        rf := s.rf, arr := s.arr, cmt.rebuilding := s.cmt.rebuilding, cmt.jpos := s.cmt.jpos,
          cmt.entriesSince := s.cmt.entriesSince, cmt.nextId := s.cmt.nextId, kn := s.kn, pwr.domOn
          := s.pwr.domOn, pwr.jobs := s.pwr.jobs } = s) ∧
    (∀ (f : Nat), f < 4 → s.arr.banks.length = 4 → s.arr.free.length = 4 → s.arr.spareRings.length =
      4 → regsCanonical s = true → nth s.arr.banks f ≠ 2 → s.knellRunning = false → s.cmt.recovering
      = false → s.cmt.pipe = [] → ∃ t, exec (.bankFail f) s = .next t ∧ nth t.arr.banks f = 2 ∧
      t.cmt.rebuilding = false ∧ (t.reg 0x0E8).bit 4 = true ∧ (t.reg 0x0E8).bit 5 = true ∧ { t with
        rf := s.rf, arr := s.arr, cmt := s.cmt, kn := s.kn, pwr.domOn := s.pwr.domOn, pwr.jobs :=
          s.pwr.jobs, clk.lastStamp := s.clk.lastStamp } = s) ∧
    (∀ (f : Nat), f < 4 → s.arr.banks.length = 4 → s.arr.free.length = 4 → s.arr.spareRings.length =
      4 → regsCanonical s = true → nth s.arr.banks f = 2 → exec (.bankFail f) s = .next (s))

/-- Checkpoints (R98, R101, R108, R560). One is due when the interval ends after a commit, or when
CKPT_ENTRIES entries are written. Taken, it advances the epoch in toll counter 2, stands as the
newest set with the stroke head, journal position and stream table of its start, leaves no older
entry in the index journal, brings the stored stroke toll up to date, and is no longer due.
Background work (R102, R120, R122, R184). An admitted scrub of an extent programs its low lines
again, marks the records whose check failed, and moves to the next extent; a static move puts the
least-worn extent of a bank into its most-worn free one when their means differ by more than 4,000
cycles; with the counted energy at its low mark a state change is saved, with TAG_VAUX present too
(the model's reading, log entry 70). -/
def Obligations.BackgroundWork : Prop :=
  ∀ (s : State), runs s →
    (s.cmt.commitsSince ≠ 0 → s.cmt.lastCkptUp + s.ckptSeconds * second ≤ s.clk.up → exec
      (.checkpointInterval) s = .next ({ s with cmt.ckptDue := true })) ∧
    (s.ckptEntries ≤ s.cmt.entriesSince → exec (.checkpointEntryCount) s = .next
      ({ s with cmt.ckptDue := true })) ∧
    (∀ (n : Nat) (ra rb : TollRing), boundaryClear s → s.ownGap (s.source 0) 6 = none →
      s.cmt.ckptDue = true → s.wired = true → s.knellRunning = false → s.kn.state ≤ 1 →
      s.cmt.recovering = false → s.pwr.band ≤ 1 → s.pwr.jobs = [] → s.pwr.grants = [] →
      s.arr.tolls.length = 32 → s.toll 2 = { ringA := some ra, ringB := some rb, worn := false } →
      ra.value = some n → rb.value = some n → n + 1 < 4294967296 → ra.used + 1 < State.tollLife →
      rb.used + 1 < State.tollLife → regsCanonical s = true → ∃ t, exec (.checkpoint) s = .next t ∧
      t.cmt.ckptDue = false ∧ t.tollValue 2 = n + 1 ∧ t.arr.journal.all (fun e => decide
      (s.cmt.shadow < e.stroke)) = true ∧ t.cmt.entriesSince = 0 ∧ t.cmt.commitsSince = 0 ∧
      t.arr.ckpts.head?.map (fun c => (c.epoch, c.strokeHead, c.journalPos, c.streams)) = some (n +
      1, s.cmt.shadow, s.cmt.jpos, s.cmt.streams) ∧ (t.reg 0x0E8).bit 0 = true ∧ { t with
        rf := s.rf, arr := s.arr, cmt := s.cmt, clk.lastStamp := s.clk.lastStamp, pwr.domOn :=
          s.pwr.domOn } = s) ∧
    (s.cmt.ckptDue = true → s.knellRunning = false → s.kn.state ≠ 6 → s.kn.state ≠ 7 →
      s.cmt.recovering = false → s.hasJob .kIndex = false → s.isGranted .checkpoint = true ∨
      s.verdict s.ckptJob = .grant → ∃ t, exec (.checkpoint) s = .next t ∧ t.cmt.ckptDue = false ∧
      t.cmt.entriesSince = 0) ∧
    (∀ (b e l d : Nat), s.wired = true → s.knellRunning = false → s.pwr.band = 0 → boundaryClear s →
      s.pwr.jobs = [] → s.pwr.grants = [] → s.servedQueue 7 = 7 → (s.boundary .scrub).scrubEn = true
      → b < 4 → nth s.arr.banks b ≠ 2 → risingFrom 0 s.arr.tags = true → ∃ t, exec (.scrubExtent b e
      [l] [d] []) s = .next t ∧ t.cmt.scrubPos = (s.cmt.scrubPos + 1) % 4224 ∧ t.lineCycles b (e *
      16 + l) = s.lineCycles b (e * 16 + l) + 1 ∧ t.arr.recs = (s.markDamaged b [d]).arr.recs ∧
      { t with
        rf := s.rf, arr.tags := s.arr.tags, arr.recs := s.arr.recs, cmt.scrubPos := s.cmt.scrubPos,
          cmt.scrubReq := s.cmt.scrubReq, cmt.wear90 := s.cmt.wear90, pwr.deferred :=
          s.pwr.deferred, pwr.waiting := s.pwr.waiting, pwr.domOn := s.pwr.domOn } = s) ∧
    (∀ (b w p k e : Nat), s.wired = true → s.knellRunning = false → s.pwr.band = 0 → boundaryClear s
      → s.pwr.jobs = [] → s.pwr.grants = [] → s.servedQueue 7 = 7 → (s.boundary .scrub).staticWl =
      true → b < 4 → nth s.arr.banks b ≠ 2 → s.cmt.lastMove.getD b none = none →
      s.cmt.lastMove.length = 4 → mostWornFree s b = some w → leastWorn s b = some (p, k, e) →
      s.extCycles b e + 64000 < s.extCycles b w → risingFrom 0 s.arr.extMap = true → ∃ t, exec
      (.staticLevelMove b) s = .next t ∧ t.codeOf p k = extCode b w ∧ t.cmt.lastMove = setNth
      s.cmt.lastMove b (some s.clk.up) ∧ t.arr.recs = s.arr.recs ∧ t.cmt.shadow = s.cmt.shadow ∧
      { t with
        rf := s.rf, arr := s.arr, cmt := s.cmt, pwr.deferred := s.pwr.deferred, pwr.waiting :=
          s.pwr.waiting, pwr.domOn := s.pwr.domOn } = s) ∧
    (s.keepAliveDue = true → s.log.batch = [] → s.arr.saveA.isSome = true ∨ s.arr.saveB.isSome =
      true → ∃ t, exec (.keepAliveEnergyLow) s = .next t ∧ t.cmt.dirty = false ∧ t.newestSave = some
      {
        shadow := s.cmt.shadow, stamp := s.clk.lastStamp, bracket := s.clk.bracket, journalPos :=
          s.cmt.jpos, seqs := s.cmt.localSeq, clean := false, entCodes := s.entCodes } ∧
      t.arr.saveIndex = (s.arr.saveIndex + 1) % 128 ∧ { t with
        rf := s.rf, arr.saveA := s.arr.saveA, arr.saveB := s.arr.saveB, arr.saveIndex :=
          s.arr.saveIndex, arr.tags := s.arr.tags, arr.tolls := s.arr.tolls, arr.spareRings :=
          s.arr.spareRings, cmt.dirty := s.cmt.dirty, cmt.wear90 := s.cmt.wear90 } = s) ∧
    (∀ (b e : Nat) (ls ds : List Nat) (bs : List (Nat × Nat)), s.wired = true → s.knellRunning =
      false → s.pwr.band = 0 → boundaryClear s → s.pwr.jobs = [] → s.pwr.grants = [] → s.servedQueue
      7 = 7 → (s.boundary .scrub).scrubEn = true → b < 4 → nth s.arr.banks b ≠ 2 → ∃ t, exec
      (.scrubExtent b e ls ds bs) s = .next t ∧ t.cmt.scrubPos = (s.cmt.scrubPos + 1) % 4224 ∧
      t.arr.recs = (if ds = [] then s else s.markDamaged b ds).arr.recs ∧ t.cmt.shadow =
      s.cmt.shadow)

/-- Knell entry (R133, R134, R142, R192). TAG_VAUX falling below the trip level while the engine is
ARMED, with nothing in the pipeline: shedding is at step 5, host sessions are closed, the
available energy is latched (before any job stops: the model's reading, log entry 57), and the
engine is OPEN under trigger 1. The header of a KNELL opening frame starts one under trigger 2.
KNELL_ARM arms the engine when the conditions of R135 hold. -/
def Obligations.KnellStarts : Prop :=
  ∀ (s : State), runs s →
    (s.usableSrc 0 = true → s.pwr.mode ≠ 6 → s.kn.state = 1 → s.cmt.pipe = [] → s.st.current = none
      → s.pwr.step < 5 → ∃ t, exec (.vauxFail) s = .next t ∧ t.kn.state = 2 ∧ t.kn.intake.map (fun i
      => (i.trigger, i.opening)) = some (1, false) ∧ t.pwr.step = 5 ∧ t.pwr.vauxOk = false ∧
      t.usableSrc 0 = false ∧ t.pwr.mode = 2 ∧ (∀ c, 4 ≤ c → c < 64 → t.ctx c = none) ∧ t.arr =
      s.arr ∧ t.fmem = s.fmem ∧ t.clk = s.clk ∧ t.log = s.log ∧ t.cmt.shadow = s.cmt.shadow) ∧
    (s.linkOn = true → s.kn.state = 1 → s.cmt.pipe = [] → s.st.current = none → ∃ t, exec
      (.knellOpeningFrame .header []) s = .next t ∧ t.kn.state = 2 ∧ t.kn.intake.map (fun i =>
      (i.trigger, i.opening, i.plan.avail)) = some (2, true, s.eAvail) ∧ t.pwr.step = max s.pwr.step
      4 ∧ t.arr = s.arr ∧ t.fmem = s.fmem ∧ t.clk = s.clk ∧ t.log = s.log) ∧
    (s.kn.state = 0 → s.rf.ready = true → s.knlEnabled = true → s.holdOk = true → s.cmt.recovering =
      false → s.pwr.holdMeasuring = false → ∃ t, exec (.knellArm) s = .next t ∧ t.kn.state = 1 ∧
      t.rf = (s.boundary .knlArmed).rf ∧ { t with rf := s.rf, kn.state := s.kn.state } = s)

/-- Intake (R138, R140, R141, R145, R151). A valid directory whose limit covers it gives the engine
its sections, claims the slot that R151 picks with the next KNELL number, and opens CAPTURE; a
data frame at the expected offset adds its kept bytes; INTAKE_MS ends intake with end code
TIMEOUT. -/
def Obligations.KnellIntake : Prop :=
  ∀ (s : State) (i : Intake), runs s → s.linkOn = true → s.kn.intake = some i →
    (∀ (n a k v : Nat) (e : Bool) (ss : List Section) (body : List Byte) (ra rb : TollRing),
      s.kn.state = 2 → i.opening = true → s.lnk.doneFrames = [[n], [], [], []] → parseDirectory body
      = some (ss, a) → 32 + 16 * ss.length ≤ min (State.energyLimit i.eline i.plan.avail a)
      s.sizeLimit → s.pickSlot = some (k, e) → k < s.kn.slots.length → s.arr.tolls.length = 32 →
      s.toll 6 = { ringA := some ra, ringB := some rb, worn := false } → ra.value = some v →
      rb.value = some v → v + 1 < 4294967296 → ra.used + 1 < State.tollLife → rb.used + 1 <
      State.tollLife → ∃ t, exec (.knellOpeningFrame (.finish .good) body) s = .next t ∧ t.kn.state
      = 3 ∧ t.kn.intake.map (fun j => (j.directory, j.claimed, j.target)) = some (1, some k, a) ∧
      t.kn.intake.map (fun j => (j.sections, j.bytes, j.plan.limit)) = some (ss, body, min
      (State.energyLimit i.eline i.plan.avail a) s.sizeLimit) ∧ t.tollValue 6 = v + 1 ∧
      (t.kn.slots.getD k emptySlot).state = 1 ∧ (t.kn.slots.getD k emptySlot).number = v + 1 ∧
      { t with
        rf := s.rf, kn := s.kn, lnk := s.lnk, arr.tolls := s.arr.tolls, arr.tags := s.arr.tags,
          pwr.grants := s.pwr.grants } = s) ∧
    (∀ (n : Nat) (body : List Byte), s.kn.state = 3 → i.directory = 1 → i.claimed.isSome = true →
      s.lnk.doneFrames = [[n], [], [], []] → body.length ≤ 4032 → 8 < body.length → leNat (slice
      body 0 4) = i.expected → leNat (slice body 4 4) = 0 → i.expected + (body.drop 8).length <
      i.target → keptBytes i.sections i.kept i.expected (body.drop 8) ≠ [] → ∃ t, exec
      (.knellDataFrame .good body) s = .next t ∧ t.kn.intake = some { i with
        expected := i.expected + (body.drop 8).length, bytes := i.bytes ++ keptBytes i.sections
          i.kept i.expected (body.drop 8), heldCredits := i.heldCredits ++ heldBy i.bytes.length 24
          (body.drop 8).length (fun m => keptCount i.sections i.kept i.expected m) n } ∧ t.kn.state
      = 3 ∧ t.lnk.doneFrames = [[], [], [], []] ∧
      { t with rf := s.rf, kn.intake := s.kn.intake, lnk := s.lnk } = s) ∧
    (s.kn.state = 3 → i.claimed.isSome = true → i.cutBytes < i.bytes.length → i.directory = 1 →
      s.wired = true → ∃ t, exec (.intakeMsExpiry) s = .next t ∧ t.kn.state = 4 ∧ t.kn.intake.map
      (fun j => (j.done, j.plan.endCode, j.bytes, j.plan.outcomes)) = some (true, 2, i.bytes,
      outcomes i s.kn.dropCode i.sections 0 (32 + 16 * i.sections.length)) ∧
      { t with rf := s.rf, kn.state := s.kn.state, kn.intake := s.kn.intake } = s)

/-- KNELL_SEGMENT_START passes the next segment, up to 3,968 bytes of the bundle, to S1 as a granted
KNELL_SEG record of the claimed slot (R154, R155). DIR_WAIT without an opening frame closes the
Knell with nothing kept: a save is made, the end code is 3, and with TAG_VAUX present the engine
is ARMED again (R147, R160, R167). -/
def Obligations.KnellStoresAndCloses : Prop :=
  ∀ (s : State) (i : Intake), runs s → s.kn.intake = some i →
    (∀ (k : Nat) (bytes : List Byte), i.claimed = some k → State.nextSegment i = some bytes →
      s.hasRoom (sectorsOf bytes.length) = true → s.ownGap (s.source 1) 0 = none → ∃ t, exec
      (.knellSegmentStart) s = .next t ∧ t.cmt.pipe.map (fun p => (p.record, p.slot, p.hook,
      p.granted)) = s.cmt.pipe.map (fun p => (p.record, p.slot, p.hook, p.granted)) ++ [(numbered s
      (s.newInternal 1 0 0x21#8 (setFlags (i.segsMade == 0) false) bytes), k, .segment, some 0)] ∧
      t.kn.intake = some
      { i with cutBytes := i.cutBytes + bytes.length, segsMade := i.segsMade + 1 } ∧ { t with
        rf := s.rf, cmt := s.cmt, kn.intake := s.kn.intake, clk.lastStamp := s.clk.lastStamp,
          arr.tags := s.arr.tags, arr.extEpochs := s.arr.extEpochs } = s) ∧
    (s.kn.state = 2 → i.claimed = none → i.segsDone = 0 → s.wired = true → s.knlEnabled = true →
      nothingWaits s → regsCanonical s = true → s.kn.slots.all (fun x => x.state != 2) = true →
      boundaryClear s → s.log.batch = [] → s.arr.saveA.isSome = true → ∃ t, exec (.dirWaitExpiry) s
      = .next t ∧ t.kn.state = 1 ∧ t.kn.intake = none ∧ t.kn.lastTrigger = i.trigger ∧ t.kn.lastEnd
      = 3 ∧ t.kn.lastSegs = 0 ∧ (t.reg 0x168).bit 0 = true ∧ (t.reg 0x168).bit 5 = true ∧
      t.newestSave.map (fun v => (v.shadow, v.stamp)) = some (s.cmt.shadow, s.clk.lastStamp) ∧
      { t with
        rf := s.rf, kn := s.kn, arr := s.arr, cmt.dirty := s.cmt.dirty, pwr.grants := s.pwr.grants }
      = s) ∧
    (s.kn.state = 2 → ∃ t, exec (.dirWaitExpiry) s = .next t ∧ t.kn.intake.all (fun j =>
      j.plan.endCode == 3) = true ∧ t.kn.state ≠ 2)

/-- Consolidation (R161, R163). An admitted K-SIGN asks for a nonce block; with both sources failed
it passes the manifest, unsigned, to S1 in the slot. An admitted K-INDEX takes a checkpoint, and
the slot whose manifest is committed is COMPLETE and its mirroring pends. -/
def Obligations.Consolidation : Prop :=
  ∀ (s : State) (k : Nat), runs s → s.knellRunning = false →
    (∀ (j : Job), s.pwr.grants = [j] → j.kind = .kSign k → s.kn.signWait = none → s.cmt.pipe = [] →
      s.bothFailed = false → s.ent.pool = [] → s.ent.waiting = [] → s.wired = true → s.pwr.step = 0
      → s.ent.a.state ≠ 0 → s.ent.b.state ≠ 0 → s.manifestRoom k = true → ∃ t, exec (.kSign) s =
      .next t ∧ t.kn.signWait = some k ∧ t.ent.waiting = [⟨4, .kSign k⟩] ∧
      { t with rf := s.rf, kn.signWait := s.kn.signWait, ent := s.ent } = s) ∧
    (∀ (j : Job), s.pwr.grants = [j] → j.kind = .kSign k → s.kn.signWait = none → s.cmt.pipe = [] →
      s.bothFailed = true → s.manifestRoom k = true → s.ownGap (s.source 1) 0 = none → ∃ t, exec
      (.kSign) s = .next t ∧ t.cmt.pipe.map (fun p => (p.record.hdr.typ, p.record.hdr.source,
      p.record.payload, p.slot, p.hook)) = [(0x20#8, s.source 1, s.manifestBody k false ++ zeroBytes
      64, k, .manifest k)] ∧ { t with rf := s.rf, cmt := s.cmt, clk.lastStamp := s.clk.lastStamp } =
      s) ∧
    (∀ (m : Nat), s.isGranted .kIndex = true → s.kn.slots = setNth (List.replicate 8 emptySlot) k
      { emptySlot with state := 2, manifest := m } → k < 8 → m ≠ 0 → s.pwr.shipReq = false →
      boundaryClear s → regsCanonical s = true → ∃ t, exec (.kIndex) s = .next t ∧ (t.kn.slots.getD
      k emptySlot).state = 3 ∧ t.kn.mirrorPend.contains k = true ∧ t.cmt.ckptDue = false ∧
      t.arr.journal.all (fun e => decide (s.cmt.shadow < e.stroke)) = true ∧ (t.reg 0x168).bit 8 =
      true ∧ t.isGranted .kIndex = false ∧ { t with
        rf := s.rf, kn := s.kn, arr := s.arr, cmt := s.cmt, pwr.grants := s.pwr.grants, pwr.jobs :=
          s.pwr.jobs, pwr.mode := s.pwr.mode, clk.lastStamp := s.clk.lastStamp } = s) ∧
    (s.isGranted .kIndex = true → ∃ t, exec (.kIndex) s = .next t ∧ t.kn.slots = s.kn.slots.map (fun
      x => if x.state = 2 ∧ x.manifest ≠ 0 then { x with state := 3 } else x) ∧ t.cmt.ckptDue =
      false ∧ t.isGranted .kIndex = false)

/-- Shedding (R192, R193, R239). While TAG_VAUX is usable a threshold brings its step and every step
below it; step 6 follows step 5 without TAG_VAUX and stops S1; step 7 leaves AON alone on; when
TAG_VAUX is back the steps are left together. After 60 minutes of darkness in DARK or FIELD mode
with CUTOFF_EN 1, no slot PENDING, nothing deferred and nothing in the pipeline (R197): with no
open batch one clean save is made and the tag enters CUTOFF: every domain is off, and the cell
alone is left as a source. -/
def Obligations.EnergySteps : Prop :=
  ∀ (s : State), runs s →
    (∀ (n : Nat), 1 ≤ n → n ≤ 4 → s.pwr.step < n → s.usableSrc 0 = true → ∃ t, exec (.shedStep n) s
      = .next t ∧ t.pwr.step = n ∧ (regsCanonical s = true → s.pwr.step = 0 → (t.reg 0x070).bit 5 =
      true) ∧ { t with
        rf := s.rf, pwr.step := s.pwr.step, snr.ring := s.snr.ring, snr.capture := s.snr.capture,
          ent.a := s.ent.a, ent.b := s.ent.b, pwr.domOn := s.pwr.domOn } = s) ∧
    (∀ (n : Nat), 1 ≤ n → n ≤ 4 → s.usableSrc 0 = true → ∃ t, exec (.shedStep n) s = .next t ∧
      t.pwr.step = max s.pwr.step n ∧ { t with
        rf := s.rf, pwr.step := s.pwr.step, snr.ring := s.snr.ring, snr.capture := s.snr.capture,
          ent := s.ent, st := s.st, pwr.domOn := s.pwr.domOn } = s) ∧
    (s.usableSrc 0 = false → s.pwr.step = 5 → s.kn.state ≠ 2 → s.kn.state ≠ 3 → ∃ t, exec
      (.shedStep6) s = .next t ∧ t.pwr.step = 6 ∧ t.boot.s1Stopped = true ∧ t.stm.st = 0 ∧
      t.cmt.pipe.all (fun p => p.granted.isSome) = true ∧ t.pwr.grants.all (fun j => keptGrant
      j.kind) = true ∧ t.domOn 16 = false ∧ t.domOn 17 = false ∧ t.domOn 18 = false ∧ t.clk.rtc =
      s.clk.rtc ∧ t.kn.state = s.kn.state) ∧
    (s.pwr.step = 6 → s.knellRunning = false → s.noGrants = true → s.pwr.mode ≠ 0 → s.pwr.mode ≠ 6 →
      ∃ t, exec (.shedStep7) s = .next t ∧ t.pwr.step = 7 ∧ t.domOn 4 = false ∧ t.domOn 16 = false ∧
      t.domOn 18 = false ∧ t.ent.pool = [] ∧ t.ent.fifo = [] ∧ t.peal.unsettled = [] ∧
      t.peal.backlog = [] ∧ t.clk.rtc = s.clk.rtc) ∧
    (s.usableSrc 0 = false → s.pwr.step = 5 → s.kn.state ≠ 2 → s.kn.state ≠ 3 → s.cmt.pipe = [] →
      s.st.current = none → ∃ t, exec (.shedStep6) s = .next t ∧ t.pwr.step = 6 ∧ t.boot.s1Stopped =
      true ∧ t.stm.st = 0 ∧ t.domOn 16 = false ∧ t.domOn 17 = false ∧ t.domOn 18 = false ∧ t.arr =
      s.arr ∧ t.fmem = s.fmem ∧ t.clk = s.clk ∧ t.log = s.log ∧ t.ses = s.ses ∧ t.kn.state =
      s.kn.state) ∧
    (s.pwr.step = 6 → s.knellRunning = false → s.cmt.pipe = [] → s.cmt.dirty = false → s.pwr.shipReq
      = false → s.pwr.mode ≠ 6 → s.wired = false → s.pwr.domOn.length = 20 → ∃ t, exec (.shedStep7)
      s = .next t ∧ t.pwr.step = 7 ∧ t.pwr.mode = (if s.fld.present then 4 else 3) ∧ t.domOn 4 =
      false ∧ t.domOn 16 = false ∧ t.ent.pool = [] ∧ t.peal.unsettled = [] ∧ t.arr = s.arr ∧ t.fmem
      = s.fmem ∧ t.clk = s.clk ∧ t.log = s.log) ∧
    (1 ≤ s.pwr.step → s.pwr.step ≤ 6 → s.pwr.mode ≠ 6 → s.kn.state ≤ 1 → nothingWaits s →
      regsCanonical s = true → ∃ t, exec (.shedLeave) s = .next t ∧ t.pwr.step = 0 ∧ t.usableSrc 0 =
      (decide (0 < s.pwr.usable.length)) ∧ t.pwr.vauxOk = true ∧ t.boot.s1Stopped = false ∧ (t.reg
      0x070).bit 4 = true ∧ t.arr = s.arr ∧ t.fmem = s.fmem ∧ t.log = s.log) ∧
    (∀ (d : Nat), s.pwr.darkSince = some d → d + 3600 * second ≤ s.clk.up → s.cutoffEn = true →
      s.pwr.mode = 3 ∨ s.pwr.mode = 4 → s.slotPending = false → s.boot.darkPending = none →
      s.cmt.pipe = [] → s.log.batch = [] → s.arr.saveA.isSome = true ∨ s.arr.saveB.isSome = true → 5
      < s.pwr.usable.length → ∃ t, exec (.longDarknessCutoff) s = .next t ∧ t.pwr.mode = 6 ∧
      t.pwr.domOn = List.replicate 20 false ∧ t.pwr.usable = [false, false, false, false, false,
      s.usableSrc 5] ∧ t.newestSave.map (fun v => (v.shadow, v.stamp, v.clean)) = some
      (s.cmt.shadow, s.clk.lastStamp, true) ∧ t.arr.recs = s.arr.recs ∧ t.arr.journal =
      s.arr.journal ∧ t.fmem = s.fmem ∧ t.clk = s.clk ∧ t.cmt.shadow = s.cmt.shadow)

/-- Power sources (R171, R173 to R176). A source that comes is usable; the pump tops up TAG_HOLD
while TAG_VAUX is there; a capacitance measurement gives 10 mA × t / 0.8 V, or 0 with HOLD_FAIL at
its timeout; a cell measurement sets the cell's state, and a cell at 2.4 V or more is GOOD and
usable; at VMAX the charging of TAG_STORE stops; a gauge update gives the new figures. The
harvester (R177, R178): a cold start at 15 mV or more starts it and makes its source usable; a
tracking sample sets the regulation target to its fraction of the open-circuit voltage, of 300 mV
above that (R547); a sample below 8 mV stops it. A temperature reading sets the derating band in
force with its hysteresis, a change to a band above 0 is reported, and the queues whose heads
weigh more than the band allows are DEFER (R190, R191). A domain whose gating condition holds and
that no pin keeps goes off, and nothing else does (R194 to R196). -/
def Obligations.SourcesAndHeat : Prop :=
  ∀ (s : State), runs s →
    (∀ (src : Nat), src = 1 ∨ src = 2 ∨ src = 3 → ∃ t, exec (.supplyChange src true) s = .next t ∧
      t.pwr.usable = setNth s.pwr.usable src true ∧
      { t with pwr.usable := s.pwr.usable, fld.supply := s.fld.supply } = s) ∧
    (s.wired = true → exec (.holdTopUp) s = .next ({ s with pwr.pumpOn := true })) ∧
    (∀ (us : Nat), s.pwr.holdMeasuring = true → 2 ≤ s.kn.state → 100 ≤ us / 80 → ∃ t, exec
      (.holdCapDone us) s = .next t ∧ t.pwr.capUf = min 2047 (us / 80) ∧ t.pwr.holdMeasuring = false
      ∧ (regsCanonical s = true → (t.reg 0x070).bit 8 = true) ∧
      { t with rf := s.rf, pwr.capUf := s.pwr.capUf, pwr.holdMeasuring := s.pwr.holdMeasuring } = s) ∧
    (s.pwr.holdMeasuring = true → 2 ≤ s.kn.state → ∃ t, exec (.holdCapTimeout) s = .next t ∧
      t.pwr.capUf = 0 ∧ t.pwr.holdMeasuring = false ∧ (regsCanonical s = true → (t.reg 0x070).bit 0
      = true ∧ (t.reg 0x168).bit 9 = true) ∧
      { t with rf := s.rf, pwr.capUf := s.pwr.capUf, pwr.holdMeasuring := s.pwr.holdMeasuring } = s) ∧
    (∀ (mv : Nat), s.pwr.mode ≠ 6 → 2400 ≤ mv → s.pwr.usable.length = 6 → ∃ t, exec (.cellMeasure
      mv) s = .next t ∧ t.pwr.cellMv = mv ∧ t.pwr.cellState = 1 ∧ t.pwr.usable = setNth s.pwr.usable
      5 true ∧ { t with
        pwr.cellMv := s.pwr.cellMv, pwr.cellState := s.pwr.cellState, pwr.usable := s.pwr.usable,
          fld.supply := s.fld.supply } = s) ∧
    (∀ (mv : Nat), s.pwr.mode ≠ 6 → 2200 ≤ mv → mv < 2400 → s.pwr.usable.length = 6 → ∃ t, exec
      (.vbatDetect mv) s = .next t ∧ t.pwr.cellMv = mv ∧ t.pwr.cellState = 2 ∧ t.usableSrc 5 = true
      ∧ (regsCanonical s = true → s.pwr.cellState ≠ 2 → (t.reg 0x070).bit 9 = true) ∧ { t with
        rf := s.rf, pwr.cellMv := s.pwr.cellMv, pwr.cellState := s.pwr.cellState, pwr.usable :=
          s.pwr.usable, fld.supply := s.fld.supply } = s) ∧
    (s.pwr.mode ≠ 6 → ∃ t, exec (.storeFull) s = .next t ∧ t.pwr.storeFull = true ∧ t.rf = (s.raise
      0x070 2).rf ∧ { t with rf := s.rf, pwr.storeFull := s.pwr.storeFull } = s) ∧
    (∀ (g : GaugeReading), s.pwr.mode ≠ 6 → ∃ t, exec (.gaugeUpdate g) s = .next t ∧ t.pwr.gauge = g
      ∧ t.pwr.pumpOn = (s.pwr.pumpOn && decide (g.holdMv < 5000)) ∧ { t with
        rf := s.rf, pwr.gauge := s.pwr.gauge, pwr.pumpOn := s.pwr.pumpOn, pwr.storeFull :=
          s.pwr.storeFull, pwr.darkSince := s.pwr.darkSince } = s) ∧
    (∀ (voc : Nat), s.rf.pend = [] → s.pwr.mode ≠ 5 → s.pwr.mode ≠ 6 → s.harvEn = true → 150 ≤ voc →
      s.pwr.harvRunning = false → ∃ t, exec (.harvColdStart voc) s = .next t ∧ t.pwr.harvRunning =
      true ∧ t.pwr.voc = voc ∧ t.pwr.usable = setNth s.pwr.usable 4 true ∧ t.pwr.domOn = setNth
      s.pwr.domOn 1 true ∧ t.rf = (s.raise 0x070 3).rf ∧ { t with
        rf := s.rf, pwr.harvRunning := s.pwr.harvRunning, pwr.voc := s.pwr.voc, pwr.usable :=
          s.pwr.usable, pwr.domOn := s.pwr.domOn, fld.supply := s.fld.supply } = s) ∧
    (∀ (voc harv : Nat), s.rf.pend = [] → s.pwr.harvRunning = true → s.harvEn = true → 80 ≤ voc →
      exec (.trackingSample ⟨voc, harv⟩) s = .next ({ s with
        pwr.voc := voc, pwr.gauge := { s.pwr.gauge with harv10nw := harv }, pwr.mpptReq := false,
          pwr.target := min voc 3000 * s.harvFraction / 40 })) ∧
    (∀ (voc harv : Nat), s.rf.pend = [] → s.pwr.harvRunning = true → voc < 80 → (setNth s.pwr.usable
      4 false).any (fun u => u) = true → ∃ t, exec (.trackingSample ⟨voc, harv⟩) s = .next t ∧
      t.pwr.harvRunning = false ∧ t.pwr.target = 0 ∧ t.usableSrc 4 = false ∧ t.domOn 1 = false ∧
      { t with
        rf := s.rf, pwr.harvRunning := s.pwr.harvRunning, pwr.target := s.pwr.target, pwr.voc :=
          s.pwr.voc, pwr.mpptReq := s.pwr.mpptReq, pwr.gauge := s.pwr.gauge, pwr.usable :=
          s.pwr.usable, pwr.domOn := s.pwr.domOn, fld.supply := s.fld.supply } = s) ∧
    (∀ (temp : Int), s.peal.unsettled.filter (fun u => u.due) = [] → ∃ t, exec (.derateBandChange
      temp) s = .next t ∧ t.pwr.temp = temp ∧ t.pwr.band = nextBand s.pwr.band temp ∧ (regsCanonical
      s = true → nextBand s.pwr.band temp ≠ s.pwr.band → nextBand s.pwr.band temp ≠ 0 → (t.reg
      0x070).bit 11 = true) ∧ (∀ q, q < 8 → (s.queueHead q).all (fun j => !(decide (bandLimit
      (nextBand s.pwr.band temp) q < j.weight)) || t.pwr.deferred.contains j.id) = true) ∧
      t.pwr.deferred.all (fun i => (List.range 8).any (fun q => (s.queueHead q).any (fun j => j.id
      == i && decide (bandLimit (nextBand s.pwr.band temp) q < j.weight)))) = true ∧ { t with
        rf := s.rf, pwr.temp := s.pwr.temp, pwr.band := s.pwr.band, pwr.deferred := s.pwr.deferred,
          pwr.waiting := s.pwr.waiting } = s) ∧
    (∀ (d : Nat), s.domOn d = true → s.pinned d = false → s.domIdle d = true → d ≠ 3 → d ≠ 4 → exec
      (.domainIdleGate d) s = .next ({ s with pwr.domOn := setNth s.pwr.domOn d false })) ∧
    (∀ (d : Nat), s.domOn d = true → s.pinned d = true → exec (.domainIdleGate d) s = .next (s))

/-- JOB_ADMIT (R185 to R188): the head of the queue is granted when TAG_VAUX is present and its
weight is within the band, and its cost joins the outstanding grants; a weight above the band
defers it and nothing else changes; without TAG_VAUX a queue of number 5 or more waits. The queue
is served when no head of a higher one can be granted; a record that waits at S6 gets its grant.
-/
def Obligations.Admission : Prop :=
  ∀ (s : State) (q : Nat) (j : Job), runs s → s.rf.pend = [] → s.queueHead q = some j →
    s.servedQueue q = q → s.cmt.s1wait = [] → s.cmt.auditHeld = [] →
    (s.wired = true → s.knellRunning = false → j.weight ≤ bandLimit s.pwr.band q → j.queue = q →
      s.boot.darkPending = none → s.cmt.pipe = [] → s.pwr.jobs = [j] → j.kind = .checkpoint ∨ j.kind
      = .scrub ∨ j.kind = .levelMove → ∃ t, exec (.jobAdmit q) s = .next t ∧ t.pwr.grants =
      s.pwr.grants ++ [j] ∧ t.pwr.jobs = [] ∧ t.pwr.deferred = State.without s.pwr.deferred j.id ∧
      t.pwr.waiting = State.without s.pwr.waiting j.id ∧ t.domOn 4 = true ∧ t.domOn 13 = true ∧
      { t with
        rf := s.rf, pwr.grants := s.pwr.grants, pwr.jobs := s.pwr.jobs, pwr.deferred :=
          s.pwr.deferred, pwr.waiting := s.pwr.waiting, pwr.domOn := s.pwr.domOn } = s) ∧
    (bandLimit s.pwr.band j.queue < j.weight → exec (.jobAdmit q) s = .next ({ s with
        pwr.deferred := State.without s.pwr.deferred j.id ++ [j.id], pwr.waiting := State.without
          s.pwr.waiting j.id })) ∧
    (s.wired = false → j.weight ≤ bandLimit s.pwr.band j.queue → 5 ≤ j.queue → exec (.jobAdmit q) s
      = .next ({ s with
        pwr.deferred := State.without s.pwr.deferred j.id, pwr.waiting := State.without
          s.pwr.waiting j.id ++ [j.id] })) ∧
    (s.verdict j = .grant → s.boot.darkPending = none → s.cmt.pipe.any (fun p => p.id == j.id &&
      p.granted.isNone) = true → ∃ t, exec (.jobAdmit q) s = .next t ∧ t.cmt.pipe = s.cmt.pipe.map
      (fun p => if p.id = j.id then { p with granted := some j.cost, band := s.pwr.band } else p) ∧
      { t with
        rf := s.rf, cmt.pipe := s.cmt.pipe, pwr.deferred := s.pwr.deferred, pwr.waiting :=
          s.pwr.waiting, pwr.domOn := s.pwr.domOn } = s)

/-- The field session (R296, R299, R300). FIELD_DETECT with FDIG gated starts a session in READY and
sets SESSION_START; flags S1 to S3 and SL stay. A sniffer sample without a detection does nothing,
and one with a detection does what FIELD_DETECT does when the sniffer is on and an assist source
is there. An interruption while a command is received counts it and falls back to ARBITRATE from
REPLY and ACKNOWLEDGED; without a reception and with HOLD_MS above 0 it changes nothing.
FIELD_GONE gates FDIG: OFF, S0 deasserted, LOST set. The persistence of S1, S2, S3 and SL ends as
R296 says. -/
def Obligations.FieldPresence : Prop :=
  ∀ (s : State),
    (runs s → s.pwr.mode ≠ 6 → s.fld.st = 0 → s.wired = true → s.ent.waiting = [] →
      s.pwr.domOn.length = 20 → ∃ t, exec (.fieldDetect) s = .next t ∧ t.fld.st = 1 ∧ t.fld.present
      = true ∧ t.fld.priv = 0 ∧ t.fld.inv = s.fld.inv ∧ t.fld.sl = s.fld.sl ∧ t.fld.supply = 0 ∧
      t.domOn 2 = true ∧ t.domOn 3 = true ∧ (regsCanonical s = true → (t.reg 0x2AC).bit 0 = true ∧
      (t.reg 0x070).bit 1 = true) ∧ { t with
        rf := s.rf, fld := s.fld, fldx.reply := s.fldx.reply, log.fieldSeen := s.log.fieldSeen, ent
          := s.ent, pwr.domOn := s.pwr.domOn, pwr.mode := s.pwr.mode } = s) ∧
    (s.boot.resetLow = false → s.fld.st = 0 → s.pwr.domOn.length = 20 → ∃ t, exec (.fieldDetect) s =
      .next t ∧ t.fld.st = 1 ∧ t.fld.present = true ∧ t.fld.tank = true ∧ t.fld.priv = 0 ∧ t.fld.inv
      = s.fld.inv ∧ t.fld.sl = s.fld.sl ∧ t.domOn 3 = true ∧ t.arr = s.arr ∧ t.fmem = s.fmem ∧ t.kn
      = s.kn) ∧
    (runs s → s.rf.pend = [] → exec (.snifferSample false) s = .next (s)) ∧
    (runs s → s.pwr.mode ≠ 6 → s.fld.st = 0 → s.usableSrc 0 = false → s.rf.pend = [] → s.cfg 0x2A4
      15 8 ≠ 0 → s.assistSource ≠ 0 → ∃ t, exec (.snifferSample true) s = .next t ∧ t = s.fieldStart
      ∧ t.fld.st = 1 ∧ t.fld.supply = s.assistSource ∧ t.fmem = s.fmem ∧ t.arr = s.arr ∧ t.cmt =
      s.cmt) ∧
    (runs s → s.fld.st ≠ 0 → s.cfg 0x2A4 31 28 ≠ 0 → ∃ t, exec (.fieldInterrupted true) s = .next t
      ∧ t.fld = { s.fld with st := (if s.fld.st = 3 ∨ s.fld.st = 4 then 2 else s.fld.st) } ∧
      (regsCanonical s = true → t.reg 0x2C0 &&& 0xFFFF#32 = BitVec.ofNat 32 (saturate 65535 ((s.reg
      0x2C0).toNat % 65536 + 1)) ∧ (t.reg 0x2AC).bit 4 = true) ∧
      { t with rf := s.rf, fld.st := s.fld.st } = s) ∧
    (runs s → s.fld.st = 0 ∨ s.cfg 0x2A4 31 28 ≠ 0 → exec (.fieldInterrupted false) s = .next (s)) ∧
    (runs s → s.fld.st ≠ 0 → s.wired = true → s.fldx.ctx = none → s.st.current = none → ∃ t, exec
      (.fieldGone) s = .next t ∧ t.fld.st = 0 ∧ t.fld.present = false ∧ t.fld.inv = setNth s.fld.inv
      0 false ∧ t.fld.buf = [] ∧ t.fld.ready = false ∧ t.fld.priv = 0 ∧ t.fldx.reply = .none ∧
      t.fldx.container = none ∧ t.fldx.recRead = none ∧ (regsCanonical s = true → (t.reg 0x2AC).bit
      1 = true) ∧ { t with
        rf := s.rf, fld := s.fld, fldx := s.fldx, ent.waiting := s.ent.waiting, pwr.domOn :=
          s.pwr.domOn, pwr.mode := s.pwr.mode, pwr.jobs := s.pwr.jobs, pwr.grants := s.pwr.grants }
      = s) ∧
    (exec (.s1PersistenceExpiry) s = .next ({ s with fld.inv := setNth s.fld.inv 1 false })) ∧
    (∀ (n : Nat), s.fld.st = 0 → n = 2 ∨ n = 3 → exec (.flagPersistenceExpiry n) s = .next
      ({ s with fld.inv := setNth s.fld.inv n false })) ∧
    (s.fld.st = 0 → exec (.flagPersistenceExpiry 4) s = .next ({ s with fld.sl := false }))

/-- SELECT (R310, R312): with a target flag of a session the mask decides which sense of the flag
the action gives (the table of actions is presumed, log entry 17); target 4 acts on SL; the tag is
in READY, and OPEN and SECURED are left. The inventory round (R306, R308, R312, R320). A matching
Query draws a slot of Q bits from the buffer (in the model's order, log entry 13): a slot above 0
gives ARBITRATE, slot 0 gives REPLY with the next 16 bits as RN16; a Query that does not match
gives READY. QueryRep of the round's session counts the slot down, and REPLY falls back to
ARBITRATE; QueryAdjust draws again with Q one higher or lower; ACK with the RN16 answers the
identifier and gives ACKNOWLEDGED, ACK with another number ARBITRATE; NAK and the end of T2 give
ARBITRATE; an invalid command is counted. -/
def Obligations.Inventory : Prop :=
  ∀ (s : State), runs s →
    (∀ (a b p : Nat) (m : List Bool) (tr : Bool) (n : Nat), s.fld.st ≠ 0 → s.fldx.ctx = none → n < 4
      → exec (.select n a b p m tr) s = .next ({ s with
        fld.st := 1, fld.priv := 0, fldx.recRead := none, fld.inv := modNth s.fld.inv n (selected
          (selectEffect a (s.maskMatches b p m)) false) })) ∧
    (∀ (a b p : Nat) (m : List Bool) (tr : Bool), s.fld.st ≠ 0 → s.fldx.ctx = none → exec (.select 4
      a b p m tr) s = .next ({ s with
        fld.st := 1, fld.priv := 0, fldx.recRead := none, fld.sl := selected (selectEffect a
          (s.maskMatches b p m)) true s.fld.sl })) ∧
    (∀ (dr te tg : Bool) (mm sel n q ta bl : Nat), s.fld.ready = true → s.ent.waiting = [] →
      s.bothFailed = false → 1 ≤ s.fld.st → s.fld.st ≤ 3 → q ≤ 15 → s.queryMatches sel n tg = true →
      q ≤ s.bufBits → s.fldx.ctx = none → bitsNat (takeBits s.fld.buf q).1 ≠ 0 → ∃ t, exec (.query
      dr mm te sel n tg q ta bl) s = .next t ∧ t.fld.st = 2 ∧ t.fld.slot = bitsNat (takeBits
      s.fld.buf q).1 ∧ t.fld.q = q ∧ t.fld.session = n ∧ t.fld.link = State.linkWord dr mm te sel n
      tg q ta bl ∧ t.fld.inv = s.fld.inv ∧ { t with
        rf := s.rf, fldx.recRead := s.fldx.recRead, fld := s.fld, fldx.reply := s.fldx.reply,
          ent.pool := s.ent.pool, ent.fifo := s.ent.fifo } = s) ∧
    (∀ (dr te tg : Bool) (mm sel n ta bl : Nat), s.fld.ready = true → s.ent.waiting = [] →
      s.bothFailed = false → 1 ≤ s.fld.st → s.fld.st ≤ 3 → s.queryMatches sel n tg = true → 16 ≤
      s.bufBits → s.fldx.ctx = none → s.cfgBit 0x2A0 0 = true → ∃ t, exec (.query dr mm te sel n tg
      0 ta bl) s = .next t ∧ t.fld.st = 3 ∧ t.fld.rn16 = BitVec.ofNat 16 (bitsNat (takeBits
      s.fld.buf 16).1) ∧ t.fldx.reply = .rn16 (BitVec.ofNat 16 (bitsNat (takeBits s.fld.buf 16).1))
      ∧ { t with
        rf := s.rf, fldx.recRead := s.fldx.recRead, fld := s.fld, fldx.reply := s.fldx.reply,
          ent.pool := s.ent.pool, ent.fifo := s.ent.fifo } = s) ∧
    (∀ (dr te tg : Bool) (mm sel n q ta bl : Nat), s.fld.ready = true → s.ent.waiting = [] →
      s.bothFailed = false → 1 ≤ s.fld.st → s.fld.st ≤ 3 → s.queryMatches sel n tg = false →
      s.fldx.ctx = none → ∃ t, exec (.query dr mm te sel n tg q ta bl) s = .next t ∧ t.fld.st = 1 ∧
      t.fld.inv = s.fld.inv ∧ { t with rf := s.rf, fld := s.fld, fldx.recRead := s.fldx.recRead } =
      s) ∧
    (s.fld.ready = true → s.ent.waiting = [] → s.bothFailed = false → s.fld.st = 2 → s.fld.slot %
      32768 ≠ 1 → exec (.queryRep s.fld.session) s = .next
      ({ s with fld.slot := (s.fld.slot + 32767) % 32768 })) ∧
    (∀ (n : Nat), s.fld.ready = true → s.ent.waiting = [] → s.bothFailed = false → s.fld.st = 3 →
      exec (.queryRep n) s = .next
      ({ s with fld.st := 2, fld.slot := if n = s.fld.session then 32767 else s.fld.slot })) ∧
    (s.fld.ready = true → s.ent.waiting = [] → s.bothFailed = false → s.fld.st = 2 ∨ s.fld.st = 3 →
      min 15 (s.fld.q + 1) ≤ s.bufBits → bitsNat (takeBits s.fld.buf (min 15 (s.fld.q + 1))).1 ≠ 0 →
      ∃ t, exec (.queryAdjust s.fld.session 1) s = .next t ∧ t.fld.st = 2 ∧ t.fld.q = min 15
      (s.fld.q + 1) ∧ t.fld.slot = bitsNat (takeBits s.fld.buf (min 15 (s.fld.q + 1))).1 ∧ { t with
        rf := s.rf, fld := s.fld, fldx.reply := s.fldx.reply, ent.pool := s.ent.pool, ent.fifo :=
          s.ent.fifo } = s) ∧
    (∀ (u : Nat), s.fld.ready = true → s.ent.waiting = [] → s.bothFailed = false → s.fld.st = 4 →
      s.fldx.ctx = none → exec (.queryAdjust s.fld.session u) s = .next ({ s with
        fld.st := 1, fld.priv := 0, fld.inv := modNth s.fld.inv s.fld.session (fun b => !b),
          fldx.recRead := none })) ∧
    (s.fld.ready = true → s.ent.waiting = [] → s.bothFailed = false → s.fld.st = 3 ∨ s.fld.st = 4 →
      s.cfgBit 0x2A0 0 = true → ∃ t, exec (.ack s.fld.rn16) s = .next t ∧ t.fld.st = 4 ∧
      t.fldx.reply = .ident s.identReply ∧ (regsCanonical s = true → (t.reg 0x2AC).bit 2 = true) ∧
      { t with rf := s.rf, fld.st := s.fld.st, fldx.reply := s.fldx.reply } = s) ∧
    (∀ (v : BitVec 16), s.fld.ready = true → s.ent.waiting = [] → s.bothFailed = false → s.fld.st =
      3 ∨ s.fld.st = 4 → v ≠ s.fld.rn16 → exec (.ack v) s = .next ({ s with fld.st := 2 })) ∧
    (s.fld.ready = true → s.ent.waiting = [] → s.bothFailed = false → 3 ≤ s.fld.st → s.fldx.ctx =
      none → exec (.nak) s = .next ({ s with fld.st := 2, fld.priv := 0, fldx.recRead := none })) ∧
    (s.fld.ready = true → s.ent.waiting = [] → s.bothFailed = false → s.fld.st = 3 ∨ s.fld.st = 4 →
      exec (.t2Expiry) s = .next ({ s with fld.st := 2 })) ∧
    (s.fld.ready = true → s.ent.waiting = [] → s.bothFailed = false → s.fld.st ≠ 0 → ∃ t, exec
      (.invalidCommand) s = .next t ∧ t.fld.st = (if s.fld.st = 3 ∨ s.fld.st = 4 then 2 else
      s.fld.st) ∧ (regsCanonical s = true → t.reg 0x2C0 = ((s.reg 0x2C0 &&& 0xFFFF#32) |||
      BitVec.ofNat 32 (65536 * saturate 65535 ((s.reg 0x2C0).toNat / 65536 + 1)))) ∧
      { t with rf := s.rf, fld.st := s.fld.st } = s)

/-- Entry to OPEN and SECURED (R293, R312, R332, R334 to R336). ReqRN in ACKNOWLEDGED with the RN16
draws the handle, and gives SECURED-0 where the access password is 0, OPEN otherwise; in OPEN and
SECURED it draws a new RN16. Access with the password gives SECURED-P and clears the count of
failures; another password gives ARBITRATE, is counted, and at PW_TRIES starts the lockout, which
its end lifts. Kill answers error 0x00. Authenticate with a method or key that is not there
answers error 0x05 and one without a loaded key is a failure that is counted. -/
def Obligations.AccessState : Prop :=
  ∀ (s : State), runs s → s.bothFailed = false →
    (s.fld.st = 4 → s.ent.waiting = [] → s.fld.ready = true → 16 ≤ s.bufBits → s.cfgBit 0x2A0 0 =
      true → s.accessPassword ≠ 0 → ∃ t, exec (.reqRn s.fld.rn16) s = .next t ∧ t.fld.st = 5 ∧
      t.fld.priv = 1 ∧ t.fld.handle = BitVec.ofNat 16 (bitsNat (takeBits s.fld.buf 16).1) ∧
      t.fldx.reply = .rn16 t.fld.handle ∧ { t with
        rf := s.rf, pwr.domOn := s.pwr.domOn, fld := s.fld, fldx.reply := s.fldx.reply, ent.pool :=
          s.ent.pool, ent.fifo := s.ent.fifo } = s) ∧
    (s.fld.st = 4 → s.ent.waiting = [] → s.fld.ready = true → s.wired = true → 16 ≤ s.bufBits →
      s.cfgBit 0x2A0 0 = true → s.accessPassword = 0 → ∃ t, exec (.reqRn s.fld.rn16) s = .next t ∧
      t.fld.st = 6 ∧ t.fld.priv = 2 ∧ t.fld.handle = BitVec.ofNat 16 (bitsNat (takeBits s.fld.buf
      16).1) ∧ t.fldx.reply = .rn16 t.fld.handle ∧ (regsCanonical s = true → (t.reg 0x2AC).bit 3 =
      true) ∧ { t with
        rf := s.rf, pwr.domOn := s.pwr.domOn, fld := s.fld, fldx.reply := s.fldx.reply, ent.pool :=
          s.ent.pool, ent.fifo := s.ent.fifo } = s) ∧
    (5 ≤ s.fld.st → s.ent.waiting = [] → s.fld.ready = true → 16 ≤ s.bufBits → s.cfgBit 0x2A0 0 =
      true → ∃ t, exec (.reqRn s.fld.handle) s = .next t ∧ t.fld.st = s.fld.st ∧ t.fld.handle =
      s.fld.handle ∧ t.fld.rn16 = BitVec.ofNat 16 (bitsNat (takeBits s.fld.buf 16).1) ∧ t.fldx.reply
      = .rn16 t.fld.rn16 ∧ { t with
        rf := s.rf, fld := s.fld, fldx.reply := s.fldx.reply, ent.pool := s.ent.pool, ent.fifo :=
          s.ent.fifo } = s) ∧
    (∀ (w : Word), s.fld.st = 5 → s.wired = true → s.fld.lockout = false → w.toNat =
      s.accessPassword → w ≠ 0#32 → s.cfgBit 0x2A0 0 = true → ∃ t, exec (.access s.fld.handle w) s =
      .next t ∧ t.fld.st = 6 ∧ t.fld.priv = 3 ∧ t.fld.pwCount = 0 ∧ t.fldx.reply = .rn16
      s.fld.handle ∧ { t with
        rf := s.rf, fld.st := s.fld.st, fld.priv := s.fld.priv, fld.pwCount := s.fld.pwCount,
          fldx.reply := s.fldx.reply } = s) ∧
    (∀ (w : Word), 5 ≤ s.fld.st → s.fldx.ctx = none → w.toNat ≠ s.accessPassword → s.fld.lockout =
      false → s.pwTries ≠ 0 → s.fld.pwCount + 1 < s.pwTries → ∃ t, exec (.access s.fld.handle w) s =
      .next t ∧ t.fld.st = 2 ∧ t.fld.priv = 0 ∧ t.fld.pwCount = s.fld.pwCount + 1 ∧ t.fld.lockout =
      false ∧ (regsCanonical s = true → (t.reg 0x2D0).bit 5 = true) ∧ { t with
        rf := s.rf, fld.st := s.fld.st, fld.priv := s.fld.priv, fld.pwCount := s.fld.pwCount,
          fldx.recRead := s.fldx.recRead } = s) ∧
    (∀ (w : Word), 5 ≤ s.fld.st → s.fldx.ctx = none → w.toNat ≠ s.accessPassword → s.fld.lockout =
      false → s.pwTries ≠ 0 → s.pwTries ≤ s.fld.pwCount + 1 → ∃ t, exec (.access s.fld.handle w) s =
      .next t ∧ t.fld.st = 2 ∧ t.fld.pwCount = 0 ∧ t.fld.lockout = true ∧ (regsCanonical s = true →
      (t.reg 0x2D0).bit 6 = true) ∧ t.fmem = s.fmem ∧ t.arr.recs = s.arr.recs) ∧
    (exec (.passwordLockoutEnd) s = .next ({ s with fld.lockout := false })) ∧
    (5 ≤ s.fld.st → s.cfgBit 0x2A0 0 = true → exec (.kill s.fld.handle) s = .next
      ({ s with fldx.reply := .error 0x00 })) ∧
    (∀ (method k : Nat) (ch rs : List Byte), 5 ≤ s.fld.st → (method ≠ 1 ∧ method ≠ 2) ∨ 1 < k →
      s.cfgBit 0x2A0 0 = true → exec (.authenticate s.fld.handle method k ch rs) s = .next
      ({ s with fldx.reply := .error 0x05 })) ∧
    (∀ (k : Nat) (key ch rs : List Byte), 5 ≤ s.fld.st → k ≤ 1 → s.keyBytes (3 + k) = some key → 32
      ≤ s.bufBits → s.ent.waiting = [] → s.fld.ready = true → s.cfgBit 0x2A0 0 = true → ∃ t, exec
      (.authenticate s.fld.handle 1 k ch rs) s = .next t ∧ t.fldx.reply = .data (Config.tagAnswer 1
      key ch (takeBits s.fld.buf 32).1) ∧ t.fld.st = s.fld.st ∧ t.fld.priv = s.fld.priv ∧
      (regsCanonical s = true → (t.reg 0x2D0).bit 3 = true) ∧ { t with
        rf := s.rf, fld := s.fld, fldx.reply := s.fldx.reply, ent.pool := s.ent.pool, ent.fifo :=
          s.ent.fifo } = s) ∧
    (∀ (k : Nat) (key ch rs : List Byte), 5 ≤ s.fld.st → k ≤ 1 → s.keyBytes (3 + k) = some key → 80
      ≤ s.bufBits → s.ent.waiting = [] → s.fld.ready = true → s.cfgBit 0x2A0 0 = true → rs =
      Config.peerAnswer key ch (takeBits s.fld.buf 80).1 → ∃ t, exec (.authenticate s.fld.handle 2 k
      ch rs) s = .next t ∧ t.fldx.reply = .data (Config.tagAnswer 2 key ch (takeBits s.fld.buf
      80).1) ∧ t.fld.st = 6 ∧ t.fld.priv = 4 ∧ t.arr = s.arr ∧ t.fmem = s.fmem ∧ t.cmt = s.cmt)

/-- Access to the banks (R329 to R331, R333, R348, R350). Read of a bank other than the user bank
answers the words from the shadow; past the end of its bank it answers error 0x03. A write of a
locked place answers error 0x04 and sets WRITE_LOCKED; the tag-identity bank is never written. A
field write that is admitted passes a record to S1, programs one journal entry, advances toll
counter 7 and answers with DONE. -/
def Obligations.FieldMemory : Prop :=
  ∀ (s : State), runs s → 5 ≤ s.fld.st → s.cfgBit 0x2A0 0 = true →
    (∀ (bank w n : Nat), bank = 1 ∨ bank = 2 → 1 ≤ n → n ≤ 128 → w + n ≤ bankWords bank →
      (s.fieldGuard (bankWindow bank + 2 * w) (2 * n) true false false false).2 = true → ∃ t, exec
      (.read s.fld.handle bank w n) s = .next t ∧ t.fldx.reply = .data (slice (if bank = 1 then
      s.identBank else s.fmem.tid) (2 * w) (2 * n)) ∧
      { t with rf := s.rf, fldx.reply := s.fldx.reply } = s) ∧
    (∀ (bank w n : Nat), bankWords bank < w + n → n ≤ 128 → ∃ t, exec (.read s.fld.handle bank w n)
      s = .next t ∧ t.fldx.reply = .error 0x03 ∧ { t with rf := s.rf, fldx.reply := s.fldx.reply } =
      s) ∧
    (∀ (w : Nat) (d : BitVec 16), ∃ t, exec (.write s.fld.handle 2 w d) s = .next t ∧ t.fldx.reply =
      .error 0x04 ∧ { t with rf := s.rf, fldx.reply := s.fldx.reply } = s) ∧
    (∀ (w : Nat) (ds : List (BitVec 16)), s.fmem.lock.getLsbD 4 = true → 2 ≤ w → 1 ≤ ds.length →
      ds.length ≤ 16 → w + ds.length ≤ 32 → ∃ t, exec (.blockWrite s.fld.handle 1 w ds) s = .next t
      ∧ t.fldx.reply = .error 0x04 ∧ (regsCanonical s = true → (t.reg 0x2D0).bit 1 = true) ∧
      { t with rf := s.rf, fldx.reply := s.fldx.reply } = s) ∧
    (∀ (m a : BitVec 10), s.fld.priv ≠ 1 → lockRefused s.fmem.lock (lockAfter s.fmem.lock m a) =
      true → ∃ t, exec (.lock s.fld.handle m a) s = .next t ∧ t.fldx.reply = .error 0x04 ∧
      (regsCanonical s = true → (t.reg 0x2D0).bit 1 = true) ∧
      { t with rf := s.rf, fldx.reply := s.fldx.reply } = s) ∧
    (∀ (m a : BitVec 10) (cost : Nat) (v : Nat) (ra rb : TollRing), s.fld.priv ≠ 1 → lockRefused
      s.fmem.lock (lockAfter s.fmem.lock m a) = false → writeAdmitted s 4 0 2 9 cost →
      s.arr.tolls.length = 32 → s.toll 7 = { ringA := some ra, ringB := some rb, worn := false } →
      ra.value = some v → rb.value = some v → v + 1 < 4294967296 → ra.used + 1 < State.tollLife →
      rb.used + 1 < State.tollLife → ∃ t, exec (.lock s.fld.handle m a) s = .next t ∧ t.fldx.reply =
      .done ∧ writeTaken s t 4 0 cost (beBytes 2 (lockAfter s.fmem.lock m a).toNat)) ∧
    (∀ (bank w cost : Nat) (d : BitVec 16) (v : Nat) (ra rb : TollRing), writable s bank w [d] →
      writeAdmitted s bank w 2 9 cost → s.arr.tolls.length = 32 → s.toll 7 =
      { ringA := some ra, ringB := some rb, worn := false } → ra.value = some v → rb.value = some v
      → v + 1 < 4294967296 → ra.used + 1 < State.tollLife → rb.used + 1 < State.tollLife → ∃ t, exec
      (.write s.fld.handle bank w (d ^^^ s.fld.rn16)) s = .next t ∧ t.fldx.reply = .done ∧
      writeTaken s t bank w cost (beBytes 2 d.toNat)) ∧
    (∀ (bank w cost : Nat) (ds : List (BitVec 16)) (v : Nat) (ra rb : TollRing), writable s bank w
      ds → writeAdmitted s bank w (2 * ds.length) 9 cost → s.arr.tolls.length = 32 → s.toll 7 =
      { ringA := some ra, ringB := some rb, worn := false } → ra.value = some v → rb.value = some v
      → v + 1 < 4294967296 → ra.used + 1 < State.tollLife → rb.used + 1 < State.tollLife → ∃ t, exec
      (.blockWrite s.fld.handle bank w ds) s = .next t ∧ t.fldx.reply = .done ∧ writeTaken s t bank
      w cost (windowOf ds))

/-- The reads of Gweuno (R333, R339 to R343). G_REC_READ in SECURED-A of a readable record outside
the tag partition answers its flags, stroke number, length and the sectors asked for, and
remembers how far an in-order reading has come; of a record that is not held it answers error
0x80. G_GAUGE answers the 32 bytes of R342. G_SHIP_READ answers the samples of the intact batches
from the time asked for. Each of them without the right answers error 0x02. -/
def Obligations.GweunoReads : Prop :=
  ∀ (s : State) (hd : BitVec 16), runs s → 5 ≤ s.fld.st → hd = s.fld.handle → s.cfgBit 0x2A0 0 =
    true →
    (∀ (m p k o n : Nat), s.fld.priv ≤ 2 → ∃ t, exec (.gRecRead hd m p k o n) s = .next t ∧
      t.fldx.reply = .error 0x02 ∧ { t with rf := s.rf, fldx.reply := s.fldx.reply } = s) ∧
    (∀ (p k o n : Nat), s.fld.priv = 4 → s.domOn 4 = true → s.arrayError true = none → 1 ≤ n → 32 *
      n ≤ s.gwLimit → s.byNumber k = none → s.fldx.recRead = none → ∃ t, exec (.gRecRead hd 0 p k o
      n) s = .next t ∧ t.fldx.reply = .error 0x80 ∧
      { t with rf := s.rf, fldx.reply := s.fldx.reply, pwr.domOn := s.pwr.domOn } = s) ∧
    (∀ (p k o n : Nat) (r : Stored), s.fld.priv = 4 → s.domOn 4 = true → s.arrayError true = none →
      1 ≤ n → 32 * n ≤ s.gwLimit → s.byNumber k = some r → r.record.hdr.part ≠ 1 → o = 0 →
      (s.guarded 2 (s.readAccess r (r.record.hdr.has flagEnc) 0#8 0)).2 = true → 32 * n <
      (State.recBytes r.record false).length → ∃ t, exec (.gRecRead hd 0 p k o n) s = .next t ∧
      t.fldx.reply = .data ([0#8] ++ beBytes 8 r.record.hdr.stroke ++ beBytes 2 (State.recBytes
      r.record false).length ++ (State.recBytes r.record false).take (32 * n)) ∧ t.fldx.recRead =
      some (r.record.hdr.stroke, n) ∧ { t with
        rf := s.rf, fldx.reply := s.fldx.reply, fldx.recRead := s.fldx.recRead, pwr.domOn :=
          s.pwr.domOn } = s) ∧
    (s.fld.priv = 3 ∨ s.fld.priv = 4 → s.aonRuns = true → ∃ t, exec (.gGauge hd) s = .next t ∧
      t.fldx.reply = .data s.gaugeReply ∧ s.gaugeReply.length = 32 ∧
      { t with rf := s.rf, fldx.reply := s.fldx.reply } = s) ∧
    (∀ (f k : Nat), s.fld.priv = 3 ∨ s.fld.priv = 4 → s.domOn 4 = true → s.arrayError true = none →
      (s.fieldGuard 0x1600_0000 1 true false true false).2 = true → s.shippingLog f = [] → ∃ t, exec
      (.gShipRead hd f k) s = .next t ∧ t.fldx.reply = .data ([0#8, 0#8] ++ beBytes 2
      s.log.batchInterval) ∧
      { t with rf := s.rf, fldx.reply := s.fldx.reply, pwr.domOn := s.pwr.domOn } = s) ∧
    (∀ (f k iv : Nat) (x : List Byte), s.fld.priv = 3 ∨ s.fld.priv = 4 → s.domOn 4 = true →
      s.arrayError true = none → (s.fieldGuard 0x1600_0000 1 true false true false).2 = true →
      s.shippingLog f = [(iv, true, [x])] → 1 ≤ k → 16 ≤ s.gwLimit → ∃ t, exec (.gShipRead hd f k) s
      = .next t ∧ t.fldx.reply = .data ([1#8, 0#8] ++ beBytes 2 iv ++ x) ∧
      { t with rf := s.rf, fldx.reply := s.fldx.reply, pwr.domOn := s.pwr.domOn } = s) ∧
    (∀ (f k m : Nat) (l : List (Nat × Bool × List (List Byte))) (xs : List (List Byte)), s.fld.priv
      = 3 ∨ s.fld.priv = 4 → s.domOn 4 = true → s.arrayError true = none → (s.fieldGuard 0x1600_0000
      1 true false true false).2 = true → s.shippingLog f = l → l.all (fun b => b.2.1) = true → xs =
      l.flatMap (fun b => b.2.2) → m = min (min k (s.gwLimit / 16)) xs.length → ∃ t, exec
      (.gShipRead hd f k) s = .next t ∧ t.fldx.reply = .data ([BitVec.ofNat 8 m, BitVec.ofNat 8 (if
      m < xs.length then 1 else 0)] ++ beBytes 2 ((l.head?.map (fun b => b.1)).getD
      s.log.batchInterval) ++ (xs.take m).flatten) ∧
      { t with rf := s.rf, fldx.reply := s.fldx.reply, pwr.domOn := s.pwr.domOn } = s) ∧
    (∀ (m p k o n : Nat) (r : Stored) (ch : List Byte), s.fld.priv = 4 → s.domOn 4 = true →
      s.arrayError true = none → m ≤ 1 → m = 1 → p ≤ 10 → 1 ≤ n → 32 * n ≤ s.gwLimit →
      s.selectRecord m p k = some r → s.readGone m k o (some r.record.hdr.stroke) = false →
      r.record.hdr.part ≠ 1 → 32 * o < (State.recBytes r.record false).length → (s.guarded 2
      (s.readAccess r (r.record.hdr.has flagEnc) 0#8 0)).2 = true → ch = ((State.recBytes r.record
      false).drop (32 * o)).take (32 * n) → ∃ t, exec (.gRecRead hd m p k o n) s = .next t ∧
      replyTail t = beBytes 8 r.record.hdr.stroke ++ beBytes 2 (State.recBytes r.record
      false).length ++ ch ∧ { t with
        rf := s.rf, fldx.reply := s.fldx.reply, fldx.recRead := s.fldx.recRead, pwr.domOn :=
          s.pwr.domOn } = s)

/-- The other commands of Gweuno (R333, R344 to R346, R350). An admitted G_STAGE_WRITE in SECURED-A
is a field write of the item's STAGE_CFG record, answered at admission with eight bytes of zeros,
since its record has no stroke number yet (the model's reading, log entry 48). G_EXPORT OPEN of
held records asks for a nonce under a grant, and its reply waits; CHUNK of an open container
answers its bytes; CLOSE forgets the container. G_WAKE with the right keeps the reason and
presents trigger 1, and answers the result. TAG_WAKE_N (R318) in pulse mode is released at the end
of its pulse; in level mode when TAG_VAUX has been there for its second. When the user-bank map is
built (R328) MAP_BUILT stands in FLD_GW_STATUS. -/
def Obligations.GweunoAndWake : Prop :=
  ∀ (s : State), runs s →
    (∀ (hd : BitVec 16) (item cost : Nat) (fl : Byte) (vs : Word) (bd : List Byte) (tv : Nat) (ra rb
      : TollRing), 5 ≤ s.fld.st → hd = s.fld.handle → s.cfgBit 0x2A0 0 = true → s.fld.priv = 4 →
      item < 65535 → fl = 0#8 ∨ fl = 1#8 → bd.length ≤ 224 → writeAdmitted s 5 item (8 + bd.length)
      8 cost → s.arr.tolls.length = 32 → s.toll 7 =
      { ringA := some ra, ringB := some rb, worn := false } → ra.value = some tv → rb.value = some
      tv → tv + 1 < 4294967296 → ra.used + 1 < State.tollLife → rb.used + 1 < State.tollLife → ∃ t,
      exec (.gStageWrite hd item fl vs bd) s = .next t ∧ t.fldx.reply = .data (zeroBytes 8) ∧
      writeTaken s t 5 item cost (leBytes 2 item ++ [fl, 0#8] ++ wordBytes vs ++ bd)) ∧
    (∀ (hd : BitVec 16) (part k n : Nat) (r : Stored), 5 ≤ s.fld.st → hd = s.fld.handle → s.cfgBit
      0x2A0 0 = true → s.fld.priv = 4 → s.servedQueue 3 = 3 → s.domOn 4 = true → s.arrayError true =
      none → part ≤ 10 → part ≠ 1 → 1 ≤ n → n ≤ 64 → (s.fromStroke part k).take n = [r] → (s.guarded
      2 (s.readAccess r true 0#8 0)).2 = true → s.bothFailed = false → s.ent.pool = [] → s.wired =
      true → s.pwr.step = 0 → s.ent.a.state = 2 → s.ent.b.state = 2 → s.pwr.jobs = [] → s.pwr.grants
      = [] → s.verdict
      { id := s.cmt.nextId, queue := 3, cost := 190000, weight := 1, kind := .exportSeal } = .grant
      → ∃ t, exec (.gExportOpen hd part k n) s = .next t ∧ t.fldx.exportPend = some (part, k, n,
      [r.record.hdr.stroke]) ∧ t.fldx.container = none ∧ t.fldx.reply = s.fldx.reply ∧ t.ent.waiting
      = s.ent.waiting.filter (fun r => r.use != EntUse.fieldExport) ++ [⟨4, .fieldExport⟩] ∧
      { t with
        rf := s.rf, fldx.exportPend := s.fldx.exportPend, fldx.container := s.fldx.container,
          ent.waiting := s.ent.waiting, pwr.grants := s.pwr.grants, pwr.domOn := s.pwr.domOn } = s) ∧
    (∀ (hd : BitVec 16) (i n : Nat), 5 ≤ s.fld.st → hd = s.fld.handle → s.cfgBit 0x2A0 0 = true →
      s.exportAllowed = true → s.servedQueue 4 = 4 → s.fldx.container = none → 1 ≤ n → n ≤ 4 → ∃ t,
      exec (.gExportChunk hd i n) s = .next t ∧ t.fldx.reply = .error 0x85 ∧
      { t with rf := s.rf, fldx.reply := s.fldx.reply } = s) ∧
    (∀ (hd : BitVec 16) (v : Bivik) (bs : List Byte), 5 ≤ s.fld.st → hd = s.fld.handle → s.cfgBit
      0x2A0 0 = true → s.exportAllowed = true → s.servedQueue 4 = 4 → s.domOn 4 = true →
      s.arrayError true = none → s.fldx.container = some v → s.fldx.ctx = none → 64 ≤
      State.bivikLength v → 64 ≤ s.gwLimit → s.verdict
      { id := s.cmt.nextId, queue := 4, cost := 900, weight := 0, kind := .exportSeal } = .grant →
      s.bivikChunk v 0 64 = some bs → bs.length = 64 → ∃ t, exec (.gExportChunk hd 0 1) s = .next t
      ∧ t.fldx.reply = .data bs ∧
      { t with rf := s.rf, fldx.reply := s.fldx.reply, pwr.domOn := s.pwr.domOn } = s) ∧
    (∀ (hd : BitVec 16) (v : Bivik) (bs : List Byte) (i n : Nat), 5 ≤ s.fld.st → hd = s.fld.handle →
      s.cfgBit 0x2A0 0 = true → s.exportAllowed = true → s.servedQueue 4 = 4 → s.domOn 4 = true →
      s.arrayError true = none → s.fldx.container = some v → 1 ≤ n → n ≤ 4 → 64 * n ≤ s.gwLimit → i
      + n ≤ ceilDiv (State.bivikLength v) 64 → s.verdict
      { id := s.cmt.nextId, queue := 4, cost := 900, weight := 0, kind := .exportSeal } = .grant →
      s.bivikChunk v (64 * i) (64 * n) = some bs → ∃ t, exec (.gExportChunk hd i n) s = .next t ∧
      t.fldx.reply = .data ((List.range n).flatMap (fun k => s.chunkBytes v (i + k) (slice bs (64 *
      k) 64))) ∧ { t with rf := s.rf, fldx.reply := s.fldx.reply, pwr.domOn := s.pwr.domOn } = s) ∧
    (∀ (hd : BitVec 16) (part k n : Nat), 5 ≤ s.fld.st → hd = s.fld.handle → s.cfgBit 0x2A0 0 = true
      → s.fld.priv = 4 → s.servedQueue 3 = 3 → s.domOn 4 = true → s.arrayError true = none → part ≤
      10 → part ≠ 1 → 1 ≤ n → n ≤ 64 → (s.fromStroke part k).take n ≠ [] → ((s.fromStroke part
      k).take n).foldl (fun x r => if x.2 then x.1.guarded 2 (x.1.readAccess r true 0#8 0) else x)
      (s, true) = (s, true) → s.bothFailed = false → s.verdict
      { id := s.cmt.nextId, queue := 3, cost := 190000, weight := 1, kind := .exportSeal } = .grant
      → ∃ t, exec (.gExportOpen hd part k n) s = .next t ∧ t.fldx.exportPend = some (part, k, n,
      ((s.fromStroke part k).take n).map (fun r => r.record.hdr.stroke)) ∧ t.fldx.container = none) ∧
    (∀ (hd : BitVec 16), 5 ≤ s.fld.st → hd = s.fld.handle → s.cfgBit 0x2A0 0 = true →
      s.exportAllowed = true → exec (.gExportClose hd) s = .next
      ({ s with fldx.container := none, fldx.reply := .data [] })) ∧
    (∀ (hd : BitVec 16) (x : Byte), 5 ≤ s.fld.st → hd = s.fld.handle → s.cfgBit 0x2A0 0 = true → 3 ≤
      s.fld.priv → s.rf.pend = [] → s.aonRuns = true → s.cfgBit 0x2A8 0 = true → s.fld.wakeStart =
      none → ∃ t, exec (.gWake hd x) s = .next t ∧ t.fld = { s.fld with
        gwReason := x, wake := true, wakeCause := 1, wakeStart := some s.clk.up, wakeLevel :=
          s.cfgBit 0x2A8 4 } ∧ t.fldx.reply = .data [0#8] ∧ t.fldx.wakeSeen = saturate 65535
      (s.fldx.wakeSeen + 1) ∧ (regsCanonical s = true → (t.reg 0x2AC).bit 9 = true) ∧ { t with
        rf := s.rf, fld := s.fld, fldx.reply := s.fldx.reply, fldx.wakeSeen := s.fldx.wakeSeen } =
      s) ∧
    (∀ (hd : BitVec 16) (x : Byte), 5 ≤ s.fld.st → hd = s.fld.handle → s.cfgBit 0x2A0 0 = true → 3 ≤
      s.fld.priv → s.rf.pend = [] → s.cfgBit 0x2A8 0 = false → exec (.gWake hd x) s = .next
      ({ s with fld.gwReason := x, fldx.reply := .data [2#8] })) ∧
    (exec (.wakePulseEnd) s = .next ({ s with fld.wake := s.fld.wake && s.fld.wakeLevel })) ∧
    (s.wired = true → exec (.wakeLevelTimeout) s = .next
      ({ s with fld.wake := s.fld.wake && !s.fld.wakeLevel })) ∧
    (s.domOn 4 = true → s.cmt.recovering = false → s.boot.darkPending = none → s.wired = true → ∃ t,
      exec (.userMapBuilt) s = .next t ∧ t.fldx.mapBuilt = true ∧ t.rf = (s.raise 0x2D0 9).rf ∧
      { t with rf := s.rf, fldx.mapBuilt := s.fldx.mapBuilt, pwr.domOn := s.pwr.domOn } = s)

/-- A channel event of an enabled condition (R366 to R369). With the Snare armed, no capture open
and one channel enough, it opens a capture of cause 1 under the next number, stamped with the tag
time of its tick, for that channel; with MIN_CH channels it needs events on as many channels
inside the coincidence window, counts them all in the mask, and opens nothing on fewer. With a
capture open it is one more secondary. While the Snare does not act it is only held; an event of a
condition that holds already changes nothing. -/
def Obligations.CaptureTriggers : Prop :=
  ∀ (s : State) (ch tick : Nat) (hi : Bool), runs s →
    (ch < 8 → s.domOn 18 = true → s.condEnabled ch hi = true → s.snr.faulty.getLsbD ch = false →
      s.calibrating ch = false → s.snr.events.any (fun x => x.ch == ch && x.high == hi) = false →
      s.snareLive = true → s.snr.capture = none → s.minCh = 1 → s.snr.recent = [] → ∃ t, exec
      (.channelEvent ch hi tick) s = .next t ∧ t.snr.capNum = s.snr.capNum + 1#32 ∧
      t.snr.capture.map (fun c => (c.number, c.cause, c.mask, c.time, c.tick)) = some (s.snr.capNum
      + 1#32, 1, BitVec.ofNat 8 (2 ^ ch), s.tickTime tick, tick) ∧ t.snr.events = s.snr.events ++
      [{ ch := ch, high := hi, start := tick }] ∧ (regsCanonical s = true → (t.reg 0x32C).bit 0 =
      true) ∧ { t with rf := s.rf, snr := s.snr } = s) ∧
    (∀ (c : Capture), ch < 8 → s.domOn 18 = true → s.condEnabled ch hi = true → s.snr.faulty.getLsbD
      ch = false → s.calibrating ch = false → s.snr.events.any (fun x => x.ch == ch && x.high == hi)
      = false → s.snareLive = true → s.snr.capture = some c → ∃ t, exec (.channelEvent ch hi tick) s
      = .next t ∧ t.snr.capture = some { c with
        secondaries := saturate 255 (c.secondaries + 1), chans := noteEvent c.chans
          { ch := ch, high := hi, start := tick } } ∧ t.snr.events = s.snr.events ++
      [{ ch := ch, high := hi, start := tick }] ∧ t.snr.capNum = s.snr.capNum ∧ (regsCanonical s =
      true → (t.reg 0x32C).bit 2 = true) ∧ { t with rf := s.rf, snr := s.snr } = s) ∧
    (ch < 8 → s.domOn 18 = true → s.condEnabled ch hi = true → s.snr.faulty.getLsbD ch = false →
      s.calibrating ch = false → s.snr.events.any (fun x => x.ch == ch && x.high == hi) = false →
      s.snareLive = false → ∃ t, exec (.channelEvent ch hi tick) s = .next t ∧ t.snr.events =
      s.snr.events ++ [{ ch := ch, high := hi, start := tick }] ∧ t.snr.capture = s.snr.capture ∧
      t.rf = s.rf ∧ { t with rf := s.rf, snr.events := s.snr.events, snr.recent := s.snr.recent } =
      s) ∧
    (s.snr.events.any (fun x => x.ch == ch && x.high == hi) = true → exec (.channelEvent ch hi tick)
      s = .next (s)) ∧
    (∀ (l : List ChanEvent) (tt : Nat), ch < 8 → s.domOn 18 = true → s.condEnabled ch hi = true →
      s.snr.faulty.getLsbD ch = false → s.calibrating ch = false → s.snr.events.any (fun x => x.ch
      == ch && x.high == hi) = false → s.snareLive = true → s.snr.capture = none → l =
      s.snr.recent.filter (fun (x : ChanEvent) => tick < x.start + s.coincSpan + 16) ++
      [({ ch := ch, high := hi, start := tick } : ChanEvent)] → trigTick l s.coincSpan s.minCh =
      some tt → ∃ t, exec (.channelEvent ch hi tick) s = .next t ∧ t.snr.capNum = s.snr.capNum +
      1#32 ∧ t.snr.capture.map (fun c => (c.number, c.cause, c.mask, c.time)) = some (s.snr.capNum +
      1#32, 1, State.chanMask (coincident l s.coincSpan tt), s.tickTime tt) ∧ t.snr.recent = l ∧
      t.snr.events = s.snr.events ++ [{ ch := ch, high := hi, start := tick }] ∧ (regsCanonical s =
      true → (t.reg 0x32C).bit 0 = true) ∧ { t with rf := s.rf, snr := s.snr } = s) ∧
    (∀ (l : List ChanEvent), ch < 8 → s.domOn 18 = true → s.condEnabled ch hi = true →
      s.snr.faulty.getLsbD ch = false → s.calibrating ch = false → s.snr.events.any (fun x => x.ch
      == ch && x.high == hi) = false → s.snareLive = true → s.snr.capture = none → l =
      s.snr.recent.filter (fun (x : ChanEvent) => tick < x.start + s.coincSpan + 16) ++
      [({ ch := ch, high := hi, start := tick } : ChanEvent)] → trigTick l s.coincSpan s.minCh =
      none → ∃ t, exec (.channelEvent ch hi tick) s = .next t ∧ t.snr.capture = none ∧ t.rf = s.rf ∧
      t.snr.recent = l ∧ t.snr.events = s.snr.events ++ [{ ch := ch, high := hi, start := tick }] ∧
      { t with rf := s.rf, snr.events := s.snr.events, snr.recent := s.snr.recent } = s)

/-- The end of a channel event while a capture is open fixes its length (R366). At the end of its
post-trigger window a capture closes (R368, R377 to R379): while S1 takes nothing it waits with
its records, and one without wave data whose record S1 takes passes as one SNARE_TRIG record. When
the last wave of the tied capture is staged the rings are armed again (R375). -/
def Obligations.CaptureEnds : Prop :=
  ∀ (s : State), runs s →
    (∀ (ch tick : Nat) (c : Capture) (e : ChanEvent), s.snr.capture = some c → s.snr.events.find?
      (fun e => e.ch == ch) = some e → ∃ t, exec (.channelEventEnd ch tick) s = .next t ∧
      t.snr.events = s.snr.events.filter (fun x => x != e) ∧ t.snr.capture.map (fun d => (d.number,
      d.mask, d.chans.map (fun x => x.length))) = some (c.number, c.mask, c.chans.map (fun x => if
      x.ch = ch ∧ x.first = e.start ∧ x.firstHigh = e.high ∧ x.length = none then some (tick +
      (s.chCfg ch).field 7 4 + 1 - e.start) else x.length)) ∧ { t with
        snr.events := s.snr.events, snr.capture := s.snr.capture, snr.recent := s.snr.recent } = s) ∧
    (∀ (ch tick : Nat), s.snr.events.find? (fun e => e.ch == ch) = none → exec (.channelEventEnd ch
      tick) s = .next (s)) ∧
    (∀ (c : Capture) (ws : List (Nat × List Byte)), s.snr.capture = some c → c.lost = false →
      s.snr.waiting = [] → s.s1Open = false → s.snr.calBusy = none → s.pwr.grants = [] → ∃ t, exec
      (.postWindowEnd ws) s = .next t ∧ t.snr.waiting = [s.closedCapture c ws] ∧ t.snr.capture =
      none ∧ t.clk.lastStamp = s.nextStamp ∧ { t with
        rf := s.rf, snr := s.snr, cmt.dirty := s.cmt.dirty, clk.lastStamp := s.clk.lastStamp,
          pwr.domOn := s.pwr.domOn } = s) ∧
    (∀ (c : Capture) (ws : List (Nat × List Byte)), s.snr.capture = some c → c.lost = false → c.tied
      = false → s.snr.waiting = [] → s.snr.ring ≠ 2 → s.s1Open = true → s.cmt.s1wait = [] →
      s.cmt.auditHeld = [] → s.ownGap (s.source 2) 6 = none → s.knellRunning = false → s.hasRoom 6 =
      true → s.pwr.grants = [] → ∃ t, exec (.postWindowEnd ws) s = .next t ∧ t.snr.waiting = [] ∧
      t.snr.capture = none ∧ t.cmt.pipe.map (fun p => (p.record.hdr.typ, p.record.hdr.source,
      p.record.hdr.seq, p.record.hdr.time)) = s.cmt.pipe.map (fun p => (p.record.hdr.typ,
      p.record.hdr.source, p.record.hdr.seq, p.record.hdr.time)) ++ [(0x30#8, s.source 2,
      s.ownNumber (s.source 2) 6, s.nextStamp)] ∧ { t with
        rf := s.rf, snr := s.snr, cmt := s.cmt, clk.lastStamp := s.clk.lastStamp, pwr.domOn :=
          s.pwr.domOn } = s) ∧
    (s.snr.ring = 3 → s.snr.waiting = [] → s.snr.capture = none → s.pwr.step = 0 → s.rf.pend = [] →
      s.storeCode ≠ 2 → s.pwr.grants = [] → exec (.ringStagingDone) s = .next
      ({ s with snr.tied := none, snr.ring := 1, snr.ringSince := List.replicate 8 s.clk.up })) ∧
    (∀ (c : Capture) (ws : List (Nat × List Byte)), s.snr.capture = some c → ∃ t, exec
      (.postWindowEnd ws) s = .next t ∧ t.snr.capture = none ∧ t.snr.last = ((s.closedCapture c
      ws).mask, (s.closedCapture c ws).stored, (s.closedCapture c ws).secondaries, (s.closedCapture
      c ws).flags)) ∧
    (∀ (ch tick : Nat) (e : ChanEvent), s.snr.events.find? (fun e => e.ch == ch) = some e → ∃ t,
      exec (.channelEventEnd ch tick) s = .next t ∧ t.snr.events = s.snr.events.filter (fun x => x
      != e)) ∧
    (s.snr.ring = 3 → s.snr.waiting.any (fun c => s.snr.tied == some c.number && !c.waves.isEmpty) =
      false → s.snr.capture.all (fun c => !c.tied) = true → s.rf.pend = [] → ∃ t, exec
      (.ringStagingDone) s = .next t ∧ t.snr.tied = none ∧ t.snr.ring = (if 1 ≤ s.pwr.step then 4
      else if s.storeCode = 2 then 0 else 1))

/-- Calibration (R385 to R388). The period queues one calibration for each selected channel. A
calibration whose residuals are inside ±4 mV and ±3 % clears the channel's FAULTY, one outside
sets it; a SNARE_CAL record with the measurements is created, and the blind time grows by what it
took. -/
def Obligations.Calibrations : Prop :=
  ∀ (s : State), runs s →
    (s.wired = true → s.rf.pend = [] → s.domOn 18 = true → s.cfg 0x328 23 16 ≠ 0 → s.pwr.jobs = [] →
      ∃ t, exec (.periodicCalibration) s = .next t ∧ (∀ ch, ch < 8 → ((s.force 0x328).bit ch = true
      ∧ s.snr.faulty.getLsbD ch = false ↔ t.pwr.jobs.any (fun j => j.kind == .calibrate ch 1) =
      true)) ∧ t.pwr.jobs.all (fun j => j.queue == 6 && j.cost == 30000) = true ∧
      { t with rf := s.rf, pwr.jobs := s.pwr.jobs, cmt.nextId := s.cmt.nextId } = s) ∧
    (∀ (ch us : Nat) (be af ad ga : Int), s.snr.calBusy = some (ch, 1) → ch < 8 → s1Takes s 2 6 32 →
      s.snr.capture.isSome = true → State.calOutcome af ga = 0 → us < 1000 → ∃ t, exec (.calibration
      be af ad ga us) s = .next t ∧ t.snr.faulty = s.snr.faulty &&& ~~~ (BitVec.ofNat 8 (2 ^ ch)) ∧
      t.snr.blindUs = saturate 0xFFFFFFFF (s.snr.blindUs + us) ∧ oneMore s t 2 0x32#8 (s.calPayload
      ch 0 1 be af ad ga (s.clk.rtc - usUnits us)) ∧ { t with
        rf := s.rf, snr := s.snr, cmt := s.cmt, clk.lastStamp := s.clk.lastStamp, pwr := s.pwr } =
      s) ∧
    (∀ (ch us : Nat) (be af ad ga : Int), s.snr.calBusy = some (ch, 1) → ch < 8 →
      s.snr.capture.isSome = true → State.calOutcome af ga ≠ 0 → ∃ t, exec (.calibration be af ad ga
      us) s = .next t ∧ t.snr.faulty = s.snr.faulty ||| BitVec.ofNat 8 (2 ^ ch) ∧ t.snr.calBusy =
      none ∧ (regsCanonical s = true → (t.reg 0x32C).bit 9 = true) ∧ { t with
        rf := s.rf, snr := s.snr, cmt := s.cmt, clk.lastStamp := s.clk.lastStamp, pwr := s.pwr } =
      s) ∧
    (∀ (ch us rs : Nat) (be af ad ga : Int), s.snr.calBusy = some (ch, rs) → ch < 8 → ∃ t, exec
      (.calibration be af ad ga us) s = .next t ∧ t.snr.faulty = (if State.calOutcome af ga = 0 then
      s.snr.faulty &&& ~~~ (BitVec.ofNat 8 (2 ^ ch)) else s.snr.faulty ||| BitVec.ofNat 8 (2 ^ ch))
      ∧ t.snr.blindUs = saturate 0xFFFFFFFF (s.snr.blindUs + us) ∧ t.snr.capture = s.snr.capture)

/-- A window of a RUNNING source that passes the tests of R398 (R395, R396, R406): the source keeps
its counts, and its conditioned block goes to the first consumer that takes it: the field buffer
when it has room for a whole block, a waiting request, the host FIFO when it is on and has room,
and otherwise the pool, in which the oldest of 16 blocks makes room. A window that fails the
repetition test makes the source FAILED. -/
def Obligations.BlockRelease : Prop :=
  ∀ (s : State) (x : Src) (v : BitVec 1024) (nx : BitVec 128), runs s → s.ent.waiting = [] →
    s.ent.rawReq = none →
    ((windowRun s x v).failed = none → (nextRun s x v nx).failed = none → (s.source1 x).state = 2 →
      s.ent.pool = [] → s.bufferWants = true → s.fld.ready = true → ∃ t, exec (.blockRelease x v nx)
      s = .next t ∧ t.source1 x = releasedSource s x v nx ∧ t.fld.buf = s.fld.buf ++ [(x, blockBits
      (condition (takenWindow s x v)))] ∧ { t with
        rf := s.rf, ent.a := s.ent.a, ent.b := s.ent.b, fld.buf := s.fld.buf, pwr.domOn :=
          s.pwr.domOn } = s) ∧
    ((windowRun s x v).failed = none → (nextRun s x v nx).failed = none → (s.source1 x).state = 2 →
      s.ent.pool = [] → s.bufferWants = false → s.rf.pend = [] → s.fifoWants = true → ∃ t, exec
      (.blockRelease x v nx) s = .next t ∧ t.source1 x = releasedSource s x v nx ∧ t.ent.fifo =
      s.ent.fifo ++ (blockWords (condition (takenWindow s x v))).map (fun u => (x, u)) ∧ { t with
        rf := s.rf, ent.a := s.ent.a, ent.b := s.ent.b, ent.fifo := s.ent.fifo, pwr.domOn :=
          s.pwr.domOn } = s) ∧
    ((windowRun s x v).failed = none → (nextRun s x v nx).failed = none → (s.source1 x).state = 2 →
      s.ent.pool.length ≤ 16 → s.bufferWants = false → s.rf.pend = [] → s.fifoWants = false →
      s.domOn 4 = true → ∃ t, exec (.blockRelease x v nx) s = .next t ∧ t.source1 x = releasedSource
      s x v nx ∧ t.ent.pool = (if s.ent.pool.length < 16 then s.ent.pool else s.ent.pool.drop 1) ++
      [(x, condition (takenWindow s x v))] ∧ { t with
        rf := s.rf, ent.a := s.ent.a, ent.b := s.ent.b, ent.pool := s.ent.pool, pwr.domOn :=
          s.pwr.domOn } = s) ∧
    ((windowRun s x v).failed = some 0 → (s.source1 x).state = 2 → regsCanonical s = true → ∃ t,
      exec (.blockRelease x v nx) s = .next t ∧ (t.source1 x).state = 5 ∧ (t.source1 x).code = 3 ∧
      (t.reg 0x3E8).bit (1 + srcNum x) = true ∧ t.clk.rtc = s.clk.rtc ∧ t.arr = s.arr ∧ t.fmem =
      s.fmem)

/-- A failed test of a RUNNING source (R400 to R405): the source is FAILED with the test's code, its
domain is off, its alert bit stands, and the audit record of R562 passes to S1; the released
blocks stay. In RAW a failure is only counted (R414), and a source that is off or FAILED is not
tested. A window that passes carries the source's counts on, whatever waits for its block, and one
that fails makes a source that is starting up or RUNNING FAILED with the code of its test. Without
TAG_VAUX, outside a field session and with no request waiting, a source gates 1 ms after its last
block and not before (R408). -/
def Obligations.HealthTests : Prop :=
  ∀ (s : State) (x : Src) (count win : Nat), runs s →
    (∀ (n : Nat), (s.source1 x).state = 2 → (s.source1 (otherSrc x)).state = 2 → n ≤ 1 → s.wired =
      true → s.pwr.step = 0 → s1Takes s 8 6 64 → s.st.current = none → s.st.queue = [] → s.ent.raw =
      none → s.ent.rawReq = none → s.fld.st = 0 → s.ent.pool = [] ∨ (s.ent.waiting = [] ∧
      s.bufferWants = false ∧ s.fifoWants = false) → ∃ t, exec (.healthTestFail x n count win) s =
      .next t ∧ (t.source1 x).state = 5 ∧ (t.source1 x).code = 3 + n ∧ t.source1 (otherSrc x) =
      s.source1 (otherSrc x) ∧ (regsCanonical s = true → (t.reg 0x3E8).bit (1 + srcNum x) = true ∧
      (t.reg 0x01C).bit 5 = true) ∧ t.cmt.pipe.map (fun p => (p.record.hdr.typ,
      p.record.hdr.source)) = s.cmt.pipe.map (fun p => (p.record.hdr.typ, p.record.hdr.source)) ++
      [(0x80#8, s.source 8)] ∧ t.ent.pool = s.ent.pool ∧ t.ent.fifo = s.ent.fifo ∧ { t with
        rf := s.rf, ent := s.ent, cmt := s.cmt, clk.lastStamp := s.clk.lastStamp, pwr.domOn :=
          s.pwr.domOn } = s) ∧
    (∀ (r : Raw), (s.source1 x).state = 4 → s.ent.raw = some r → exec (.healthTestFail x 0 count
      win) s = .next ({
        (s.markMargins x count 0) with ent.raw := some { r with rct := saturate 15 (r.rct + 1) } })) ∧
    (∀ (n : Nat), (s.source1 x).state = 0 ∨ (s.source1 x).state = 5 → exec (.healthTestFail x n
      count win) s = .next (s)) ∧
    (s.wired = false → s.shedSources = false → s.fld.st = 0 → s.ent.waiting = [] → (s.source1
      x).state = 2 → (s.source1 x).lastRelease + 16777 ≤ s.clk.up → ∃ t, exec (.entIdleGate x) s =
      .next t ∧ t.source1 x = offSource (s.source1 x) ∧ t.domOn (14 + srcNum x) = false ∧ t.source1
      (otherSrc x) = s.source1 (otherSrc x) ∧ { t with ent := s.ent, pwr.domOn := s.pwr.domOn } = s) ∧
    (s.clk.up < (s.source1 x).lastRelease + 16777 → exec (.entIdleGate x) s = .next (s)) ∧
    (∀ (n : Nat), (s.source1 x).state = 1 ∨ (s.source1 x).state = 2 → n ≤ 1 → ∃ t, exec
      (.healthTestFail x n count win) s = .next t ∧ (t.source1 x).state = 5 ∧ (t.source1 x).code =
      (if (s.source1 x).state = 1 then 1 + n else 3 + n)) ∧
    (∀ (v : BitVec 1024) (nx : BitVec 128), (s.source1 x).state = 1 ∨ (s.source1 x).state = 2 →
      (windowRun s x v).failed = none → (nextRun s x v nx).failed = none → ∃ t, exec (.blockRelease
      x v nx) s = .next t ∧ (t.source1 x).windows = (s.source1 x).windows + 1 ∧ (t.source1 x).run =
      (windowRun s x v).run ∧ (t.source1 x).lastRelease = s.clk.up) ∧
    (∀ (v : BitVec 1024) (nx : BitVec 128) (n : Nat), (s.source1 x).state = 1 ∨ (s.source1 x).state
      = 2 → (windowRun s x v).failed = some n → ∃ t, exec (.blockRelease x v nx) s = .next t ∧
      (t.source1 x).state = 5 ∧ (t.source1 x).code = (if (s.source1 x).state = 1 then 1 + n else 3 +
      n))

/-- The running self-test of a source, which is in TEST while the other is RUNNING, passes with its
known answer and both windows inside the cutoffs (R411, R412, R532, R536): the result stands first
with outcome 0 and the two measured figures, the test leaves the queue, ST_DONE stands, the source
is RUNNING again with its longest run in its margin (the model's reading, log entry 41), and the
other source is as before. A raw capture ends when its samples are taken or RAW_STOP has been
given (R414): its bytes are held, the source starts up again, and RAW_DONE stands. -/
def Obligations.SourceTests : Prop :=
  ∀ (s : State) (x : Src), runs s →
    (∀ (req : Nat) (v u : BitVec 1024), s.st.current = some (req, 0x10 + srcNum x) → s.st.queue =
      [(req, 0x10 + srcNum x)] → (s.source1 x).state = 3 → (s.source1 (otherSrc x)).state = 2 → max
      (testWindow v 0 false).runMax (testWindow u (testWindow v 0 false).run (testWindow v 0
      false).last).runMax < 129 → max (testWindow v 0 false).cnt (testWindow u (testWindow v 0
      false).run (testWindow v 0 false).last).cnt < 851 → ∃ t, exec (.entSelftest x true v u) s =
      .next t ∧ t.st.current = none ∧ t.st.queue = [] ∧ t.st.results.head?.map (fun r => (r.req,
      r.unit, r.outcome, r.detail)) = some (req, 0x10 + srcNum x, 0, 0) ∧ (t.source1 x).rctMax =
      saturate 255 (max (s.source1 x).rctMax (max (testWindow v 0 false).runMax (testWindow u
      (testWindow v 0 false).run (testWindow v 0 false).last).runMax)) ∧ (t.source1 x).state = 2 ∧
      (t.source1 x).windows = (s.source1 x).windows + 2 ∧ t.source1 (otherSrc x) = s.source1
      (otherSrc x) ∧ (regsCanonical s = true → (t.reg 0x014).bit 3 = true ∧ (t.reg 0x3E8).bit 6 =
      true) ∧ { t with
        rf := s.rf, st := s.st, ent.a.state := s.ent.a.state, ent.b.state := s.ent.b.state,
          ent.a.run := s.ent.a.run, ent.b.run := s.ent.b.run, ent.a.last := s.ent.a.last, ent.b.last
          := s.ent.b.last, ent.a.rctMax := s.ent.a.rctMax, ent.b.rctMax := s.ent.b.rctMax,
          ent.a.aptMax := s.ent.a.aptMax, ent.b.aptMax := s.ent.b.aptMax, ent.a.windows :=
          s.ent.a.windows, ent.b.windows := s.ent.b.windows, pwr.jobs := s.pwr.jobs, pwr.grants :=
          s.pwr.grants } = s) ∧
    (∀ (k : Bool) (v u : BitVec 1024), s.st.current = none → exec (.entSelftest x k v u) s = .next
      (s)) ∧
    (∀ (r : Raw) (bs : List Byte) (rc ap : Nat), s.ent.raw = some r → r.running = true → r.src = x →
      bs.length = 131072 ∨ (bs.length < 131072 ∧ r.stop = true) → ∃ t, exec (.rawCaptureEnd bs rc
      ap) s = .next t ∧ t.ent.raw = some { r with
        running := false, bytes := bs, rct := saturate 15 (rawTests bs (s.source1 x).run (s.source1
          x).last).rct, apt := saturate 15 (rawTests bs (s.source1 x).run (s.source1 x).last).apt }
      ∧ (t.source1 x).state = 1 ∧ t.source1 (otherSrc x) = s.source1 (otherSrc x) ∧ t.rf = (s.raise
      0x3E8 7).rf ∧ { t with rf := s.rf, ent := s.ent } = s) ∧
    (∀ (req : Nat) (v u : BitVec 1024), s.st.current = some (req, 0x10 + srcNum x) → (s.source1
      x).state = 3 → ∃ t, exec (.entSelftest x false v u) s = .next t ∧ (t.source1 x).state = 5 ∧
      (t.source1 x).code = 5)

/-- The guards (R32, R429, R433, R437, R562). An APPLY of one guard whose shadow is valid makes the
live policy of every region the shadow's, ends, and sets APPLY_DONE; with a region that is not
valid it leaves the policy and sets APPLY_ERR. A posted write that drains is performed at its
target, the oldest of its master first. The faults that a guard has counted go into one AUDIT
record, at most one per master per second. A session that has not been used for IDLE_S seconds
closes (R453), and not before. A context of the owner method that has waited for PROVE for tHX is
released (R451), and its requester is remembered. SES_STATUS has EXPIRED and CLOSED, and every
other context stays. -/
def Obligations.GuardsAndSessionEnds : Prop :=
  ∀ (s : State), runs s →
    (∀ (m : Nat) (d : Bool), s.grd.applyQ = [([m], d)] → m < 7 → m ≠ 2 → s.grd.posted = [] →
      risingFrom 0 s.grd.live = true → (State.programmable m).all (fun k => State.regionValid
      (s.shadowRegion k)) = true → ∃ t, exec (.guardUpdate) s = .next t ∧ (∀ k ∈ State.programmable
      m, t.liveRegion k = s.shadowRegion k) ∧ (∀ k, k < 112 → k ∉ State.programmable m →
      t.liveRegion k = s.liveRegion k) ∧ t.grd.applyQ = [] ∧ (regsCanonical s = true → (t.reg
      0x430).bit 10 = true) ∧
      { t with rf := s.rf, grd.live := s.grd.live, grd.applyQ := s.grd.applyQ } = s) ∧
    (∀ (m : Nat) (d : Bool), s.grd.applyQ = [([m], d)] → m ≠ 2 → s.grd.posted = [] →
      (State.programmable m).all (fun k => State.regionValid (s.shadowRegion k)) = false → ∃ t, exec
      (.guardUpdate) s = .next t ∧ t.grd = { s.grd with applyQ := [] } ∧ (regsCanonical s = true →
      (t.reg 0x430).bit 9 = true) ∧ { t with rf := s.rf, grd.applyQ := s.grd.applyQ } = s) ∧
    (s.grd.applyQ = [] → exec (.guardUpdate) s = .next (s)) ∧
    (∀ (m : Nat) (v : BitVec 64), s.grd.posted =
      [{ master := m, port := .host 3, requester := 3, addr := 0x10C, width := 2, data := v }] →
      s.rf.pend = [] → regsCanonical s = true → ∃ t, exec (.postedWriteDrain m) s = .next t ∧
      t.grd.posted = [] ∧ t.reg 0x10C &&& 0x1F#32 = v.setWidth 32 &&& 0x1F#32 ∧ (∀ o, o < 2048 → o ≠
      0x10C → t.reg o = s.reg o) ∧ { t with rf := s.rf, grd.posted := s.grd.posted } = s) ∧
    (∀ (m : Nat) (w : Posted) (u : State × Nat), s.grd.posted.find? (fun w => w.master == m) = some
      w → u = ({ s with grd.posted := s.grd.posted.eraseP (fun x => x.master == m) }).performWrite
      w.port w.addr w.width w.data → u.2 = 0 → ∃ t, exec (.postedWriteDrain m) s = .next t ∧ t =
      u.1.setReject w.port false) ∧
    (∀ (m : Nat), s.grd.posted = [] → exec (.postedWriteDrain m) s = .next (s)) ∧
    (∀ (m : Nat) (a : FaultAudit), s.grd.audits = [a] → a.master = m → m < 7 → nget s.grd.auditAt m
      0 = 0 → s.grd.auditAt = [] → s1Takes s 6 6 64 → ∃ t, exec (.guardFaultAudit m) s = .next t ∧
      oneMore s t 6 0x80#8 (auditPayload 6 (s.source 6) (State.faultIface m) m (wordBytes a.addr ++
      leBytes 4 a.count ++ [BitVec.ofNat 8 a.requester])) ∧ t.grd.audits = [] ∧ nget t.grd.auditAt m
      0 = s.clk.up + 1 ∧ { t with
        cmt := s.cmt, clk.lastStamp := s.clk.lastStamp, grd.audits := s.grd.audits, grd.auditAt :=
          s.grd.auditAt } = s) ∧
    (∀ (m : Nat), s.grd.audits.find? (fun a => a.master == m) = none → exec (.guardFaultAudit m) s =
      .next (s)) ∧
    (∀ (c : Nat) (x : Ctx), s.rf.pend = [] → 4 ≤ c → s.ctx c = some x → x.state = .opened →
      x.lastUse + clampTo 1 255 (s.cfg 0x4A4 31 24) * second ≤ s.clk.up → ∃ t, exec
      (.sessionIdleTimeout c) s = .next t ∧ t.ctx c = none ∧ (∀ k, k < 64 → k ≠ c → t.ctx k = s.ctx
      k) ∧ (regsCanonical s = true → (t.reg 0x4A8).bit 1 = true ∧ (t.reg 0x4A8).bit 3 = true) ∧
      { t with
        rf := s.rf, lnk := s.lnk, pwr := s.pwr, ses := s.ses, ent.waiting := s.ent.waiting, peal :=
          s.peal, fldx.ctx := s.fldx.ctx } = s) ∧
    (∀ (c : Nat) (x : Ctx), s.rf.pend = [] → 4 ≤ c → s.ctx c = some x → s.clk.up < x.lastUse +
      clampTo 1 255 (s.cfg 0x4A4 31 24) * second → exec (.sessionIdleTimeout c) s = .next (s)) ∧
    (∀ (c : Nat) (x : Ctx), s.rf.pend = [] → 4 ≤ c → s.ctx c = some x → x.state = .hello → x.method
      = 1 → x.tagPoint ≠ [] → ∃ t, exec (.helloExpiry c) s = .next t ∧ t.ctx c = none ∧ (∀ k, k < 64
      → k ≠ c → t.ctx k = s.ctx k) ∧ t.ses.expired = s.ses.expired ++ [(c, x.requester)] ∧
      (regsCanonical s = true → (t.reg 0x4A8).bit 3 = true) ∧ { t with
        rf := s.rf, lnk := s.lnk, pwr := s.pwr, ses := s.ses, ent.waiting := s.ent.waiting, peal :=
          s.peal, fldx.ctx := s.fldx.ctx } = s) ∧
    (∀ (c : Nat) (x : Ctx), s.rf.pend = [] → 4 ≤ c → s.ctx c = some x → x.state ≠ .hello → exec
      (.helloExpiry c) s = .next (s))

/-- The logger (R509 to R512). A tick brings the RTC to its next whole second and the schedule one
second on; a sample that is due and granted joins the open batch, and a refused one is skipped;
each of them brings PWR_TEMP up to date; with nothing due a sample changes nothing. The crystal
takes the RTC from state 1, and its failure is reported; the backup oscillator is entered once. A
chassis sample that differs is counted, one that agrees clears the count, and three in a row
change the level. -/
def Obligations.LoggerAndClocks : Prop :=
  ∀ (s : State), runs s → s.pwr.mode ≠ 6 →
    (s.rf.pend = [] → s.log.flushReq = false → s.cfgBit 0x568 2 = false → ∃ t, exec (.loggerTick) s
      = .next t ∧ t.clk.rtc = time64 (s.clk.rtc + (second - s.clk.rtc % second)) ∧ t.clk.up =
      s.clk.up + (second - s.clk.rtc % second) ∧ t.log = { s.log with
        nextDue := s.log.nextDue - 1, extra := s.log.extra || s.log.sampleNow, sampleNow := false,
          xtal := 0 } ∧ { t with clk.rtc := s.clk.rtc, clk.up := s.clk.up, log := s.log } = s) ∧
    (∀ (v : Int), s.rf.pend = [] → s.log.extra = false → s.logEn = true → s.log.nextDue = 0 →
      s.loggerActive = true → s.verdict
      { id := s.cmt.nextId, queue := 2, cost := 270000, weight := 0, kind := .loggerSample } =
      .grant → s.log.batch = [] → 1 < s.logBatch → ∃ t, exec (.loggerSample v) s = .next t ∧ t.log =
      { s.log with
        nextDue := s.logInterval, batch := [s.newSample v], batchInterval := s.logInterval,
          fieldSeen := s.fld.present } ∧ (regsCanonical s = true → (t.reg 0x56C).bit 0 = true) ∧
      t.pwr.temp = v ∧ { t with rf := s.rf, log := s.log, pwr.temp := s.pwr.temp } = s) ∧
    (∀ (v : Int), s.log.extra = false → s.log.nextDue ≠ 0 ∨ s.logEn = false → exec (.loggerSample v)
      s = .next (s)) ∧
    (∃ t, exec (.loggerTick) s = .next t ∧ t.clk.rtc = time64 (s.clk.rtc + (second - s.clk.rtc %
      second)) ∧ t.clk.up = s.clk.up + (second - s.clk.rtc % second) ∧ t.log.sampleNow = false ∧
      t.log.flushReq = false ∧ t.log.extra = (s.log.extra || s.log.sampleNow)) ∧
    (∀ (v : Int), s.rf.pend = [] → s.log.extra = true ∨ (s.logEn = true ∧ s.log.nextDue = 0 ∧
      s.loggerActive = true) → s.verdict
      { id := s.cmt.nextId, queue := 2, cost := 270000, weight := 0, kind := .loggerSample } =
      .grant → s.log.batch = [] ∨ (s.log.batchInterval = s.logInterval ∧ s.log.batch.length + 1 <
      s.logBatch) → ∃ t, exec (.loggerSample v) s = .next t ∧ t.log.batch = s.log.batch ++
      [s.newSample v] ∧ t.log.batchInterval = s.logInterval ∧ t.log.extra = false ∧ t.pwr.temp = v ∧
      (s.log.extra = false → t.log.nextDue = s.logInterval)) ∧
    (∀ (v : Int), s.rf.pend = [] → s.log.extra = true ∨ (s.logEn = true ∧ s.log.nextDue = 0 ∧
      s.loggerActive = true) → s.verdict
      { id := s.cmt.nextId, queue := 2, cost := 270000, weight := 0, kind := .loggerSample } ≠
      .grant → ∃ t, exec (.loggerSample v) s = .next t ∧ t.log.batch = s.log.batch ∧ t.pwr.temp = v
      ∧ (regsCanonical s = true → (t.reg 0x56C).bit 2 = true)) ∧
    (s.log.xtal = 1 → exec (.crystalSwitch) s = .next ({ s with log.xtal := 2 })) ∧
    (s.log.xtal = 1 ∨ s.log.xtal = 2 → ∃ t, exec (.crystalFail) s = .next t ∧ t.log.xtal = 3 ∧ t.rf
      = (s.raise 0x56C 5).rf ∧ { t with rf := s.rf, log.xtal := s.log.xtal } = s) ∧
    (s.log.backup = false → ∃ t, exec (.clockBackup) s = .next t ∧ t.log.backup = true ∧ t.rf =
      (s.raise 0x56C 6).rf ∧ { t with rf := s.rf, log.backup := s.log.backup } = s) ∧
    (∀ (h : Bool), h ≠ s.log.chassisHigh → exec (.chassisSample h) s = .next
      ({ s with log.chassisDiff := min 3 (s.log.chassisDiff + 1) })) ∧
    (exec (.chassisSample s.log.chassisHigh) s = .next
      ({ s with log.chassisDiff := 0, log.chassisExit := none })) ∧
    (s.log.chassisDiff = 3 → s.log.chassisExit = none → ∃ t, exec (.chassisChange) s = .next t ∧
      t.log =
      { s.log with chassisHigh := !s.log.chassisHigh, chassisDiff := 0, chassisAt := s.clk.rtc } ∧
      (regsCanonical s = true → (t.reg 0x56C).bit 7 = true) ∧ { t with rf := s.rf, log := s.log } =
      s) ∧
    (s.log.chassisDiff < 3 → exec (.chassisChange) s = .next (s))

/-- Start-ups (R116, R523 to R528, R531). POWER_ON with TAG_VAUX brings a tag that has lost all
power to READY with GLB_CAUSE 1, the RTC at 0, which is the model's choice (log entry 24), and
marked unset, the Knell slots' state from the array, the guards at their default and the boot
counter one higher; from another source the start-up is deferred in darkness and S1 is closed.
VAUX_RETURN out of step 7 starts up with cause 2, and above step 7 it only restores TAG_VAUX.
CUTOFF_EXIT by TAG_VAUX with a cell starts up with cause 3 and keeps the RTC. -/
def Obligations.StartUps : Prop :=
  ∀ (s : State),
    (∀ (src : Nat), s.cmt.pipe = [] → s.arr.tolls.length = 32 → (s.toll 3).haveA = true → (s.toll
      3).haveB = true → (s.toll 3).usedA + 1 < State.tollLife → (s.toll 3).usedB + 1 <
      State.tollLife → (s.toll 3).a = (s.toll 3).b → s.tollValue 3 + 1 < 4294967296 → ∃ t, exec
      (.powerOn true src) s = .next t ∧ t.rf.ready = true ∧ t.pwr.mode = 1 ∧ t.clk.rtc = 0 ∧
      t.clk.unsync = true ∧ (t.rf.cause.toNat % 256, t.rf.cause.toNat / 256 % 16) = (1, 0) ∧
      t.grd.live = [] ∧ t.grd.shadow = [] ∧ t.rf.locked = 0#32 ∧ t.fmem.tid = s.fmem.tid ∧
      t.tollValue 3 = s.tollValue 3 + 1) ∧
    (∀ (src : Nat), s.cmt.pipe = [] → 1 ≤ src → src ≤ 3 ∨ src = 5 → s.fld.st = 0 → ∃ t, exec
      (.powerOn false src) s = .next t ∧ t.rf.ready = false ∧ t.pwr.mode = 3 ∧ t.pwr.step = 7 ∧
      t.cmt.recovering = true ∧ t.boot.darkPending.map (fun f => (f.cause, f.src)) = some (1, src) ∧
      t.usableSrc src = true ∧ t.clk.rtc = 0 ∧ t.arr.recs = s.arr.recs ∧ t.fmem = s.fmem) ∧
    (∀ (src : Nat), s.cmt.pipe = [] → src = 0 ∨ 6 ≤ src → exec (.powerOn false src) s = .next (s)) ∧
    (s.cmt.pipe = [] → s.pwr.mode ≠ 0 → s.pwr.mode ≠ 6 → s.wired = false → s.pwr.step ≠ 7 → 0 <
      s.pwr.usable.length → ∃ t, exec (.vauxReturn) s = .next t ∧ t.wired = true ∧ t.pwr.mode = 1 ∧
      { t with
        pwr.usable := s.pwr.usable, pwr.vauxOk := s.pwr.vauxOk, pwr.mode := s.pwr.mode, pwr.domOn :=
          s.pwr.domOn, fld.supply := s.fld.supply } = s) ∧
    (s.cmt.pipe = [] → s.pwr.mode ≠ 0 → s.pwr.mode ≠ 6 → s.wired = false → s.pwr.step = 7 →
      s.boot.resetLow = false → s.boot.darkPending = none → 0 < s.pwr.usable.length →
      s.arr.tolls.length = 32 → (s.toll 3).haveA = true → (s.toll 3).haveB = true → (s.toll 3).usedA
      + 1 < State.tollLife → (s.toll 3).usedB + 1 < State.tollLife → (s.toll 3).a = (s.toll 3).b →
      s.tollValue 3 + 1 < 4294967296 → ∃ t, exec (.vauxReturn) s = .next t ∧ t.rf.ready = true ∧
      t.pwr.mode = 1 ∧ (t.rf.cause.toNat % 256, t.rf.cause.toNat / 256 % 16) = (2, 0) ∧ t.clk.rtc =
      s.clk.rtc ∧ t.rf.locked = s.rf.locked ∧ t.grd.live = s.grd.live ∧ t.fmem.tid = s.fmem.tid ∧
      t.tollValue 3 = s.tollValue 3 + 1) ∧
    (s.cmt.pipe = [] → s.pwr.mode = 6 → s.boot.resetLow = false → s.usableSrc 5 = true →
      s.arr.tolls.length = 32 → (s.toll 3).haveA = true → (s.toll 3).haveB = true → (s.toll 3).usedA
      + 1 < State.tollLife → (s.toll 3).usedB + 1 < State.tollLife → (s.toll 3).a = (s.toll 3).b →
      s.tollValue 3 + 1 < 4294967296 → ∃ t, exec (.cutoffExit 0) s = .next t ∧ t.rf.ready = true ∧
      t.pwr.mode = 1 ∧ (t.rf.cause.toNat % 256, t.rf.cause.toNat / 256 % 16) = (3, 0) ∧ t.clk.rtc =
      s.clk.rtc ∧ t.clk.unsync = s.clk.unsync ∧ t.grd.live = [] ∧ t.fmem.tid = s.fmem.tid ∧
      t.tollValue 3 = s.tollValue 3 + 1) ∧
    (∀ (src : Nat), s.cmt.pipe = [] → s.pwr.mode ≠ 6 → s.boot.resetLow = false → exec (.cutoffExit
      src) s = .next (s)) ∧
    (∀ (src : Nat), ∃ t, exec (.powerOn true src) s = .next t ∧ t.rf.ready = true ∧ t.pwr.mode = 1 ∧
      t.wired = true ∧ (t.rf.cause.toNat % 256, t.rf.cause.toNat / 256 % 16) = (1, 0)) ∧
    (∀ (src : Nat), 1 ≤ src → src ≤ 5 → ∃ t, exec (.powerOn false src) s = .next t ∧ t.rf.ready =
      false ∧ t.wired = false ∧ t.pwr.step = 7 ∧ t.boot.darkPending.map (fun f => (f.cause, f.src))
      = some (1, src) ∧ t.cmt.pipe = []) ∧
    (s.pwr.mode ≠ 0 → s.pwr.mode ≠ 6 → s.wired = false → s.pwr.step = 7 → s.boot.resetLow = false →
      ∃ t, exec (.vauxReturn) s = .next t ∧ t.rf.ready = true ∧ t.pwr.mode = 1 ∧ t.wired = true ∧
      (t.rf.cause.toNat % 256, t.rf.cause.toNat / 256 % 16) = ((s.boot.darkPending.map (fun f =>
      (f.cause % 256, f.src % 16))).getD (2, 0))) ∧
    (s.pwr.mode = 6 → s.boot.resetLow = false → ∃ t, exec (.cutoffExit 0) s = .next t ∧ t.rf.ready =
      true ∧ t.pwr.mode = 1 ∧ t.wired = true ∧ (t.rf.cause.toNat % 256, t.rf.cause.toNat / 256 % 16)
      = (3, 0)) ∧
    (∀ (src : Nat), s.pwr.mode = 6 → s.boot.resetLow = false → src = 2 ∨ src = 4 → ∃ t, exec
      (.cutoffExit src) s = .next t ∧ t.rf.ready = false ∧ t.wired = false ∧ t.pwr.step = 7 ∧
      t.boot.darkPending.map (fun f => (f.cause, f.src)) = some (3, src))

/-- Resets (R435, R523, R527, R529, R530). An assertion of TAG_RESET_N with TAG_VAUX present and no
Knell stops all activity; without TAG_VAUX it is not recognised. Its release starts the tag up
with cause 4, and the orderly stop of GLB_RESET ends in a start-up with cause 5 after a clean
save: the guards are at their default, no session is open, GLB_LOCK is open again, and the RTC
goes on. A deferred start-up runs in darkness once CORE is awake. -/
def Obligations.Resets : Prop :=
  ∀ (s : State),
    (s.cmt.pipe = [] → runs s → s.wired = true → s.knellRunning = false → exec (.resetAssert) s =
      .next ({ s with boot.resetLow := true, kn.state := 0 })) ∧
    (s.cmt.pipe = [] → runs s → s.wired = false → exec (.resetAssert) s = .next (s)) ∧
    (s.cmt.pipe = [] → s.boot.resetLow = true → s.wired = true → s.arr.tolls.length = 32 → (s.toll
      3).haveA = true → (s.toll 3).haveB = true → (s.toll 3).usedA + 1 < State.tollLife → (s.toll
      3).usedB + 1 < State.tollLife → (s.toll 3).a = (s.toll 3).b → s.tollValue 3 + 1 < 4294967296 →
      ∃ t, exec (.pinReset) s = .next t ∧ t.rf.ready = true ∧ t.boot.resetLow = false ∧
      (t.rf.cause.toNat % 256, t.rf.cause.toNat / 256 % 16) = (4, 0) ∧ t.clk.rtc = s.clk.rtc ∧
      t.grd.live = [] ∧ t.ses.ctxs = [] ∧ t.rf.locked = 0#32 ∧ t.fld.present = false ∧ t.tollValue 3
      = s.tollValue 3 + 1) ∧
    (s.cmt.pipe = [] → s.boot.resetLow = false → exec (.pinReset) s = .next (s)) ∧
    (∀ (q : BitVec 16 × Nat), s.cmt.pipe = [] → runs s → s.boot.keyedPending = some q →
      s.boot.keyedStop = true → s.knellRunning = false → s.wired = true → s.arr.tolls.length = 32 →
      (s.toll 3).haveA = true → (s.toll 3).haveB = true → (s.toll 3).usedA + 1 < State.tollLife →
      (s.toll 3).usedB + 1 < State.tollLife → (s.toll 3).a = (s.toll 3).b → s.tollValue 3 + 1 <
      4294967296 → ∃ t, exec (.keyedReset) s = .next t ∧ t.rf.ready = true ∧ (t.rf.cause.toNat %
      256, t.rf.cause.toNat / 256 % 16) = (5, 0) ∧ t.clk.rtc = s.clk.rtc ∧ t.grd.live = [] ∧
      t.ses.ctxs = [] ∧ t.rf.locked = 0#32 ∧ t.boot.keyedPending = none ∧ t.tollValue 3 =
      s.tollValue 3 + 1) ∧
    (s.cmt.pipe = [] → runs s → s.boot.keyedPending = none → exec (.keyedReset) s = .next (s)) ∧
    (∀ (f : StartFacts), s.cmt.pipe = [] → runs s → s.boot.darkPending = some f → s.domOn 4 = true →
      s.arr.tolls.length = 32 → (s.toll 3).haveA = true → (s.toll 3).haveB = true → (s.toll 3).usedA
      + 1 < State.tollLife → (s.toll 3).usedB + 1 < State.tollLife → (s.toll 3).a = (s.toll 3).b →
      s.tollValue 3 + 1 < 4294967296 → ∃ t, exec (.darkStartup) s = .next t ∧ t.boot.darkPending =
      none ∧ t.cmt.recovering = false ∧ (t.rf.cause.toNat % 256, t.rf.cause.toNat / 256 % 16) =
      (f.cause % 256, f.src % 16) ∧ t.boot.dark.map (fun d => (d.cause, d.src, d.bootCount)) = some
      (f.cause, f.src, s.tollValue 3 + 1) ∧ t.rf.ready = s.rf.ready ∧ t.clk.rtc = s.clk.rtc ∧
      t.tollValue 3 = s.tollValue 3 + 1) ∧
    (s.cmt.pipe = [] → runs s → s.boot.darkPending = none → exec (.darkStartup) s = .next (s)) ∧
    (s.boot.resetLow = true → s.wired = true → ∃ t, exec (.pinReset) s = .next t ∧ t.rf.ready = true
      ∧ t.pwr.mode = 1 ∧ t.boot.resetLow = false ∧ (t.rf.cause.toNat % 256, t.rf.cause.toNat / 256 %
      16) = (4, 0) ∧ t.grd.live = []) ∧
    (s.boot.resetLow = true → s.wired = false → ∃ t, exec (.pinReset) s = .next t ∧ t.rf.ready =
      false ∧ t.boot.resetLow = false ∧ t.boot.darkPending.map (fun f => (f.cause, f.src)) = some
      (4, s.firstSource) ∧ t.grd.live = []) ∧
    (∀ (q : BitVec 16 × Nat), runs s → s.boot.keyedPending = some q → s.boot.keyedStop = true →
      s.knellRunning = false → s.cmt.pipe = [] → s.cmt.auditHeld = [] → s.cmt.s1wait = [] → ∃ t,
      exec (.keyedReset) s = .next t ∧ t.boot.keyedPending = none ∧ (s.wired = true → t.rf.ready =
      true ∧ (t.rf.cause.toNat % 256, t.rf.cause.toNat / 256 % 16) = (5, 0)) ∧ (s.wired = false →
      t.boot.darkPending.map (fun f => f.cause) = some 5) ∧ t.grd.live = []) ∧
    (∀ (f : StartFacts), runs s → s.boot.darkPending = some f → s.domOn 4 = true → ∃ t, exec
      (.darkStartup) s = .next t ∧ t.boot.darkPending = none ∧ t.cmt.recovering = false ∧
      (t.rf.cause.toNat % 256, t.rf.cause.toNat / 256 % 16) = (f.cause % 256, f.src % 16))
end

