-- ==== Sys2Proof/Laws/Keeps.lean ====
section
/-! SUPPORT. What every shared operation keeps: the queue, the canonical form of the register maps, the two copies of the toll shadow and their rise, and the lock of GLB_LOCK. One lemma for each operation. -/

set_option Elab.async false
set_option linter.all false

namespace Sys2Proof.Machine

/-- What no command breaks, in terms of the fields concerned. -/
def KeepsF (b : Bool) (s0 : State) (pending : List Instr) (cur inForce pend : List (Nat × Word))
    (shadow shadowB : Nat) (par parB : Bool) (locked : Word) (lockUsed : Bool) : Prop :=
  pending = s0.pending ∧
  (regsCanonical s0 = true → canonical cur regReset = true ∧ canonical inForce regReset = true ∧
    canonical pend (fun _ => 0#32) = true) ∧
  (shadowSound s0 → shadow = shadowB ∧ par = parB ∧ (par = parity64 shadow ∨ shadow = 0)) ∧
  (b = true → (shadowSound s0 → s0.cmt.shadow ≤ shadow) ∧ (s0.rf.lockUsed = true → locked = s0.rf.locked ∧ lockUsed = true))

def Kept (b : Bool) (s0 t : State) : Prop :=
  KeepsF b s0 t.pending t.rf.cur t.rf.inForce t.rf.pend t.cmt.shadow t.cmt.shadowB t.cmt.par t.cmt.parB t.rf.locked t.rf.lockUsed

theorem Kept.refl (b : Bool) (s : State) : Kept b s s := by
  refine ⟨rfl, fun h => ?_, id, fun _ => ⟨fun _ => le_refl _, fun h => ⟨rfl, h⟩⟩⟩
  simp [regsCanonical] at h
  exact ⟨h.1.1, h.1.2, h.2⟩

@[simp] theorem kept_mk (b : Bool) (s0 : State) (clk : Clk) (rf : RegFile) (arr : Arr) (cmt : Cmt) (kn : Kn) (pwr : Pwr)
    (stm : Stm) (lnk : Lnk) (peal : Peal) (fld : Fld) (fldx : FldX) (fmem : FMem) (snr : Snr) (ent : Ent)
    (st : SelfTest) (grd : Grd) (ses : Ses) (log : Log) (boot : Boot) (fresh : Nat) (pending : List Instr) :
    Kept b s0 (State.mk clk rf arr cmt kn pwr stm lnk peal fld fldx fmem snr ent st grd ses log boot fresh pending) ↔
    KeepsF b s0 pending rf.cur rf.inForce rf.pend cmt.shadow cmt.shadowB cmt.par cmt.parB rf.locked rf.lockUsed := Iff.rfl

@[simp] theorem keepsF_fold (b : Bool) (s0 t : State) :
    KeepsF b s0 t.pending t.rf.cur t.rf.inForce t.rf.pend t.cmt.shadow t.cmt.shadowB t.cmt.par t.cmt.parB t.rf.locked t.rf.lockUsed ↔
    Kept b s0 t := Iff.rfl

@[simp] theorem kept_ite (b : Bool) (s0 : State) (c : Prop) [Decidable c] (x y : State) (hx : Kept b s0 x)
    (hy : Kept b s0 y) : Kept b s0 (if c then x else y) := by
  split <;> assumption

@[simp] theorem kept_ite_fst {β : Type} (b : Bool) (s0 : State) (c : Prop) [Decidable c] (x y : State × β) (hx : Kept b s0 x.1)
    (hy : Kept b s0 y.1) : Kept b s0 (if c then x else y).1 := by
  split <;> assumption

theorem foldl_kept {α : Type} {b : Bool} {s0 : State} (l : List α) (g : State → α → State)
    (h : ∀ s x, Kept b s0 s → Kept b s0 (g s x)) {s : State} (hs : Kept b s0 s) : Kept b s0 (l.foldl g s) := by
  induction l generalizing s with
  | nil => exact hs
  | cons a l ih => exact ih (h s a hs)

theorem foldl_kept_fst {α β : Type} {b : Bool} {s0 : State} (l : List α) (g : State × β → α → State × β)
    (h : ∀ p x, Kept b s0 p.1 → Kept b s0 (g p x).1) {p : State × β} (hs : Kept b s0 p.1) : Kept b s0 (l.foldl g p).1 := by
  induction l generalizing p with
  | nil => exact hs
  | cons a l ih => exact ih (h p a hs)

theorem risingFrom_weaken {α : Type} (m : List (Nat × α)) {a b : Nat} (h : b ≤ a) (hm : risingFrom a m = true) :
    risingFrom b m = true := by
  cases m with
  | nil => rfl
  | cons p t => obtain ⟨k, v⟩ := p; simp [risingFrom] at *; exact ⟨le_trans h hm.1, hm.2⟩

theorem nset_rising {α : Type} [DecidableEq α] (m : List (Nat × α)) (k : Nat) (v d : α) (lo : Nat) (hk : lo ≤ k)
    (hm : risingFrom lo m = true) : risingFrom lo (nset m k v d) = true := by
  induction m generalizing lo with
  | nil => simp only [nset]; split <;> simp [risingFrom, hk]
  | cons p t ih =>
    obtain ⟨k', v'⟩ := p
    simp [risingFrom] at hm
    unfold nset
    split
    · split
      · simp [risingFrom, hm]
      · rename_i h1 h2
        simp [risingFrom, hm, hk]
        exact h1
    · split
      · rename_i h1 h2
        split
        · exact risingFrom_weaken t (by omega) hm.2
        · subst h2; simp [risingFrom, hm]
      · rename_i h1 h2
        simp [risingFrom, hm.1]
        exact ih (k' + 1) (by omega) hm.2

theorem nset_all {α : Type} [DecidableEq α] (m : List (Nat × α)) (k : Nat) (v : α) (d : Nat → α)
    (hm : m.all (fun p => p.2 != d p.1) = true) : (nset m k v (d k)).all (fun p => p.2 != d p.1) = true := by
  induction m with
  | nil => simp only [nset]; split <;> simp_all
  | cons p t ih =>
    obtain ⟨k', v'⟩ := p
    simp only [List.all_cons, Bool.and_eq_true] at hm
    unfold nset
    split
    · split <;> simp_all
    · split
      · split <;> simp_all
      · simp_all

theorem nset_canonical {α : Type} [DecidableEq α] (m : List (Nat × α)) (k : Nat) (v : α) (d : Nat → α)
    (hm : canonical m d = true) : canonical (nset m k v (d k)) d = true := by
  simp only [canonical, Bool.and_eq_true] at *
  exact ⟨nset_rising m k v (d k) 0 (Nat.zero_le _) hm.1, nset_all m k v d hm.2⟩

theorem filter_rising {α : Type} (m : List (Nat × α)) (f : Nat × α → Bool) (lo : Nat) (hm : risingFrom lo m = true) :
    risingFrom lo (m.filter f) = true := by
  induction m generalizing lo with
  | nil => rfl
  | cons p t ih =>
    obtain ⟨k, v⟩ := p
    simp [risingFrom] at hm
    rw [List.filter_cons]
    split
    · simp [risingFrom, hm.1]; exact ih _ hm.2
    · exact risingFrom_weaken _ (by omega) (ih _ hm.2)

theorem filter_canonical {α : Type} [DecidableEq α] (m : List (Nat × α)) (d : Nat → α) (f : Nat × α → Bool)
    (hm : canonical m d = true) : canonical (m.filter f) d = true := by
  simp only [canonical, Bool.and_eq_true] at *
  refine ⟨filter_rising m f 0 hm.1, ?_⟩
  simp only [List.all_eq_true, List.mem_filter] at *
  exact fun p hp => hm.2 p hp.1

/-- An answer that may be absent keeps what the state keeps. -/
def KeptO (b : Bool) (s0 : State) (o : Option State) : Prop := ∀ t, o = some t → Kept b s0 t

theorem keptO_none (b : Bool) (s0 : State) : KeptO b s0 none := by intro t h; cases h

theorem keptO_some {b : Bool} {s0 t : State} (h : Kept b s0 t) : KeptO b s0 (some t) := by
  intro u hu; cases hu; exact h

theorem keptO_ite {b : Bool} {s0 : State} (c : Prop) [Decidable c] {x y : Option State} (hx : KeptO b s0 x)
    (hy : KeptO b s0 y) : KeptO b s0 (if c then x else y) := by
  split <;> assumption

theorem keptO_map {b : Bool} {s0 : State} {o : Option State} {g : State → State} (h : KeptO b s0 o)
    (hg : ∀ t, Kept b s0 t → Kept b s0 (g t)) : KeptO b s0 (o.map g) := by
  intro u hu
  simp only [Option.map_eq_some_iff] at hu
  obtain ⟨a, ha, rfl⟩ := hu
  exact hg a (h a ha)

theorem keptO_use {b : Bool} {s0 t : State} {o : Option State} (h : KeptO b s0 o) (ht : o = some t) : Kept b s0 t :=
  h t ht

theorem keepsF_false {s0 : State} {q : List Instr} {c i p : List (Nat × Word)} {n m : Nat} {x y : Bool} {l l' : Word} {u u' : Bool}
    (h : KeepsF false s0 q c i p n m x y l u) : KeepsF false s0 q c i p n m x y l' u' :=
  ⟨h.1, h.2.1, h.2.2.1, fun hb => by cases hb⟩

theorem keepsF_clear {s0 t : State} {l : Word} {u : Bool} (h : Kept false s0 t) :
    KeepsF false s0 t.pending [] [] [] t.cmt.shadow t.cmt.shadowB t.cmt.par t.cmt.parB l u :=
  ⟨h.1, fun _ => ⟨rfl, rfl, rfl⟩, h.2.2.1, fun hb => by cases hb⟩

theorem keepsF_drop {s0 t : State} {l : Word} {u : Bool} (h : Kept false s0 t) :
    KeepsF false s0 t.pending t.rf.cur t.rf.inForce t.rf.pend t.cmt.shadow t.cmt.shadowB t.cmt.par t.cmt.parB l u :=
  keepsF_false h

theorem foldl_max_le (l : List Nat) (n : Nat) : n ≤ l.foldl max n ∧ ∀ x ∈ l, x ≤ l.foldl max n := by
  induction l generalizing n with
  | nil => simp
  | cons a l ih =>
    have h := ih (max n a)
    refine ⟨le_trans (le_max_left _ _) h.1, fun x hx => ?_⟩
    cases List.mem_cons.1 hx with
    | inl e => rw [e]; exact le_trans (le_max_right n a) h.1
    | inr e => exact h.2 x e

/-- The stroke that a recovery goes on from lies at or above a sound shadow (R113). -/
theorem recoveredStroke_ge {s : State} (h : shadowSound s) : s.cmt.shadow ≤ s.recoveredStroke := by
  obtain ⟨h1, h2, h3⟩ := h
  cases h3 with
  | inr h0 => rw [h0]; exact Nat.zero_le _
  | inl hp =>
    have hl : s.liveStroke = some s.cmt.shadow := by
      unfold State.liveStroke
      have e1 : (parity64 s.cmt.shadow == s.cmt.par) = true := by rw [hp]; exact beq_self_eq_true _
      have e2 : (parity64 s.cmt.shadowB == s.cmt.parB) = true := by rw [← h1, ← h2, hp]; exact beq_self_eq_true _
      rw [e1, e2, ← h1]; simp
    have hm : s.cmt.shadow ∈ s.strokeBounds := by
      unfold State.strokeBounds
      rw [hl]; simp
    unfold State.recoveredStroke
    cases hb : s.strokeBounds with
    | nil => rw [hb] at hm; cases hm
    | cons a l => rw [hb] at hm; exact (foldl_max_le _ _).2 _ hm

theorem setShadow_par (s : State) (v : Nat) : (s.setShadow v).cmt.par = parity64 (s.setShadow v).cmt.shadow := by
  simp only [State.setShadow]

/-- Writing the shadow at or above its value keeps it sound. -/
theorem setShadow_keeps {b : Bool} {s0 s : State} {v : Nat} (h : Kept b s0 s)
    (hv : b = true → shadowSound s0 → s0.cmt.shadow ≤ v) : Kept b s0 (s.setShadow v) :=
  ⟨h.1, h.2.1, fun _ => ⟨rfl, rfl, Or.inl (setShadow_par s v)⟩, fun hb => ⟨hv hb, (h.2.2.2 hb).2⟩⟩

theorem kept_sound {b : Bool} {s0 s : State} (h : Kept b s0 s) (hs : shadowSound s0) : shadowSound s := h.2.2.1 hs

theorem recovered_keeps {b : Bool} {s0 s : State} (h : Kept b s0 s) (hb : b = true) (hs : shadowSound s0) :
    s0.cmt.shadow ≤ s.recoveredStroke :=
  le_trans ((h.2.2.2 hb).1 hs) (recoveredStroke_ge (kept_sound h hs))

@[simp] theorem State.setReg_kept {bk : Bool} {s0 : State} (s : State) (off : Nat) (v : Word) (h0 : Kept bk s0 s) : Kept bk s0 (State.setReg s off v) := by
  obtain ⟨h1, h2, h3, h4⟩ := h0
  exact ⟨h1, fun hc => ⟨nset_canonical _ _ _ _ (h2 hc).1, (h2 hc).2⟩, h3, h4⟩

@[simp] theorem State.setForce_kept {bk : Bool} {s0 : State} (s : State) (off : Nat) (v : Word) (h0 : Kept bk s0 s) : Kept bk s0 (State.setForce s off v) := by
  obtain ⟨h1, h2, h3, h4⟩ := h0
  exact ⟨h1, fun hc => ⟨(h2 hc).1, nset_canonical _ _ _ _ (h2 hc).2.1, (h2 hc).2.2⟩, h3, h4⟩

@[simp] theorem State.setPend_kept {bk : Bool} {s0 : State} (s : State) (off : Nat) (v : Word) (h0 : Kept bk s0 s) : Kept bk s0 (State.setPend s off v) := by
  obtain ⟨h1, h2, h3, h4⟩ := h0
  exact ⟨h1, fun hc => ⟨(h2 hc).1, (h2 hc).2.1, nset_canonical _ off _ (fun _ => 0#32) (h2 hc).2.2⟩, h3, h4⟩

@[simp] theorem State.applyAt_kept {bk : Bool} {s0 : State} (s : State) (b : Boundary) (off : Nat) (h0 : Kept bk s0 s) : Kept bk s0 (State.applyAt s b off) := by
  unfold State.applyAt
  repeat' (first | with_reducible assumption | with_reducible apply State.setPend_kept | with_reducible apply State.setForce_kept | with_reducible apply kept_ite | with_reducible apply kept_ite_fst | (with_reducible refine foldl_kept _ _ ?_ ?_; (on_goal 1 => intro t a ht)) | (with_reducible refine foldl_kept_fst _ _ ?_ ?_; (on_goal 1 => intro t a ht)) | (simp only [kept_mk, keepsF_fold]) | (rename_i heq; obtain rfl := congrArg (fun (p : State × _) => p.1) heq; clear heq) | split)

@[simp] theorem State.boundary_kept {bk : Bool} {s0 : State} (s : State) (b : Boundary) (h0 : Kept bk s0 s) : Kept bk s0 (State.boundary s b) := by
  unfold State.boundary
  repeat' (first | with_reducible assumption | with_reducible apply State.applyAt_kept | with_reducible apply kept_ite | with_reducible apply kept_ite_fst | (with_reducible refine foldl_kept _ _ ?_ ?_; (on_goal 1 => intro t a ht)) | (with_reducible refine foldl_kept_fst _ _ ?_ ?_; (on_goal 1 => intro t a ht)) | (simp only [kept_mk, keepsF_fold]) | (rename_i heq; obtain rfl := congrArg (fun (p : State × _) => p.1) heq; clear heq) | split)

@[simp] theorem State.resetRegs_kept {bk : Bool} {s0 : State} (s : State) (keep : Nat → Bool) (h0 : Kept bk s0 s) : Kept bk s0 (State.resetRegs s keep) := by
  obtain ⟨h1, h2, h3, h4⟩ := h0
  exact ⟨h1, fun hc => ⟨filter_canonical _ _ _ (h2 hc).1, filter_canonical _ _ _ (h2 hc).2.1, filter_canonical _ _ _ (h2 hc).2.2⟩, h3, h4⟩

@[simp] theorem State.elapse_kept {bk : Bool} {s0 : State} (s : State) (units : Nat) (h0 : Kept bk s0 s) : Kept bk s0 (State.elapse s units) := by
  unfold State.elapse
  first | exact h0 | (simp [h0]; done) | (((repeat' split) <;> simp [*]); done)

@[simp] theorem State.takeFresh_kept {bk : Bool} {s0 : State} (s : State) (h0 : Kept bk s0 s) : Kept bk s0 (State.takeFresh s) := by
  unfold State.takeFresh
  first | exact h0 | (simp [h0]; done) | (((repeat' split) <;> simp [*]); done)

@[simp] theorem State.raiseBits_kept {bk : Bool} {s0 : State} (s : State) (off : Nat) (m : Word) (h0 : Kept bk s0 s) : Kept bk s0 (State.raiseBits s off m) := by
  unfold State.raiseBits
  first | exact h0 | (simp [h0]; done) | (((repeat' split) <;> simp [*]); done)

@[simp] theorem State.raise_kept {bk : Bool} {s0 : State} (s : State) (off : Nat) (n : Nat) (h0 : Kept bk s0 s) : Kept bk s0 (State.raise s off n) := by
  unfold State.raise
  first | exact h0 | (simp [h0]; done) | (((repeat' split) <;> simp [*]); done)

@[simp] theorem State.countBy_kept {bk : Bool} {s0 : State} (s : State) (off : Nat) (hi : Nat) (lo : Nat) (n : Nat) (h0 : Kept bk s0 s) : Kept bk s0 (State.countBy s off hi lo n) := by
  unfold State.countBy
  first | exact h0 | (simp [h0]; done) | (((repeat' split) <;> simp [*]); done)

@[simp] theorem State.count_kept {bk : Bool} {s0 : State} (s : State) (off : Nat) (h0 : Kept bk s0 s) : Kept bk s0 (State.count s off) := by
  unfold State.count
  first | exact h0 | (simp [h0]; done) | (((repeat' split) <;> simp [*]); done)

@[simp] theorem State.releaseAlert_kept {bk : Bool} {s0 : State} (s : State) (src : Nat) (h0 : Kept bk s0 s) : Kept bk s0 (State.releaseAlert s src) := by
  unfold State.releaseAlert
  first | exact h0 | (simp [h0]; done) | (((repeat' split) <;> simp [*]); done)

@[simp] theorem State.clearOnRead_kept {bk : Bool} {s0 : State} (s : State) (off : Nat) (clear : Word) (h0 : Kept bk s0 s) : Kept bk s0 (State.clearOnRead s off clear) := by
  unfold State.clearOnRead
  repeat' (first | with_reducible assumption | with_reducible apply State.releaseAlert_kept | with_reducible apply State.setReg_kept | with_reducible apply kept_ite | with_reducible apply kept_ite_fst | (with_reducible refine foldl_kept _ _ ?_ ?_; (on_goal 1 => intro t a ht)) | (with_reducible refine foldl_kept_fst _ _ ?_ ?_; (on_goal 1 => intro t a ht)) | (simp only [kept_mk, keepsF_fold]) | (rename_i heq; obtain rfl := congrArg (fun (p : State × _) => p.1) heq; clear heq) | split)

@[simp] theorem State.setDom_kept {bk : Bool} {s0 : State} (s : State) (d : Nat) (on : Bool) (h0 : Kept bk s0 s) : Kept bk s0 (State.setDom s d on) := by
  unfold State.setDom
  first | exact h0 | (simp [h0]; done) | (((repeat' split) <;> simp [*]); done)

@[simp] theorem State.wakeDoms_kept {bk : Bool} {s0 : State} (s : State) (f : Nat → Bool) (h0 : Kept bk s0 s) : Kept bk s0 (State.wakeDoms s f) := by
  unfold State.wakeDoms
  first | exact h0 | (simp [h0]; done) | (((repeat' split) <;> simp [*]); done)

@[simp] theorem State.wakePinned_kept {bk : Bool} {s0 : State} (s : State) (h0 : Kept bk s0 s) : Kept bk s0 (State.wakePinned s) := by
  unfold State.wakePinned
  first | exact h0 | (simp [h0]; done) | (((repeat' split) <;> simp [*]); done)

@[simp] theorem State.markHead_kept {bk : Bool} {s0 : State} (s : State) (id : Nat) (v : State.Verdict) (h0 : Kept bk s0 s) : Kept bk s0 (State.markHead s id v) := by
  unfold State.markHead
  repeat' (first | with_reducible assumption | with_reducible apply kept_ite | with_reducible apply kept_ite_fst | (with_reducible refine foldl_kept _ _ ?_ ?_; (on_goal 1 => intro t a ht)) | (with_reducible refine foldl_kept_fst _ _ ?_ ?_; (on_goal 1 => intro t a ht)) | (intro t n ht) | (intro t ht) | (simp only [kept_mk, keepsF_fold]) | (rename_i heq; obtain rfl := congrArg (fun (p : State × _) => p.1) heq; clear heq) | split)

@[simp] theorem State.enqueue_kept {bk : Bool} {s0 : State} (s : State) (queue : Nat) (cost : Nat) (weight : Nat) (kind : JobKind) (h0 : Kept bk s0 s) : Kept bk s0 (State.enqueue s queue cost weight kind) := by
  unfold State.enqueue
  first | exact h0 | (simp [h0]; done) | (((repeat' split) <;> simp [*]); done)

@[simp] theorem State.dropJob_kept {bk : Bool} {s0 : State} (s : State) (id : Nat) (h0 : Kept bk s0 s) : Kept bk s0 (State.dropJob s id) := by
  unfold State.dropJob
  first | exact h0 | (simp [h0]; done) | (((repeat' split) <;> simp [*]); done)

@[simp] theorem State.grantJob_kept {bk : Bool} {s0 : State} (s : State) (j : Job) (h0 : Kept bk s0 s) : Kept bk s0 (State.grantJob s j) := by
  unfold State.grantJob
  first | exact h0 | (simp [h0]; done) | (((repeat' split) <;> simp [*]); done)

@[simp] theorem State.endJob_kept {bk : Bool} {s0 : State} (s : State) (kind : JobKind) (h0 : Kept bk s0 s) : Kept bk s0 (State.endJob s kind) := by
  unfold State.endJob
  first | exact h0 | (simp [h0]; done) | (((repeat' split) <;> simp [*]); done)

@[simp] theorem State.dropKind_kept {bk : Bool} {s0 : State} (s : State) (kind : JobKind) (h0 : Kept bk s0 s) : Kept bk s0 (State.dropKind s kind) := by
  unfold State.dropKind
  first | exact h0 | (simp [h0]; done) | (((repeat' split) <;> simp [*]); done)

@[simp] theorem State.dispatch_kept {bk : Bool} {s0 : State} (s : State) (job : Job) (h0 : Kept bk s0 s) : Kept bk s0 (State.dispatch s job).1 := by
  unfold State.dispatch
  repeat' (first | with_reducible assumption | with_reducible apply State.endJob_kept | with_reducible apply State.boundary_kept | with_reducible apply State.markHead_kept | with_reducible apply State.dropKind_kept | with_reducible apply State.enqueue_kept | with_reducible apply kept_ite | with_reducible apply kept_ite_fst | (with_reducible refine foldl_kept _ _ ?_ ?_; (on_goal 1 => intro t a ht)) | (with_reducible refine foldl_kept_fst _ _ ?_ ?_; (on_goal 1 => intro t a ht)) | (intro t n ht) | (intro t ht) | (simp only [kept_mk, keepsF_fold]) | (rename_i heq; obtain rfl := congrArg (fun (p : State × _) => p.1) heq; clear heq) | split)

@[simp] theorem State.setCode_kept {bk : Bool} {s0 : State} (s : State) (part : Nat) (k : Nat) (code : Nat) (h0 : Kept bk s0 s) : Kept bk s0 (State.setCode s part k code) := by
  unfold State.setCode
  first | exact h0 | (simp [h0]; done) | (((repeat' split) <;> simp [*]); done)

@[simp] theorem State.touchLine_kept {bk : Bool} {s0 : State} (s : State) (p : Prog) (h0 : Kept bk s0 s) : Kept bk s0 (State.touchLine s p) := by
  unfold State.touchLine
  first | exact h0 | (simp [h0]; done) | (((repeat' split) <;> simp [*]); done)

@[simp] theorem State.checkWear_kept {bk : Bool} {s0 : State} (s : State) (h0 : Kept bk s0 s) : Kept bk s0 (State.checkWear s) := by
  unfold State.checkWear
  repeat' (first | with_reducible assumption | with_reducible apply State.raise_kept | with_reducible apply kept_ite | with_reducible apply kept_ite_fst | (with_reducible refine foldl_kept _ _ ?_ ?_; (on_goal 1 => intro t a ht)) | (with_reducible refine foldl_kept_fst _ _ ?_ ?_; (on_goal 1 => intro t a ht)) | (simp only [kept_mk, keepsF_fold]) | (rename_i heq; obtain rfl := congrArg (fun (p : State × _) => p.1) heq; clear heq) | split)

@[simp] theorem State.touchAll_kept {bk : Bool} {s0 : State} (s : State) (ls : List Prog) (h0 : Kept bk s0 s) : Kept bk s0 (State.touchAll s ls) := by
  unfold State.touchAll
  repeat' (first | with_reducible assumption | with_reducible apply State.checkWear_kept | with_reducible apply State.touchLine_kept | with_reducible apply kept_ite | with_reducible apply kept_ite_fst | (with_reducible refine foldl_kept _ _ ?_ ?_; (on_goal 1 => intro t a ht)) | (with_reducible refine foldl_kept_fst _ _ ?_ ?_; (on_goal 1 => intro t a ht)) | (simp only [kept_mk, keepsF_fold]) | (rename_i heq; obtain rfl := congrArg (fun (p : State × _) => p.1) heq; clear heq) | split)

@[simp] theorem State.takeFree_kept {bk : Bool} {s0 : State} (s : State) (code : Nat) (h0 : Kept bk s0 s) : Kept bk s0 (State.takeFree s code) := by
  unfold State.takeFree
  first | exact h0 | (simp [h0]; done) | (((repeat' split) <;> simp [*]); done)

@[simp] theorem State.giveFree_kept {bk : Bool} {s0 : State} (s : State) (code : Nat) (h0 : Kept bk s0 s) : Kept bk s0 (State.giveFree s code) := by
  unfold State.giveFree
  first | exact h0 | (simp [h0]; done) | (((repeat' split) <;> simp [*]); done)

@[simp] theorem State.modPart_kept {bk : Bool} {s0 : State} (s : State) (p : Nat) (f : Part → Part) (h0 : Kept bk s0 s) : Kept bk s0 (State.modPart s p f) := by
  unfold State.modPart
  first | exact h0 | (simp [h0]; done) | (((repeat' split) <;> simp [*]); done)

@[simp] theorem State.stampEpoch_kept {bk : Bool} {s0 : State} (s : State) (codes : List Nat) (epoch : Nat) (h0 : Kept bk s0 s) : Kept bk s0 (State.stampEpoch s codes epoch) := by
  unfold State.stampEpoch
  first | exact h0 | (simp [h0]; done) | (((repeat' split) <;> simp [*]); done)

@[simp] theorem State.tollWriteA_kept {bk : Bool} {s0 : State} (s : State) (c : Nat) (v : Nat) (h0 : Kept bk s0 s) : Kept bk s0 (State.tollWriteA s c v) := by
  unfold State.tollWriteA
  first | exact h0 | (simp [h0]; done) | (((repeat' split) <;> simp [*]); done)

@[simp] theorem State.tollWriteB_kept {bk : Bool} {s0 : State} (s : State) (c : Nat) (v : Nat) (h0 : Kept bk s0 s) : Kept bk s0 (State.tollWriteB s c v) := by
  unfold State.tollWriteB
  first | exact h0 | (simp [h0]; done) | (((repeat' split) <;> simp [*]); done)

@[simp] theorem State.tollMove_kept {bk : Bool} {s0 : State} (s : State) (c : Nat) (copyB : Bool) (v : Nat) (h0 : Kept bk s0 s) : Kept bk s0 (State.tollMove s c copyB v) := by
  unfold State.tollMove
  repeat' (first | with_reducible assumption | with_reducible apply State.raise_kept | with_reducible apply State.touchAll_kept | with_reducible apply kept_ite | with_reducible apply kept_ite_fst | (with_reducible refine foldl_kept _ _ ?_ ?_; (on_goal 1 => intro t a ht)) | (with_reducible refine foldl_kept_fst _ _ ?_ ?_; (on_goal 1 => intro t a ht)) | (simp only [kept_mk, keepsF_fold]) | (rename_i heq; obtain rfl := congrArg (fun (p : State × _) => p.1) heq; clear heq) | split)

@[simp] theorem State.tollAge_kept {bk : Bool} {s0 : State} (s : State) (c : Nat) (h0 : Kept bk s0 s) : Kept bk s0 (State.tollAge s c) := by
  unfold State.tollAge
  repeat' (first | with_reducible assumption | with_reducible apply State.tollMove_kept | with_reducible apply kept_ite | with_reducible apply kept_ite_fst | (with_reducible refine foldl_kept _ _ ?_ ?_; (on_goal 1 => intro t a ht)) | (with_reducible refine foldl_kept_fst _ _ ?_ ?_; (on_goal 1 => intro t a ht)) | (simp only [kept_mk, keepsF_fold]) | (rename_i heq; obtain rfl := congrArg (fun (p : State × _) => p.1) heq; clear heq) | split)

@[simp] theorem State.tollUpdate_kept {bk : Bool} {s0 : State} (s : State) (c : Nat) (v : Nat) (h0 : Kept bk s0 s) : Kept bk s0 (State.tollUpdate s c v) := by
  unfold State.tollUpdate
  repeat' (first | with_reducible assumption | with_reducible apply State.tollAge_kept | with_reducible apply State.tollWriteB_kept | with_reducible apply State.tollWriteA_kept | with_reducible apply kept_ite | with_reducible apply kept_ite_fst | (with_reducible refine foldl_kept _ _ ?_ ?_; (on_goal 1 => intro t a ht)) | (with_reducible refine foldl_kept_fst _ _ ?_ ?_; (on_goal 1 => intro t a ht)) | (simp only [kept_mk, keepsF_fold]) | (rename_i heq; obtain rfl := congrArg (fun (p : State × _) => p.1) heq; clear heq) | split)

@[simp] theorem State.strokeUpdate_kept {bk : Bool} {s0 : State} (s : State) (h0 : Kept bk s0 s) : Kept bk s0 (State.strokeUpdate s) := by
  unfold State.strokeUpdate
  repeat' (first | with_reducible assumption | with_reducible apply State.tollUpdate_kept | with_reducible apply kept_ite | with_reducible apply kept_ite_fst | (with_reducible refine foldl_kept _ _ ?_ ?_; (on_goal 1 => intro t a ht)) | (with_reducible refine foldl_kept_fst _ _ ?_ ?_; (on_goal 1 => intro t a ht)) | (simp only [kept_mk, keepsF_fold]) | (rename_i heq; obtain rfl := congrArg (fun (p : State × _) => p.1) heq; clear heq) | split)

@[simp] theorem State.keepAlive_kept {bk : Bool} {s0 : State} (s : State) (clean : Bool) (h0 : Kept bk s0 s) : Kept bk s0 (State.keepAlive s clean) := by
  unfold State.keepAlive
  first | exact h0 | (simp [h0]; done) | (((repeat' split) <;> simp [*]); done)

@[simp] theorem State.journal_kept {bk : Bool} {s0 : State} (s : State) (es : List Entry) (h0 : Kept bk s0 s) : Kept bk s0 (State.journal s es) := by
  unfold State.journal
  first | exact h0 | (simp [h0]; done) | (((repeat' split) <;> simp [*]); done)

@[simp] theorem State.stamp_kept {bk : Bool} {s0 : State} (s : State) (h0 : Kept bk s0 s) : Kept bk s0 (State.stamp s) := by
  unfold State.stamp
  first | exact h0 | (simp [h0]; done) | (((repeat' split) <;> simp [*]); done)

@[simp] theorem State.setSeq_kept {bk : Bool} {s0 : State} (s : State) (loc : Nat) (cls : Nat) (w : Word) (h0 : Kept bk s0 s) : Kept bk s0 (State.setSeq s loc cls w) := by
  unfold State.setSeq
  first | exact h0 | (simp [h0]; done) | (((repeat' split) <;> simp [*]); done)

@[simp] theorem State.reserveAt_kept {bk : Bool} {s0 : State} (s : State) (p : Nat) (first : Nat) (n : Nat) (h0 : Kept bk s0 s) : Kept bk s0 (State.reserveAt s p first n).1 := by
  unfold State.reserveAt
  first | exact h0 | (simp [h0]; done) | (((repeat' split) <;> simp [*]); done)

@[simp] theorem State.enterExtent_kept {bk : Bool} {s0 : State} (s : State) (p : Nat) (stroke : Nat) (k : Nat) (code : Nat) (h0 : Kept bk s0 s) : Kept bk s0 (State.enterExtent s p stroke k code) := by
  unfold State.enterExtent
  repeat' (first | with_reducible assumption | with_reducible apply State.setCode_kept | with_reducible apply State.giveFree_kept | with_reducible apply State.takeFree_kept | with_reducible apply State.modPart_kept | with_reducible apply kept_ite | with_reducible apply kept_ite_fst | (with_reducible refine foldl_kept _ _ ?_ ?_; (on_goal 1 => intro t a ht)) | (with_reducible refine foldl_kept_fst _ _ ?_ ?_; (on_goal 1 => intro t a ht)) | (simp only [kept_mk, keepsF_fold]) | (rename_i heq; obtain rfl := congrArg (fun (p : State × _) => p.1) heq; clear heq) | split)

@[simp] theorem State.enterExtents_kept {bk : Bool} {s0 : State} (s : State) (p : Nat) (stroke : Nat) (news : List (Nat × Nat)) (h0 : Kept bk s0 s) : Kept bk s0 (State.enterExtents s p stroke news) := by
  unfold State.enterExtents
  repeat' (first | with_reducible assumption | with_reducible apply State.enterExtent_kept | with_reducible apply kept_ite | with_reducible apply kept_ite_fst | (with_reducible refine foldl_kept _ _ ?_ ?_; (on_goal 1 => intro t a ht)) | (with_reducible refine foldl_kept_fst _ _ ?_ ?_; (on_goal 1 => intro t a ht)) | (simp only [kept_mk, keepsF_fold]) | (rename_i heq; obtain rfl := congrArg (fun (p : State × _) => p.1) heq; clear heq) | split)

@[simp] theorem State.redeem_kept {bk : Bool} {s0 : State} (s : State) (p : Nat) (h0 : Kept bk s0 s) : Kept bk s0 (State.redeem s p) := by
  unfold State.redeem
  first | exact h0 | (simp [h0]; done) | (((repeat' split) <;> simp [*]); done)

@[simp] theorem State.claimAt_kept {bk : Bool} {s0 : State} (s : State) (p : Nat) (first : Nat) (n : Nat) (h0 : Kept bk s0 s) : Kept bk s0 (State.claimAt s p first n).1 := by
  unfold State.claimAt
  repeat' (first | with_reducible assumption | with_reducible apply State.reserveAt_kept | with_reducible apply State.redeem_kept | with_reducible apply kept_ite | with_reducible apply kept_ite_fst | (with_reducible refine foldl_kept _ _ ?_ ?_; (on_goal 1 => intro t a ht)) | (with_reducible refine foldl_kept_fst _ _ ?_ ?_; (on_goal 1 => intro t a ht)) | (intro t n ht) | (intro t ht) | (simp only [kept_mk, keepsF_fold]) | (rename_i heq; obtain rfl := congrArg (fun (p : State × _) => p.1) heq; clear heq) | split)

@[simp] theorem State.moveRec_kept {bk : Bool} {s0 : State} (s : State) (p : Nat) (r : Stored) (h0 : Kept bk s0 s) : Kept bk s0 (State.moveRec s p r) := by
  unfold State.moveRec
  repeat' (first | with_reducible assumption | with_reducible apply State.claimAt_kept | with_reducible apply State.touchAll_kept | with_reducible apply State.enterExtents_kept | with_reducible apply State.modPart_kept | with_reducible apply State.journal_kept | with_reducible apply kept_ite | with_reducible apply kept_ite_fst | (with_reducible refine foldl_kept _ _ ?_ ?_; (on_goal 1 => intro t a ht)) | (with_reducible refine foldl_kept_fst _ _ ?_ ?_; (on_goal 1 => intro t a ht)) | (intro t n ht) | (intro t ht) | (simp only [kept_mk, keepsF_fold]) | (rename_i heq; obtain rfl := congrArg (fun (p : State × _) => p.1) heq; clear heq) | split)

@[simp] theorem State.compactOnce_kept {bk : Bool} {s0 : State} (s : State) (p : Nat) (h0 : Kept bk s0 s) : Kept bk s0 (State.compactOnce s p) := by
  unfold State.compactOnce
  repeat' (first | with_reducible assumption | with_reducible apply State.modPart_kept | with_reducible apply State.moveRec_kept | with_reducible apply State.setCode_kept | with_reducible apply State.giveFree_kept | with_reducible apply kept_ite | with_reducible apply kept_ite_fst | (with_reducible refine foldl_kept _ _ ?_ ?_; (on_goal 1 => intro t a ht)) | (with_reducible refine foldl_kept_fst _ _ ?_ ?_; (on_goal 1 => intro t a ht)) | (simp only [kept_mk, keepsF_fold]) | (rename_i heq; obtain rfl := congrArg (fun (p : State × _) => p.1) heq; clear heq) | split)

@[simp] theorem State.compact_kept {bk : Bool} {s0 : State} (s : State) (p : Nat) (need : Nat) (fuel : Nat) (h0 : Kept bk s0 s) : Kept bk s0 (State.compact s p need fuel) := by
  induction fuel generalizing s p need with
  | zero => exact h0
  | succ fuel ih =>
  unfold State.compact
  repeat' (first | with_reducible assumption | with_reducible apply ih | with_reducible apply State.compactOnce_kept | with_reducible apply kept_ite | with_reducible apply kept_ite_fst | (with_reducible refine foldl_kept _ _ ?_ ?_; (on_goal 1 => intro t a ht)) | (with_reducible refine foldl_kept_fst _ _ ?_ ?_; (on_goal 1 => intro t a ht)) | (intro t n ht) | (intro t ht) | (simp only [kept_mk, keepsF_fold]) | (rename_i heq; obtain rfl := congrArg (fun (p : State × _) => p.1) heq; clear heq) | split | (intro x; clear_value x; fail_if_success (have := State.rf x)) | lift_lets)

@[simp] theorem State.roomAtHead_kept {bk : Bool} {s0 : State} (s : State) (p : Nat) (n : Nat) (h0 : Kept bk s0 s) : Kept bk s0 (State.roomAtHead s p n) := by
  unfold State.roomAtHead
  repeat' (first | with_reducible assumption | with_reducible apply State.compact_kept | with_reducible apply kept_ite | with_reducible apply kept_ite_fst | (with_reducible refine foldl_kept _ _ ?_ ?_; (on_goal 1 => intro t a ht)) | (with_reducible refine foldl_kept_fst _ _ ?_ ?_; (on_goal 1 => intro t a ht)) | (intro t n ht) | (intro t ht) | (simp only [kept_mk, keepsF_fold]) | (rename_i heq; obtain rfl := congrArg (fun (p : State × _) => p.1) heq; clear heq) | split)

@[simp] theorem State.allocate_kept {bk : Bool} {s0 : State} (s : State) (r : Rec) (hook : Hook) (runAhead : Bool) (checked : Bool) (slot : Nat) (place : Nat) (credits : Option (Cls × Nat)) (openFrame : Option Cls) (prevExp : Option (Option Word)) (h0 : Kept bk s0 s) : Kept bk s0 (State.allocate s r hook runAhead checked slot place credits openFrame prevExp) := by
  unfold State.allocate
  repeat' (first | with_reducible assumption | with_reducible apply State.roomAtHead_kept | with_reducible apply State.reserveAt_kept | with_reducible apply State.modPart_kept | with_reducible apply kept_ite | with_reducible apply kept_ite_fst | (with_reducible refine foldl_kept _ _ ?_ ?_; (on_goal 1 => intro t a ht)) | (with_reducible refine foldl_kept_fst _ _ ?_ ?_; (on_goal 1 => intro t a ht)) | (intro t n ht) | (intro t ht) | (simp only [kept_mk, keepsF_fold]) | (rename_i heq; obtain rfl := congrArg (fun (p : State × _) => p.1) heq; clear heq) | split)

@[simp] theorem State.setStream_kept {bk : Bool} {s0 : State} (s : State) (src : BitVec 16) (cls : Nat) (w : Word) (h0 : Kept bk s0 s) : Kept bk s0 (State.setStream s src cls w) := by
  unfold State.setStream
  first | exact h0 | (simp [h0]; done) | (((repeat' split) <;> simp [*]); done)

@[simp] theorem State.restoreStream_kept {bk : Bool} {s0 : State} (s : State) (src : BitVec 16) (cls : Nat) (prev : Option Word) (h0 : Kept bk s0 s) : Kept bk s0 (State.restoreStream s src cls prev) := by
  unfold State.restoreStream
  first | exact h0 | (simp [h0]; done) | (((repeat' split) <;> simp [*]); done)

@[simp] theorem State.placeOwn_kept {bk : Bool} {s0 : State} (s : State) (r : Rec) (hook : Hook) (runAhead : Bool) (checked : Bool) (slot : Nat) (place : Nat) (openFrame : Option Cls) (h0 : Kept bk s0 s) : Kept bk s0 (State.placeOwn s r hook runAhead checked slot place openFrame) := by
  unfold State.placeOwn
  repeat' (first | with_reducible assumption | with_reducible apply State.setStream_kept | with_reducible apply State.setSeq_kept | with_reducible apply State.allocate_kept | with_reducible apply kept_ite | with_reducible apply kept_ite_fst | (with_reducible refine foldl_kept _ _ ?_ ?_; (on_goal 1 => intro t a ht)) | (with_reducible refine foldl_kept_fst _ _ ?_ ?_; (on_goal 1 => intro t a ht)) | (simp only [kept_mk, keepsF_fold]) | (rename_i heq; obtain rfl := congrArg (fun (p : State × _) => p.1) heq; clear heq) | split)

@[simp] theorem State.closeZero_kept {bk : Bool} {s0 : State} (s : State) (part : Nat) (checked : Bool) (h0 : Kept bk s0 s) : Kept bk s0 (State.closeZero s part checked) := by
  unfold State.closeZero
  first | exact h0 | (simp [h0]; done) | (((repeat' split) <;> simp [*]); done)

@[simp] theorem State.gapAhead_kept {bk : Bool} {s0 : State} (s : State) (src : BitVec 16) (cls : Nat) (part : Nat) (g : Word × Word) (checked : Bool) (h0 : Kept bk s0 s) : Kept bk s0 (State.gapAhead s src cls part g checked) := by
  unfold State.gapAhead
  repeat' (first | with_reducible assumption | with_reducible apply State.closeZero_kept | with_reducible apply State.placeOwn_kept | with_reducible apply State.stamp_kept | with_reducible apply kept_ite | with_reducible apply kept_ite_fst | (with_reducible refine foldl_kept _ _ ?_ ?_; (on_goal 1 => intro t a ht)) | (with_reducible refine foldl_kept_fst _ _ ?_ ?_; (on_goal 1 => intro t a ht)) | (simp only [kept_mk, keepsF_fold]) | (rename_i heq; obtain rfl := congrArg (fun (p : State × _) => p.1) heq; clear heq) | split)

@[simp] theorem State.passOwn_kept {bk : Bool} {s0 : State} (s : State) (r : Rec) (hook : Hook) (runAhead : Bool) (checked : Bool) (slot : Nat) (place : Nat) (openFrame : Option Cls) (h0 : Kept bk s0 s) : Kept bk s0 (State.passOwn s r hook runAhead checked slot place openFrame) := by
  unfold State.passOwn
  repeat' (first | with_reducible assumption | with_reducible apply State.closeZero_kept | with_reducible apply State.gapAhead_kept | with_reducible apply State.placeOwn_kept | with_reducible apply kept_ite | with_reducible apply kept_ite_fst | (with_reducible refine foldl_kept _ _ ?_ ?_; (on_goal 1 => intro t a ht)) | (with_reducible refine foldl_kept_fst _ _ ?_ ?_; (on_goal 1 => intro t a ht)) | (simp only [kept_mk, keepsF_fold]) | (rename_i heq; obtain rfl := congrArg (fun (p : State × _) => p.1) heq; clear heq) | split)

@[simp] theorem State.admitInternal_kept {bk : Bool} {s0 : State} (s : State) (r : Rec) (hook : Hook) (h0 : Kept bk s0 s) : Kept bk s0 (State.admitInternal s r hook) := by
  unfold State.admitInternal
  first | exact h0 | (simp [h0]; done) | (((repeat' split) <;> simp [*]); done)

@[simp] theorem State.createCls_kept {bk : Bool} {s0 : State} (s : State) (loc : Nat) (cls : Nat) (typ : Byte) (extra : Byte) (payload : List Byte) (hook : Hook) (h0 : Kept bk s0 s) : Kept bk s0 (State.createCls s loc cls typ extra payload hook) := by
  unfold State.createCls
  repeat' (first | with_reducible assumption | with_reducible apply State.admitInternal_kept | with_reducible apply State.useSeq_kept | with_reducible apply State.stamp_kept | with_reducible apply kept_ite | with_reducible apply kept_ite_fst | (with_reducible refine foldl_kept _ _ ?_ ?_; (on_goal 1 => intro t a ht)) | (with_reducible refine foldl_kept_fst _ _ ?_ ?_; (on_goal 1 => intro t a ht)) | (simp only [kept_mk, keepsF_fold]) | (rename_i heq; obtain rfl := congrArg (fun (p : State × _) => p.1) heq; clear heq) | split)

@[simp] theorem State.create_kept {bk : Bool} {s0 : State} (s : State) (loc : Nat) (typ : Byte) (payload : List Byte) (hook : Hook) (h0 : Kept bk s0 s) : Kept bk s0 (State.create s loc typ payload hook) := by
  unfold State.create
  first | exact h0 | (simp [h0]; done) | (((repeat' split) <;> simp [*]); done)

@[simp] theorem State.audit_kept {bk : Bool} {s0 : State} (s : State) (loc : Nat) (code : Nat) (actor : BitVec 16) (iface : Nat) (obj : Nat) (detail : List Byte) (h0 : Kept bk s0 s) : Kept bk s0 (State.audit s loc code actor iface obj detail) := by
  unfold State.audit
  first | exact h0 | (simp [h0]; done) | (((repeat' split) <;> simp [*]); done)

@[simp] theorem State.auditSelf_kept {bk : Bool} {s0 : State} (s : State) (loc : Nat) (code : Nat) (obj : Nat) (detail : List Byte) (h0 : Kept bk s0 s) : Kept bk s0 (State.auditSelf s loc code obj detail) := by
  unfold State.auditSelf
  first | exact h0 | (simp [h0]; done) | (((repeat' split) <;> simp [*]); done)

@[simp] theorem State.drainWait_kept {bk : Bool} {s0 : State} (s : State) (fuel : Nat) (h0 : Kept bk s0 s) : Kept bk s0 (State.drainWait s fuel) := by
  induction fuel generalizing s with
  | zero => exact h0
  | succ fuel ih =>
  unfold State.drainWait
  repeat' (first | with_reducible assumption | with_reducible apply ih | with_reducible apply State.passOwn_kept | with_reducible apply kept_ite | with_reducible apply kept_ite_fst | (with_reducible refine foldl_kept _ _ ?_ ?_; (on_goal 1 => intro t a ht)) | (with_reducible refine foldl_kept_fst _ _ ?_ ?_; (on_goal 1 => intro t a ht)) | (intro t n ht) | (intro t ht) | (simp only [kept_mk, keepsF_fold]) | (rename_i heq; obtain rfl := congrArg (fun (p : State × _) => p.1) heq; clear heq) | split | (intro x; clear_value x; fail_if_success (have := State.rf x)) | lift_lets)

@[simp] theorem State.drain_kept {bk : Bool} {s0 : State} (s : State) (h0 : Kept bk s0 s) : Kept bk s0 (State.drain s) := by
  unfold State.drain
  first | exact h0 | (simp [h0]; done) | (((repeat' split) <;> simp [*]); done)

@[simp] theorem State.gap_kept {bk : Bool} {s0 : State} (s : State) (src : BitVec 16) (cls : Nat) (reason : Nat) (part : Nat) (ranges : List (Word × Word)) (h0 : Kept bk s0 s) : Kept bk s0 (State.gap s src cls reason part ranges) := by
  unfold State.gap
  repeat' (first | with_reducible assumption | with_reducible apply State.admitInternal_kept | with_reducible apply State.useSeq_kept | with_reducible apply State.stamp_kept | with_reducible apply kept_ite | with_reducible apply kept_ite_fst | (with_reducible refine foldl_kept _ _ ?_ ?_; (on_goal 1 => intro t a ht)) | (with_reducible refine foldl_kept_fst _ _ ?_ ?_; (on_goal 1 => intro t a ht)) | (simp only [kept_mk, keepsF_fold]) | (rename_i heq; obtain rfl := congrArg (fun (p : State × _) => p.1) heq; clear heq) | split)

@[simp] theorem State.accept_kept {bk : Bool} {s0 : State} (s : State) (src : BitVec 16) (cls : Nat) (typ : Byte) (extra : Byte) (seq : Word) (ssn : Word) (payload : List Byte) (hook : Hook) (runAhead : Bool) (checked : Bool) (credits : Option (Cls × Nat)) (openFrame : Option Cls) (h0 : Kept bk s0 s) : Kept bk s0 (State.accept s src cls typ extra seq ssn payload hook runAhead checked credits openFrame) := by
  unfold State.accept
  repeat' (first | with_reducible assumption | with_reducible apply State.count_kept | with_reducible apply State.gapAhead_kept | with_reducible apply State.setStream_kept | with_reducible apply State.stamp_kept | with_reducible apply State.setSeq_kept | with_reducible apply State.allocate_kept | with_reducible apply kept_ite | with_reducible apply kept_ite_fst | (with_reducible refine foldl_kept _ _ ?_ ?_; (on_goal 1 => intro t a ht)) | (with_reducible refine foldl_kept_fst _ _ ?_ ?_; (on_goal 1 => intro t a ht)) | (intro t n ht) | (intro t ht) | (simp only [kept_mk, keepsF_fold]) | (rename_i heq; obtain rfl := congrArg (fun (p : State × _) => p.1) heq; clear heq) | split)

@[simp] theorem State.reseal_kept {bk : Bool} {s0 : State} (s : State) (h0 : Kept bk s0 s) : Kept bk s0 (State.reseal s) := by
  unfold State.reseal
  first | exact h0 | (simp [h0]; done) | (((repeat' split) <;> simp [*]); done)

@[simp] theorem State.resealAgain_kept {bk : Bool} {s0 : State} (s : State) (h0 : Kept bk s0 s) : Kept bk s0 (State.resealAgain s) := by
  unfold State.resealAgain
  first | exact h0 | (simp [h0]; done) | (((repeat' split) <;> simp [*]); done)

@[simp] theorem State.vacate_kept {bk : Bool} {s0 : State} (s : State) (part : Nat) (sector : Nat) (n : Nat) (line : List Prog) (h0 : Kept bk s0 s) : Kept bk s0 (State.vacate s part sector n line) := by
  unfold State.vacate
  repeat' (first | with_reducible assumption | with_reducible apply State.modPart_kept | with_reducible apply State.touchAll_kept | with_reducible apply kept_ite | with_reducible apply kept_ite_fst | (with_reducible refine foldl_kept _ _ ?_ ?_; (on_goal 1 => intro t a ht)) | (with_reducible refine foldl_kept_fst _ _ ?_ ?_; (on_goal 1 => intro t a ht)) | (intro t n ht) | (intro t ht) | (simp only [kept_mk, keepsF_fold]) | (rename_i heq; obtain rfl := congrArg (fun (p : State × _) => p.1) heq; clear heq) | split)

@[simp] theorem State.undoRec_kept {bk : Bool} {s0 : State} (s : State) (was : PipeRec) (h0 : Kept bk s0 s) : Kept bk s0 (State.undoRec s was) := by
  unfold State.undoRec
  repeat' (first | with_reducible assumption | with_reducible apply State.vacate_kept | with_reducible apply State.restoreStream_kept | with_reducible apply State.setSeq_kept | with_reducible apply State.touchAll_kept | with_reducible apply State.reseal_kept | with_reducible apply kept_ite | with_reducible apply kept_ite_fst | (with_reducible refine foldl_kept _ _ ?_ ?_; (on_goal 1 => intro t a ht)) | (with_reducible refine foldl_kept_fst _ _ ?_ ?_; (on_goal 1 => intro t a ht)) | (intro t n ht) | (intro t ht) | (simp only [kept_mk, keepsF_fold]) | (rename_i heq; obtain rfl := congrArg (fun (p : State × _) => p.1) heq; clear heq) | split)

@[simp] theorem State.abandon_kept {bk : Bool} {s0 : State} (s : State) (p : PipeRec) (h0 : Kept bk s0 s) : Kept bk s0 (State.abandon s p) := by
  unfold State.abandon
  repeat' (first | with_reducible assumption | with_reducible apply State.count_kept | with_reducible apply State.undoRec_kept | with_reducible apply kept_ite | with_reducible apply kept_ite_fst | (with_reducible refine foldl_kept _ _ ?_ ?_; (on_goal 1 => intro t a ht)) | (with_reducible refine foldl_kept_fst _ _ ?_ ?_; (on_goal 1 => intro t a ht)) | (intro t n ht) | (intro t ht) | (simp only [kept_mk, keepsF_fold]) | (rename_i heq; obtain rfl := congrArg (fun (p : State × _) => p.1) heq; clear heq) | split)

@[simp] theorem State.freeLeads_kept {bk : Bool} {s0 : State} (s : State) (p : PipeRec) (h0 : Kept bk s0 s) : Kept bk s0 (State.freeLeads s p) := by
  unfold State.freeLeads
  repeat' (first | with_reducible assumption | with_reducible apply kept_ite | with_reducible apply kept_ite_fst | (with_reducible refine foldl_kept _ _ ?_ ?_; (on_goal 1 => intro t a ht)) | (with_reducible refine foldl_kept_fst _ _ ?_ ?_; (on_goal 1 => intro t a ht)) | (intro t n ht) | (intro t ht) | (simp only [kept_mk, keepsF_fold]) | (rename_i heq; obtain rfl := congrArg (fun (p : State × _) => p.1) heq; clear heq) | split)

@[simp] theorem State.undoLeads_kept {bk : Bool} {s0 : State} (s : State) (gs : List PipeRec) (h0 : Kept bk s0 s) : Kept bk s0 (State.undoLeads s gs) := by
  unfold State.undoLeads
  repeat' (first | with_reducible assumption | with_reducible apply State.undoRec_kept | with_reducible apply State.setSeq_kept | with_reducible apply kept_ite | with_reducible apply kept_ite_fst | (with_reducible refine foldl_kept _ _ ?_ ?_; (on_goal 1 => intro t a ht)) | (with_reducible refine foldl_kept_fst _ _ ?_ ?_; (on_goal 1 => intro t a ht)) | (intro t n ht) | (intro t ht) | (simp only [kept_mk, keepsF_fold]) | (rename_i heq; obtain rfl := congrArg (fun (p : State × _) => p.1) heq; clear heq) | split)

@[simp] theorem State.sealNext_kept {bk : Bool} {s0 : State} (s : State) (h0 : Kept bk s0 s) : Kept bk s0 (State.sealNext s) := by
  unfold State.sealNext
  first | exact h0 | (simp [h0]; done) | (((repeat' split) <;> simp [*]); done)

@[simp] theorem State.addRec_kept {bk : Bool} {s0 : State} (s : State) (r : Rec) (sector : Nat) (slot : Nat) (h0 : Kept bk s0 s) : Kept bk s0 (State.addRec s r sector slot) := by
  unfold State.addRec
  first | exact h0 | (simp [h0]; done) | (((repeat' split) <;> simp [*]); done)

@[simp] theorem State.commitOne_kept {bk : Bool} {s0 : State} (s : State) (p : PipeRec) (h0 : Kept bk s0 s) : Kept bk s0 (State.commitOne s p) := by
  unfold State.commitOne
  repeat' (first | with_reducible assumption | with_reducible apply State.enterExtents_kept | with_reducible apply State.addRec_kept | with_reducible apply State.modPart_kept | with_reducible apply kept_ite | with_reducible apply kept_ite_fst | (with_reducible refine foldl_kept _ _ ?_ ?_; (on_goal 1 => intro t a ht)) | (with_reducible refine foldl_kept_fst _ _ ?_ ?_; (on_goal 1 => intro t a ht)) | (simp only [kept_mk, keepsF_fold]) | (rename_i heq; obtain rfl := congrArg (fun (p : State × _) => p.1) heq; clear heq) | split)

@[simp] theorem State.advance_kept {bk : Bool} {s0 : State} (s : State) (n : Nat) (h0 : Kept bk s0 s) : Kept bk s0 (State.advance s n) := by
  unfold State.advance
  exact setShadow_keeps h0 (fun hb hs => le_trans ((h0.2.2.2 hb).1 hs) (Nat.le_add_right _ _))

@[simp] theorem State.commitGroup_kept {bk : Bool} {s0 : State} (s : State) (g : List PipeRec) (h0 : Kept bk s0 s) : Kept bk s0 (State.commitGroup s g) := by
  unfold State.commitGroup
  repeat' (first | with_reducible assumption | with_reducible apply State.journal_kept | with_reducible apply State.advance_kept | with_reducible apply State.commitOne_kept | with_reducible apply kept_ite | with_reducible apply kept_ite_fst | (with_reducible refine foldl_kept _ _ ?_ ?_; (on_goal 1 => intro t a ht)) | (with_reducible refine foldl_kept_fst _ _ ?_ ?_; (on_goal 1 => intro t a ht)) | (simp only [kept_mk, keepsF_fold]) | (rename_i heq; obtain rfl := congrArg (fun (p : State × _) => p.1) heq; clear heq) | split)

@[simp] theorem State.takeForMirror_kept {bk : Bool} {s0 : State} (s : State) (r : Rec) (h0 : Kept bk s0 s) : Kept bk s0 (State.takeForMirror s r) := by
  unfold State.takeForMirror
  first | exact h0 | (simp [h0]; done) | (((repeat' split) <;> simp [*]); done)

@[simp] theorem State.commitNow_kept {bk : Bool} {s0 : State} (s : State) (r : Rec) (sector : Nat) (news : List (Nat × Nat)) (h0 : Kept bk s0 s) : Kept bk s0 (State.commitNow s r sector news) := by
  unfold State.commitNow
  repeat' (first | with_reducible assumption | with_reducible apply State.journal_kept | with_reducible apply State.advance_kept | with_reducible apply State.enterExtents_kept | with_reducible apply State.addRec_kept | with_reducible apply State.modPart_kept | with_reducible apply State.takeForMirror_kept | with_reducible apply kept_ite | with_reducible apply kept_ite_fst | (with_reducible refine foldl_kept _ _ ?_ ?_; (on_goal 1 => intro t a ht)) | (with_reducible refine foldl_kept_fst _ _ ?_ ?_; (on_goal 1 => intro t a ht)) | (simp only [kept_mk, keepsF_fold]) | (rename_i heq; obtain rfl := congrArg (fun (p : State × _) => p.1) heq; clear heq) | split)

@[simp] theorem State.numberNow_kept {bk : Bool} {s0 : State} (s : State) (r : Rec) (h0 : Kept bk s0 s) : Kept bk s0 (State.numberNow s r).1 := by
  unfold State.numberNow
  repeat' (first | with_reducible assumption | with_reducible apply State.setSeq_kept | with_reducible apply State.setStream_kept | with_reducible apply kept_ite | with_reducible apply kept_ite_fst | (with_reducible refine foldl_kept _ _ ?_ ?_; (on_goal 1 => intro t a ht)) | (with_reducible refine foldl_kept_fst _ _ ?_ ?_; (on_goal 1 => intro t a ht)) | (simp only [kept_mk, keepsF_fold]) | (rename_i heq; obtain rfl := congrArg (fun (p : State × _) => p.1) heq; clear heq) | split)

@[simp] theorem State.commitAtHead_kept {bk : Bool} {s0 : State} (s : State) (r : Rec) (h0 : Kept bk s0 s) : Kept bk s0 (State.commitAtHead s r) := by
  unfold State.commitAtHead
  repeat' (first | with_reducible assumption | with_reducible apply State.roomAtHead_kept | with_reducible apply State.claimAt_kept | with_reducible apply State.touchAll_kept | with_reducible apply State.modPart_kept | with_reducible apply State.resealAgain_kept | with_reducible apply State.commitNow_kept | with_reducible apply kept_ite | with_reducible apply kept_ite_fst | (with_reducible refine foldl_kept _ _ ?_ ?_; (on_goal 1 => intro t a ht)) | (with_reducible refine foldl_kept_fst _ _ ?_ ?_; (on_goal 1 => intro t a ht)) | (intro t n ht) | (intro t ht) | (simp only [kept_mk, keepsF_fold]) | (rename_i heq; obtain rfl := congrArg (fun (p : State × _) => p.1) heq; clear heq) | split)

@[simp] theorem State.commitHere_kept {bk : Bool} {s0 : State} (s : State) (r : Rec) (h0 : Kept bk s0 s) : Kept bk s0 (State.commitHere s r) := by
  unfold State.commitHere
  first | exact h0 | (simp [h0]; done) | (((repeat' split) <;> simp [*]); done)

@[simp] theorem State.zeroNow_kept {bk : Bool} {s0 : State} (s : State) (part : Nat) (h0 : Kept bk s0 s) : Kept bk s0 (State.zeroNow s part) := by
  unfold State.zeroNow
  first | exact h0 | (simp [h0]; done) | (((repeat' split) <;> simp [*]); done)

@[simp] theorem State.createNow_kept {bk : Bool} {s0 : State} (s : State) (loc : Nat) (typ : Byte) (payload : List Byte) (h0 : Kept bk s0 s) : Kept bk s0 (State.createNow s loc typ payload) := by
  unfold State.createNow
  repeat' (first | with_reducible assumption | with_reducible apply State.zeroNow_kept | with_reducible apply State.commitHere_kept | with_reducible apply State.stamp_kept | with_reducible apply kept_ite | with_reducible apply kept_ite_fst | (with_reducible refine foldl_kept _ _ ?_ ?_; (on_goal 1 => intro t a ht)) | (with_reducible refine foldl_kept_fst _ _ ?_ ?_; (on_goal 1 => intro t a ht)) | (simp only [kept_mk, keepsF_fold]) | (rename_i heq; obtain rfl := congrArg (fun (p : State × _) => p.1) heq; clear heq) | split)

@[simp] theorem State.laterSeq_kept {bk : Bool} {s0 : State} (s : State) (loc : Nat) (cls : Nat) (w : Word) (h0 : Kept bk s0 s) : Kept bk s0 (State.laterSeq s loc cls w) := by
  unfold State.laterSeq
  first | exact h0 | (simp [h0]; done) | (((repeat' split) <;> simp [*]); done)

@[simp] theorem State.dropVoids_kept {bk : Bool} {s0 : State} (s : State) (at0 : Nat) (n : Nat) (h0 : Kept bk s0 s) : Kept bk s0 (State.dropVoids s at0 n) := by
  unfold State.dropVoids
  first | exact h0 | (simp [h0]; done) | (((repeat' split) <;> simp [*]); done)

@[simp] theorem State.skipVoid_kept {bk : Bool} {s0 : State} (s : State) (off : Nat) (h0 : Kept bk s0 s) : Kept bk s0 (State.skipVoid s off) := by
  unfold State.skipVoid
  first | exact h0 | (simp [h0]; done) | (((repeat' split) <;> simp [*]); done)

@[simp] theorem State.commitSet_kept {bk : Bool} {s0 : State} (s : State) (off : Nat) (first : Bool) (payloads : List (List Byte)) (strokes : List Nat) (h0 : Kept bk s0 s) : Kept bk s0 (State.commitSet s off first payloads strokes).1 := by
  induction payloads generalizing s off first strokes with
  | nil => exact h0
  | cons a l ih =>
  unfold State.commitSet
  repeat' (first | with_reducible assumption | with_reducible apply ih | with_reducible apply State.commitNow_kept | with_reducible apply State.touchAll_kept | with_reducible apply State.stamp_kept | with_reducible apply State.numberNow_kept | with_reducible apply State.dropVoids_kept | with_reducible apply State.skipVoid_kept | with_reducible apply kept_ite | with_reducible apply kept_ite_fst | (with_reducible refine foldl_kept _ _ ?_ ?_; (on_goal 1 => intro t a ht)) | (with_reducible refine foldl_kept_fst _ _ ?_ ?_; (on_goal 1 => intro t a ht)) | (intro t n ht) | (intro t ht) | (simp only [kept_mk, keepsF_fold]) | (rename_i heq; obtain rfl := congrArg (fun (p : State × _) => p.1) heq; clear heq) | split | (intro x; clear_value x; fail_if_success (have := State.rf x)) | lift_lets)

@[simp] theorem State.swapIndex_kept {bk : Bool} {s0 : State} (s : State) (k : Nat) (stroke : Nat) (h0 : Kept bk s0 s) : Kept bk s0 (State.swapIndex s k stroke) := by
  unfold State.swapIndex
  repeat' (first | with_reducible assumption | with_reducible apply State.journal_kept | with_reducible apply State.stampEpoch_kept | with_reducible apply State.setCode_kept | with_reducible apply State.giveFree_kept | with_reducible apply State.takeFree_kept | with_reducible apply kept_ite | with_reducible apply kept_ite_fst | (with_reducible refine foldl_kept _ _ ?_ ?_; (on_goal 1 => intro t a ht)) | (with_reducible refine foldl_kept_fst _ _ ?_ ?_; (on_goal 1 => intro t a ht)) | (simp only [kept_mk, keepsF_fold]) | (rename_i heq; obtain rfl := congrArg (fun (p : State × _) => p.1) heq; clear heq) | split)

@[simp] theorem State.takeCkpt_kept {bk : Bool} {s0 : State} (s : State) (h0 : Kept bk s0 s) : Kept bk s0 (State.takeCkpt s) := by
  unfold State.takeCkpt
  repeat' (first | with_reducible assumption | with_reducible apply State.zeroNow_kept | with_reducible apply State.boundary_kept | with_reducible apply State.swapIndex_kept | with_reducible apply State.tollWriteA_kept | with_reducible apply State.commitSet_kept | with_reducible apply State.strokeUpdate_kept | with_reducible apply State.tollAge_kept | with_reducible apply State.tollWriteB_kept | with_reducible apply State.resealAgain_kept | with_reducible apply State.raise_kept | with_reducible apply kept_ite | with_reducible apply kept_ite_fst | (with_reducible refine foldl_kept _ _ ?_ ?_; (on_goal 1 => intro t a ht)) | (with_reducible refine foldl_kept_fst _ _ ?_ ?_; (on_goal 1 => intro t a ht)) | (simp only [kept_mk, keepsF_fold]) | (rename_i heq; obtain rfl := congrArg (fun (p : State × _) => p.1) heq; clear heq) | split)

@[simp] theorem State.effCheckpoint_kept {bk : Bool} {s0 : State} (s : State) (h0 : Kept bk s0 s) : Kept bk s0 (State.effCheckpoint s) := by
  unfold State.effCheckpoint
  repeat' (first | with_reducible assumption | with_reducible apply State.takeCkpt_kept | with_reducible apply State.endJob_kept | with_reducible apply State.boundary_kept | with_reducible apply State.wakeDoms_kept | with_reducible apply State.dropKind_kept | with_reducible apply State.enqueue_kept | with_reducible apply kept_ite | with_reducible apply kept_ite_fst | (with_reducible refine foldl_kept _ _ ?_ ?_; (on_goal 1 => intro t a ht)) | (with_reducible refine foldl_kept_fst _ _ ?_ ?_; (on_goal 1 => intro t a ht)) | (intro t n ht) | (intro t ht) | (simp only [kept_mk, keepsF_fold]) | (rename_i heq; obtain rfl := congrArg (fun (p : State × _) => p.1) heq; clear heq) | split)

@[simp] theorem State.effCheckpointInterval_kept {bk : Bool} {s0 : State} (s : State) (h0 : Kept bk s0 s) : Kept bk s0 (State.effCheckpointInterval s) := by
  unfold State.effCheckpointInterval
  first | exact h0 | (simp [h0]; done) | (((repeat' split) <;> simp [*]); done)

@[simp] theorem State.effCheckpointEntryCount_kept {bk : Bool} {s0 : State} (s : State) (h0 : Kept bk s0 s) : Kept bk s0 (State.effCheckpointEntryCount s) := by
  unfold State.effCheckpointEntryCount
  first | exact h0 | (simp [h0]; done) | (((repeat' split) <;> simp [*]); done)

@[simp] theorem State.requestCkpt_kept {bk : Bool} {s0 : State} (s : State) (h0 : Kept bk s0 s) : Kept bk s0 (State.requestCkpt s) := by
  unfold State.requestCkpt
  first | exact h0 | (simp [h0]; done) | (((repeat' split) <;> simp [*]); done)

@[simp] theorem State.requestScrub_kept {bk : Bool} {s0 : State} (s : State) (h0 : Kept bk s0 s) : Kept bk s0 (State.requestScrub s) := by
  unfold State.requestScrub
  first | exact h0 | (simp [h0]; done) | (((repeat' split) <;> simp [*]); done)

@[simp] theorem State.auditBreaks_kept {bk : Bool} {s0 : State} (s : State) (breaks : List (Nat × Nat)) (h0 : Kept bk s0 s) : Kept bk s0 (State.auditBreaks s breaks) := by
  unfold State.auditBreaks
  repeat' (first | with_reducible assumption | with_reducible apply State.auditSelf_kept | with_reducible apply kept_ite | with_reducible apply kept_ite_fst | (with_reducible refine foldl_kept _ _ ?_ ?_; (on_goal 1 => intro t a ht)) | (with_reducible refine foldl_kept_fst _ _ ?_ ?_; (on_goal 1 => intro t a ht)) | (simp only [kept_mk, keepsF_fold]) | (rename_i heq; obtain rfl := congrArg (fun (p : State × _) => p.1) heq; clear heq) | split)

@[simp] theorem State.weighCopies_kept {bk : Bool} {s0 : State} (s : State) (h0 : Kept bk s0 s) : Kept bk s0 (State.weighCopies s) := by
  unfold State.weighCopies
  repeat' (first | with_reducible assumption | with_reducible apply kept_ite | with_reducible apply kept_ite_fst | (with_reducible refine foldl_kept _ _ ?_ ?_; (on_goal 1 => intro t a ht)) | (with_reducible refine foldl_kept_fst _ _ ?_ ?_; (on_goal 1 => intro t a ht)) | (intro t n ht) | (intro t ht) | (simp only [kept_mk, keepsF_fold]) | (rename_i heq; obtain rfl := congrArg (fun (p : State × _) => p.1) heq; clear heq) | split)

@[simp] theorem State.markDamaged_kept {bk : Bool} {s0 : State} (s : State) (bank : Nat) (strokes : List Nat) (h0 : Kept bk s0 s) : Kept bk s0 (State.markDamaged s bank strokes) := by
  unfold State.markDamaged
  first | exact h0 | (simp [h0]; done) | (((repeat' split) <;> simp [*]); done)

@[simp] theorem State.effScrubExtent_kept {bk : Bool} {s0 : State} (s : State) (bank : Nat) (ext : Nat) (low : List Nat) (damaged : List Nat) (breaks : List (Nat × Nat)) (h0 : Kept bk s0 s) : Kept bk s0 (State.effScrubExtent s bank ext low damaged breaks) := by
  unfold State.effScrubExtent
  repeat' (first | with_reducible assumption | with_reducible apply State.boundary_kept | with_reducible apply State.dispatch_kept | with_reducible apply State.wakeDoms_kept | with_reducible apply State.touchAll_kept | with_reducible apply State.raise_kept | with_reducible apply State.markDamaged_kept | with_reducible apply State.auditBreaks_kept | with_reducible apply kept_ite | with_reducible apply kept_ite_fst | (with_reducible refine foldl_kept _ _ ?_ ?_; (on_goal 1 => intro t a ht)) | (with_reducible refine foldl_kept_fst _ _ ?_ ?_; (on_goal 1 => intro t a ht)) | (simp only [kept_mk, keepsF_fold]) | (rename_i heq; obtain rfl := congrArg (fun (p : State × _) => p.1) heq; clear heq) | split)

@[simp] theorem State.effStaticLevelMove_kept {bk : Bool} {s0 : State} (s : State) (bank : Nat) (h0 : Kept bk s0 s) : Kept bk s0 (State.effStaticLevelMove s bank) := by
  unfold State.effStaticLevelMove
  repeat' (first | with_reducible assumption | with_reducible apply State.boundary_kept | with_reducible apply State.dispatch_kept | with_reducible apply State.wakeDoms_kept | with_reducible apply State.touchAll_kept | with_reducible apply State.stampEpoch_kept | with_reducible apply State.journal_kept | with_reducible apply State.setCode_kept | with_reducible apply State.giveFree_kept | with_reducible apply State.takeFree_kept | with_reducible apply kept_ite | with_reducible apply kept_ite_fst | (with_reducible refine foldl_kept _ _ ?_ ?_; (on_goal 1 => intro t a ht)) | (with_reducible refine foldl_kept_fst _ _ ?_ ?_; (on_goal 1 => intro t a ht)) | (simp only [kept_mk, keepsF_fold]) | (rename_i heq; obtain rfl := congrArg (fun (p : State × _) => p.1) heq; clear heq) | split)

@[simp] theorem State.tollInc_kept {bk : Bool} {s0 : State} (s : State) (v : Word) (h0 : Kept bk s0 s) : Kept bk s0 (State.tollInc s v).1 := by
  unfold State.tollInc
  repeat' (first | with_reducible assumption | with_reducible apply State.tollUpdate_kept | with_reducible apply kept_ite | with_reducible apply kept_ite_fst | (with_reducible refine foldl_kept _ _ ?_ ?_; (on_goal 1 => intro t a ht)) | (with_reducible refine foldl_kept_fst _ _ ?_ ?_; (on_goal 1 => intro t a ht)) | (simp only [kept_mk, keepsF_fold]) | (rename_i heq; obtain rfl := congrArg (fun (p : State × _) => p.1) heq; clear heq) | split)

@[simp] theorem State.moveSave_kept {bk : Bool} {s0 : State} (s : State) (f : Nat) (h0 : Kept bk s0 s) : Kept bk s0 (State.moveSave s f) := by
  unfold State.moveSave
  first | exact h0 | (simp [h0]; done) | (((repeat' split) <;> simp [*]); done)

@[simp] theorem State.rebuildToll_kept {bk : Bool} {s0 : State} (s : State) (f : Nat) (c : Nat) (h0 : Kept bk s0 s) : Kept bk s0 (State.rebuildToll s f c) := by
  unfold State.rebuildToll
  repeat' (first | with_reducible assumption | with_reducible apply State.tollMove_kept | with_reducible apply kept_ite | with_reducible apply kept_ite_fst | (with_reducible refine foldl_kept _ _ ?_ ?_; (on_goal 1 => intro t a ht)) | (with_reducible refine foldl_kept_fst _ _ ?_ ?_; (on_goal 1 => intro t a ht)) | (simp only [kept_mk, keepsF_fold]) | (rename_i heq; obtain rfl := congrArg (fun (p : State × _) => p.1) heq; clear heq) | split)

@[simp] theorem State.shrinkPart_kept {bk : Bool} {s0 : State} (s : State) (f : Nat) (p : Nat) (h0 : Kept bk s0 s) : Kept bk s0 (State.shrinkPart s f p) := by
  unfold State.shrinkPart
  repeat' (first | with_reducible assumption | with_reducible apply State.setCode_kept | with_reducible apply State.modPart_kept | with_reducible apply kept_ite | with_reducible apply kept_ite_fst | (with_reducible refine foldl_kept _ _ ?_ ?_; (on_goal 1 => intro t a ht)) | (with_reducible refine foldl_kept_fst _ _ ?_ ?_; (on_goal 1 => intro t a ht)) | (simp only [kept_mk, keepsF_fold]) | (rename_i heq; obtain rfl := congrArg (fun (p : State × _) => p.1) heq; clear heq) | split)

@[simp] theorem State.shrinkKnell_kept {bk : Bool} {s0 : State} (s : State) (h0 : Kept bk s0 s) : Kept bk s0 (State.shrinkKnell s) := by
  unfold State.shrinkKnell
  first | exact h0 | (simp [h0]; done) | (((repeat' split) <;> simp [*]); done)

@[simp] theorem State.rewriteIndex_kept {bk : Bool} {s0 : State} (s : State) (k : Nat) (h0 : Kept bk s0 s) : Kept bk s0 (State.rewriteIndex s k) := by
  unfold State.rewriteIndex
  first | exact h0 | (simp [h0]; done) | (((repeat' split) <;> simp [*]); done)

@[simp] theorem State.replaceIndex_kept {bk : Bool} {s0 : State} (s : State) (f : Nat) (h0 : Kept bk s0 s) : Kept bk s0 (State.replaceIndex s f) := by
  unfold State.replaceIndex
  repeat' (first | with_reducible assumption | with_reducible apply State.setCode_kept | with_reducible apply State.takeFree_kept | with_reducible apply State.stampEpoch_kept | with_reducible apply State.journal_kept | with_reducible apply State.rewriteIndex_kept | with_reducible apply kept_ite | with_reducible apply kept_ite_fst | (with_reducible refine foldl_kept _ _ ?_ ?_; (on_goal 1 => intro t a ht)) | (with_reducible refine foldl_kept_fst _ _ ?_ ?_; (on_goal 1 => intro t a ht)) | (simp only [kept_mk, keepsF_fold]) | (rename_i heq; obtain rfl := congrArg (fun (p : State × _) => p.1) heq; clear heq) | split)

@[simp] theorem State.modPipe_kept {bk : Bool} {s0 : State} (s : State) (id : Nat) (f : PipeRec → PipeRec) (h0 : Kept bk s0 s) : Kept bk s0 (State.modPipe s id f) := by
  unfold State.modPipe
  repeat' (first | with_reducible assumption | with_reducible apply kept_ite | with_reducible apply kept_ite_fst | (with_reducible refine foldl_kept _ _ ?_ ?_; (on_goal 1 => intro t a ht)) | (with_reducible refine foldl_kept_fst _ _ ?_ ?_; (on_goal 1 => intro t a ht)) | (intro t n ht) | (intro t ht) | (simp only [kept_mk, keepsF_fold]) | (rename_i heq; obtain rfl := congrArg (fun (p : State × _) => p.1) heq; clear heq) | split)

@[simp] theorem State.replaceRec_kept {bk : Bool} {s0 : State} (s : State) (id : Nat) (h0 : Kept bk s0 s) : Kept bk s0 (State.replaceRec s id) := by
  unfold State.replaceRec
  repeat' (first | with_reducible assumption | with_reducible apply State.roomAtHead_kept | with_reducible apply State.reserveAt_kept | with_reducible apply State.modPart_kept | with_reducible apply State.modPipe_kept | with_reducible apply State.touchAll_kept | with_reducible apply kept_ite | with_reducible apply kept_ite_fst | (with_reducible refine foldl_kept _ _ ?_ ?_; (on_goal 1 => intro t a ht)) | (with_reducible refine foldl_kept_fst _ _ ?_ ?_; (on_goal 1 => intro t a ht)) | (intro t n ht) | (intro t ht) | (simp only [kept_mk, keepsF_fold]) | (rename_i heq; obtain rfl := congrArg (fun (p : State × _) => p.1) heq; clear heq) | split)

@[simp] theorem State.replacePipe_kept {bk : Bool} {s0 : State} (s : State) (ids : List Nat) (h0 : Kept bk s0 s) : Kept bk s0 (State.replacePipe s ids) := by
  unfold State.replacePipe
  repeat' (first | with_reducible assumption | with_reducible apply State.replaceRec_kept | with_reducible apply State.modPipe_kept | with_reducible apply kept_ite | with_reducible apply kept_ite_fst | (with_reducible refine foldl_kept _ _ ?_ ?_; (on_goal 1 => intro t a ht)) | (with_reducible refine foldl_kept_fst _ _ ?_ ?_; (on_goal 1 => intro t a ht)) | (intro t n ht) | (intro t ht) | (simp only [kept_mk, keepsF_fold]) | (rename_i heq; obtain rfl := congrArg (fun (p : State × _) => p.1) heq; clear heq) | split)

@[simp] theorem State.returnHeads_kept {bk : Bool} {s0 : State} (s : State) (ids : List Nat) (h0 : Kept bk s0 s) : Kept bk s0 (State.returnHeads s ids) := by
  unfold State.returnHeads
  repeat' (first | with_reducible assumption | with_reducible apply State.modPart_kept | with_reducible apply kept_ite | with_reducible apply kept_ite_fst | (with_reducible refine foldl_kept _ _ ?_ ?_; (on_goal 1 => intro t a ht)) | (with_reducible refine foldl_kept_fst _ _ ?_ ?_; (on_goal 1 => intro t a ht)) | (simp only [kept_mk, keepsF_fold]) | (rename_i heq; obtain rfl := congrArg (fun (p : State × _) => p.1) heq; clear heq) | split)

@[simp] theorem State.reviewSlots_kept {bk : Bool} {s0 : State} (s : State) (f : Nat) (h0 : Kept bk s0 s) : Kept bk s0 (State.reviewSlots s f) := by
  unfold State.reviewSlots
  first | exact h0 | (simp [h0]; done) | (((repeat' split) <;> simp [*]); done)

@[simp] theorem State.markFailed_kept {bk : Bool} {s0 : State} (s : State) (f : Nat) (h0 : Kept bk s0 s) : Kept bk s0 (State.markFailed s f) := by
  unfold State.markFailed
  repeat' (first | with_reducible assumption | with_reducible apply State.touchAll_kept | with_reducible apply State.weighCopies_kept | with_reducible apply State.reviewSlots_kept | with_reducible apply State.raise_kept | with_reducible apply kept_ite | with_reducible apply kept_ite_fst | (with_reducible refine foldl_kept _ _ ?_ ?_; (on_goal 1 => intro t a ht)) | (with_reducible refine foldl_kept_fst _ _ ?_ ?_; (on_goal 1 => intro t a ht)) | (intro t n ht) | (intro t ht) | (simp only [kept_mk, keepsF_fold]) | (rename_i heq; obtain rfl := congrArg (fun (p : State × _) => p.1) heq; clear heq) | split)

@[simp] theorem State.rebuild_kept {bk : Bool} {s0 : State} (s : State) (f : Nat) (h0 : Kept bk s0 s) : Kept bk s0 (State.rebuild s f) := by
  unfold State.rebuild
  repeat' (first | with_reducible assumption | with_reducible apply State.returnHeads_kept | with_reducible apply State.rebuildToll_kept | with_reducible apply State.replaceIndex_kept | with_reducible apply State.moveSave_kept | with_reducible apply State.shrinkKnell_kept | with_reducible apply State.shrinkPart_kept | with_reducible apply State.takeCkpt_kept | with_reducible apply State.replacePipe_kept | with_reducible apply kept_ite | with_reducible apply kept_ite_fst | (with_reducible refine foldl_kept _ _ ?_ ?_; (on_goal 1 => intro t a ht)) | (with_reducible refine foldl_kept_fst _ _ ?_ ?_; (on_goal 1 => intro t a ht)) | (simp only [kept_mk, keepsF_fold]) | (rename_i heq; obtain rfl := congrArg (fun (p : State × _) => p.1) heq; clear heq) | split)

@[simp] theorem State.failInKnell_kept {bk : Bool} {s0 : State} (s : State) (f : Nat) (h0 : Kept bk s0 s) : Kept bk s0 (State.failInKnell s f) := by
  unfold State.failInKnell
  first | exact h0 | (simp [h0]; done) | (((repeat' split) <;> simp [*]); done)

@[simp] theorem State.endTest_kept {bk : Bool} {s0 : State} (s : State) (req : Nat) (unit : Nat) (outcome : Nat) (detail : Nat) (value : Nat) (back : Nat) (audit : Option Nat) (h0 : Kept bk s0 s) : Kept bk s0 (State.endTest s req unit outcome detail value back audit) := by
  unfold State.endTest
  repeat' (first | with_reducible assumption | with_reducible apply State.dropKind_kept | with_reducible apply State.endJob_kept | with_reducible apply State.raise_kept | with_reducible apply State.auditSelf_kept | with_reducible apply kept_ite | with_reducible apply kept_ite_fst | (with_reducible refine foldl_kept _ _ ?_ ?_; (on_goal 1 => intro t a ht)) | (with_reducible refine foldl_kept_fst _ _ ?_ ?_; (on_goal 1 => intro t a ht)) | (simp only [kept_mk, keepsF_fold]) | (rename_i heq; obtain rfl := congrArg (fun (p : State × _) => p.1) heq; clear heq) | split)

@[simp] theorem State.endSelftest_kept {bk : Bool} {s0 : State} (s : State) (outcome : Nat) (detail : Nat) (value : Nat) (back : Nat) (audit : Option Nat) (h0 : Kept bk s0 s) : Kept bk s0 (State.endSelftest s outcome detail value back audit) := by
  unfold State.endSelftest
  first | exact h0 | (simp [h0]; done) | (((repeat' split) <;> simp [*]); done)

@[simp] theorem State.startNextTest_kept {bk : Bool} {s0 : State} (s : State) (h0 : Kept bk s0 s) : Kept bk s0 (State.startNextTest s) := by
  unfold State.startNextTest
  repeat' (first | with_reducible assumption | with_reducible apply State.enqueue_kept | with_reducible apply kept_ite | (simp only [kept_mk, keepsF_fold]) | split)

@[simp] theorem State.endTests_kept {bk : Bool} {s0 : State} (s : State) (unit : Nat) (detail : Nat) (loc : Nat) (h0 : Kept bk s0 s) : Kept bk s0 (State.endTests s unit detail loc) := by
  unfold State.endTests
  repeat' (first | with_reducible assumption | with_reducible apply State.startNextTest_kept | with_reducible apply State.endTest_kept | with_reducible apply kept_ite | with_reducible apply kept_ite_fst | (with_reducible refine foldl_kept _ _ ?_ ?_; (on_goal 1 => intro t a ht)) | (with_reducible refine foldl_kept_fst _ _ ?_ ?_; (on_goal 1 => intro t a ht)) | (simp only [kept_mk, keepsF_fold]) | (rename_i heq; obtain rfl := congrArg (fun (p : State × _) => p.1) heq; clear heq) | split)

@[simp] theorem State.failBank_kept {bk : Bool} {s0 : State} (s : State) (f : Nat) (h0 : Kept bk s0 s) : Kept bk s0 (State.failBank s f) := by
  unfold State.failBank
  repeat' (first | with_reducible assumption | with_reducible apply State.endTests_kept | with_reducible apply State.markFailed_kept | with_reducible apply State.failInKnell_kept | with_reducible apply State.rebuild_kept | with_reducible apply kept_ite | with_reducible apply kept_ite_fst | (with_reducible refine foldl_kept _ _ ?_ ?_; (on_goal 1 => intro t a ht)) | (with_reducible refine foldl_kept_fst _ _ ?_ ?_; (on_goal 1 => intro t a ht)) | (simp only [kept_mk, keepsF_fold]) | (rename_i heq; obtain rfl := congrArg (fun (p : State × _) => p.1) heq; clear heq) | split)

@[simp] theorem State.effBankFail_kept {bk : Bool} {s0 : State} (s : State) (bank : Nat) (h0 : Kept bk s0 s) : Kept bk s0 (State.effBankFail s bank) := by
  unfold State.effBankFail
  first | exact h0 | (simp [h0]; done) | (((repeat' split) <;> simp [*]); done)

@[simp] theorem State.noteRetire_kept {bk : Bool} {s0 : State} (s : State) (bank : Nat) (h0 : Kept bk s0 s) : Kept bk s0 (State.noteRetire s bank) := by
  unfold State.noteRetire
  first | exact h0 | (simp [h0]; done) | (((repeat' split) <;> simp [*]); done)

@[simp] theorem State.copyExtent_kept {bk : Bool} {s0 : State} (s : State) (p : Nat) (k : Nat) (was : Nat) (code : Nat) (h0 : Kept bk s0 s) : Kept bk s0 (State.copyExtent s p k was code) := by
  unfold State.copyExtent
  repeat' (first | with_reducible assumption | with_reducible apply State.touchAll_kept | with_reducible apply State.stampEpoch_kept | with_reducible apply State.journal_kept | with_reducible apply kept_ite | with_reducible apply kept_ite_fst | (with_reducible refine foldl_kept _ _ ?_ ?_; (on_goal 1 => intro t a ht)) | (with_reducible refine foldl_kept_fst _ _ ?_ ?_; (on_goal 1 => intro t a ht)) | (simp only [kept_mk, keepsF_fold]) | (rename_i heq; obtain rfl := congrArg (fun (p : State × _) => p.1) heq; clear heq) | split)

@[simp] theorem State.retireExtent_kept {bk : Bool} {s0 : State} (s : State) (bank : Nat) (line : Nat) (h0 : Kept bk s0 s) : Kept bk s0 (State.retireExtent s bank line) := by
  unfold State.retireExtent
  repeat' (first | with_reducible assumption | with_reducible apply State.raise_kept | with_reducible apply State.takeFree_kept | with_reducible apply State.failBank_kept | with_reducible apply State.touchAll_kept | with_reducible apply State.stampEpoch_kept | with_reducible apply State.setCode_kept | with_reducible apply State.copyExtent_kept | with_reducible apply kept_ite | with_reducible apply kept_ite_fst | (with_reducible refine foldl_kept _ _ ?_ ?_; (on_goal 1 => intro t a ht)) | (with_reducible refine foldl_kept_fst _ _ ?_ ?_; (on_goal 1 => intro t a ht)) | (simp only [kept_mk, keepsF_fold]) | (rename_i heq; obtain rfl := congrArg (fun (p : State × _) => p.1) heq; clear heq) | split)

@[simp] theorem State.retireLine_kept {bk : Bool} {s0 : State} (s : State) (bank : Nat) (line : Nat) (h0 : Kept bk s0 s) : Kept bk s0 (State.retireLine s bank line) := by
  unfold State.retireLine
  repeat' (first | with_reducible assumption | with_reducible apply State.raise_kept | with_reducible apply State.touchAll_kept | with_reducible apply State.noteRetire_kept | with_reducible apply State.retireExtent_kept | with_reducible apply kept_ite | with_reducible apply kept_ite_fst | (with_reducible refine foldl_kept _ _ ?_ ?_; (on_goal 1 => intro t a ht)) | (with_reducible refine foldl_kept_fst _ _ ?_ ?_; (on_goal 1 => intro t a ht)) | (simp only [kept_mk, keepsF_fold]) | (rename_i heq; obtain rfl := congrArg (fun (p : State × _) => p.1) heq; clear heq) | split)

@[simp] theorem State.setRepeats_kept {bk : Bool} {s0 : State} (s : State) (t : PulseTarget) (n : Nat) (h0 : Kept bk s0 s) : Kept bk s0 (State.setRepeats s t n) := by
  unfold State.setRepeats
  first | exact h0 | (simp [h0]; done) | (((repeat' split) <;> simp [*]); done)

@[simp] theorem State.spendPulse_kept {bk : Bool} {s0 : State} (s : State) (t : PulseTarget) (h0 : Kept bk s0 s) : Kept bk s0 (State.spendPulse s t) := by
  unfold State.spendPulse
  first | exact h0 | (simp [h0]; done) | (((repeat' split) <;> simp [*]); done)

@[simp] theorem State.effSectorPulseDone_kept {bk : Bool} {s0 : State} (s : State) (t : PulseTarget) (ok : Bool) (h0 : Kept bk s0 s) : Kept bk s0 (State.effSectorPulseDone s t ok) := by
  unfold State.effSectorPulseDone
  repeat' (first | with_reducible assumption | with_reducible apply State.spendPulse_kept | with_reducible apply State.setRepeats_kept | with_reducible apply State.count_kept | with_reducible apply State.touchAll_kept | with_reducible apply State.retireLine_kept | with_reducible apply State.tollMove_kept | with_reducible apply kept_ite | with_reducible apply kept_ite_fst | (with_reducible refine foldl_kept _ _ ?_ ?_; (on_goal 1 => intro t a ht)) | (with_reducible refine foldl_kept_fst _ _ ?_ ?_; (on_goal 1 => intro t a ht)) | (simp only [kept_mk, keepsF_fold]) | (rename_i heq; obtain rfl := congrArg (fun (p : State × _) => p.1) heq; clear heq) | split)

@[simp] theorem State.createBatch_kept {bk : Bool} {s0 : State} (s : State) (cost : Nat) (h0 : Kept bk s0 s) : Kept bk s0 (State.createBatch s cost) := by
  unfold State.createBatch
  first | exact h0 | (simp [h0]; done) | (((repeat' split) <;> simp [*]); done)

@[simp] theorem State.requestBatch_kept {bk : Bool} {s0 : State} (s : State) (h0 : Kept bk s0 s) : Kept bk s0 (State.requestBatch s) := by
  unfold State.requestBatch
  repeat' (first | with_reducible assumption | with_reducible apply State.boundary_kept | with_reducible apply State.createBatch_kept | with_reducible apply State.enqueue_kept | with_reducible apply kept_ite | with_reducible apply kept_ite_fst | (with_reducible refine foldl_kept _ _ ?_ ?_; (on_goal 1 => intro t a ht)) | (with_reducible refine foldl_kept_fst _ _ ?_ ?_; (on_goal 1 => intro t a ht)) | (intro t n ht) | (intro t ht) | (simp only [kept_mk, keepsF_fold]) | (rename_i heq; obtain rfl := congrArg (fun (p : State × _) => p.1) heq; clear heq) | split)

@[simp] theorem State.commitBatch_kept {bk : Bool} {s0 : State} (s : State) (h0 : Kept bk s0 s) : Kept bk s0 (State.commitBatch s) := by
  unfold State.commitBatch
  repeat' (first | with_reducible assumption | with_reducible apply State.dropKind_kept | with_reducible apply State.createNow_kept | with_reducible apply State.count_kept | with_reducible apply State.raise_kept | with_reducible apply kept_ite | with_reducible apply kept_ite_fst | (with_reducible refine foldl_kept _ _ ?_ ?_; (on_goal 1 => intro t a ht)) | (with_reducible refine foldl_kept_fst _ _ ?_ ?_; (on_goal 1 => intro t a ht)) | (simp only [kept_mk, keepsF_fold]) | (rename_i heq; obtain rfl := congrArg (fun (p : State × _) => p.1) heq; clear heq) | split)

@[simp] theorem State.batchBeforeSave_kept {bk : Bool} {s0 : State} (s : State) (h0 : Kept bk s0 s) : Kept bk s0 (State.batchBeforeSave s) := by
  unfold State.batchBeforeSave
  repeat' (first | with_reducible assumption | with_reducible apply State.boundary_kept | with_reducible apply State.commitBatch_kept | with_reducible apply State.requestBatch_kept | with_reducible apply kept_ite | with_reducible apply kept_ite_fst | (with_reducible refine foldl_kept _ _ ?_ ?_; (on_goal 1 => intro t a ht)) | (with_reducible refine foldl_kept_fst _ _ ?_ ?_; (on_goal 1 => intro t a ht)) | (intro t n ht) | (intro t ht) | (simp only [kept_mk, keepsF_fold]) | (rename_i heq; obtain rfl := congrArg (fun (p : State × _) => p.1) heq; clear heq) | split)

@[simp] theorem State.saveNow_kept {bk : Bool} {s0 : State} (s : State) (clean : Bool) (h0 : Kept bk s0 s) : Kept bk s0 (State.saveNow s clean) := by
  unfold State.saveNow
  first | exact h0 | (simp [h0]; done) | (((repeat' split) <;> simp [*]); done)

@[simp] theorem State.sendFrame_kept {bk : Bool} {s0 : State} (s : State) (cls : Cls) (header : List Byte) (body : List Byte) (h0 : Kept bk s0 s) : Kept bk s0 (State.sendFrame s cls header body) := by
  unfold State.sendFrame
  first | exact h0 | (simp [h0]; done) | (((repeat' split) <;> simp [*]); done)

@[simp] theorem State.complete_kept {bk : Bool} {s0 : State} (s : State) (h : MgmtHdr) (op : Nat) (status : Nat) (flags : Nat) (fields : List Byte) (body : List Byte) (h0 : Kept bk s0 s) : Kept bk s0 (State.complete s h op status flags fields body) := by
  unfold State.complete
  repeat' (first | with_reducible assumption | with_reducible apply State.countBy_kept | with_reducible apply State.raise_kept | with_reducible apply State.sendFrame_kept | with_reducible apply kept_ite | with_reducible apply kept_ite_fst | (with_reducible refine foldl_kept _ _ ?_ ?_; (on_goal 1 => intro t a ht)) | (with_reducible refine foldl_kept_fst _ _ ?_ ?_; (on_goal 1 => intro t a ht)) | (simp only [kept_mk, keepsF_fold]) | (rename_i heq; obtain rfl := congrArg (fun (p : State × _) => p.1) heq; clear heq) | split)

@[simp] theorem State.answer_kept {bk : Bool} {s0 : State} (s : State) (h : MgmtHdr) (op : Nat) (status : Nat) (h0 : Kept bk s0 s) : Kept bk s0 (State.answer s h op status) := by
  unfold State.answer
  first | exact h0 | (simp [h0]; done) | (((repeat' split) <;> simp [*]); done)

@[simp] theorem State.modMbx_kept {bk : Bool} {s0 : State} (s : State) (p : Port) (f : Mbx → Mbx) (h0 : Kept bk s0 s) : Kept bk s0 (State.modMbx s p f) := by
  unfold State.modMbx
  first | exact h0 | (simp [h0]; done) | (((repeat' split) <;> simp [*]); done)

@[simp] theorem State.endMbx_kept {bk : Bool} {s0 : State} (s : State) (p : Port) (result : Nat) (detail : Nat) (reply : List Byte) (h0 : Kept bk s0 s) : Kept bk s0 (State.endMbx s p result detail reply) := by
  unfold State.endMbx
  first | exact h0 | (simp [h0]; done) | (((repeat' split) <;> simp [*]); done)

@[simp] theorem State.raiseKnell_kept {bk : Bool} {s0 : State} (s : State) (n : Nat) (h0 : Kept bk s0 s) : Kept bk s0 (State.raiseKnell s n) := by
  unfold State.raiseKnell
  first | exact h0 | (simp [h0]; done) | (((repeat' split) <;> simp [*]); done)

@[simp] theorem State.knellTurn_kept {bk : Bool} {s0 : State} (s : State) (h0 : Kept bk s0 s) : Kept bk s0 (State.knellTurn s) := by
  unfold State.knellTurn
  first | exact h0 | (simp [h0]; done) | (((repeat' split) <;> simp [*]); done)

@[simp] theorem State.freeSpace_kept {bk : Bool} {s0 : State} (s : State) (c : Nat) (n : Nat) (h0 : Kept bk s0 s) : Kept bk s0 (State.freeSpace s c n) := by
  unfold State.freeSpace
  first | exact h0 | (simp [h0]; done) | (((repeat' split) <;> simp [*]); done)

@[simp] theorem State.releaseCredits_kept {bk : Bool} {s0 : State} (s : State) (c : Nat) (n : Nat) (h0 : Kept bk s0 s) : Kept bk s0 (State.releaseCredits s c n) := by
  unfold State.releaseCredits
  repeat' (first | with_reducible assumption | with_reducible apply State.freeSpace_kept | with_reducible apply State.raiseKnell_kept | with_reducible apply State.knellTurn_kept | with_reducible apply kept_ite | with_reducible apply kept_ite_fst | (with_reducible refine foldl_kept _ _ ?_ ?_; (on_goal 1 => intro t a ht)) | (with_reducible refine foldl_kept_fst _ _ ?_ ?_; (on_goal 1 => intro t a ht)) | (simp only [kept_mk, keepsF_fold]) | (rename_i heq; obtain rfl := congrArg (fun (p : State × _) => p.1) heq; clear heq) | split)

@[simp] theorem State.releaseRec_kept {bk : Bool} {s0 : State} (s : State) (p : PipeRec) (h0 : Kept bk s0 s) : Kept bk s0 (State.releaseRec s p) := by
  unfold State.releaseRec
  first | exact h0 | (simp [h0]; done) | (((repeat' split) <;> simp [*]); done)

@[simp] theorem State.noticeAbandon_kept {bk : Bool} {s0 : State} (s : State) (hook : Hook) (h0 : Kept bk s0 s) : Kept bk s0 (State.noticeAbandon s hook) := by
  unfold State.noticeAbandon
  first | exact h0 | (simp [h0]; done) | (((repeat' split) <;> simp [*]); done)

@[simp] theorem State.dropRec_kept {bk : Bool} {s0 : State} (s : State) (p : PipeRec) (h0 : Kept bk s0 s) : Kept bk s0 (State.dropRec s p) := by
  unfold State.dropRec
  repeat' (first | with_reducible assumption | with_reducible apply State.noticeAbandon_kept | with_reducible apply State.releaseRec_kept | with_reducible apply State.undoLeads_kept | with_reducible apply State.abandon_kept | with_reducible apply kept_ite | with_reducible apply kept_ite_fst | (with_reducible refine foldl_kept _ _ ?_ ?_; (on_goal 1 => intro t a ht)) | (with_reducible refine foldl_kept_fst _ _ ?_ ?_; (on_goal 1 => intro t a ht)) | (intro t n ht) | (intro t ht) | (simp only [kept_mk, keepsF_fold]) | (rename_i heq; obtain rfl := congrArg (fun (p : State × _) => p.1) heq; clear heq) | split)

@[simp] theorem State.drop_kept {bk : Bool} {s0 : State} (s : State) (p : PipeRec) (h0 : Kept bk s0 s) : Kept bk s0 (State.drop s p) := by
  unfold State.drop
  repeat' (first | with_reducible assumption | with_reducible apply State.drain_kept | with_reducible apply State.dropRec_kept | with_reducible apply kept_ite | with_reducible apply kept_ite_fst | (with_reducible refine foldl_kept _ _ ?_ ?_; (on_goal 1 => intro t a ht)) | (with_reducible refine foldl_kept_fst _ _ ?_ ?_; (on_goal 1 => intro t a ht)) | (intro t n ht) | (intro t ht) | (simp only [kept_mk, keepsF_fold]) | (rename_i heq; obtain rfl := congrArg (fun (p : State × _) => p.1) heq; clear heq) | split)

@[simp] theorem State.dropEach_kept {bk : Bool} {s0 : State} (s : State) (f : PipeRec → Bool) (h0 : Kept bk s0 s) : Kept bk s0 (State.dropEach s f) := by
  unfold State.dropEach
  repeat' (first | with_reducible assumption | with_reducible apply State.dropRec_kept | with_reducible apply kept_ite | with_reducible apply kept_ite_fst | (with_reducible refine foldl_kept _ _ ?_ ?_; (on_goal 1 => intro t a ht)) | (with_reducible refine foldl_kept_fst _ _ ?_ ?_; (on_goal 1 => intro t a ht)) | (intro t n ht) | (intro t ht) | (simp only [kept_mk, keepsF_fold]) | (rename_i heq; obtain rfl := congrArg (fun (p : State × _) => p.1) heq; clear heq) | split)

@[simp] theorem State.dropAll_kept {bk : Bool} {s0 : State} (s : State) (f : PipeRec → Bool) (h0 : Kept bk s0 s) : Kept bk s0 (State.dropAll s f) := by
  unfold State.dropAll
  repeat' (first | with_reducible assumption | with_reducible apply State.drain_kept | with_reducible apply State.dropEach_kept | with_reducible apply kept_ite | with_reducible apply kept_ite_fst | (with_reducible refine foldl_kept _ _ ?_ ?_; (on_goal 1 => intro t a ht)) | (with_reducible refine foldl_kept_fst _ _ ?_ ?_; (on_goal 1 => intro t a ht)) | (intro t n ht) | (intro t ht) | (simp only [kept_mk, keepsF_fold]) | (rename_i heq; obtain rfl := congrArg (fun (p : State × _) => p.1) heq; clear heq) | split)

@[simp] theorem State.badFrame_kept {bk : Bool} {s0 : State} (s : State) (h0 : Kept bk s0 s) : Kept bk s0 (State.badFrame s) := by
  unfold State.badFrame
  first | exact h0 | (simp [h0]; done) | (((repeat' split) <;> simp [*]); done)

@[simp] theorem State.poisonFrame_kept {bk : Bool} {s0 : State} (s : State) (h0 : Kept bk s0 s) : Kept bk s0 (State.poisonFrame s) := by
  unfold State.poisonFrame
  first | exact h0 | (simp [h0]; done) | (((repeat' split) <;> simp [*]); done)

@[simp] theorem State.takeDone_kept {bk : Bool} {s0 : State} (s : State) (c : Nat) (h0 : Kept bk s0 s) : Kept bk s0 (State.takeDone s c).1 := by
  unfold State.takeDone
  first | exact h0 | (simp [h0]; done) | (((repeat' split) <;> simp [*]); done)

@[simp] theorem State.freeFrame_kept {bk : Bool} {s0 : State} (s : State) (c : Nat) (h0 : Kept bk s0 s) : Kept bk s0 (State.freeFrame s c) := by
  unfold State.freeFrame
  first | exact h0 | (simp [h0]; done) | (((repeat' split) <;> simp [*]); done)

@[simp] theorem State.discardFrame_kept {bk : Bool} {s0 : State} (s : State) (c : Nat) (h0 : Kept bk s0 s) : Kept bk s0 (State.discardFrame s c) := by
  unfold State.discardFrame
  first | exact h0 | (simp [h0]; done) | (((repeat' split) <;> simp [*]); done)

@[simp] theorem State.dropHeader_kept {bk : Bool} {s0 : State} (s : State) (c : Cls) (h0 : Kept bk s0 s) : Kept bk s0 (State.dropHeader s c) := by
  unfold State.dropHeader
  first | exact h0 | (simp [h0]; done) | (((repeat' split) <;> simp [*]); done)

@[simp] theorem State.clearTx_kept {bk : Bool} {s0 : State} (s : State) (h0 : Kept bk s0 s) : Kept bk s0 (State.clearTx s) := by
  unfold State.clearTx
  first | exact h0 | (simp [h0]; done) | (((repeat' split) <;> simp [*]); done)

@[simp] theorem State.linkOff_kept {bk : Bool} {s0 : State} (s : State) (h0 : Kept bk s0 s) : Kept bk s0 (State.linkOff s) := by
  unfold State.linkOff
  repeat' (first | with_reducible assumption | with_reducible apply State.dropAll_kept | with_reducible apply State.releaseCredits_kept | with_reducible apply State.clearTx_kept | with_reducible apply kept_ite | with_reducible apply kept_ite_fst | (with_reducible refine foldl_kept _ _ ?_ ?_; (on_goal 1 => intro t a ht)) | (with_reducible refine foldl_kept_fst _ _ ?_ ?_; (on_goal 1 => intro t a ht)) | (simp only [kept_mk, keepsF_fold]) | (rename_i heq; obtain rfl := congrArg (fun (p : State × _) => p.1) heq; clear heq) | split)

@[simp] theorem State.rearmKnell_kept {bk : Bool} {s0 : State} (s : State) (h0 : Kept bk s0 s) : Kept bk s0 (State.rearmKnell s) := by
  unfold State.rearmKnell
  first | exact h0 | (simp [h0]; done) | (((repeat' split) <;> simp [*]); done)

@[simp] theorem State.unarmedTrigger_kept {bk : Bool} {s0 : State} (s : State) (h0 : Kept bk s0 s) : Kept bk s0 (State.unarmedTrigger s) := by
  unfold State.unarmedTrigger
  first | exact h0 | (simp [h0]; done) | (((repeat' split) <;> simp [*]); done)

@[simp] theorem State.modSlot_kept {bk : Bool} {s0 : State} (s : State) (i : Nat) (f : Slot → Slot) (h0 : Kept bk s0 s) : Kept bk s0 (State.modSlot s i f) := by
  unfold State.modSlot
  first | exact h0 | (simp [h0]; done) | (((repeat' split) <;> simp [*]); done)

@[simp] theorem State.claimSlot_kept {bk : Bool} {s0 : State} (s : State) (i : Intake) (h0 : Kept bk s0 s) : Kept bk s0 (State.claimSlot s i).1 := by
  unfold State.claimSlot
  repeat' (first | with_reducible assumption | with_reducible apply State.tollUpdate_kept | with_reducible apply State.modSlot_kept | with_reducible apply State.raise_kept | with_reducible apply kept_ite | with_reducible apply kept_ite_fst | (with_reducible refine foldl_kept _ _ ?_ ?_; (on_goal 1 => intro t a ht)) | (with_reducible refine foldl_kept_fst _ _ ?_ ?_; (on_goal 1 => intro t a ht)) | (simp only [kept_mk, keepsF_fold]) | (rename_i heq; obtain rfl := congrArg (fun (p : State × _) => p.1) heq; clear heq) | split)

@[simp] theorem State.setIntake_kept {bk : Bool} {s0 : State} (s : State) (i : Intake) (h0 : Kept bk s0 s) : Kept bk s0 (State.setIntake s i) := by
  unfold State.setIntake
  first | exact h0 | (simp [h0]; done) | (((repeat' split) <;> simp [*]); done)

@[simp] theorem State.beginStore_kept {bk : Bool} {s0 : State} (s : State) (i : Intake) (nothing : Bool) (cost : Nat) (h0 : Kept bk s0 s) : Kept bk s0 (State.beginStore s i nothing cost) := by
  unfold State.beginStore
  split
  · exact State.setIntake_kept s i h0
  · have h1 := State.claimSlot_kept s i h0
    generalize s.claimSlot i = q at h1 ⊢
    obtain ⟨t, j⟩ := q
    exact h1

@[simp] theorem State.takeDirectory_kept {bk : Bool} {s0 : State} (s : State) (i : Intake) (body : List Byte) (credits : Nat) (h0 : Kept bk s0 s) : Kept bk s0 (State.takeDirectory s i body credits) := by
  unfold State.takeDirectory
  repeat' (first | with_reducible assumption | with_reducible apply State.raise_kept | with_reducible apply State.releaseCredits_kept | with_reducible apply State.beginStore_kept | with_reducible apply kept_ite | with_reducible apply kept_ite_fst | (with_reducible refine foldl_kept _ _ ?_ ?_; (on_goal 1 => intro t a ht)) | (with_reducible refine foldl_kept_fst _ _ ?_ ?_; (on_goal 1 => intro t a ht)) | (simp only [kept_mk, keepsF_fold]) | (rename_i heq; obtain rfl := congrArg (fun (p : State × _) => p.1) heq; clear heq) | split)

@[simp] theorem State.queueCons_kept {bk : Bool} {s0 : State} (s : State) (h0 : Kept bk s0 s) : Kept bk s0 (State.queueCons s) := by
  unfold State.queueCons
  repeat' (first | with_reducible assumption | with_reducible apply State.enqueue_kept | with_reducible apply kept_ite | with_reducible apply kept_ite_fst | (with_reducible refine foldl_kept _ _ ?_ ?_; (on_goal 1 => intro t a ht)) | (with_reducible refine foldl_kept_fst _ _ ?_ ?_; (on_goal 1 => intro t a ht)) | (simp only [kept_mk, keepsF_fold]) | (rename_i heq; obtain rfl := congrArg (fun (p : State × _) => p.1) heq; clear heq) | split)

@[simp] theorem State.releaseJobs_kept {bk : Bool} {s0 : State} (s : State) (h0 : Kept bk s0 s) : Kept bk s0 (State.releaseJobs s) := by
  unfold State.releaseJobs
  repeat' (first | with_reducible assumption | with_reducible apply kept_ite | with_reducible apply kept_ite_fst | (with_reducible refine foldl_kept _ _ ?_ ?_; (on_goal 1 => intro t a ht)) | (with_reducible refine foldl_kept_fst _ _ ?_ ?_; (on_goal 1 => intro t a ht)) | (intro t n ht) | (intro t ht) | (simp only [kept_mk, keepsF_fold]) | (rename_i heq; obtain rfl := congrArg (fun (p : State × _) => p.1) heq; clear heq) | split)

@[simp] theorem State.pealForget_kept {bk : Bool} {s0 : State} (s : State) (h0 : Kept bk s0 s) : Kept bk s0 (State.pealForget s) := by
  unfold State.pealForget
  first | exact h0 | (simp [h0]; done) | (((repeat' split) <;> simp [*]); done)

@[simp] theorem State.snareOff_kept {bk : Bool} {s0 : State} (s : State) (h0 : Kept bk s0 s) : Kept bk s0 (State.snareOff s) := by
  unfold State.snareOff
  repeat' (first | with_reducible assumption | with_reducible apply State.resetRegs_kept | with_reducible apply kept_ite | with_reducible apply kept_ite_fst | (with_reducible refine foldl_kept _ _ ?_ ?_; (on_goal 1 => intro t a ht)) | (with_reducible refine foldl_kept_fst _ _ ?_ ?_; (on_goal 1 => intro t a ht)) | (intro t n ht) | (intro t ht) | (simp only [kept_mk, keepsF_fold]) | (rename_i heq; obtain rfl := congrArg (fun (p : State × _) => p.1) heq; clear heq) | split)

@[simp] theorem State.gateMost_kept {bk : Bool} {s0 : State} (s : State) (h0 : Kept bk s0 s) : Kept bk s0 (State.gateMost s) := by
  unfold State.gateMost
  repeat' (first | with_reducible assumption | with_reducible apply State.resetRegs_kept | with_reducible apply State.snareOff_kept | with_reducible apply State.pealForget_kept | with_reducible apply State.linkOff_kept | with_reducible apply kept_ite | with_reducible apply kept_ite_fst | (with_reducible refine foldl_kept _ _ ?_ ?_; (on_goal 1 => intro t a ht)) | (with_reducible refine foldl_kept_fst _ _ ?_ ?_; (on_goal 1 => intro t a ht)) | (intro t n ht) | (intro t ht) | (simp only [kept_mk, keepsF_fold]) | (rename_i heq; obtain rfl := congrArg (fun (p : State × _) => p.1) heq; clear heq) | split)

@[simp] theorem State.aonOnly_kept {bk : Bool} {s0 : State} (s : State) (h0 : Kept bk s0 s) : Kept bk s0 (State.aonOnly s) := by
  unfold State.aonOnly
  repeat' (first | with_reducible assumption | with_reducible apply State.raise_kept | with_reducible apply State.gateMost_kept | with_reducible apply kept_ite | with_reducible apply kept_ite_fst | (with_reducible refine foldl_kept _ _ ?_ ?_; (on_goal 1 => intro t a ht)) | (with_reducible refine foldl_kept_fst _ _ ?_ ?_; (on_goal 1 => intro t a ht)) | (simp only [kept_mk, keepsF_fold]) | (rename_i heq; obtain rfl := congrArg (fun (p : State × _) => p.1) heq; clear heq) | split)

@[simp] theorem State.closeStep6_kept {bk : Bool} {s0 : State} (s : State) (h0 : Kept bk s0 s) : Kept bk s0 (State.closeStep6 s) := by
  unfold State.closeStep6
  repeat' (first | with_reducible assumption | with_reducible apply State.snareOff_kept | with_reducible apply State.linkOff_kept | with_reducible apply State.releaseJobs_kept | with_reducible apply State.dropAll_kept | with_reducible apply kept_ite | with_reducible apply kept_ite_fst | (with_reducible refine foldl_kept _ _ ?_ ?_; (on_goal 1 => intro t a ht)) | (with_reducible refine foldl_kept_fst _ _ ?_ ?_; (on_goal 1 => intro t a ht)) | (intro t n ht) | (intro t ht) | (simp only [kept_mk, keepsF_fold]) | (rename_i heq; obtain rfl := congrArg (fun (p : State × _) => p.1) heq; clear heq) | split)

@[simp] theorem State.closeDark_kept {bk : Bool} {s0 : State} (s : State) (h0 : Kept bk s0 s) : Kept bk s0 (State.closeDark s) := by
  unfold State.closeDark
  repeat' (first | with_reducible assumption | with_reducible apply State.closeStep6_kept | with_reducible apply State.aonOnly_kept | with_reducible apply kept_ite | with_reducible apply kept_ite_fst | (with_reducible refine foldl_kept _ _ ?_ ?_; (on_goal 1 => intro t a ht)) | (with_reducible refine foldl_kept_fst _ _ ?_ ?_; (on_goal 1 => intro t a ht)) | (intro t n ht) | (intro t ht) | (simp only [kept_mk, keepsF_fold]) | (rename_i heq; obtain rfl := congrArg (fun (p : State × _) => p.1) heq; clear heq) | split)

@[simp] theorem State.closeKnell_kept {bk : Bool} {s0 : State} (s : State) (h0 : Kept bk s0 s) : Kept bk s0 (State.closeKnell s) := by
  unfold State.closeKnell
  repeat' (first | with_reducible assumption | with_reducible apply State.saveNow_kept | with_reducible apply State.endJob_kept | with_reducible apply State.modSlot_kept | with_reducible apply State.raise_kept | with_reducible apply State.boundary_kept | with_reducible apply State.closeDark_kept | with_reducible apply State.queueCons_kept | with_reducible apply kept_ite | with_reducible apply kept_ite_fst | (with_reducible refine foldl_kept _ _ ?_ ?_; (on_goal 1 => intro t a ht)) | (with_reducible refine foldl_kept_fst _ _ ?_ ?_; (on_goal 1 => intro t a ht)) | (simp only [kept_mk, keepsF_fold]) | (rename_i heq; obtain rfl := congrArg (fun (p : State × _) => p.1) heq; clear heq) | split)

@[simp] theorem State.tryClose_kept {bk : Bool} {s0 : State} (s : State) (h0 : Kept bk s0 s) : Kept bk s0 (State.tryClose s) := by
  unfold State.tryClose
  first | exact h0 | (simp [h0]; done) | (((repeat' split) <;> simp [*]); done)

@[simp] theorem State.endIntake_kept {bk : Bool} {s0 : State} (s : State) (code : Nat) (h0 : Kept bk s0 s) : Kept bk s0 (State.endIntake s code) := by
  unfold State.endIntake
  repeat' (first | with_reducible assumption | with_reducible apply State.setIntake_kept | with_reducible apply State.raise_kept | with_reducible apply State.linkOff_kept | with_reducible apply State.tryClose_kept | with_reducible apply kept_ite | with_reducible apply kept_ite_fst | (with_reducible refine foldl_kept _ _ ?_ ?_; (on_goal 1 => intro t a ht)) | (with_reducible refine foldl_kept_fst _ _ ?_ ?_; (on_goal 1 => intro t a ht)) | (simp only [kept_mk, keepsF_fold]) | (rename_i heq; obtain rfl := congrArg (fun (p : State × _) => p.1) heq; clear heq) | split)

@[simp] theorem State.takeData_kept {bk : Bool} {s0 : State} (s : State) (i : Intake) (body : List Byte) (credits : Nat) (h0 : Kept bk s0 s) : Kept bk s0 (State.takeData s i body credits) := by
  unfold State.takeData
  repeat' (first | with_reducible assumption | with_reducible apply State.releaseCredits_kept | with_reducible apply State.setIntake_kept | with_reducible apply State.endIntake_kept | with_reducible apply kept_ite | with_reducible apply kept_ite_fst | (with_reducible refine foldl_kept _ _ ?_ ?_; (on_goal 1 => intro t a ht)) | (with_reducible refine foldl_kept_fst _ _ ?_ ?_; (on_goal 1 => intro t a ht)) | (simp only [kept_mk, keepsF_fold]) | (rename_i heq; obtain rfl := congrArg (fun (p : State × _) => p.1) heq; clear heq) | split)

@[simp] theorem State.grantLast_kept {bk : Bool} {s0 : State} (s : State) (h0 : Kept bk s0 s) : Kept bk s0 (State.grantLast s) := by
  unfold State.grantLast
  first | exact h0 | (simp [h0]; done) | (((repeat' split) <;> simp [*]); done)

@[simp] theorem State.effKnellSegmentStart_kept {bk : Bool} {s0 : State} (s : State) (h0 : Kept bk s0 s) : Kept bk s0 (State.effKnellSegmentStart s) := by
  unfold State.effKnellSegmentStart
  repeat' (first | with_reducible assumption | with_reducible apply State.passOwn_kept | with_reducible apply State.stamp_kept | with_reducible apply State.grantLast_kept | with_reducible apply State.touchAll_kept | with_reducible apply State.setIntake_kept | with_reducible apply kept_ite | with_reducible apply kept_ite_fst | (with_reducible refine foldl_kept _ _ ?_ ?_; (on_goal 1 => intro t a ht)) | (with_reducible refine foldl_kept_fst _ _ ?_ ?_; (on_goal 1 => intro t a ht)) | (simp only [kept_mk, keepsF_fold]) | (rename_i heq; obtain rfl := congrArg (fun (p : State × _) => p.1) heq; clear heq) | split)

@[simp] theorem State.segmentCommitted_kept {bk : Bool} {s0 : State} (s : State) (p : PipeRec) (h0 : Kept bk s0 s) : Kept bk s0 (State.segmentCommitted s p) := by
  unfold State.segmentCommitted
  repeat' (first | with_reducible assumption | with_reducible apply State.modSlot_kept | with_reducible apply State.releaseCredits_kept | with_reducible apply State.tryClose_kept | with_reducible apply State.setIntake_kept | with_reducible apply kept_ite | with_reducible apply kept_ite_fst | (with_reducible refine foldl_kept _ _ ?_ ?_; (on_goal 1 => intro t a ht)) | (with_reducible refine foldl_kept_fst _ _ ?_ ?_; (on_goal 1 => intro t a ht)) | (simp only [kept_mk, keepsF_fold]) | (rename_i heq; obtain rfl := congrArg (fun (p : State × _) => p.1) heq; clear heq) | split)

@[simp] theorem State.noteRx_kept {bk : Bool} {s0 : State} (s : State) (bad : Bool) (h0 : Kept bk s0 s) : Kept bk s0 (State.noteRx s bad) := by
  unfold State.noteRx
  first | exact h0 | (simp [h0]; done) | (((repeat' split) <;> simp [*]); done)

@[simp] theorem State.rxBad_kept {bk : Bool} {s0 : State} (s : State) (h0 : Kept bk s0 s) : Kept bk s0 (State.rxBad s) := by
  unfold State.rxBad
  repeat' (first | with_reducible assumption | with_reducible apply State.raise_kept | with_reducible apply State.count_kept | with_reducible apply State.noteRx_kept | with_reducible apply kept_ite | with_reducible apply kept_ite_fst | (with_reducible refine foldl_kept _ _ ?_ ?_; (on_goal 1 => intro t a ht)) | (with_reducible refine foldl_kept_fst _ _ ?_ ?_; (on_goal 1 => intro t a ht)) | (simp only [kept_mk, keepsF_fold]) | (rename_i heq; obtain rfl := congrArg (fun (p : State × _) => p.1) heq; clear heq) | split)

@[simp] theorem State.rxAck_kept {bk : Bool} {s0 : State} (s : State) (seq : BitVec 12) (h0 : Kept bk s0 s) : Kept bk s0 (State.rxAck s seq).1 := by
  unfold State.rxAck
  repeat' (first | with_reducible assumption | with_reducible apply State.raise_kept | with_reducible apply State.count_kept | with_reducible apply kept_ite | with_reducible apply kept_ite_fst | (with_reducible refine foldl_kept _ _ ?_ ?_; (on_goal 1 => intro t a ht)) | (with_reducible refine foldl_kept_fst _ _ ?_ ?_; (on_goal 1 => intro t a ht)) | (simp only [kept_mk, keepsF_fold]) | (rename_i heq; obtain rfl := congrArg (fun (p : State × _) => p.1) heq; clear heq) | split)

@[simp] theorem State.startReplay_kept {bk : Bool} {s0 : State} (s : State) (h0 : Kept bk s0 s) : Kept bk s0 (State.startReplay s) := by
  unfold State.startReplay
  first | exact h0 | (simp [h0]; done) | (((repeat' split) <;> simp [*]); done)

@[simp] theorem State.request_kept {bk : Bool} {s0 : State} (s : State) (typ : Nat) (lanes : BitVec 4) (why : List ReqWhy) (h0 : Kept bk s0 s) : Kept bk s0 (State.request s typ lanes why) := by
  unfold State.request
  first | exact h0 | (simp [h0]; done) | (((repeat' split) <;> simp [*]); done)

@[simp] theorem State.ask_kept {bk : Bool} {s0 : State} (s : State) (typ : Nat) (lanes : BitVec 4) (why : ReqWhy) (h0 : Kept bk s0 s) : Kept bk s0 (State.ask s typ lanes why) := by
  unfold State.ask
  first | exact h0 | (simp [h0]; done) | (((repeat' split) <;> simp [*]); done)

@[simp] theorem State.endRequest_kept {bk : Bool} {s0 : State} (s : State) (h0 : Kept bk s0 s) : Kept bk s0 (State.endRequest s) := by
  unfold State.endRequest
  first | exact h0 | (simp [h0]; done) | (((repeat' split) <;> simp [*]); done)

@[simp] theorem State.withdraw_kept {bk : Bool} {s0 : State} (s : State) (h0 : Kept bk s0 s) : Kept bk s0 (State.withdraw s) := by
  unfold State.withdraw
  first | exact h0 | (simp [h0]; done) | (((repeat' split) <;> simp [*]); done)

@[simp] theorem State.failOpen_kept {bk : Bool} {s0 : State} (s : State) (cls : Cls) (h0 : Kept bk s0 s) : Kept bk s0 (State.failOpen s cls) := by
  unfold State.failOpen
  repeat' (first | with_reducible assumption | with_reducible apply State.drop_kept | with_reducible apply State.setIntake_kept | with_reducible apply State.badFrame_kept | with_reducible apply State.releaseCredits_kept | with_reducible apply State.dropHeader_kept | with_reducible apply kept_ite | with_reducible apply kept_ite_fst | (with_reducible refine foldl_kept _ _ ?_ ?_; (on_goal 1 => intro t a ht)) | (with_reducible refine foldl_kept_fst _ _ ?_ ?_; (on_goal 1 => intro t a ht)) | (simp only [kept_mk, keepsF_fold]) | (rename_i heq; obtain rfl := congrArg (fun (p : State × _) => p.1) heq; clear heq) | split)

@[simp] theorem State.frameLayer_kept {bk : Bool} {s0 : State} (s : State) (cls : Cls) (sof : Bool) (eof : Bool) (n : Nat) (h0 : Kept bk s0 s) : Kept bk s0 (State.frameLayer s cls sof eof n) := by
  unfold State.frameLayer
  repeat' (first | with_reducible assumption | with_reducible apply State.freeSpace_kept | with_reducible apply State.raise_kept | with_reducible apply State.count_kept | with_reducible apply State.badFrame_kept | with_reducible apply State.releaseCredits_kept | with_reducible apply State.failOpen_kept | with_reducible apply kept_ite | with_reducible apply kept_ite_fst | (with_reducible refine foldl_kept _ _ ?_ ?_; (on_goal 1 => intro t a ht)) | (with_reducible refine foldl_kept_fst _ _ ?_ ?_; (on_goal 1 => intro t a ht)) | (simp only [kept_mk, keepsF_fold]) | (rename_i heq; obtain rfl := congrArg (fun (p : State × _) => p.1) heq; clear heq) | split)

@[simp] theorem State.effDataPacket_kept {bk : Bool} {s0 : State} (s : State) (seq : BitVec 12) (cls : Cls) (sof : Bool) (eof : Bool) (len : Nat) (ack : Option (BitVec 12)) (h0 : Kept bk s0 s) : Kept bk s0 (State.effDataPacket s seq cls sof eof len ack) := by
  unfold State.effDataPacket
  repeat' (first | with_reducible assumption | with_reducible apply State.rxBad_kept | with_reducible apply State.rxAck_kept | with_reducible apply State.noteRx_kept | with_reducible apply State.frameLayer_kept | with_reducible apply State.count_kept | with_reducible apply kept_ite | with_reducible apply kept_ite_fst | (with_reducible refine foldl_kept _ _ ?_ ?_; (on_goal 1 => intro t a ht)) | (with_reducible refine foldl_kept_fst _ _ ?_ ?_; (on_goal 1 => intro t a ht)) | (simp only [kept_mk, keepsF_fold]) | (rename_i heq; obtain rfl := congrArg (fun (p : State × _) => p.1) heq; clear heq) | split)

@[simp] theorem State.effAckPacket_kept {bk : Bool} {s0 : State} (s : State) (seq : BitVec 12) (h0 : Kept bk s0 s) : Kept bk s0 (State.effAckPacket s seq) := by
  unfold State.effAckPacket
  first | exact h0 | (simp [h0]; done) | (((repeat' split) <;> simp [*]); done)

@[simp] theorem State.effNakPacket_kept {bk : Bool} {s0 : State} (s : State) (seq : BitVec 12) (h0 : Kept bk s0 s) : Kept bk s0 (State.effNakPacket s seq) := by
  unfold State.effNakPacket
  repeat' (first | with_reducible assumption | with_reducible apply State.rxAck_kept | with_reducible apply State.noteRx_kept | with_reducible apply State.startReplay_kept | with_reducible apply kept_ite | with_reducible apply kept_ite_fst | (with_reducible refine foldl_kept _ _ ?_ ?_; (on_goal 1 => intro t a ht)) | (with_reducible refine foldl_kept_fst _ _ ?_ ?_; (on_goal 1 => intro t a ht)) | (simp only [kept_mk, keepsF_fold]) | (rename_i heq; obtain rfl := congrArg (fun (p : State × _) => p.1) heq; clear heq) | split)

@[simp] theorem State.effCreditPacket_kept {bk : Bool} {s0 : State} (s : State) (mgmt : BitVec 16) (peal : BitVec 16) (h0 : Kept bk s0 s) : Kept bk s0 (State.effCreditPacket s mgmt peal) := by
  unfold State.effCreditPacket
  first | exact h0 | (simp [h0]; done) | (((repeat' split) <;> simp [*]); done)

@[simp] theorem State.enterTs1_kept {bk : Bool} {s0 : State} (s : State) (fromActive : Bool) (full : Bool) (h0 : Kept bk s0 s) : Kept bk s0 (State.enterTs1 s fromActive full) := by
  unfold State.enterTs1
  first | exact h0 | (simp [h0]; done) | (((repeat' split) <;> simp [*]); done)

@[simp] theorem State.enterTs2_kept {bk : Bool} {s0 : State} (s : State) (h0 : Kept bk s0 s) : Kept bk s0 (State.enterTs2 s) := by
  unfold State.enterTs2
  first | exact h0 | (simp [h0]; done) | (((repeat' split) <;> simp [*]); done)

@[simp] theorem State.effLinkReqPacket_kept {bk : Bool} {s0 : State} (s : State) (_num : Byte) (typ : Byte) (_lanes : BitVec 4) (cap : Nat) (h0 : Kept bk s0 s) : Kept bk s0 (State.effLinkReqPacket s _num typ _lanes cap) := by
  unfold State.effLinkReqPacket
  repeat' (first | with_reducible assumption | with_reducible apply State.enterTs1_kept | with_reducible apply State.withdraw_kept | with_reducible apply State.noteRx_kept | with_reducible apply kept_ite | with_reducible apply kept_ite_fst | (with_reducible refine foldl_kept _ _ ?_ ?_; (on_goal 1 => intro t a ht)) | (with_reducible refine foldl_kept_fst _ _ ?_ ?_; (on_goal 1 => intro t a ht)) | (simp only [kept_mk, keepsF_fold]) | (rename_i heq; obtain rfl := congrArg (fun (p : State × _) => p.1) heq; clear heq) | split)

@[simp] theorem State.effTs1_kept {bk : Bool} {s0 : State} (s : State) (lane : Nat) (trainId : Byte) (reqEcho : Byte) (cap : Nat) (window : Nat) (h0 : Kept bk s0 s) : Kept bk s0 (State.effTs1 s lane trainId reqEcho cap window) := by
  unfold State.effTs1
  repeat' (first | with_reducible assumption | with_reducible apply State.enterTs1_kept | with_reducible apply State.endRequest_kept | with_reducible apply State.withdraw_kept | with_reducible apply State.enterTs2_kept | with_reducible apply kept_ite | with_reducible apply kept_ite_fst | (with_reducible refine foldl_kept _ _ ?_ ?_; (on_goal 1 => intro t a ht)) | (with_reducible refine foldl_kept_fst _ _ ?_ ?_; (on_goal 1 => intro t a ht)) | (simp only [kept_mk, keepsF_fold]) | (rename_i heq; obtain rfl := congrArg (fun (p : State × _) => p.1) heq; clear heq) | split)

@[simp] theorem State.effTs1PhaseTimer_kept {bk : Bool} {s0 : State} (s : State) (h0 : Kept bk s0 s) : Kept bk s0 (State.effTs1PhaseTimer s) := by
  unfold State.effTs1PhaseTimer
  first | exact h0 | (simp [h0]; done) | (((repeat' split) <;> simp [*]); done)

@[simp] theorem State.effTrainingPhaseTimeout_kept {bk : Bool} {s0 : State} (s : State) (h0 : Kept bk s0 s) : Kept bk s0 (State.effTrainingPhaseTimeout s) := by
  unfold State.effTrainingPhaseTimeout
  first | exact h0 | (simp [h0]; done) | (((repeat' split) <;> simp [*]); done)

@[simp] theorem State.flushLate_kept {bk : Bool} {s0 : State} (s : State) (src : BitVec 16) (seq : Word) (h0 : Kept bk s0 s) : Kept bk s0 (State.flushLate s src seq) := by
  unfold State.flushLate
  repeat' (first | with_reducible assumption | with_reducible apply State.gap_kept | with_reducible apply State.setStream_kept | with_reducible apply kept_ite | with_reducible apply kept_ite_fst | (with_reducible refine foldl_kept _ _ ?_ ?_; (on_goal 1 => intro t a ht)) | (with_reducible refine foldl_kept_fst _ _ ?_ ?_; (on_goal 1 => intro t a ht)) | (intro t n ht) | (intro t ht) | (simp only [kept_mk, keepsF_fold]) | (rename_i heq; obtain rfl := congrArg (fun (p : State × _) => p.1) heq; clear heq) | split)

@[simp] theorem State.flush_kept {bk : Bool} {s0 : State} (s : State) (h0 : Kept bk s0 s) : Kept bk s0 (State.flush s) := by
  unfold State.flush
  repeat' (first | with_reducible assumption | with_reducible apply State.freeLeads_kept | with_reducible apply State.dropAll_kept | with_reducible apply State.releaseCredits_kept | with_reducible apply State.clearTx_kept | with_reducible apply State.dropHeader_kept | with_reducible apply State.setStream_kept | with_reducible apply State.gap_kept | with_reducible apply State.flushLate_kept | with_reducible apply State.countBy_kept | with_reducible apply State.raise_kept | with_reducible apply kept_ite | with_reducible apply kept_ite_fst | (with_reducible refine foldl_kept _ _ ?_ ?_; (on_goal 1 => intro t a ht)) | (with_reducible refine foldl_kept_fst _ _ ?_ ?_; (on_goal 1 => intro t a ht)) | (intro t n ht) | (intro t ht) | (simp only [kept_mk, keepsF_fold]) | (rename_i heq; obtain rfl := congrArg (fun (p : State × _) => p.1) heq; clear heq) | split)

@[simp] theorem State.linkDown_kept {bk : Bool} {s0 : State} (s : State) (next : Nat) (h0 : Kept bk s0 s) : Kept bk s0 (State.linkDown s next) := by
  unfold State.linkDown
  repeat' (first | with_reducible assumption | with_reducible apply State.boundary_kept | with_reducible apply State.raise_kept | with_reducible apply State.endRequest_kept | with_reducible apply State.count_kept | with_reducible apply State.releaseCredits_kept | with_reducible apply State.clearTx_kept | with_reducible apply State.endIntake_kept | with_reducible apply kept_ite | with_reducible apply kept_ite_fst | (with_reducible refine foldl_kept _ _ ?_ ?_; (on_goal 1 => intro t a ht)) | (with_reducible refine foldl_kept_fst _ _ ?_ ?_; (on_goal 1 => intro t a ht)) | (simp only [kept_mk, keepsF_fold]) | (rename_i heq; obtain rfl := congrArg (fun (p : State × _) => p.1) heq; clear heq) | split)

@[simp] theorem State.retrainComplete_kept {bk : Bool} {s0 : State} (s : State) (rx : BitVec 4) (tx : BitVec 4) (h0 : Kept bk s0 s) : Kept bk s0 (State.retrainComplete s rx tx) := by
  unfold State.retrainComplete
  repeat' (first | with_reducible assumption | with_reducible apply State.raise_kept | with_reducible apply State.countBy_kept | with_reducible apply State.setIntake_kept | with_reducible apply kept_ite | with_reducible apply kept_ite_fst | (with_reducible refine foldl_kept _ _ ?_ ?_; (on_goal 1 => intro t a ht)) | (with_reducible refine foldl_kept_fst _ _ ?_ ?_; (on_goal 1 => intro t a ht)) | (simp only [kept_mk, keepsF_fold]) | (rename_i heq; obtain rfl := congrArg (fun (p : State × _) => p.1) heq; clear heq) | split)

@[simp] theorem State.freshLink_kept {bk : Bool} {s0 : State} (s : State) (h0 : Kept bk s0 s) : Kept bk s0 (State.freshLink s) := by
  unfold State.freshLink
  repeat' (first | with_reducible assumption | with_reducible apply State.flush_kept | with_reducible apply State.boundary_kept | with_reducible apply State.clearTx_kept | with_reducible apply kept_ite | with_reducible apply kept_ite_fst | (with_reducible refine foldl_kept _ _ ?_ ?_; (on_goal 1 => intro t a ht)) | (with_reducible refine foldl_kept_fst _ _ ?_ ?_; (on_goal 1 => intro t a ht)) | (simp only [kept_mk, keepsF_fold]) | (rename_i heq; obtain rfl := congrArg (fun (p : State × _) => p.1) heq; clear heq) | split)

@[simp] theorem State.enterActive_kept {bk : Bool} {s0 : State} (s : State) (rxSet : BitVec 4) (resume : Bool) (next : BitVec 12) (h0 : Kept bk s0 s) : Kept bk s0 (State.enterActive s rxSet resume next) := by
  unfold State.enterActive
  repeat' (first | with_reducible assumption | with_reducible apply State.rxAck_kept | with_reducible apply State.raise_kept | with_reducible apply State.freshLink_kept | with_reducible apply State.retrainComplete_kept | with_reducible apply State.ask_kept | with_reducible apply kept_ite | with_reducible apply kept_ite_fst | (with_reducible refine foldl_kept _ _ ?_ ?_; (on_goal 1 => intro t a ht)) | (with_reducible refine foldl_kept_fst _ _ ?_ ?_; (on_goal 1 => intro t a ht)) | (simp only [kept_mk, keepsF_fold]) | (rename_i heq; obtain rfl := congrArg (fun (p : State × _) => p.1) heq; clear heq) | split)

@[simp] theorem State.effTs2_kept {bk : Bool} {s0 : State} (s : State) (lane : Nat) (trainId : Byte) (cap : Nat) (rxSet : BitVec 4) (resume : Bool) (next : BitVec 12) (window : Nat) (sent : Nat) (h0 : Kept bk s0 s) : Kept bk s0 (State.effTs2 s lane trainId cap rxSet resume next window sent) := by
  unfold State.effTs2
  first | exact h0 | (simp [h0]; done) | (((repeat' split) <;> simp [*]); done)

@[simp] theorem State.effAckTimer_kept {bk : Bool} {s0 : State} (s : State) (h0 : Kept bk s0 s) : Kept bk s0 (State.effAckTimer s) := by
  unfold State.effAckTimer
  first | exact h0 | (simp [h0]; done) | (((repeat' split) <;> simp [*]); done)

@[simp] theorem State.effReplayTimeout_kept {bk : Bool} {s0 : State} (s : State) (h0 : Kept bk s0 s) : Kept bk s0 (State.effReplayTimeout s) := by
  unfold State.effReplayTimeout
  first | exact h0 | (simp [h0]; done) | (((repeat' split) <;> simp [*]); done)

@[simp] theorem State.effLinkReqRepeat_kept {bk : Bool} {s0 : State} (s : State) (h0 : Kept bk s0 s) : Kept bk s0 (State.effLinkReqRepeat s) := by
  unfold State.effLinkReqRepeat
  first | exact h0 | (simp [h0]; done) | (((repeat' split) <;> simp [*]); done)

@[simp] theorem State.effRetrainTimeout_kept {bk : Bool} {s0 : State} (s : State) (h0 : Kept bk s0 s) : Kept bk s0 (State.effRetrainTimeout s) := by
  unfold State.effRetrainTimeout
  first | exact h0 | (simp [h0]; done) | (((repeat' split) <;> simp [*]); done)

@[simp] theorem State.effNoValidSymbolTimeout_kept {bk : Bool} {s0 : State} (s : State) (h0 : Kept bk s0 s) : Kept bk s0 (State.effNoValidSymbolTimeout s) := by
  unfold State.effNoValidSymbolTimeout
  first | exact h0 | (simp [h0]; done) | (((repeat' split) <;> simp [*]); done)

@[simp] theorem State.effErrorWindowLinkDown_kept {bk : Bool} {s0 : State} (s : State) (h0 : Kept bk s0 s) : Kept bk s0 (State.effErrorWindowLinkDown s) := by
  unfold State.effErrorWindowLinkDown
  first | exact h0 | (simp [h0]; done) | (((repeat' split) <;> simp [*]); done)

@[simp] theorem State.effLaneFault_kept {bk : Bool} {s0 : State} (s : State) (lanes : BitVec 4) (h0 : Kept bk s0 s) : Kept bk s0 (State.effLaneFault s lanes) := by
  unfold State.effLaneFault
  first | exact h0 | (simp [h0]; done) | (((repeat' split) <;> simp [*]); done)

@[simp] theorem State.effGraceExpiry_kept {bk : Bool} {s0 : State} (s : State) (h0 : Kept bk s0 s) : Kept bk s0 (State.effGraceExpiry s) := by
  unfold State.effGraceExpiry
  first | exact h0 | (simp [h0]; done) | (((repeat' split) <;> simp [*]); done)

@[simp] theorem State.wakeLink_kept {bk : Bool} {s0 : State} (s : State) (h0 : Kept bk s0 s) : Kept bk s0 (State.wakeLink s) := by
  unfold State.wakeLink
  first | exact h0 | (simp [h0]; done) | (((repeat' split) <;> simp [*]); done)

@[simp] theorem State.effClockLocked_kept {bk : Bool} {s0 : State} (s : State) (h0 : Kept bk s0 s) : Kept bk s0 (State.effClockLocked s) := by
  unfold State.effClockLocked
  first | exact h0 | (simp [h0]; done) | (((repeat' split) <;> simp [*]); done)

@[simp] theorem State.setStmEn_kept {bk : Bool} {s0 : State} (s : State) (en : Bool) (h0 : Kept bk s0 s) : Kept bk s0 (State.setStmEn s en) := by
  unfold State.setStmEn
  first | exact h0 | (simp [h0]; done) | (((repeat' split) <;> simp [*]); done)

@[simp] theorem State.requestRetrain_kept {bk : Bool} {s0 : State} (s : State) (full : Bool) (h0 : Kept bk s0 s) : Kept bk s0 (State.requestRetrain s full) := by
  unfold State.requestRetrain
  first | exact h0 | (simp [h0]; done) | (((repeat' split) <;> simp [*]); done)

@[simp] theorem State.sendData_kept {bk : Bool} {s0 : State} (s : State) (h0 : Kept bk s0 s) : Kept bk s0 (State.sendData s) := by
  unfold State.sendData
  repeat' (first | with_reducible assumption | with_reducible apply kept_ite | with_reducible apply kept_ite_fst | (with_reducible refine foldl_kept _ _ ?_ ?_; (on_goal 1 => intro t a ht)) | (with_reducible refine foldl_kept_fst _ _ ?_ ?_; (on_goal 1 => intro t a ht)) | (simp only [kept_mk, keepsF_fold]) | (rename_i heq; obtain rfl := congrArg (fun (p : State × _) => p.1) heq; clear heq) | split)

@[simp] theorem State.effPacketBoundaryTransmit_kept {bk : Bool} {s0 : State} (s : State) (h0 : Kept bk s0 s) : Kept bk s0 (State.effPacketBoundaryTransmit s) := by
  unfold State.effPacketBoundaryTransmit
  first | exact h0 | (simp [h0]; done) | (((repeat' split) <;> simp [*]); done)

@[simp] theorem State.breakRun_kept {bk : Bool} {s0 : State} (s : State) (lane : Nat) (h0 : Kept bk s0 s) : Kept bk s0 (State.breakRun s lane) := by
  unfold State.breakRun
  first | exact h0 | (simp [h0]; done) | (((repeat' split) <;> simp [*]); done)

@[simp] theorem State.takePacket_kept {bk : Bool} {s0 : State} (s : State) (sent : Nat) (p : Packet) (h0 : Kept bk s0 s) : Kept bk s0 (State.takePacket s sent p) := by
  unfold State.takePacket
  first | exact h0 | (simp [h0]; done) | (((repeat' split) <;> simp [*]); done)

@[simp] theorem State.effBadPacket_kept {bk : Bool} {s0 : State} (s : State) (lane : Nat) (sent : Nat) (raw : List Byte) (h0 : Kept bk s0 s) : Kept bk s0 (State.effBadPacket s lane sent raw) := by
  unfold State.effBadPacket
  first | exact h0 | (simp [h0]; done) | (((repeat' split) <;> simp [*]); done)

@[simp] theorem State.setShadowRegion_kept {bk : Bool} {s0 : State} (s : State) (key : Nat) (v : Word × Word) (h0 : Kept bk s0 s) : Kept bk s0 (State.setShadowRegion s key v) := by
  unfold State.setShadowRegion
  first | exact h0 | (simp [h0]; done) | (((repeat' split) <;> simp [*]); done)

@[simp] theorem State.guardFault_kept {bk : Bool} {s0 : State} (s : State) (master : Nat) (reason : Nat) (addr : Nat) (x : Access) (imprecise : Bool) (h0 : Kept bk s0 s) : Kept bk s0 (State.guardFault s master reason addr x imprecise) := by
  unfold State.guardFault
  repeat' (first | with_reducible assumption | with_reducible apply State.raise_kept | with_reducible apply State.countBy_kept | with_reducible apply kept_ite | with_reducible apply kept_ite_fst | (with_reducible refine foldl_kept _ _ ?_ ?_; (on_goal 1 => intro t a ht)) | (with_reducible refine foldl_kept_fst _ _ ?_ ?_; (on_goal 1 => intro t a ht)) | (simp only [kept_mk, keepsF_fold]) | (rename_i heq; obtain rfl := congrArg (fun (p : State × _) => p.1) heq; clear heq) | split)

@[simp] theorem State.guarded_kept {bk : Bool} {s0 : State} (s : State) (master : Nat) (x : Access) (h0 : Kept bk s0 s) : Kept bk s0 (State.guarded s master x).1 := by
  unfold State.guarded
  first | exact h0 | (simp [h0]; done) | (((repeat' split) <;> simp [*]); done)

@[simp] theorem State.effGuardFaultAudit_kept {bk : Bool} {s0 : State} (s : State) (master : Nat) (h0 : Kept bk s0 s) : Kept bk s0 (State.effGuardFaultAudit s master) := by
  unfold State.effGuardFaultAudit
  first | exact h0 | (simp [h0]; done) | (((repeat' split) <;> simp [*]); done)

@[simp] theorem State.loadDefaults_kept {bk : Bool} {s0 : State} (s : State) (masters : List Nat) (h0 : Kept bk s0 s) : Kept bk s0 (State.loadDefaults s masters) := by
  unfold State.loadDefaults
  repeat' (first | with_reducible assumption | with_reducible apply State.setShadowRegion_kept | with_reducible apply kept_ite | with_reducible apply kept_ite_fst | (with_reducible refine foldl_kept _ _ ?_ ?_; (on_goal 1 => intro t a ht)) | (with_reducible refine foldl_kept_fst _ _ ?_ ?_; (on_goal 1 => intro t a ht)) | (simp only [kept_mk, keepsF_fold]) | (rename_i heq; obtain rfl := congrArg (fun (p : State × _) => p.1) heq; clear heq) | split)

@[simp] theorem State.requestApply_kept {bk : Bool} {s0 : State} (s : State) (v : Word) (h0 : Kept bk s0 s) : Kept bk s0 (State.requestApply s v) := by
  unfold State.requestApply
  first | exact h0 | (simp [h0]; done) | (((repeat' split) <;> simp [*]); done)

@[simp] theorem State.copyPolicy_kept {bk : Bool} {s0 : State} (s : State) (m : Nat) (h0 : Kept bk s0 s) : Kept bk s0 (State.copyPolicy s m) := by
  unfold State.copyPolicy
  repeat' (first | with_reducible assumption | with_reducible apply State.raise_kept | with_reducible apply kept_ite | with_reducible apply kept_ite_fst | (with_reducible refine foldl_kept _ _ ?_ ?_; (on_goal 1 => intro t a ht)) | (with_reducible refine foldl_kept_fst _ _ ?_ ?_; (on_goal 1 => intro t a ht)) | (simp only [kept_mk, keepsF_fold]) | (rename_i heq; obtain rfl := congrArg (fun (p : State × _) => p.1) heq; clear heq) | split)

@[simp] theorem State.nextGuard_kept {bk : Bool} {s0 : State} (s : State) (h0 : Kept bk s0 s) : Kept bk s0 (State.nextGuard s) := by
  unfold State.nextGuard
  first | exact h0 | (simp [h0]; done) | (((repeat' split) <;> simp [*]); done)

@[simp] theorem State.resetGuards_kept {bk : Bool} {s0 : State} (s : State) (h0 : Kept bk s0 s) : Kept bk s0 (State.resetGuards s) := by
  unfold State.resetGuards
  first | exact h0 | (simp [h0]; done) | (((repeat' split) <;> simp [*]); done)

@[simp] theorem State.setCtx_kept {bk : Bool} {s0 : State} (s : State) (c : Nat) (x : Ctx) (h0 : Kept bk s0 s) : Kept bk s0 (State.setCtx s c x) := by
  unfold State.setCtx
  first | exact h0 | (simp [h0]; done) | (((repeat' split) <;> simp [*]); done)

@[simp] theorem State.endLeases_kept {bk : Bool} {s0 : State} (s : State) (c : Nat) (h0 : Kept bk s0 s) : Kept bk s0 (State.endLeases s c) := by
  unfold State.endLeases
  first | exact h0 | (simp [h0]; done) | (((repeat' split) <;> simp [*]); done)

@[simp] theorem State.closeCtx_kept {bk : Bool} {s0 : State} (s : State) (c : Nat) (h0 : Kept bk s0 s) : Kept bk s0 (State.closeCtx s c) := by
  unfold State.closeCtx
  repeat' (first | with_reducible assumption | with_reducible apply State.endLeases_kept | with_reducible apply State.endJob_kept | with_reducible apply State.dropKind_kept | with_reducible apply State.raise_kept | with_reducible apply kept_ite | with_reducible apply kept_ite_fst | (with_reducible refine foldl_kept _ _ ?_ ?_; (on_goal 1 => intro t a ht)) | (with_reducible refine foldl_kept_fst _ _ ?_ ?_; (on_goal 1 => intro t a ht)) | (simp only [kept_mk, keepsF_fold]) | (rename_i heq; obtain rfl := congrArg (fun (p : State × _) => p.1) heq; clear heq) | split)

@[simp] theorem State.closeHosts_kept {bk : Bool} {s0 : State} (s : State) (h0 : Kept bk s0 s) : Kept bk s0 (State.closeHosts s) := by
  unfold State.closeHosts
  repeat' (first | with_reducible assumption | with_reducible apply State.closeCtx_kept | with_reducible apply kept_ite | with_reducible apply kept_ite_fst | (with_reducible refine foldl_kept _ _ ?_ ?_; (on_goal 1 => intro t a ht)) | (with_reducible refine foldl_kept_fst _ _ ?_ ?_; (on_goal 1 => intro t a ht)) | (simp only [kept_mk, keepsF_fold]) | (rename_i heq; obtain rfl := congrArg (fun (p : State × _) => p.1) heq; clear heq) | split)

@[simp] theorem State.closeAllCtx_kept {bk : Bool} {s0 : State} (s : State) (h0 : Kept bk s0 s) : Kept bk s0 (State.closeAllCtx s) := by
  unfold State.closeAllCtx
  repeat' (first | with_reducible assumption | with_reducible apply State.closeCtx_kept | with_reducible apply kept_ite | with_reducible apply kept_ite_fst | (with_reducible refine foldl_kept _ _ ?_ ?_; (on_goal 1 => intro t a ht)) | (with_reducible refine foldl_kept_fst _ _ ?_ ?_; (on_goal 1 => intro t a ht)) | (simp only [kept_mk, keepsF_fold]) | (rename_i heq; obtain rfl := congrArg (fun (p : State × _) => p.1) heq; clear heq) | split)

@[simp] theorem State.closeOwners_kept {bk : Bool} {s0 : State} (s : State) (h0 : Kept bk s0 s) : Kept bk s0 (State.closeOwners s) := by
  unfold State.closeOwners
  repeat' (first | with_reducible assumption | with_reducible apply State.closeCtx_kept | with_reducible apply kept_ite | with_reducible apply kept_ite_fst | (with_reducible refine foldl_kept _ _ ?_ ?_; (on_goal 1 => intro t a ht)) | (with_reducible refine foldl_kept_fst _ _ ?_ ?_; (on_goal 1 => intro t a ht)) | (simp only [kept_mk, keepsF_fold]) | (rename_i heq; obtain rfl := congrArg (fun (p : State × _) => p.1) heq; clear heq) | split)

@[simp] theorem State.countRefused_kept {bk : Bool} {s0 : State} (s : State) (h0 : Kept bk s0 s) : Kept bk s0 (State.countRefused s) := by
  unfold State.countRefused
  repeat' (first | with_reducible assumption | with_reducible apply State.countBy_kept | with_reducible apply State.raise_kept | with_reducible apply kept_ite | with_reducible apply kept_ite_fst | (with_reducible refine foldl_kept _ _ ?_ ?_; (on_goal 1 => intro t a ht)) | (with_reducible refine foldl_kept_fst _ _ ?_ ?_; (on_goal 1 => intro t a ht)) | (intro t n ht) | (intro t ht) | (simp only [kept_mk, keepsF_fold]) | (rename_i heq; obtain rfl := congrArg (fun (p : State × _) => p.1) heq; clear heq) | split)

@[simp] theorem State.refuseOpen_kept {bk : Bool} {s0 : State} (s : State) (h : MgmtHdr) (reason : Nat) (h0 : Kept bk s0 s) : Kept bk s0 (State.refuseOpen s h reason) := by
  unfold State.refuseOpen
  repeat' (first | with_reducible assumption | with_reducible apply State.complete_kept | with_reducible apply State.countRefused_kept | with_reducible apply kept_ite | with_reducible apply kept_ite_fst | (with_reducible refine foldl_kept _ _ ?_ ?_; (on_goal 1 => intro t a ht)) | (with_reducible refine foldl_kept_fst _ _ ?_ ?_; (on_goal 1 => intro t a ht)) | (intro t n ht) | (intro t ht) | (simp only [kept_mk, keepsF_fold]) | (rename_i heq; obtain rfl := congrArg (fun (p : State × _) => p.1) heq; clear heq) | split)

@[simp] theorem State.refuseOpenStatus_kept {bk : Bool} {s0 : State} (s : State) (h : MgmtHdr) (status : Nat) (h0 : Kept bk s0 s) : Kept bk s0 (State.refuseOpenStatus s h status) := by
  unfold State.refuseOpenStatus
  repeat' (first | with_reducible assumption | with_reducible apply State.answer_kept | with_reducible apply State.countRefused_kept | with_reducible apply kept_ite | with_reducible apply kept_ite_fst | (with_reducible refine foldl_kept _ _ ?_ ?_; (on_goal 1 => intro t a ht)) | (with_reducible refine foldl_kept_fst _ _ ?_ ?_; (on_goal 1 => intro t a ht)) | (intro t n ht) | (intro t ht) | (simp only [kept_mk, keepsF_fold]) | (rename_i heq; obtain rfl := congrArg (fun (p : State × _) => p.1) heq; clear heq) | split)

theorem State.evict_kept {bk : Bool} {s0 : State} (s : State) (e : Option (Nat × Ctx)) (h0 : Kept bk s0 s) : KeptO bk s0 (State.evict s e) := by
  unfold State.evict
  repeat' (first | with_reducible assumption | with_reducible apply State.countBy_kept | with_reducible apply State.raise_kept | with_reducible apply State.closeCtx_kept | (refine keptO_use ?_ (by assumption)) | exact keptO_none _ _ | with_reducible apply keptO_some | with_reducible apply keptO_ite | (with_reducible refine keptO_map ?_ ?_; (on_goal 2 => intro t ht)) | with_reducible apply kept_ite | with_reducible apply kept_ite_fst | (with_reducible refine foldl_kept _ _ ?_ ?_; (on_goal 1 => intro t a ht)) | (with_reducible refine foldl_kept_fst _ _ ?_ ?_; (on_goal 1 => intro t a ht)) | (simp only [kept_mk, keepsF_fold]) | (rename_i heq; obtain rfl := congrArg (fun (p : State × _) => p.1) heq; clear heq) | split)

theorem State.makeRoom_kept {bk : Bool} {s0 : State} (s : State) (host : Nat) (h0 : Kept bk s0 s) : KeptO bk s0 (State.makeRoom s host) := by
  unfold State.makeRoom
  repeat' (first | with_reducible assumption | with_reducible apply State.evict_kept | (refine keptO_use ?_ (by assumption)) | exact keptO_none _ _ | with_reducible apply keptO_some | with_reducible apply keptO_ite | (with_reducible refine keptO_map ?_ ?_; (on_goal 2 => intro t ht)) | with_reducible apply kept_ite | with_reducible apply kept_ite_fst | (with_reducible refine foldl_kept _ _ ?_ ?_; (on_goal 1 => intro t a ht)) | (with_reducible refine foldl_kept_fst _ _ ?_ ?_; (on_goal 1 => intro t a ht)) | (simp only [kept_mk, keepsF_fold]) | (rename_i heq; obtain rfl := congrArg (fun (p : State × _) => p.1) heq; clear heq) | split)

@[simp] theorem State.helloStart_kept {bk : Bool} {s0 : State} (s : State) (h : MgmtHdr) (method : Nat) (rights : Byte) (point : List Byte) (h0 : Kept bk s0 s) : Kept bk s0 (State.helloStart s h method rights point) := by
  unfold State.helloStart
  repeat' (first | with_reducible assumption | with_reducible apply State.boundary_kept | with_reducible apply State.refuseOpen_kept | with_reducible apply State.makeRoom_kept | with_reducible apply State.setCtx_kept | (refine keptO_use ?_ (by assumption)) | exact keptO_none _ _ | with_reducible apply keptO_some | with_reducible apply keptO_ite | (with_reducible refine keptO_map ?_ ?_; (on_goal 2 => intro t ht)) | with_reducible apply kept_ite | with_reducible apply kept_ite_fst | (with_reducible refine foldl_kept _ _ ?_ ?_; (on_goal 1 => intro t a ht)) | (with_reducible refine foldl_kept_fst _ _ ?_ ?_; (on_goal 1 => intro t a ht)) | (simp only [kept_mk, keepsF_fold]) | (rename_i heq; obtain rfl := congrArg (fun (p : State × _) => p.1) heq; clear heq) | split)

@[simp] theorem State.countOpened_kept {bk : Bool} {s0 : State} (s : State) (h0 : Kept bk s0 s) : Kept bk s0 (State.countOpened s) := by
  unfold State.countOpened
  first | exact h0 | (simp [h0]; done) | (((repeat' split) <;> simp [*]); done)

theorem State.helloFinish_kept {bk : Bool} {s0 : State} (s : State) (h : MgmtHdr) (c : Nat) (x : Ctx) (nonce : BitVec 256) (h0 : Kept bk s0 s) : KeptO bk s0 (State.helloFinish s h c x nonce) := by
  unfold State.helloFinish
  repeat' (first | with_reducible assumption | with_reducible apply State.countOpened_kept | with_reducible apply State.setCtx_kept | with_reducible apply State.complete_kept | (refine keptO_use ?_ (by assumption)) | exact keptO_none _ _ | with_reducible apply keptO_some | with_reducible apply keptO_ite | (with_reducible refine keptO_map ?_ ?_; (on_goal 2 => intro t ht)) | with_reducible apply kept_ite | with_reducible apply kept_ite_fst | (with_reducible refine foldl_kept _ _ ?_ ?_; (on_goal 1 => intro t a ht)) | (with_reducible refine foldl_kept_fst _ _ ?_ ?_; (on_goal 1 => intro t a ht)) | (simp only [kept_mk, keepsF_fold]) | (rename_i heq; obtain rfl := congrArg (fun (p : State × _) => p.1) heq; clear heq) | split)

theorem State.helloBlock_kept {bk : Bool} {s0 : State} (s : State) (prio : Nat) (h : MgmtHdr) (c : Nat) (b : BitVec 256) (h0 : Kept bk s0 s) : KeptO bk s0 (State.helloBlock s prio h c b) := by
  unfold State.helloBlock
  repeat' (first | with_reducible assumption | with_reducible apply State.setCtx_kept | with_reducible apply State.helloFinish_kept | (refine keptO_use ?_ (by assumption)) | exact keptO_none _ _ | with_reducible apply keptO_some | with_reducible apply keptO_ite | (with_reducible refine keptO_map ?_ ?_; (on_goal 2 => intro t ht)) | with_reducible apply kept_ite | with_reducible apply kept_ite_fst | (with_reducible refine foldl_kept _ _ ?_ ?_; (on_goal 1 => intro t a ht)) | (with_reducible refine foldl_kept_fst _ _ ?_ ?_; (on_goal 1 => intro t a ht)) | (simp only [kept_mk, keepsF_fold]) | (rename_i heq; obtain rfl := congrArg (fun (p : State × _) => p.1) heq; clear heq) | split)

@[simp] theorem State.prove_kept {bk : Bool} {s0 : State} (s : State) (h : MgmtHdr) (sig : List Byte) (h0 : Kept bk s0 s) : Kept bk s0 (State.prove s h sig) := by
  unfold State.prove
  repeat' (first | with_reducible assumption | with_reducible apply State.refuseOpen_kept | with_reducible apply State.countOpened_kept | with_reducible apply State.setCtx_kept | with_reducible apply State.complete_kept | with_reducible apply State.audit_kept | with_reducible apply State.closeCtx_kept | with_reducible apply State.raise_kept | with_reducible apply kept_ite | with_reducible apply kept_ite_fst | (with_reducible refine foldl_kept _ _ ?_ ?_; (on_goal 1 => intro t a ht)) | (with_reducible refine foldl_kept_fst _ _ ?_ ?_; (on_goal 1 => intro t a ht)) | (simp only [kept_mk, keepsF_fold]) | (rename_i heq; obtain rfl := congrArg (fun (p : State × _) => p.1) heq; clear heq) | split)

@[simp] theorem State.effSessionIdleTimeout_kept {bk : Bool} {s0 : State} (s : State) (c : Nat) (h0 : Kept bk s0 s) : Kept bk s0 (State.effSessionIdleTimeout s c) := by
  unfold State.effSessionIdleTimeout
  repeat' (first | with_reducible assumption | with_reducible apply State.boundary_kept | with_reducible apply State.countBy_kept | with_reducible apply State.raise_kept | with_reducible apply State.closeCtx_kept | with_reducible apply kept_ite | with_reducible apply kept_ite_fst | (with_reducible refine foldl_kept _ _ ?_ ?_; (on_goal 1 => intro t a ht)) | (with_reducible refine foldl_kept_fst _ _ ?_ ?_; (on_goal 1 => intro t a ht)) | (simp only [kept_mk, keepsF_fold]) | (rename_i heq; obtain rfl := congrArg (fun (p : State × _) => p.1) heq; clear heq) | split)

@[simp] theorem State.effHelloExpiry_kept {bk : Bool} {s0 : State} (s : State) (c : Nat) (h0 : Kept bk s0 s) : Kept bk s0 (State.effHelloExpiry s c) := by
  unfold State.effHelloExpiry
  repeat' (first | with_reducible assumption | with_reducible apply State.countBy_kept | with_reducible apply State.raise_kept | with_reducible apply State.closeCtx_kept | with_reducible apply kept_ite | with_reducible apply kept_ite_fst | (with_reducible refine foldl_kept _ _ ?_ ?_; (on_goal 1 => intro t a ht)) | (with_reducible refine foldl_kept_fst _ _ ?_ ?_; (on_goal 1 => intro t a ht)) | (simp only [kept_mk, keepsF_fold]) | (rename_i heq; obtain rfl := congrArg (fun (p : State × _) => p.1) heq; clear heq) | split)

@[simp] theorem State.closeSel_kept {bk : Bool} {s0 : State} (s : State) (c : Nat) (h0 : Kept bk s0 s) : Kept bk s0 (State.closeSel s c) := by
  unfold State.closeSel
  repeat' (first | with_reducible assumption | with_reducible apply State.closeCtx_kept | with_reducible apply kept_ite | with_reducible apply kept_ite_fst | (with_reducible refine foldl_kept _ _ ?_ ?_; (on_goal 1 => intro t a ht)) | (with_reducible refine foldl_kept_fst _ _ ?_ ?_; (on_goal 1 => intro t a ht)) | (intro t n ht) | (intro t ht) | (simp only [kept_mk, keepsF_fold]) | (rename_i heq; obtain rfl := congrArg (fun (p : State × _) => p.1) heq; clear heq) | split)

@[simp] theorem State.sesControl_kept {bk : Bool} {s0 : State} (s : State) (v : Word) (h0 : Kept bk s0 s) : Kept bk s0 (State.sesControl s v) := by
  unfold State.sesControl
  first | exact h0 | (simp [h0]; done) | (((repeat' split) <;> simp [*]); done)

@[simp] theorem State.keyLoaded_kept {bk : Bool} {s0 : State} (s : State) (slot : Nat) (payload : List Byte) (actor : BitVec 16) (iface : Nat) (h0 : Kept bk s0 s) : Kept bk s0 (State.keyLoaded s slot payload actor iface) := by
  unfold State.keyLoaded
  repeat' (first | with_reducible assumption | with_reducible apply State.raise_kept | with_reducible apply State.audit_kept | with_reducible apply State.tollUpdate_kept | with_reducible apply State.closeOwners_kept | with_reducible apply kept_ite | with_reducible apply kept_ite_fst | (with_reducible refine foldl_kept _ _ ?_ ?_; (on_goal 1 => intro t a ht)) | (with_reducible refine foldl_kept_fst _ _ ?_ ?_; (on_goal 1 => intro t a ht)) | (simp only [kept_mk, keepsF_fold]) | (rename_i heq; obtain rfl := congrArg (fun (p : State × _) => p.1) heq; clear heq) | split)

@[simp] theorem State.rejectKey_kept {bk : Bool} {s0 : State} (s : State) (p : Port) (code : Nat) (slot : Nat) (h0 : Kept bk s0 s) : Kept bk s0 (State.rejectKey s p code slot) := by
  unfold State.rejectKey
  repeat' (first | with_reducible assumption | with_reducible apply State.audit_kept | with_reducible apply State.raise_kept | with_reducible apply State.endMbx_kept | with_reducible apply kept_ite | with_reducible apply kept_ite_fst | (with_reducible refine foldl_kept _ _ ?_ ?_; (on_goal 1 => intro t a ht)) | (with_reducible refine foldl_kept_fst _ _ ?_ ?_; (on_goal 1 => intro t a ht)) | (simp only [kept_mk, keepsF_fold]) | (rename_i heq; obtain rfl := congrArg (fun (p : State × _) => p.1) heq; clear heq) | split)

@[simp] theorem State.keyLoad_kept {bk : Bool} {s0 : State} (s : State) (p : Port) (d : List Byte) (h0 : Kept bk s0 s) : Kept bk s0 (State.keyLoad s p d) := by
  unfold State.keyLoad
  repeat' (first | with_reducible assumption | with_reducible apply State.rejectKey_kept | with_reducible apply State.endMbx_kept | with_reducible apply State.createCls_kept | with_reducible apply kept_ite | with_reducible apply kept_ite_fst | (with_reducible refine foldl_kept _ _ ?_ ?_; (on_goal 1 => intro t a ht)) | (with_reducible refine foldl_kept_fst _ _ ?_ ?_; (on_goal 1 => intro t a ht)) | (simp only [kept_mk, keepsF_fold]) | (rename_i heq; obtain rfl := congrArg (fun (p : State × _) => p.1) heq; clear heq) | split)

@[simp] theorem State.guardReads_kept {bk : Bool} {s0 : State} (s : State) (master : Nat) (rs : List Stored) (se : Stored → Bool) (rights : Byte) (req : Nat) (h0 : Kept bk s0 s) : Kept bk s0 (State.guardReads s master rs se rights req).1 := by
  unfold State.guardReads
  repeat' (first | with_reducible assumption | with_reducible apply State.guarded_kept | with_reducible apply kept_ite | with_reducible apply kept_ite_fst | (with_reducible refine foldl_kept _ _ ?_ ?_; (on_goal 1 => intro t a ht)) | (with_reducible refine foldl_kept_fst _ _ ?_ ?_; (on_goal 1 => intro t a ht)) | (intro t n ht) | (intro t ht) | (simp only [kept_mk, keepsF_fold]) | (rename_i heq; obtain rfl := congrArg (fun (p : State × _) => p.1) heq; clear heq) | split)

@[simp] theorem State.auditExport_kept {bk : Bool} {s0 : State} (s : State) (p : Nat) (strokes : List Nat) (h0 : Kept bk s0 s) : Kept bk s0 (State.auditExport s p strokes) := by
  unfold State.auditExport
  first | exact h0 | (simp [h0]; done) | (((repeat' split) <;> simp [*]); done)

@[simp] theorem State.guardChunk_kept {bk : Bool} {s0 : State} (s : State) (master : Nat) (b : Bivik) (at0 : Nat) (n : Nat) (rights : Byte) (req : Nat) (h0 : Kept bk s0 s) : Kept bk s0 (State.guardChunk s master b at0 n rights req).1 := by
  unfold State.guardChunk
  repeat' (first | with_reducible assumption | with_reducible apply State.guardReads_kept | with_reducible apply kept_ite | with_reducible apply kept_ite_fst | (with_reducible refine foldl_kept _ _ ?_ ?_; (on_goal 1 => intro t a ht)) | (with_reducible refine foldl_kept_fst _ _ ?_ ?_; (on_goal 1 => intro t a ht)) | (intro t n ht) | (intro t ht) | (simp only [kept_mk, keepsF_fold]) | (rename_i heq; obtain rfl := congrArg (fun (p : State × _) => p.1) heq; clear heq) | split)

@[simp] theorem State.bivikOpen_kept {bk : Bool} {s0 : State} (s : State) (p : Port) (d : List Byte) (noEntropy : Bool) (h0 : Kept bk s0 s) : Kept bk s0 (State.bivikOpen s p d noEntropy) := by
  unfold State.bivikOpen
  repeat' (first | with_reducible assumption | with_reducible apply State.endMbx_kept | with_reducible apply State.guardReads_kept | with_reducible apply State.modMbx_kept | with_reducible apply State.enqueue_kept | with_reducible apply kept_ite | with_reducible apply kept_ite_fst | (with_reducible refine foldl_kept _ _ ?_ ?_; (on_goal 1 => intro t a ht)) | (with_reducible refine foldl_kept_fst _ _ ?_ ?_; (on_goal 1 => intro t a ht)) | (intro t n ht) | (intro t ht) | (simp only [kept_mk, keepsF_fold]) | (rename_i heq; obtain rfl := congrArg (fun (p : State × _) => p.1) heq; clear heq) | split)

theorem State.bivikBlock_kept {bk : Bool} {s0 : State} (s : State) (p : Port) (b : BitVec 256) (h0 : Kept bk s0 s) : KeptO bk s0 (State.bivikBlock s p b) := by
  unfold State.bivikBlock
  repeat' (first | with_reducible assumption | with_reducible apply State.auditExport_kept | with_reducible apply State.endJob_kept | with_reducible apply State.takeFresh_kept | with_reducible apply State.endMbx_kept | with_reducible apply State.modMbx_kept | (refine keptO_use ?_ (by assumption)) | exact keptO_none _ _ | with_reducible apply keptO_some | with_reducible apply keptO_ite | (with_reducible refine keptO_map ?_ ?_; (on_goal 2 => intro t ht)) | with_reducible apply kept_ite | with_reducible apply kept_ite_fst | (with_reducible refine foldl_kept _ _ ?_ ?_; (on_goal 1 => intro t a ht)) | (with_reducible refine foldl_kept_fst _ _ ?_ ?_; (on_goal 1 => intro t a ht)) | (simp only [kept_mk, keepsF_fold]) | (rename_i heq; obtain rfl := congrArg (fun (p : State × _) => p.1) heq; clear heq) | split)

@[simp] theorem State.passManifest_kept {bk : Bool} {s0 : State} (s : State) (k : Nat) (payload : List Byte) (h0 : Kept bk s0 s) : Kept bk s0 (State.passManifest s k payload) := by
  unfold State.passManifest
  repeat' (first | with_reducible assumption | with_reducible apply State.grantLast_kept | with_reducible apply State.passOwn_kept | with_reducible apply State.stamp_kept | with_reducible apply kept_ite | with_reducible apply kept_ite_fst | (with_reducible refine foldl_kept _ _ ?_ ?_; (on_goal 1 => intro t a ht)) | (with_reducible refine foldl_kept_fst _ _ ?_ ?_; (on_goal 1 => intro t a ht)) | (simp only [kept_mk, keepsF_fold]) | (rename_i heq; obtain rfl := congrArg (fun (p : State × _) => p.1) heq; clear heq) | split)

@[simp] theorem State.finishSign_kept {bk : Bool} {s0 : State} (s : State) (k : Nat) (payload : List Byte) (h0 : Kept bk s0 s) : Kept bk s0 (State.finishSign s k payload) := by
  unfold State.finishSign
  repeat' (first | with_reducible assumption | with_reducible apply State.passManifest_kept | with_reducible apply kept_ite | with_reducible apply kept_ite_fst | (with_reducible refine foldl_kept _ _ ?_ ?_; (on_goal 1 => intro t a ht)) | (with_reducible refine foldl_kept_fst _ _ ?_ ?_; (on_goal 1 => intro t a ht)) | (intro t n ht) | (intro t ht) | (simp only [kept_mk, keepsF_fold]) | (rename_i heq; obtain rfl := congrArg (fun (p : State × _) => p.1) heq; clear heq) | split)

@[simp] theorem State.kSignUnsigned_kept {bk : Bool} {s0 : State} (s : State) (k : Nat) (h0 : Kept bk s0 s) : Kept bk s0 (State.kSignUnsigned s k) := by
  unfold State.kSignUnsigned
  first | exact h0 | (simp [h0]; done) | (((repeat' split) <;> simp [*]); done)

@[simp] theorem State.spendSign_kept {bk : Bool} {s0 : State} (s : State) (k : Nat) (h0 : Kept bk s0 s) : Kept bk s0 (State.spendSign s k) := by
  unfold State.spendSign
  repeat' (first | with_reducible assumption | with_reducible apply kept_ite | with_reducible apply kept_ite_fst | (with_reducible refine foldl_kept _ _ ?_ ?_; (on_goal 1 => intro t a ht)) | (with_reducible refine foldl_kept_fst _ _ ?_ ?_; (on_goal 1 => intro t a ht)) | (intro t n ht) | (intro t ht) | (simp only [kept_mk, keepsF_fold]) | (rename_i heq; obtain rfl := congrArg (fun (p : State × _) => p.1) heq; clear heq) | split)

theorem State.kSignBlock_kept {bk : Bool} {s0 : State} (s : State) (k : Nat) (b : BitVec 256) (h0 : Kept bk s0 s) : KeptO bk s0 (State.kSignBlock s k b) := by
  unfold State.kSignBlock
  repeat' (first | with_reducible assumption | with_reducible apply State.finishSign_kept | with_reducible apply State.spendSign_kept | (refine keptO_use ?_ (by assumption)) | exact keptO_none _ _ | with_reducible apply keptO_some | with_reducible apply keptO_ite | (with_reducible refine keptO_map ?_ ?_; (on_goal 2 => intro t ht)) | with_reducible apply kept_ite | with_reducible apply kept_ite_fst | (with_reducible refine foldl_kept _ _ ?_ ?_; (on_goal 1 => intro t a ht)) | (with_reducible refine foldl_kept_fst _ _ ?_ ?_; (on_goal 1 => intro t a ht)) | (intro t n ht) | (intro t ht) | (simp only [kept_mk, keepsF_fold]) | (rename_i heq; obtain rfl := congrArg (fun (p : State × _) => p.1) heq; clear heq) | split)

@[simp] theorem State.consEnded_kept {bk : Bool} {s0 : State} (s : State) (h0 : Kept bk s0 s) : Kept bk s0 (State.consEnded s) := by
  unfold State.consEnded
  first | exact h0 | (simp [h0]; done) | (((repeat' split) <;> simp [*]); done)

@[simp] theorem State.manifestCommitted_kept {bk : Bool} {s0 : State} (s : State) (k : Nat) (stroke : Nat) (h0 : Kept bk s0 s) : Kept bk s0 (State.manifestCommitted s k stroke) := by
  unfold State.manifestCommitted
  repeat' (first | with_reducible assumption | with_reducible apply State.modSlot_kept | with_reducible apply State.consEnded_kept | with_reducible apply State.endJob_kept | with_reducible apply kept_ite | with_reducible apply kept_ite_fst | (with_reducible refine foldl_kept _ _ ?_ ?_; (on_goal 1 => intro t a ht)) | (with_reducible refine foldl_kept_fst _ _ ?_ ?_; (on_goal 1 => intro t a ht)) | (simp only [kept_mk, keepsF_fold]) | (rename_i heq; obtain rfl := congrArg (fun (p : State × _) => p.1) heq; clear heq) | split)

@[simp] theorem State.completeSlots_kept {bk : Bool} {s0 : State} (s : State) (h0 : Kept bk s0 s) : Kept bk s0 (State.completeSlots s) := by
  unfold State.completeSlots
  repeat' (first | with_reducible assumption | with_reducible apply State.modSlot_kept | with_reducible apply State.raise_kept | with_reducible apply kept_ite | with_reducible apply kept_ite_fst | (with_reducible refine foldl_kept _ _ ?_ ?_; (on_goal 1 => intro t a ht)) | (with_reducible refine foldl_kept_fst _ _ ?_ ?_; (on_goal 1 => intro t a ht)) | (simp only [kept_mk, keepsF_fold]) | (rename_i heq; obtain rfl := congrArg (fun (p : State × _) => p.1) heq; clear heq) | split)

@[simp] theorem State.effKIndex_kept {bk : Bool} {s0 : State} (s : State) (h0 : Kept bk s0 s) : Kept bk s0 (State.effKIndex s) := by
  unfold State.effKIndex
  repeat' (first | with_reducible assumption | with_reducible apply State.consEnded_kept | with_reducible apply State.completeSlots_kept | with_reducible apply State.takeCkpt_kept | with_reducible apply State.endJob_kept | with_reducible apply kept_ite | with_reducible apply kept_ite_fst | (with_reducible refine foldl_kept _ _ ?_ ?_; (on_goal 1 => intro t a ht)) | (with_reducible refine foldl_kept_fst _ _ ?_ ?_; (on_goal 1 => intro t a ht)) | (simp only [kept_mk, keepsF_fold]) | (rename_i heq; obtain rfl := congrArg (fun (p : State × _) => p.1) heq; clear heq) | split)

@[simp] theorem State.requestCons_kept {bk : Bool} {s0 : State} (s : State) (h0 : Kept bk s0 s) : Kept bk s0 (State.requestCons s) := by
  unfold State.requestCons
  first | exact h0 | (simp [h0]; done) | (((repeat' split) <;> simp [*]); done)

@[simp] theorem State.setSource_kept {bk : Bool} {s0 : State} (s : State) (x : Src) (v : Source) (h0 : Kept bk s0 s) : Kept bk s0 (State.setSource s x v) := by
  unfold State.setSource
  first | exact h0 | (simp [h0]; done) | (((repeat' split) <;> simp [*]); done)

@[simp] theorem State.wakeTrigger_kept {bk : Bool} {s0 : State} (s : State) (code : Nat) (h0 : Kept bk s0 s) : Kept bk s0 (State.wakeTrigger s code).1 := by
  unfold State.wakeTrigger
  repeat' (first | with_reducible assumption | with_reducible apply State.boundary_kept | with_reducible apply State.raise_kept | with_reducible apply kept_ite | with_reducible apply kept_ite_fst | (with_reducible refine foldl_kept _ _ ?_ ?_; (on_goal 1 => intro t a ht)) | (with_reducible refine foldl_kept_fst _ _ ?_ ?_; (on_goal 1 => intro t a ht)) | (simp only [kept_mk, keepsF_fold]) | (rename_i heq; obtain rfl := congrArg (fun (p : State × _) => p.1) heq; clear heq) | split)

@[simp] theorem State.checkReady_kept {bk : Bool} {s0 : State} (s : State) (h0 : Kept bk s0 s) : Kept bk s0 (State.checkReady s) := by
  unfold State.checkReady
  first | exact h0 | (simp [h0]; done) | (((repeat' split) <;> simp [*]); done)

@[simp] theorem State.wakeSource_kept {bk : Bool} {s0 : State} (s : State) (x : Src) (h0 : Kept bk s0 s) : Kept bk s0 (State.wakeSource s x) := by
  unfold State.wakeSource
  first | exact h0 | (simp [h0]; done) | (((repeat' split) <;> simp [*]); done)

@[simp] theorem State.leaveTest_kept {bk : Bool} {s0 : State} (s : State) (x : Src) (h0 : Kept bk s0 s) : Kept bk s0 (State.leaveTest s x) := by
  unfold State.leaveTest
  first | exact h0 | (simp [h0]; done) | (((repeat' split) <;> simp [*]); done)

@[simp] theorem State.abortTest_kept {bk : Bool} {s0 : State} (s : State) (h0 : Kept bk s0 s) : Kept bk s0 (State.abortTest s) := by
  unfold State.abortTest
  repeat' (first | with_reducible assumption | with_reducible apply State.leaveTest_kept | with_reducible apply State.endSelftest_kept | with_reducible apply State.startNextTest_kept | with_reducible apply State.raise_kept | with_reducible apply kept_ite | with_reducible apply kept_ite_fst | (with_reducible refine foldl_kept _ _ ?_ ?_; (on_goal 1 => intro t a ht)) | (with_reducible refine foldl_kept_fst _ _ ?_ ?_; (on_goal 1 => intro t a ht)) | (simp only [kept_mk, keepsF_fold]) | (rename_i heq; obtain rfl := congrArg (fun (p : State × _) => p.1) heq; clear heq) | split)

@[simp] theorem State.gateSource_kept {bk : Bool} {s0 : State} (s : State) (x : Src) (h0 : Kept bk s0 s) : Kept bk s0 (State.gateSource s x) := by
  unfold State.gateSource
  repeat' (first | with_reducible assumption | with_reducible apply State.abortTest_kept | with_reducible apply State.setDom_kept | with_reducible apply State.setSource_kept | with_reducible apply kept_ite | with_reducible apply kept_ite_fst | (with_reducible refine foldl_kept _ _ ?_ ?_; (on_goal 1 => intro t a ht)) | (with_reducible refine foldl_kept_fst _ _ ?_ ?_; (on_goal 1 => intro t a ht)) | (simp only [kept_mk, keepsF_fold]) | (rename_i heq; obtain rfl := congrArg (fun (p : State × _) => p.1) heq; clear heq) | split)

@[simp] theorem State.entPower_kept {bk : Bool} {s0 : State} (s : State) (h0 : Kept bk s0 s) : Kept bk s0 (State.entPower s) := by
  unfold State.entPower
  repeat' (first | with_reducible assumption | with_reducible apply State.wakeSource_kept | with_reducible apply State.gateSource_kept | with_reducible apply kept_ite | with_reducible apply kept_ite_fst | (with_reducible refine foldl_kept _ _ ?_ ?_; (on_goal 1 => intro t a ht)) | (with_reducible refine foldl_kept_fst _ _ ?_ ?_; (on_goal 1 => intro t a ht)) | (simp only [kept_mk, keepsF_fold]) | (rename_i heq; obtain rfl := congrArg (fun (p : State × _) => p.1) heq; clear heq) | split)

@[simp] theorem State.backscatter_kept {bk : Bool} {s0 : State} (s : State) (r : Reply) (h0 : Kept bk s0 s) : Kept bk s0 (State.backscatter s r) := by
  unfold State.backscatter
  first | exact h0 | (simp [h0]; done) | (((repeat' split) <;> simp [*]); done)

@[simp] theorem State.answerData_kept {bk : Bool} {s0 : State} (s : State) (bytes : List Byte) (h0 : Kept bk s0 s) : Kept bk s0 (State.answerData s bytes) := by
  unfold State.answerData
  repeat' (first | with_reducible assumption | with_reducible apply State.backscatter_kept | with_reducible apply State.countBy_kept | with_reducible apply kept_ite | with_reducible apply kept_ite_fst | (with_reducible refine foldl_kept _ _ ?_ ?_; (on_goal 1 => intro t a ht)) | (with_reducible refine foldl_kept_fst _ _ ?_ ?_; (on_goal 1 => intro t a ht)) | (intro t n ht) | (intro t ht) | (simp only [kept_mk, keepsF_fold]) | (rename_i heq; obtain rfl := congrArg (fun (p : State × _) => p.1) heq; clear heq) | split)

@[simp] theorem State.fieldError_kept {bk : Bool} {s0 : State} (s : State) (code : Nat) (h0 : Kept bk s0 s) : Kept bk s0 (State.fieldError s code) := by
  unfold State.fieldError
  repeat' (first | with_reducible assumption | with_reducible apply State.backscatter_kept | with_reducible apply State.countBy_kept | with_reducible apply kept_ite | with_reducible apply kept_ite_fst | (with_reducible refine foldl_kept _ _ ?_ ?_; (on_goal 1 => intro t a ht)) | (with_reducible refine foldl_kept_fst _ _ ?_ ?_; (on_goal 1 => intro t a ht)) | (simp only [kept_mk, keepsF_fold]) | (rename_i heq; obtain rfl := congrArg (fun (p : State × _) => p.1) heq; clear heq) | split)

theorem State.exportBlock_kept {bk : Bool} {s0 : State} (s : State) (b : BitVec 256) (h0 : Kept bk s0 s) : KeptO bk s0 (State.exportBlock s b) := by
  unfold State.exportBlock
  split
  · exact keptO_some (h0)
  · rename_i part stroke n chosen _
    split
    · exact keptO_none _ _
    · have h1 : ∀ t : State, Kept bk s0 t → Kept bk s0 { t with fldx.exportPend := none } := fun t ht => ht
      have h2 := h1 _ (State.auditExport_kept (s.endJob .exportSeal) part chosen (State.endJob_kept s .exportSeal h0))
      dsimp only
      split
      · exact keptO_some (State.fieldError_kept _ _ h2)
      · apply keptO_some; apply State.backscatter_kept
        exact h2

theorem State.useBlock_kept {bk : Bool} {s0 : State} (s : State) (r : EntReq) (b : BitVec 256) (h0 : Kept bk s0 s) : KeptO bk s0 (State.useBlock s r b) := by
  unfold State.useBlock
  repeat' (first | with_reducible assumption | with_reducible apply State.helloBlock_kept | with_reducible apply State.kSignBlock_kept | with_reducible apply State.bivikBlock_kept | with_reducible apply State.exportBlock_kept | (refine keptO_use ?_ (by assumption)) | exact keptO_none _ _ | with_reducible apply keptO_some | with_reducible apply keptO_ite | (with_reducible refine keptO_map ?_ ?_; (on_goal 2 => intro t ht)) | with_reducible apply kept_ite | with_reducible apply kept_ite_fst | (with_reducible refine foldl_kept _ _ ?_ ?_; (on_goal 1 => intro t a ht)) | (with_reducible refine foldl_kept_fst _ _ ?_ ?_; (on_goal 1 => intro t a ht)) | (simp only [kept_mk, keepsF_fold]) | (rename_i heq; obtain rfl := congrArg (fun (p : State × _) => p.1) heq; clear heq) | split)

@[simp] theorem State.refuseUse_kept {bk : Bool} {s0 : State} (s : State) (r : EntReq) (h0 : Kept bk s0 s) : Kept bk s0 (State.refuseUse s r) := by
  unfold State.refuseUse
  first | exact h0 | (simp [h0]; done) | (((repeat' split) <;> simp [*]); done)

@[simp] theorem State.refuseAll_kept {bk : Bool} {s0 : State} (s : State) (h0 : Kept bk s0 s) : Kept bk s0 (State.refuseAll s) := by
  unfold State.refuseAll
  repeat' (first | with_reducible assumption | with_reducible apply State.refuseUse_kept | with_reducible apply kept_ite | with_reducible apply kept_ite_fst | (with_reducible refine foldl_kept _ _ ?_ ?_; (on_goal 1 => intro t a ht)) | (with_reducible refine foldl_kept_fst _ _ ?_ ?_; (on_goal 1 => intro t a ht)) | (simp only [kept_mk, keepsF_fold]) | (rename_i heq; obtain rfl := congrArg (fun (p : State × _) => p.1) heq; clear heq) | split)

@[simp] theorem State.consume_kept {bk : Bool} {s0 : State} (s : State) (x : Src) (b : BitVec 256) (h0 : Kept bk s0 s) : Kept bk s0 (State.consume s x b).1 := by
  unfold State.consume
  repeat' (first | with_reducible assumption | with_reducible apply State.checkReady_kept | with_reducible apply State.useBlock_kept | (refine keptO_use ?_ (by assumption)) | exact keptO_none _ _ | with_reducible apply keptO_some | with_reducible apply keptO_ite | (with_reducible refine keptO_map ?_ ?_; (on_goal 2 => intro t ht)) | with_reducible apply kept_ite | with_reducible apply kept_ite_fst | (with_reducible refine foldl_kept _ _ ?_ ?_; (on_goal 1 => intro t a ht)) | (with_reducible refine foldl_kept_fst _ _ ?_ ?_; (on_goal 1 => intro t a ht)) | (simp only [kept_mk, keepsF_fold]) | (rename_i heq; obtain rfl := congrArg (fun (p : State × _) => p.1) heq; clear heq) | split)

@[simp] theorem State.servePool_kept {bk : Bool} {s0 : State} (s : State) (fuel : Nat) (h0 : Kept bk s0 s) : Kept bk s0 (State.servePool s fuel) := by
  induction fuel generalizing s with
  | zero => exact h0
  | succ fuel ih =>
  unfold State.servePool
  repeat' (first | with_reducible assumption | with_reducible apply ih | with_reducible apply State.consume_kept | with_reducible apply kept_ite | with_reducible apply kept_ite_fst | (with_reducible refine foldl_kept _ _ ?_ ?_; (on_goal 1 => intro t a ht)) | (with_reducible refine foldl_kept_fst _ _ ?_ ?_; (on_goal 1 => intro t a ht)) | (intro t n ht) | (intro t ht) | (simp only [kept_mk, keepsF_fold]) | (rename_i heq; obtain rfl := congrArg (fun (p : State × _) => p.1) heq; clear heq) | split | (intro x; clear_value x; fail_if_success (have := State.rf x)) | lift_lets)

@[simp] theorem State.feed_kept {bk : Bool} {s0 : State} (s : State) (h0 : Kept bk s0 s) : Kept bk s0 (State.feed s) := by
  unfold State.feed
  first | exact h0 | (simp [h0]; done) | (((repeat' split) <;> simp [*]); done)

@[simp] theorem State.deliver_kept {bk : Bool} {s0 : State} (s : State) (x : Src) (b : BitVec 256) (h0 : Kept bk s0 s) : Kept bk s0 (State.deliver s x b) := by
  unfold State.deliver
  repeat' (first | with_reducible assumption | with_reducible apply State.feed_kept | with_reducible apply State.consume_kept | with_reducible apply State.countBy_kept | with_reducible apply kept_ite | with_reducible apply kept_ite_fst | (with_reducible refine foldl_kept _ _ ?_ ?_; (on_goal 1 => intro t a ht)) | (with_reducible refine foldl_kept_fst _ _ ?_ ?_; (on_goal 1 => intro t a ht)) | (simp only [kept_mk, keepsF_fold]) | (rename_i heq; obtain rfl := congrArg (fun (p : State × _) => p.1) heq; clear heq) | split)

@[simp] theorem State.askBlock_kept {bk : Bool} {s0 : State} (s : State) (prio : Nat) (use : EntUse) (h0 : Kept bk s0 s) : Kept bk s0 (State.askBlock s prio use) := by
  unfold State.askBlock
  repeat' (first | with_reducible assumption | with_reducible apply State.refuseAll_kept | with_reducible apply State.feed_kept | with_reducible apply State.entPower_kept | with_reducible apply kept_ite | with_reducible apply kept_ite_fst | (with_reducible refine foldl_kept _ _ ?_ ?_; (on_goal 1 => intro t a ht)) | (with_reducible refine foldl_kept_fst _ _ ?_ ?_; (on_goal 1 => intro t a ht)) | (simp only [kept_mk, keepsF_fold]) | (rename_i heq; obtain rfl := congrArg (fun (p : State × _) => p.1) heq; clear heq) | split)

@[simp] theorem State.abortRaw_kept {bk : Bool} {s0 : State} (s : State) (h0 : Kept bk s0 s) : Kept bk s0 (State.abortRaw s) := by
  unfold State.abortRaw
  repeat' (first | with_reducible assumption | with_reducible apply State.setSource_kept | with_reducible apply State.raise_kept | with_reducible apply kept_ite | with_reducible apply kept_ite_fst | (with_reducible refine foldl_kept _ _ ?_ ?_; (on_goal 1 => intro t a ht)) | (with_reducible refine foldl_kept_fst _ _ ?_ ?_; (on_goal 1 => intro t a ht)) | (simp only [kept_mk, keepsF_fold]) | (rename_i heq; obtain rfl := congrArg (fun (p : State × _) => p.1) heq; clear heq) | split)

@[simp] theorem State.purge_kept {bk : Bool} {s0 : State} (s : State) (x : Src) (h0 : Kept bk s0 s) : Kept bk s0 (State.purge s x).1 := by
  unfold State.purge
  first | exact h0 | (simp [h0]; done) | (((repeat' split) <;> simp [*]); done)

@[simp] theorem State.failSource_kept {bk : Bool} {s0 : State} (s : State) (x : Src) (code : Nat) (count : Nat) (window : Nat) (h0 : Kept bk s0 s) : Kept bk s0 (State.failSource s x code count window) := by
  unfold State.failSource
  repeat' (first | with_reducible assumption | with_reducible apply State.setSource_kept | with_reducible apply State.setDom_kept | with_reducible apply State.raise_kept | with_reducible apply State.endTests_kept | with_reducible apply State.purge_kept | with_reducible apply State.countBy_kept | with_reducible apply State.auditSelf_kept | with_reducible apply State.abortTest_kept | with_reducible apply State.abortRaw_kept | with_reducible apply State.refuseAll_kept | with_reducible apply State.feed_kept | with_reducible apply State.entPower_kept | with_reducible apply kept_ite | with_reducible apply kept_ite_fst | (with_reducible refine foldl_kept _ _ ?_ ?_; (on_goal 1 => intro t a ht)) | (with_reducible refine foldl_kept_fst _ _ ?_ ?_; (on_goal 1 => intro t a ht)) | (intro t n ht) | (intro t ht) | (simp only [kept_mk, keepsF_fold]) | (rename_i heq; obtain rfl := congrArg (fun (p : State × _) => p.1) heq; clear heq) | split)

@[simp] theorem State.markMargins_kept {bk : Bool} {s0 : State} (s : State) (x : Src) (rct : Nat) (apt : Nat) (h0 : Kept bk s0 s) : Kept bk s0 (State.markMargins s x rct apt) := by
  unfold State.markMargins
  first | exact h0 | (simp [h0]; done) | (((repeat' split) <;> simp [*]); done)

@[simp] theorem State.blockBoundary_kept {bk : Bool} {s0 : State} (s : State) (x : Src) (h0 : Kept bk s0 s) : Kept bk s0 (State.blockBoundary s x) := by
  unfold State.blockBoundary
  repeat' (first | with_reducible assumption | with_reducible apply State.setSource_kept | with_reducible apply kept_ite | with_reducible apply kept_ite_fst | (with_reducible refine foldl_kept _ _ ?_ ?_; (on_goal 1 => intro t a ht)) | (with_reducible refine foldl_kept_fst _ _ ?_ ?_; (on_goal 1 => intro t a ht)) | (simp only [kept_mk, keepsF_fold]) | (rename_i heq; obtain rfl := congrArg (fun (p : State × _) => p.1) heq; clear heq) | split)

@[simp] theorem State.release_kept {bk : Bool} {s0 : State} (s : State) (x : Src) (w : BitVec 1024) (next : BitVec 128) (v : Source) (h0 : Kept bk s0 s) : Kept bk s0 (State.release s x w next v) := by
  unfold State.release
  repeat' (first | with_reducible assumption | with_reducible apply State.boundary_kept | with_reducible apply State.raise_kept | with_reducible apply State.setSource_kept | with_reducible apply State.countBy_kept | with_reducible apply State.blockBoundary_kept | with_reducible apply State.deliver_kept | with_reducible apply kept_ite | with_reducible apply kept_ite_fst | (with_reducible refine foldl_kept _ _ ?_ ?_; (on_goal 1 => intro t a ht)) | (with_reducible refine foldl_kept_fst _ _ ?_ ?_; (on_goal 1 => intro t a ht)) | (intro t n ht) | (intro t ht) | (simp only [kept_mk, keepsF_fold]) | (rename_i heq; obtain rfl := congrArg (fun (p : State × _) => p.1) heq; clear heq) | split)

@[simp] theorem State.afterTest_kept {bk : Bool} {s0 : State} (s : State) (x : Src) (w : BitVec 1024) (next : BitVec 128) (v : Source) (t : TestRun) (n : TestRun) (h0 : Kept bk s0 s) : Kept bk s0 (State.afterTest s x w next v t n) := by
  unfold State.afterTest
  repeat' (first | with_reducible assumption | with_reducible apply State.failSource_kept | with_reducible apply State.markMargins_kept | with_reducible apply State.release_kept | with_reducible apply kept_ite | with_reducible apply kept_ite_fst | (with_reducible refine foldl_kept _ _ ?_ ?_; (on_goal 1 => intro t a ht)) | (with_reducible refine foldl_kept_fst _ _ ?_ ?_; (on_goal 1 => intro t a ht)) | (intro t n ht) | (intro t ht) | (simp only [kept_mk, keepsF_fold]) | (rename_i heq; obtain rfl := congrArg (fun (p : State × _) => p.1) heq; clear heq) | split)

@[simp] theorem State.effBlockRelease_kept {bk : Bool} {s0 : State} (s : State) (x : Src) (w : BitVec 1024) (next : BitVec 128) (h0 : Kept bk s0 s) : Kept bk s0 (State.effBlockRelease s x w next) := by
  unfold State.effBlockRelease
  repeat' (first | with_reducible assumption | with_reducible apply State.afterTest_kept | with_reducible apply kept_ite | with_reducible apply kept_ite_fst | (with_reducible refine foldl_kept _ _ ?_ ?_; (on_goal 1 => intro t a ht)) | (with_reducible refine foldl_kept_fst _ _ ?_ ?_; (on_goal 1 => intro t a ht)) | (intro t n ht) | (intro t ht) | (simp only [kept_mk, keepsF_fold]) | (rename_i heq; obtain rfl := congrArg (fun (p : State × _) => p.1) heq; clear heq) | split)

@[simp] theorem State.effHealthTestFail_kept {bk : Bool} {s0 : State} (s : State) (x : Src) (test : Nat) (count : Nat) (window : Nat) (h0 : Kept bk s0 s) : Kept bk s0 (State.effHealthTestFail s x test count window) := by
  unfold State.effHealthTestFail
  repeat' (first | with_reducible assumption | with_reducible apply State.markMargins_kept | with_reducible apply State.failSource_kept | with_reducible apply kept_ite | with_reducible apply kept_ite_fst | (with_reducible refine foldl_kept _ _ ?_ ?_; (on_goal 1 => intro t a ht)) | (with_reducible refine foldl_kept_fst _ _ ?_ ?_; (on_goal 1 => intro t a ht)) | (simp only [kept_mk, keepsF_fold]) | (rename_i heq; obtain rfl := congrArg (fun (p : State × _) => p.1) heq; clear heq) | split)

@[simp] theorem State.effEntIdleGate_kept {bk : Bool} {s0 : State} (s : State) (x : Src) (h0 : Kept bk s0 s) : Kept bk s0 (State.effEntIdleGate s x) := by
  unfold State.effEntIdleGate
  first | exact h0 | (simp [h0]; done) | (((repeat' split) <;> simp [*]); done)

@[simp] theorem State.effEntSelftest_kept {bk : Bool} {s0 : State} (s : State) (x : Src) (kat : Bool) (w0 : BitVec 1024) (w1 : BitVec 1024) (h0 : Kept bk s0 s) : Kept bk s0 (State.effEntSelftest s x kat w0 w1) := by
  unfold State.effEntSelftest
  repeat' (first | with_reducible assumption | with_reducible apply State.startNextTest_kept | with_reducible apply State.raise_kept | with_reducible apply State.endSelftest_kept | with_reducible apply State.markMargins_kept | with_reducible apply State.setSource_kept | with_reducible apply State.failSource_kept | with_reducible apply kept_ite | with_reducible apply kept_ite_fst | (with_reducible refine foldl_kept _ _ ?_ ?_; (on_goal 1 => intro t a ht)) | (with_reducible refine foldl_kept_fst _ _ ?_ ?_; (on_goal 1 => intro t a ht)) | (simp only [kept_mk, keepsF_fold]) | (rename_i heq; obtain rfl := congrArg (fun (p : State × _) => p.1) heq; clear heq) | split)

@[simp] theorem State.rawStart_kept {bk : Bool} {s0 : State} (s : State) (h0 : Kept bk s0 s) : Kept bk s0 (State.rawStart s) := by
  unfold State.rawStart
  repeat' (first | with_reducible assumption | with_reducible apply State.boundary_kept | with_reducible apply State.raise_kept | with_reducible apply kept_ite | with_reducible apply kept_ite_fst | (with_reducible refine foldl_kept _ _ ?_ ?_; (on_goal 1 => intro t a ht)) | (with_reducible refine foldl_kept_fst _ _ ?_ ?_; (on_goal 1 => intro t a ht)) | (simp only [kept_mk, keepsF_fold]) | (rename_i heq; obtain rfl := congrArg (fun (p : State × _) => p.1) heq; clear heq) | split)

@[simp] theorem State.rawStop_kept {bk : Bool} {s0 : State} (s : State) (h0 : Kept bk s0 s) : Kept bk s0 (State.rawStop s) := by
  unfold State.rawStop
  first | exact h0 | (simp [h0]; done) | (((repeat' split) <;> simp [*]); done)

@[simp] theorem State.effRawCaptureEnd_kept {bk : Bool} {s0 : State} (s : State) (bytes : List Byte) (h0 : Kept bk s0 s) : Kept bk s0 (State.effRawCaptureEnd s bytes) := by
  unfold State.effRawCaptureEnd
  repeat' (first | with_reducible assumption | with_reducible apply State.markMargins_kept | with_reducible apply State.setSource_kept | with_reducible apply State.raise_kept | with_reducible apply kept_ite | with_reducible apply kept_ite_fst | (with_reducible refine foldl_kept _ _ ?_ ?_; (on_goal 1 => intro t a ht)) | (with_reducible refine foldl_kept_fst _ _ ?_ ?_; (on_goal 1 => intro t a ht)) | (intro t n ht) | (intro t ht) | (simp only [kept_mk, keepsF_fold]) | (rename_i heq; obtain rfl := congrArg (fun (p : State × _) => p.1) heq; clear heq) | split)

@[simp] theorem State.rawRelease_kept {bk : Bool} {s0 : State} (s : State) (h0 : Kept bk s0 s) : Kept bk s0 (State.rawRelease s) := by
  unfold State.rawRelease
  first | exact h0 | (simp [h0]; done) | (((repeat' split) <;> simp [*]); done)

@[simp] theorem State.entRead_kept {bk : Bool} {s0 : State} (s : State) (h0 : Kept bk s0 s) : Kept bk s0 (State.entRead s).1 := by
  unfold State.entRead
  first | exact h0 | (simp [h0]; done) | (((repeat' split) <;> simp [*]); done)

@[simp] theorem State.entCoreGate_kept {bk : Bool} {s0 : State} (s : State) (h0 : Kept bk s0 s) : Kept bk s0 (State.entCoreGate s) := by
  unfold State.entCoreGate
  first | exact h0 | (simp [h0]; done) | (((repeat' split) <;> simp [*]); done)

@[simp] theorem State.ringArm_kept {bk : Bool} {s0 : State} (s : State) (h0 : Kept bk s0 s) : Kept bk s0 (State.ringArm s) := by
  unfold State.ringArm
  first | exact h0 | (simp [h0]; done) | (((repeat' split) <;> simp [*]); done)

@[simp] theorem State.ringJoin_kept {bk : Bool} {s0 : State} (s : State) (n : Nat) (h0 : Kept bk s0 s) : Kept bk s0 (State.ringJoin s n) := by
  unfold State.ringJoin
  repeat' (first | with_reducible assumption | with_reducible apply kept_ite | with_reducible apply kept_ite_fst | (with_reducible refine foldl_kept _ _ ?_ ?_; (on_goal 1 => intro t a ht)) | (with_reducible refine foldl_kept_fst _ _ ?_ ?_; (on_goal 1 => intro t a ht)) | (intro t n ht) | (intro t ht) | (simp only [kept_mk, keepsF_fold]) | (rename_i heq; obtain rfl := congrArg (fun (p : State × _) => p.1) heq; clear heq) | split)

@[simp] theorem State.ringStart_kept {bk : Bool} {s0 : State} (s : State) (h0 : Kept bk s0 s) : Kept bk s0 (State.ringStart s) := by
  unfold State.ringStart
  first | exact h0 | (simp [h0]; done) | (((repeat' split) <;> simp [*]); done)

@[simp] theorem State.requestCal_kept {bk : Bool} {s0 : State} (s : State) (reason : Nat) (chs : List Nat) (h0 : Kept bk s0 s) : Kept bk s0 (State.requestCal s reason chs) := by
  unfold State.requestCal
  repeat' (first | with_reducible assumption | with_reducible apply State.enqueue_kept | with_reducible apply kept_ite | with_reducible apply kept_ite_fst | (with_reducible refine foldl_kept _ _ ?_ ?_; (on_goal 1 => intro t a ht)) | (with_reducible refine foldl_kept_fst _ _ ?_ ?_; (on_goal 1 => intro t a ht)) | (simp only [kept_mk, keepsF_fold]) | (rename_i heq; obtain rfl := congrArg (fun (p : State × _) => p.1) heq; clear heq) | split)

@[simp] theorem State.calFirstArm_kept {bk : Bool} {s0 : State} (s : State) (h0 : Kept bk s0 s) : Kept bk s0 (State.calFirstArm s) := by
  unfold State.calFirstArm
  first | exact h0 | (simp [h0]; done) | (((repeat' split) <;> simp [*]); done)

@[simp] theorem State.tryArm_kept {bk : Bool} {s0 : State} (s : State) (h0 : Kept bk s0 s) : Kept bk s0 (State.tryArm s) := by
  unfold State.tryArm
  repeat' (first | with_reducible assumption | with_reducible apply State.calFirstArm_kept | with_reducible apply State.ringStart_kept | with_reducible apply kept_ite | with_reducible apply kept_ite_fst | (with_reducible refine foldl_kept _ _ ?_ ?_; (on_goal 1 => intro t a ht)) | (with_reducible refine foldl_kept_fst _ _ ?_ ?_; (on_goal 1 => intro t a ht)) | (simp only [kept_mk, keepsF_fold]) | (rename_i heq; obtain rfl := congrArg (fun (p : State × _) => p.1) heq; clear heq) | split)

@[simp] theorem State.applyChannel_kept {bk : Bool} {s0 : State} (s : State) (n : Nat) (h0 : Kept bk s0 s) : Kept bk s0 (State.applyChannel s n) := by
  unfold State.applyChannel
  repeat' (first | with_reducible assumption | with_reducible apply State.raise_kept | with_reducible apply State.setPend_kept | with_reducible apply State.applyAt_kept | with_reducible apply State.ringJoin_kept | with_reducible apply kept_ite | with_reducible apply kept_ite_fst | (with_reducible refine foldl_kept _ _ ?_ ?_; (on_goal 1 => intro t a ht)) | (with_reducible refine foldl_kept_fst _ _ ?_ ?_; (on_goal 1 => intro t a ht)) | (intro t n ht) | (intro t ht) | (simp only [kept_mk, keepsF_fold]) | (rename_i heq; obtain rfl := congrArg (fun (p : State × _) => p.1) heq; clear heq) | split)

@[simp] theorem State.armBoundary_kept {bk : Bool} {s0 : State} (s : State) (h0 : Kept bk s0 s) : Kept bk s0 (State.armBoundary s) := by
  unfold State.armBoundary
  repeat' (first | with_reducible assumption | with_reducible apply State.applyAt_kept | with_reducible apply State.applyChannel_kept | with_reducible apply State.ringStart_kept | with_reducible apply State.tryArm_kept | with_reducible apply kept_ite | with_reducible apply kept_ite_fst | (with_reducible refine foldl_kept _ _ ?_ ?_; (on_goal 1 => intro t a ht)) | (with_reducible refine foldl_kept_fst _ _ ?_ ?_; (on_goal 1 => intro t a ht)) | (simp only [kept_mk, keepsF_fold]) | (rename_i heq; obtain rfl := congrArg (fun (p : State × _) => p.1) heq; clear heq) | split)

theorem State.passSnr_kept {bk : Bool} {s0 : State} (s : State) (typ : Byte) (flags : Byte) (payload : List Byte) (close : Option (Nat × Word)) (hook : Hook) (h0 : Kept bk s0 s) : KeptO bk s0 (State.passSnr s typ flags payload close hook) := by
  unfold State.passSnr
  repeat' (first | with_reducible assumption | with_reducible apply State.stamp_kept | with_reducible apply State.passOwn_kept | (refine keptO_use ?_ (by assumption)) | exact keptO_none _ _ | with_reducible apply keptO_some | with_reducible apply keptO_ite | (with_reducible refine keptO_map ?_ ?_; (on_goal 2 => intro t ht)) | with_reducible apply kept_ite | with_reducible apply kept_ite_fst | (with_reducible refine foldl_kept _ _ ?_ ?_; (on_goal 1 => intro t a ht)) | (with_reducible refine foldl_kept_fst _ _ ?_ ?_; (on_goal 1 => intro t a ht)) | (simp only [kept_mk, keepsF_fold]) | (rename_i heq; obtain rfl := congrArg (fun (p : State × _) => p.1) heq; clear heq) | split)

@[simp] theorem State.passCaptures_kept {bk : Bool} {s0 : State} (s : State) (fuel : Nat) (h0 : Kept bk s0 s) : Kept bk s0 (State.passCaptures s fuel) := by
  induction fuel generalizing s with
  | zero => exact h0
  | succ fuel ih =>
  unfold State.passCaptures
  repeat' (first | with_reducible assumption | with_reducible apply ih | with_reducible apply State.passSnr_kept | (refine keptO_use ?_ (by assumption)) | exact keptO_none _ _ | with_reducible apply keptO_some | with_reducible apply keptO_ite | (with_reducible refine keptO_map ?_ ?_; (on_goal 2 => intro t ht)) | with_reducible apply kept_ite | with_reducible apply kept_ite_fst | (with_reducible refine foldl_kept _ _ ?_ ?_; (on_goal 1 => intro t a ht)) | (with_reducible refine foldl_kept_fst _ _ ?_ ?_; (on_goal 1 => intro t a ht)) | (simp only [kept_mk, keepsF_fold]) | (rename_i heq; obtain rfl := congrArg (fun (p : State × _) => p.1) heq; clear heq) | split)

@[simp] theorem State.snareFeed_kept {bk : Bool} {s0 : State} (s : State) (h0 : Kept bk s0 s) : Kept bk s0 (State.snareFeed s) := by
  unfold State.snareFeed
  first | exact h0 | (simp [h0]; done) | (((repeat' split) <;> simp [*]); done)

@[simp] theorem State.showLast_kept {bk : Bool} {s0 : State} (s : State) (c : Capture) (h0 : Kept bk s0 s) : Kept bk s0 (State.showLast s c) := by
  unfold State.showLast
  first | exact h0 | (simp [h0]; done) | (((repeat' split) <;> simp [*]); done)

@[simp] theorem State.openCapture_kept {bk : Bool} {s0 : State} (s : State) (mask : BitVec 8) (cause : Nat) (tick : Nat) (evs : List ChanEvent) (h0 : Kept bk s0 s) : Kept bk s0 (State.openCapture s mask cause tick evs) := by
  unfold State.openCapture
  repeat' (first | with_reducible assumption | with_reducible apply State.raise_kept | with_reducible apply State.showLast_kept | with_reducible apply State.count_kept | with_reducible apply State.countBy_kept | with_reducible apply kept_ite | with_reducible apply kept_ite_fst | (with_reducible refine foldl_kept _ _ ?_ ?_; (on_goal 1 => intro t a ht)) | (with_reducible refine foldl_kept_fst _ _ ?_ ?_; (on_goal 1 => intro t a ht)) | (simp only [kept_mk, keepsF_fold]) | (rename_i heq; obtain rfl := congrArg (fun (p : State × _) => p.1) heq; clear heq) | split)

@[simp] theorem State.addSecondary_kept {bk : Bool} {s0 : State} (s : State) (c : Capture) (e : Option ChanEvent) (h0 : Kept bk s0 s) : Kept bk s0 (State.addSecondary s c e) := by
  unfold State.addSecondary
  first | exact h0 | (simp [h0]; done) | (((repeat' split) <;> simp [*]); done)

@[simp] theorem State.joinTrigger_kept {bk : Bool} {s0 : State} (s : State) (c : Capture) (evs : List ChanEvent) (e : ChanEvent) (h0 : Kept bk s0 s) : Kept bk s0 (State.joinTrigger s c evs e) := by
  unfold State.joinTrigger
  repeat' (first | with_reducible assumption | with_reducible apply State.showLast_kept | with_reducible apply State.raise_kept | with_reducible apply kept_ite | with_reducible apply kept_ite_fst | (with_reducible refine foldl_kept _ _ ?_ ?_; (on_goal 1 => intro t a ht)) | (with_reducible refine foldl_kept_fst _ _ ?_ ?_; (on_goal 1 => intro t a ht)) | (intro t n ht) | (intro t ht) | (simp only [kept_mk, keepsF_fold]) | (rename_i heq; obtain rfl := congrArg (fun (p : State × _) => p.1) heq; clear heq) | split)

@[simp] theorem State.effChannelEvent_kept {bk : Bool} {s0 : State} (s : State) (ch : Nat) (high : Bool) (tick : Nat) (h0 : Kept bk s0 s) : Kept bk s0 (State.effChannelEvent s ch high tick) := by
  unfold State.effChannelEvent
  repeat' (first | with_reducible assumption | with_reducible apply State.joinTrigger_kept | with_reducible apply State.addSecondary_kept | with_reducible apply State.openCapture_kept | with_reducible apply kept_ite | with_reducible apply kept_ite_fst | (with_reducible refine foldl_kept _ _ ?_ ?_; (on_goal 1 => intro t a ht)) | (with_reducible refine foldl_kept_fst _ _ ?_ ?_; (on_goal 1 => intro t a ht)) | (intro t n ht) | (intro t ht) | (simp only [kept_mk, keepsF_fold]) | (rename_i heq; obtain rfl := congrArg (fun (p : State × _) => p.1) heq; clear heq) | split)

@[simp] theorem State.snareForce_kept {bk : Bool} {s0 : State} (s : State) (h0 : Kept bk s0 s) : Kept bk s0 (State.snareForce s) := by
  unfold State.snareForce
  first | exact h0 | (simp [h0]; done) | (((repeat' split) <;> simp [*]); done)

@[simp] theorem State.noteBlind_kept {bk : Bool} {s0 : State} (s : State) (ch : Nat) (us : Nat) (units : Nat) (h0 : Kept bk s0 s) : Kept bk s0 (State.noteBlind s ch us units) := by
  unfold State.noteBlind
  first | exact h0 | (simp [h0]; done) | (((repeat' split) <;> simp [*]); done)

@[simp] theorem State.tryCal_kept {bk : Bool} {s0 : State} (s : State) (h0 : Kept bk s0 s) : Kept bk s0 (State.tryCal s) := by
  unfold State.tryCal
  first | exact h0 | (simp [h0]; done) | (((repeat' split) <;> simp [*]); done)

@[simp] theorem State.effPostWindowEnd_kept {bk : Bool} {s0 : State} (s : State) (waves : List (Nat × List Byte)) (h0 : Kept bk s0 s) : Kept bk s0 (State.effPostWindowEnd s waves) := by
  unfold State.effPostWindowEnd
  repeat' (first | with_reducible assumption | with_reducible apply State.stamp_kept | with_reducible apply State.showLast_kept | with_reducible apply State.raise_kept | with_reducible apply State.countBy_kept | with_reducible apply State.tryCal_kept | with_reducible apply State.armBoundary_kept | with_reducible apply State.snareFeed_kept | with_reducible apply kept_ite | with_reducible apply kept_ite_fst | (with_reducible refine foldl_kept _ _ ?_ ?_; (on_goal 1 => intro t a ht)) | (with_reducible refine foldl_kept_fst _ _ ?_ ?_; (on_goal 1 => intro t a ht)) | (simp only [kept_mk, keepsF_fold]) | (rename_i heq; obtain rfl := congrArg (fun (p : State × _) => p.1) heq; clear heq) | split)

@[simp] theorem State.effRingStagingDone_kept {bk : Bool} {s0 : State} (s : State) (h0 : Kept bk s0 s) : Kept bk s0 (State.effRingStagingDone s) := by
  unfold State.effRingStagingDone
  repeat' (first | with_reducible assumption | with_reducible apply State.tryCal_kept | with_reducible apply State.ringArm_kept | with_reducible apply kept_ite | with_reducible apply kept_ite_fst | (with_reducible refine foldl_kept _ _ ?_ ?_; (on_goal 1 => intro t a ht)) | (with_reducible refine foldl_kept_fst _ _ ?_ ?_; (on_goal 1 => intro t a ht)) | (simp only [kept_mk, keepsF_fold]) | (rename_i heq; obtain rfl := congrArg (fun (p : State × _) => p.1) heq; clear heq) | split)

@[simp] theorem State.effChannelEventEnd_kept {bk : Bool} {s0 : State} (s : State) (ch : Nat) (tick : Nat) (h0 : Kept bk s0 s) : Kept bk s0 (State.effChannelEventEnd s ch tick) := by
  unfold State.effChannelEventEnd
  first | exact h0 | (simp [h0]; done) | (((repeat' split) <;> simp [*]); done)

@[simp] theorem State.snareShed_kept {bk : Bool} {s0 : State} (s : State) (h0 : Kept bk s0 s) : Kept bk s0 (State.snareShed s) := by
  unfold State.snareShed
  repeat' (first | with_reducible assumption | with_reducible apply State.raise_kept | with_reducible apply State.showLast_kept | with_reducible apply kept_ite | with_reducible apply kept_ite_fst | (with_reducible refine foldl_kept _ _ ?_ ?_; (on_goal 1 => intro t a ht)) | (with_reducible refine foldl_kept_fst _ _ ?_ ?_; (on_goal 1 => intro t a ht)) | (intro t n ht) | (intro t ht) | (simp only [kept_mk, keepsF_fold]) | (rename_i heq; obtain rfl := congrArg (fun (p : State × _) => p.1) heq; clear heq) | split)

@[simp] theorem State.snareUnshed_kept {bk : Bool} {s0 : State} (s : State) (h0 : Kept bk s0 s) : Kept bk s0 (State.snareUnshed s) := by
  unfold State.snareUnshed
  first | exact h0 | (simp [h0]; done) | (((repeat' split) <;> simp [*]); done)

@[simp] theorem State.dropWaves_kept {bk : Bool} {s0 : State} (s : State) (h0 : Kept bk s0 s) : Kept bk s0 (State.dropWaves s) := by
  unfold State.dropWaves
  repeat' (first | with_reducible assumption | with_reducible apply State.raise_kept | with_reducible apply State.countBy_kept | with_reducible apply kept_ite | with_reducible apply kept_ite_fst | (with_reducible refine foldl_kept _ _ ?_ ?_; (on_goal 1 => intro t a ht)) | (with_reducible refine foldl_kept_fst _ _ ?_ ?_; (on_goal 1 => intro t a ht)) | (simp only [kept_mk, keepsF_fold]) | (rename_i heq; obtain rfl := congrArg (fun (p : State × _) => p.1) heq; clear heq) | split)

@[simp] theorem State.endCalJob_kept {bk : Bool} {s0 : State} (s : State) (ch : Nat) (reason : Nat) (outcome : Nat) (after : Int) (h0 : Kept bk s0 s) : Kept bk s0 (State.endCalJob s ch reason outcome after) := by
  unfold State.endCalJob
  repeat' (first | with_reducible assumption | with_reducible apply State.endJob_kept | with_reducible apply State.startNextTest_kept | with_reducible apply State.endSelftest_kept | with_reducible apply kept_ite | with_reducible apply kept_ite_fst | (with_reducible refine foldl_kept _ _ ?_ ?_; (on_goal 1 => intro t a ht)) | (with_reducible refine foldl_kept_fst _ _ ?_ ?_; (on_goal 1 => intro t a ht)) | (simp only [kept_mk, keepsF_fold]) | (rename_i heq; obtain rfl := congrArg (fun (p : State × _) => p.1) heq; clear heq) | split)

@[simp] theorem State.abortCal_kept {bk : Bool} {s0 : State} (s : State) (withRecord : Bool) (h0 : Kept bk s0 s) : Kept bk s0 (State.abortCal s withRecord) := by
  unfold State.abortCal
  repeat' (first | with_reducible assumption | with_reducible apply State.raise_kept | with_reducible apply State.noteBlind_kept | with_reducible apply State.create_kept | with_reducible apply State.endCalJob_kept | with_reducible apply kept_ite | with_reducible apply kept_ite_fst | (with_reducible refine foldl_kept _ _ ?_ ?_; (on_goal 1 => intro t a ht)) | (with_reducible refine foldl_kept_fst _ _ ?_ ?_; (on_goal 1 => intro t a ht)) | (simp only [kept_mk, keepsF_fold]) | (rename_i heq; obtain rfl := congrArg (fun (p : State × _) => p.1) heq; clear heq) | split)

@[simp] theorem State.disarm_kept {bk : Bool} {s0 : State} (s : State) (h0 : Kept bk s0 s) : Kept bk s0 (State.disarm s) := by
  unfold State.disarm
  first | exact h0 | (simp [h0]; done) | (((repeat' split) <;> simp [*]); done)

@[simp] theorem State.effPeriodicCalibration_kept {bk : Bool} {s0 : State} (s : State) (h0 : Kept bk s0 s) : Kept bk s0 (State.effPeriodicCalibration s) := by
  unfold State.effPeriodicCalibration
  repeat' (first | with_reducible assumption | with_reducible apply State.boundary_kept | with_reducible apply State.requestCal_kept | with_reducible apply kept_ite | with_reducible apply kept_ite_fst | (with_reducible refine foldl_kept _ _ ?_ ?_; (on_goal 1 => intro t a ht)) | (with_reducible refine foldl_kept_fst _ _ ?_ ?_; (on_goal 1 => intro t a ht)) | (simp only [kept_mk, keepsF_fold]) | (rename_i heq; obtain rfl := congrArg (fun (p : State × _) => p.1) heq; clear heq) | split)

@[simp] theorem State.effCalibration_kept {bk : Bool} {s0 : State} (s : State) (before : Int) (after : Int) (adc : Int) (gain : Int) (us : Nat) (h0 : Kept bk s0 s) : Kept bk s0 (State.effCalibration s before after adc gain us) := by
  unfold State.effCalibration
  repeat' (first | with_reducible assumption | with_reducible apply State.tryCal_kept | with_reducible apply State.ringJoin_kept | with_reducible apply State.noteBlind_kept | with_reducible apply State.raise_kept | with_reducible apply State.create_kept | with_reducible apply State.auditSelf_kept | with_reducible apply State.armBoundary_kept | with_reducible apply State.endCalJob_kept | with_reducible apply kept_ite | with_reducible apply kept_ite_fst | (with_reducible refine foldl_kept _ _ ?_ ?_; (on_goal 1 => intro t a ht)) | (with_reducible refine foldl_kept_fst _ _ ?_ ?_; (on_goal 1 => intro t a ht)) | (intro t n ht) | (intro t ht) | (simp only [kept_mk, keepsF_fold]) | (rename_i heq; obtain rfl := congrArg (fun (p : State × _) => p.1) heq; clear heq) | split)

@[simp] theorem State.snareKnell_kept {bk : Bool} {s0 : State} (s : State) (loose : List Nat) (h0 : Kept bk s0 s) : Kept bk s0 (State.snareKnell s loose) := by
  unfold State.snareKnell
  repeat' (first | with_reducible assumption | with_reducible apply State.abortCal_kept | with_reducible apply State.raise_kept | with_reducible apply State.countBy_kept | with_reducible apply kept_ite | with_reducible apply kept_ite_fst | (with_reducible refine foldl_kept _ _ ?_ ?_; (on_goal 1 => intro t a ht)) | (with_reducible refine foldl_kept_fst _ _ ?_ ?_; (on_goal 1 => intro t a ht)) | (simp only [kept_mk, keepsF_fold]) | (rename_i heq; obtain rfl := congrArg (fun (p : State × _) => p.1) heq; clear heq) | split)

@[simp] theorem State.snareGate_kept {bk : Bool} {s0 : State} (s : State) (h0 : Kept bk s0 s) : Kept bk s0 (State.snareGate s) := by
  unfold State.snareGate
  first | exact h0 | (simp [h0]; done) | (((repeat' split) <;> simp [*]); done)

@[simp] theorem State.snareWake_kept {bk : Bool} {s0 : State} (s : State) (first : Bool) (h0 : Kept bk s0 s) : Kept bk s0 (State.snareWake s first) := by
  unfold State.snareWake
  repeat' (first | with_reducible assumption | with_reducible apply State.setDom_kept | with_reducible apply State.armBoundary_kept | with_reducible apply State.requestCal_kept | with_reducible apply kept_ite | with_reducible apply kept_ite_fst | (with_reducible refine foldl_kept _ _ ?_ ?_; (on_goal 1 => intro t a ht)) | (with_reducible refine foldl_kept_fst _ _ ?_ ?_; (on_goal 1 => intro t a ht)) | (simp only [kept_mk, keepsF_fold]) | (rename_i heq; obtain rfl := congrArg (fun (p : State × _) => p.1) heq; clear heq) | split)

@[simp] theorem State.fixMode_kept {bk : Bool} {s0 : State} (s : State) (h0 : Kept bk s0 s) : Kept bk s0 (State.fixMode s) := by
  unfold State.fixMode
  first | exact h0 | (simp [h0]; done) | (((repeat' split) <;> simp [*]); done)

@[simp] theorem State.wakeCore_kept {bk : Bool} {s0 : State} (s : State) (h0 : Kept bk s0 s) : Kept bk s0 (State.wakeCore s) := by
  unfold State.wakeCore
  first | exact h0 | (simp [h0]; done) | (((repeat' split) <;> simp [*]); done)

@[simp] theorem State.wakeArray_kept {bk : Bool} {s0 : State} (s : State) (h0 : Kept bk s0 s) : Kept bk s0 (State.wakeArray s) := by
  unfold State.wakeArray
  first | exact h0 | (simp [h0]; done) | (((repeat' split) <;> simp [*]); done)

@[simp] theorem State.effKeepAliveEnergyLow_kept {bk : Bool} {s0 : State} (s : State) (h0 : Kept bk s0 s) : Kept bk s0 (State.effKeepAliveEnergyLow s) := by
  unfold State.effKeepAliveEnergyLow
  first | exact h0 | (simp [h0]; done) | (((repeat' split) <;> simp [*]); done)

@[simp] theorem State.drawBits_kept {bk : Bool} {s0 : State} (s : State) (n : Nat) (h0 : Kept bk s0 s) : Kept bk s0 (State.drawBits s n).1 := by
  unfold State.drawBits
  repeat' (first | with_reducible assumption | with_reducible apply State.feed_kept | with_reducible apply State.raise_kept | with_reducible apply State.count_kept | with_reducible apply kept_ite | with_reducible apply kept_ite_fst | (with_reducible refine foldl_kept _ _ ?_ ?_; (on_goal 1 => intro t a ht)) | (with_reducible refine foldl_kept_fst _ _ ?_ ?_; (on_goal 1 => intro t a ht)) | (intro t n ht) | (intro t ht) | (simp only [kept_mk, keepsF_fold]) | (rename_i heq; obtain rfl := congrArg (fun (p : State × _) => p.1) heq; clear heq) | split)

@[simp] theorem State.sendRn16_kept {bk : Bool} {s0 : State} (s : State) (h0 : Kept bk s0 s) : Kept bk s0 (State.sendRn16 s).1 := by
  unfold State.sendRn16
  repeat' (first | with_reducible assumption | with_reducible apply State.drawBits_kept | with_reducible apply State.backscatter_kept | with_reducible apply State.countBy_kept | with_reducible apply kept_ite | with_reducible apply kept_ite_fst | (with_reducible refine foldl_kept _ _ ?_ ?_; (on_goal 1 => intro t a ht)) | (with_reducible refine foldl_kept_fst _ _ ?_ ?_; (on_goal 1 => intro t a ht)) | (simp only [kept_mk, keepsF_fold]) | (rename_i heq; obtain rfl := congrArg (fun (p : State × _) => p.1) heq; clear heq) | split)

@[simp] theorem State.drawSlot_kept {bk : Bool} {s0 : State} (s : State) (h0 : Kept bk s0 s) : Kept bk s0 (State.drawSlot s) := by
  unfold State.drawSlot
  repeat' (first | with_reducible assumption | with_reducible apply State.drawBits_kept | with_reducible apply State.sendRn16_kept | with_reducible apply kept_ite | with_reducible apply kept_ite_fst | (with_reducible refine foldl_kept _ _ ?_ ?_; (on_goal 1 => intro t a ht)) | (with_reducible refine foldl_kept_fst _ _ ?_ ?_; (on_goal 1 => intro t a ht)) | (simp only [kept_mk, keepsF_fold]) | (rename_i heq; obtain rfl := congrArg (fun (p : State × _) => p.1) heq; clear heq) | split)

@[simp] theorem State.invertFlag_kept {bk : Bool} {s0 : State} (s : State) (n : Nat) (h0 : Kept bk s0 s) : Kept bk s0 (State.invertFlag s n) := by
  unfold State.invertFlag
  first | exact h0 | (simp [h0]; done) | (((repeat' split) <;> simp [*]); done)

@[simp] theorem State.leaveAccess_kept {bk : Bool} {s0 : State} (s : State) (h0 : Kept bk s0 s) : Kept bk s0 (State.leaveAccess s) := by
  unfold State.leaveAccess
  first | exact h0 | (simp [h0]; done) | (((repeat' split) <;> simp [*]); done)

@[simp] theorem State.closeField_kept {bk : Bool} {s0 : State} (s : State) (h0 : Kept bk s0 s) : Kept bk s0 (State.closeField s) := by
  unfold State.closeField
  repeat' (first | with_reducible assumption | with_reducible apply State.closeCtx_kept | with_reducible apply kept_ite | with_reducible apply kept_ite_fst | (with_reducible refine foldl_kept _ _ ?_ ?_; (on_goal 1 => intro t a ht)) | (with_reducible refine foldl_kept_fst _ _ ?_ ?_; (on_goal 1 => intro t a ht)) | (intro t n ht) | (intro t ht) | (simp only [kept_mk, keepsF_fold]) | (rename_i heq; obtain rfl := congrArg (fun (p : State × _) => p.1) heq; clear heq) | split)

@[simp] theorem State.feedField_kept {bk : Bool} {s0 : State} (s : State) (h0 : Kept bk s0 s) : Kept bk s0 (State.feedField s) := by
  unfold State.feedField
  first | exact h0 | (simp [h0]; done) | (((repeat' split) <;> simp [*]); done)

@[simp] theorem State.stopField_kept {bk : Bool} {s0 : State} (s : State) (h0 : Kept bk s0 s) : Kept bk s0 (State.stopField s) := by
  unfold State.stopField
  first | exact h0 | (simp [h0]; done) | (((repeat' split) <;> simp [*]); done)

@[simp] theorem State.noteField_kept {bk : Bool} {s0 : State} (s : State) (h0 : Kept bk s0 s) : Kept bk s0 (State.noteField s) := by
  unfold State.noteField
  repeat' (first | with_reducible assumption | with_reducible apply State.raise_kept | with_reducible apply State.boundary_kept | with_reducible apply kept_ite | with_reducible apply kept_ite_fst | (with_reducible refine foldl_kept _ _ ?_ ?_; (on_goal 1 => intro t a ht)) | (with_reducible refine foldl_kept_fst _ _ ?_ ?_; (on_goal 1 => intro t a ht)) | (intro t n ht) | (intro t ht) | (simp only [kept_mk, keepsF_fold]) | (rename_i heq; obtain rfl := congrArg (fun (p : State × _) => p.1) heq; clear heq) | split)

@[simp] theorem State.fieldStart_kept {bk : Bool} {s0 : State} (s : State) (h0 : Kept bk s0 s) : Kept bk s0 (State.fieldStart s) := by
  unfold State.fieldStart
  repeat' (first | with_reducible assumption | with_reducible apply State.countBy_kept | with_reducible apply State.noteField_kept | with_reducible apply State.feed_kept | with_reducible apply State.entPower_kept | with_reducible apply State.fixMode_kept | with_reducible apply State.setDom_kept | with_reducible apply kept_ite | with_reducible apply kept_ite_fst | (with_reducible refine foldl_kept _ _ ?_ ?_; (on_goal 1 => intro t a ht)) | (with_reducible refine foldl_kept_fst _ _ ?_ ?_; (on_goal 1 => intro t a ht)) | (intro t n ht) | (intro t ht) | (simp only [kept_mk, keepsF_fold]) | (rename_i heq; obtain rfl := congrArg (fun (p : State × _) => p.1) heq; clear heq) | split)

@[simp] theorem State.effFieldDetect_kept {bk : Bool} {s0 : State} (s : State) (h0 : Kept bk s0 s) : Kept bk s0 (State.effFieldDetect s) := by
  unfold State.effFieldDetect
  first | exact h0 | (simp [h0]; done) | (((repeat' split) <;> simp [*]); done)

@[simp] theorem State.effSnifferSample_kept {bk : Bool} {s0 : State} (s : State) (seen : Bool) (h0 : Kept bk s0 s) : Kept bk s0 (State.effSnifferSample s seen) := by
  unfold State.effSnifferSample
  repeat' (first | with_reducible assumption | with_reducible apply State.boundary_kept | with_reducible apply State.fieldStart_kept | with_reducible apply kept_ite | with_reducible apply kept_ite_fst | (with_reducible refine foldl_kept _ _ ?_ ?_; (on_goal 1 => intro t a ht)) | (with_reducible refine foldl_kept_fst _ _ ?_ ?_; (on_goal 1 => intro t a ht)) | (simp only [kept_mk, keepsF_fold]) | (rename_i heq; obtain rfl := congrArg (fun (p : State × _) => p.1) heq; clear heq) | split)

@[simp] theorem State.fieldEnd_kept {bk : Bool} {s0 : State} (s : State) (lost : Bool) (h0 : Kept bk s0 s) : Kept bk s0 (State.fieldEnd s lost) := by
  unfold State.fieldEnd
  repeat' (first | with_reducible assumption | with_reducible apply State.boundary_kept | with_reducible apply State.raise_kept | with_reducible apply State.endJob_kept | with_reducible apply State.dropKind_kept | with_reducible apply State.closeField_kept | with_reducible apply State.leaveAccess_kept | with_reducible apply State.saveNow_kept | with_reducible apply State.gateSource_kept | with_reducible apply State.fixMode_kept | with_reducible apply State.setDom_kept | with_reducible apply kept_ite | with_reducible apply kept_ite_fst | (with_reducible refine foldl_kept _ _ ?_ ?_; (on_goal 1 => intro t a ht)) | (with_reducible refine foldl_kept_fst _ _ ?_ ?_; (on_goal 1 => intro t a ht)) | (intro t n ht) | (intro t ht) | (simp only [kept_mk, keepsF_fold]) | (rename_i heq; obtain rfl := congrArg (fun (p : State × _) => p.1) heq; clear heq) | split)

@[simp] theorem State.effFieldInterrupted_kept {bk : Bool} {s0 : State} (s : State) (receiving : Bool) (h0 : Kept bk s0 s) : Kept bk s0 (State.effFieldInterrupted s receiving) := by
  unfold State.effFieldInterrupted
  repeat' (first | with_reducible assumption | with_reducible apply State.raise_kept | with_reducible apply State.countBy_kept | with_reducible apply State.fieldEnd_kept | with_reducible apply kept_ite | with_reducible apply kept_ite_fst | (with_reducible refine foldl_kept _ _ ?_ ?_; (on_goal 1 => intro t a ht)) | (with_reducible refine foldl_kept_fst _ _ ?_ ?_; (on_goal 1 => intro t a ht)) | (simp only [kept_mk, keepsF_fold]) | (rename_i heq; obtain rfl := congrArg (fun (p : State × _) => p.1) heq; clear heq) | split)

@[simp] theorem State.effFieldGone_kept {bk : Bool} {s0 : State} (s : State) (h0 : Kept bk s0 s) : Kept bk s0 (State.effFieldGone s) := by
  unfold State.effFieldGone
  first | exact h0 | (simp [h0]; done) | (((repeat' split) <;> simp [*]); done)

@[simp] theorem State.effSelect_kept {bk : Bool} {s0 : State} (s : State) (target : Nat) (action : Nat) (bank : Nat) (pointer : Nat) (mask : List Bool) (h0 : Kept bk s0 s) : Kept bk s0 (State.effSelect s target action bank pointer mask) := by
  unfold State.effSelect
  first | exact h0 | (simp [h0]; done) | (((repeat' split) <;> simp [*]); done)

@[simp] theorem State.effQuery_kept {bk : Bool} {s0 : State} (s : State) (dr : Bool) (m : Nat) (trext : Bool) (sel : Nat) (session : Nat) (targetB : Bool) (q : Nat) (tari : Nat) (blf : Nat) (h0 : Kept bk s0 s) : Kept bk s0 (State.effQuery s dr m trext sel session targetB q tari blf) := by
  unfold State.effQuery
  repeat' (first | with_reducible assumption | with_reducible apply State.invertFlag_kept | with_reducible apply State.leaveAccess_kept | with_reducible apply State.drawSlot_kept | with_reducible apply kept_ite | with_reducible apply kept_ite_fst | (with_reducible refine foldl_kept _ _ ?_ ?_; (on_goal 1 => intro t a ht)) | (with_reducible refine foldl_kept_fst _ _ ?_ ?_; (on_goal 1 => intro t a ht)) | (simp only [kept_mk, keepsF_fold]) | (rename_i heq; obtain rfl := congrArg (fun (p : State × _) => p.1) heq; clear heq) | split)

@[simp] theorem State.endRound_kept {bk : Bool} {s0 : State} (s : State) (session : Nat) (h0 : Kept bk s0 s) : Kept bk s0 (State.endRound s session) := by
  unfold State.endRound
  first | exact h0 | (simp [h0]; done) | (((repeat' split) <;> simp [*]); done)

@[simp] theorem State.effQueryAdjust_kept {bk : Bool} {s0 : State} (s : State) (session : Nat) (updn : Nat) (h0 : Kept bk s0 s) : Kept bk s0 (State.effQueryAdjust s session updn) := by
  unfold State.effQueryAdjust
  first | exact h0 | (simp [h0]; done) | (((repeat' split) <;> simp [*]); done)

@[simp] theorem State.effQueryRep_kept {bk : Bool} {s0 : State} (s : State) (session : Nat) (h0 : Kept bk s0 s) : Kept bk s0 (State.effQueryRep s session) := by
  unfold State.effQueryRep
  first | exact h0 | (simp [h0]; done) | (((repeat' split) <;> simp [*]); done)

@[simp] theorem State.sendIdent_kept {bk : Bool} {s0 : State} (s : State) (h0 : Kept bk s0 s) : Kept bk s0 (State.sendIdent s) := by
  unfold State.sendIdent
  repeat' (first | with_reducible assumption | with_reducible apply State.backscatter_kept | with_reducible apply State.raise_kept | with_reducible apply State.countBy_kept | with_reducible apply kept_ite | with_reducible apply kept_ite_fst | (with_reducible refine foldl_kept _ _ ?_ ?_; (on_goal 1 => intro t a ht)) | (with_reducible refine foldl_kept_fst _ _ ?_ ?_; (on_goal 1 => intro t a ht)) | (simp only [kept_mk, keepsF_fold]) | (rename_i heq; obtain rfl := congrArg (fun (p : State × _) => p.1) heq; clear heq) | split)

@[simp] theorem State.effAck_kept {bk : Bool} {s0 : State} (s : State) (rn : BitVec 16) (h0 : Kept bk s0 s) : Kept bk s0 (State.effAck s rn) := by
  unfold State.effAck
  first | exact h0 | (simp [h0]; done) | (((repeat' split) <;> simp [*]); done)

@[simp] theorem State.effNak_kept {bk : Bool} {s0 : State} (s : State) (h0 : Kept bk s0 s) : Kept bk s0 (State.effNak s) := by
  unfold State.effNak
  first | exact h0 | (simp [h0]; done) | (((repeat' split) <;> simp [*]); done)

@[simp] theorem State.enterSecured_kept {bk : Bool} {s0 : State} (s : State) (priv : Nat) (h0 : Kept bk s0 s) : Kept bk s0 (State.enterSecured s priv) := by
  unfold State.enterSecured
  repeat' (first | with_reducible assumption | with_reducible apply State.raise_kept | with_reducible apply State.countBy_kept | with_reducible apply State.wakeTrigger_kept | with_reducible apply kept_ite | with_reducible apply kept_ite_fst | (with_reducible refine foldl_kept _ _ ?_ ?_; (on_goal 1 => intro t a ht)) | (with_reducible refine foldl_kept_fst _ _ ?_ ?_; (on_goal 1 => intro t a ht)) | (simp only [kept_mk, keepsF_fold]) | (rename_i heq; obtain rfl := congrArg (fun (p : State × _) => p.1) heq; clear heq) | split)

@[simp] theorem State.fieldWakeCore_kept {bk : Bool} {s0 : State} (s : State) (h0 : Kept bk s0 s) : Kept bk s0 (State.fieldWakeCore s) := by
  unfold State.fieldWakeCore
  first | exact h0 | (simp [h0]; done) | (((repeat' split) <;> simp [*]); done)

@[simp] theorem State.effReqRn_kept {bk : Bool} {s0 : State} (s : State) (rn : BitVec 16) (h0 : Kept bk s0 s) : Kept bk s0 (State.effReqRn s rn) := by
  unfold State.effReqRn
  repeat' (first | with_reducible assumption | with_reducible apply State.drawBits_kept | with_reducible apply State.backscatter_kept | with_reducible apply State.fieldWakeCore_kept | with_reducible apply State.enterSecured_kept | with_reducible apply State.countBy_kept | with_reducible apply kept_ite | with_reducible apply kept_ite_fst | (with_reducible refine foldl_kept _ _ ?_ ?_; (on_goal 1 => intro t a ht)) | (with_reducible refine foldl_kept_fst _ _ ?_ ?_; (on_goal 1 => intro t a ht)) | (simp only [kept_mk, keepsF_fold]) | (rename_i heq; obtain rfl := congrArg (fun (p : State × _) => p.1) heq; clear heq) | split)

@[simp] theorem State.effT2Expiry_kept {bk : Bool} {s0 : State} (s : State) (h0 : Kept bk s0 s) : Kept bk s0 (State.effT2Expiry s) := by
  unfold State.effT2Expiry
  first | exact h0 | (simp [h0]; done) | (((repeat' split) <;> simp [*]); done)

@[simp] theorem State.effInvalidCommand_kept {bk : Bool} {s0 : State} (s : State) (h0 : Kept bk s0 s) : Kept bk s0 (State.effInvalidCommand s) := by
  unfold State.effInvalidCommand
  first | exact h0 | (simp [h0]; done) | (((repeat' split) <;> simp [*]); done)

@[simp] theorem State.effS1PersistenceExpiry_kept {bk : Bool} {s0 : State} (s : State) (h0 : Kept bk s0 s) : Kept bk s0 (State.effS1PersistenceExpiry s) := by
  unfold State.effS1PersistenceExpiry
  first | exact h0 | (simp [h0]; done) | (((repeat' split) <;> simp [*]); done)

@[simp] theorem State.effFlagPersistenceExpiry_kept {bk : Bool} {s0 : State} (s : State) (flag : Nat) (h0 : Kept bk s0 s) : Kept bk s0 (State.effFlagPersistenceExpiry s flag) := by
  unfold State.effFlagPersistenceExpiry
  first | exact h0 | (simp [h0]; done) | (((repeat' split) <;> simp [*]); done)

@[simp] theorem State.wakeRelease_kept {bk : Bool} {s0 : State} (s : State) (h0 : Kept bk s0 s) : Kept bk s0 (State.wakeRelease s) := by
  unfold State.wakeRelease
  first | exact h0 | (simp [h0]; done) | (((repeat' split) <;> simp [*]); done)

@[simp] theorem State.effWakePulseEnd_kept {bk : Bool} {s0 : State} (s : State) (h0 : Kept bk s0 s) : Kept bk s0 (State.effWakePulseEnd s) := by
  unfold State.effWakePulseEnd
  first | exact h0 | (simp [h0]; done) | (((repeat' split) <;> simp [*]); done)

@[simp] theorem State.effWakeLevelTimeout_kept {bk : Bool} {s0 : State} (s : State) (h0 : Kept bk s0 s) : Kept bk s0 (State.effWakeLevelTimeout s) := by
  unfold State.effWakeLevelTimeout
  first | exact h0 | (simp [h0]; done) | (((repeat' split) <;> simp [*]); done)

@[simp] theorem State.effUserMapBuilt_kept {bk : Bool} {s0 : State} (s : State) (h0 : Kept bk s0 s) : Kept bk s0 (State.effUserMapBuilt s) := by
  unfold State.effUserMapBuilt
  first | exact h0 | (simp [h0]; done) | (((repeat' split) <;> simp [*]); done)

@[simp] theorem State.fixShadow_kept {bk : Bool} {s0 : State} (s : State) (h0 : Kept bk s0 s) : Kept bk s0 (State.fixShadow s) := by
  unfold State.fixShadow
  first | exact h0 | (simp [h0]; done) | (((repeat' split) <;> simp [*]); done)

@[simp] theorem State.fieldGuard_kept {bk : Bool} {s0 : State} (s : State) (addr : Nat) (len : Nat) (rd : Bool) (wr : Bool) (se : Bool) (recW : Bool) (h0 : Kept bk s0 s) : Kept bk s0 (State.fieldGuard s addr len rd wr se recW).1 := by
  unfold State.fieldGuard
  first | exact h0 | (simp [h0]; done) | (((repeat' split) <;> simp [*]); done)

@[simp] theorem State.access_kept {bk : Bool} {s0 : State} (s : State) (handle : BitVec 16) (f : State → State) (h_f : ∀ t, Kept bk s0 t → Kept bk s0 (f t)) (h0 : Kept bk s0 s) : Kept bk s0 (State.access s handle f) := by
  unfold State.access
  first | exact h0 | (simp [h0]; done) | (((repeat' split) <;> simp [*]); done)

@[simp] theorem State.effBadCommand_kept {bk : Bool} {s0 : State} (s : State) (gweuno : Option (BitVec 16)) (h0 : Kept bk s0 s) : Kept bk s0 (State.effBadCommand s gweuno) := by
  unfold State.effBadCommand
  repeat' (first | with_reducible assumption | with_reducible apply State.access_kept | with_reducible apply State.fieldError_kept | with_reducible apply State.effInvalidCommand_kept | with_reducible apply kept_ite | with_reducible apply kept_ite_fst | (with_reducible refine foldl_kept _ _ ?_ ?_; (on_goal 1 => intro t a ht)) | (with_reducible refine foldl_kept_fst _ _ ?_ ?_; (on_goal 1 => intro t a ht)) | (intro t n ht) | (intro t ht) | (simp only [kept_mk, keepsF_fold]) | (rename_i heq; obtain rfl := congrArg (fun (p : State × _) => p.1) heq; clear heq) | split)

@[simp] theorem State.doRead_kept {bk : Bool} {s0 : State} (s : State) (bank : Nat) (word : Nat) (count : Nat) (h0 : Kept bk s0 s) : Kept bk s0 (State.doRead s bank word count) := by
  unfold State.doRead
  repeat' (first | with_reducible assumption | with_reducible apply State.fieldError_kept | with_reducible apply State.fieldGuard_kept | with_reducible apply State.answerData_kept | with_reducible apply State.fieldWakeCore_kept | with_reducible apply kept_ite | with_reducible apply kept_ite_fst | (with_reducible refine foldl_kept _ _ ?_ ?_; (on_goal 1 => intro t a ht)) | (with_reducible refine foldl_kept_fst _ _ ?_ ?_; (on_goal 1 => intro t a ht)) | (intro t n ht) | (intro t ht) | (simp only [kept_mk, keepsF_fold]) | (rename_i heq; obtain rfl := congrArg (fun (p : State × _) => p.1) heq; clear heq) | split)

@[simp] theorem State.effRead_kept {bk : Bool} {s0 : State} (s : State) (handle : BitVec 16) (bank : Nat) (word : Nat) (count : Nat) (h0 : Kept bk s0 s) : Kept bk s0 (State.effRead s handle bank word count) := by
  unfold State.effRead
  repeat' (first | with_reducible assumption | with_reducible apply State.access_kept | with_reducible apply State.doRead_kept | with_reducible apply kept_ite | with_reducible apply kept_ite_fst | (with_reducible refine foldl_kept _ _ ?_ ?_; (on_goal 1 => intro t a ht)) | (with_reducible refine foldl_kept_fst _ _ ?_ ?_; (on_goal 1 => intro t a ht)) | (intro t ht) | (simp only [kept_mk, keepsF_fold]) | (rename_i heq; obtain rfl := congrArg (fun (p : State × _) => p.1) heq; clear heq) | split | (intro x; clear_value x; fail_if_success (have := State.rf x)) | lift_lets)

@[simp] theorem State.refuseWrite_kept {bk : Bool} {s0 : State} (s : State) (lease : Bool) (h0 : Kept bk s0 s) : Kept bk s0 (State.refuseWrite s lease) := by
  unfold State.refuseWrite
  first | exact h0 | (simp [h0]; done) | (((repeat' split) <;> simp [*]); done)

@[simp] theorem State.fieldRecord_kept {bk : Bool} {s0 : State} (s : State) (e : FJEntry) (payload : List Byte) (cost : Nat) (h0 : Kept bk s0 s) : Kept bk s0 (State.fieldRecord s e payload cost) := by
  unfold State.fieldRecord
  repeat' (first | with_reducible assumption | with_reducible apply State.useSeq_kept | with_reducible apply State.stamp_kept | with_reducible apply State.admitInternal_kept | with_reducible apply kept_ite | with_reducible apply kept_ite_fst | (with_reducible refine foldl_kept _ _ ?_ ?_; (on_goal 1 => intro t a ht)) | (with_reducible refine foldl_kept_fst _ _ ?_ ?_; (on_goal 1 => intro t a ht)) | (simp only [kept_mk, keepsF_fold]) | (rename_i heq; obtain rfl := congrArg (fun (p : State × _) => p.1) heq; clear heq) | split)

@[simp] theorem State.fjProgram_kept {bk : Bool} {s0 : State} (s : State) (sectors : List Nat) (h0 : Kept bk s0 s) : Kept bk s0 (State.fjProgram s sectors) := by
  unfold State.fjProgram
  first | exact h0 | (simp [h0]; done) | (((repeat' split) <;> simp [*]); done)

@[simp] theorem State.guardWrite_kept {bk : Bool} {s0 : State} (s : State) (target : Nat) (addr : Nat) (len : Nat) (part : Nat) (head : Nat) (n : Nat) (h0 : Kept bk s0 s) : Kept bk s0 (State.guardWrite s target addr len part head n).1 := by
  unfold State.guardWrite
  repeat' (first | with_reducible assumption | with_reducible apply State.fieldGuard_kept | with_reducible apply State.guarded_kept | with_reducible apply kept_ite | with_reducible apply kept_ite_fst | (with_reducible refine foldl_kept _ _ ?_ ?_; (on_goal 1 => intro t a ht)) | (with_reducible refine foldl_kept_fst _ _ ?_ ?_; (on_goal 1 => intro t a ht)) | (intro t n ht) | (intro t ht) | (simp only [kept_mk, keepsF_fold]) | (rename_i heq; obtain rfl := congrArg (fun (p : State × _) => p.1) heq; clear heq) | split)

@[simp] theorem State.fieldWrite_kept {bk : Bool} {s0 : State} (s : State) (target : Nat) (addr : Nat) (data : List Byte) (gweuno : Bool) (h0 : Kept bk s0 s) : Kept bk s0 (State.fieldWrite s target addr data gweuno) := by
  unfold State.fieldWrite
  repeat' (first | with_reducible assumption | with_reducible apply State.boundary_kept | with_reducible apply State.fieldWakeCore_kept | with_reducible apply State.fieldError_kept | with_reducible apply State.refuseWrite_kept | with_reducible apply State.count_kept | with_reducible apply State.raise_kept | with_reducible apply State.roomAtHead_kept | with_reducible apply State.guardWrite_kept | with_reducible apply State.fieldRecord_kept | with_reducible apply State.fjProgram_kept | with_reducible apply State.fixShadow_kept | with_reducible apply State.tollUpdate_kept | with_reducible apply State.countBy_kept | with_reducible apply State.backscatter_kept | with_reducible apply kept_ite | with_reducible apply kept_ite_fst | (with_reducible refine foldl_kept _ _ ?_ ?_; (on_goal 1 => intro t a ht)) | (with_reducible refine foldl_kept_fst _ _ ?_ ?_; (on_goal 1 => intro t a ht)) | (intro t n ht) | (intro t ht) | (simp only [kept_mk, keepsF_fold]) | (rename_i heq; obtain rfl := congrArg (fun (p : State × _) => p.1) heq; clear heq) | split)

@[simp] theorem State.doWrite_kept {bk : Bool} {s0 : State} (s : State) (bank : Nat) (word : Nat) (ws : List (BitVec 16)) (h0 : Kept bk s0 s) : Kept bk s0 (State.doWrite s bank word ws) := by
  unfold State.doWrite
  repeat' (first | with_reducible assumption | with_reducible apply State.fieldError_kept | with_reducible apply State.refuseWrite_kept | with_reducible apply State.fieldWrite_kept | with_reducible apply kept_ite | with_reducible apply kept_ite_fst | (with_reducible refine foldl_kept _ _ ?_ ?_; (on_goal 1 => intro t a ht)) | (with_reducible refine foldl_kept_fst _ _ ?_ ?_; (on_goal 1 => intro t a ht)) | (simp only [kept_mk, keepsF_fold]) | (rename_i heq; obtain rfl := congrArg (fun (p : State × _) => p.1) heq; clear heq) | split)

@[simp] theorem State.effWrite_kept {bk : Bool} {s0 : State} (s : State) (handle : BitVec 16) (bank : Nat) (word : Nat) (data : BitVec 16) (h0 : Kept bk s0 s) : Kept bk s0 (State.effWrite s handle bank word data) := by
  unfold State.effWrite
  repeat' (first | with_reducible assumption | with_reducible apply State.access_kept | with_reducible apply State.doWrite_kept | with_reducible apply kept_ite | with_reducible apply kept_ite_fst | (with_reducible refine foldl_kept _ _ ?_ ?_; (on_goal 1 => intro t a ht)) | (with_reducible refine foldl_kept_fst _ _ ?_ ?_; (on_goal 1 => intro t a ht)) | (intro t ht) | (simp only [kept_mk, keepsF_fold]) | (rename_i heq; obtain rfl := congrArg (fun (p : State × _) => p.1) heq; clear heq) | split | (intro x; clear_value x; fail_if_success (have := State.rf x)) | lift_lets)

@[simp] theorem State.effBlockWrite_kept {bk : Bool} {s0 : State} (s : State) (handle : BitVec 16) (bank : Nat) (word : Nat) (data : List (BitVec 16)) (h0 : Kept bk s0 s) : Kept bk s0 (State.effBlockWrite s handle bank word data) := by
  unfold State.effBlockWrite
  repeat' (first | with_reducible assumption | with_reducible apply State.access_kept | with_reducible apply State.doWrite_kept | with_reducible apply kept_ite | with_reducible apply kept_ite_fst | (with_reducible refine foldl_kept _ _ ?_ ?_; (on_goal 1 => intro t a ht)) | (with_reducible refine foldl_kept_fst _ _ ?_ ?_; (on_goal 1 => intro t a ht)) | (intro t ht) | (simp only [kept_mk, keepsF_fold]) | (rename_i heq; obtain rfl := congrArg (fun (p : State × _) => p.1) heq; clear heq) | split | (intro x; clear_value x; fail_if_success (have := State.rf x)) | lift_lets)

@[simp] theorem State.effLock_kept {bk : Bool} {s0 : State} (s : State) (handle : BitVec 16) (mask : BitVec 10) (action : BitVec 10) (h0 : Kept bk s0 s) : Kept bk s0 (State.effLock s handle mask action) := by
  unfold State.effLock
  repeat' (first | with_reducible assumption | with_reducible apply State.access_kept | with_reducible apply State.fieldError_kept | with_reducible apply State.refuseWrite_kept | with_reducible apply State.fieldWrite_kept | with_reducible apply kept_ite | with_reducible apply kept_ite_fst | (with_reducible refine foldl_kept _ _ ?_ ?_; (on_goal 1 => intro t a ht)) | (with_reducible refine foldl_kept_fst _ _ ?_ ?_; (on_goal 1 => intro t a ht)) | (intro t ht) | (simp only [kept_mk, keepsF_fold]) | (rename_i heq; obtain rfl := congrArg (fun (p : State × _) => p.1) heq; clear heq) | split | (intro x; clear_value x; fail_if_success (have := State.rf x)) | lift_lets)

@[simp] theorem State.passwordFail_kept {bk : Bool} {s0 : State} (s : State) (h0 : Kept bk s0 s) : Kept bk s0 (State.passwordFail s) := by
  unfold State.passwordFail
  repeat' (first | with_reducible assumption | with_reducible apply State.countBy_kept | with_reducible apply State.raise_kept | with_reducible apply State.audit_kept | with_reducible apply State.leaveAccess_kept | with_reducible apply kept_ite | with_reducible apply kept_ite_fst | (with_reducible refine foldl_kept _ _ ?_ ?_; (on_goal 1 => intro t a ht)) | (with_reducible refine foldl_kept_fst _ _ ?_ ?_; (on_goal 1 => intro t a ht)) | (simp only [kept_mk, keepsF_fold]) | (rename_i heq; obtain rfl := congrArg (fun (p : State × _) => p.1) heq; clear heq) | split)

@[simp] theorem State.effAccess_kept {bk : Bool} {s0 : State} (s : State) (handle : BitVec 16) (password : Word) (h0 : Kept bk s0 s) : Kept bk s0 (State.effAccess s handle password) := by
  unfold State.effAccess
  repeat' (first | with_reducible assumption | with_reducible apply State.access_kept | with_reducible apply State.enterSecured_kept | with_reducible apply State.backscatter_kept | with_reducible apply State.passwordFail_kept | with_reducible apply kept_ite | with_reducible apply kept_ite_fst | (with_reducible refine foldl_kept _ _ ?_ ?_; (on_goal 1 => intro t a ht)) | (with_reducible refine foldl_kept_fst _ _ ?_ ?_; (on_goal 1 => intro t a ht)) | (intro t ht) | (simp only [kept_mk, keepsF_fold]) | (rename_i heq; obtain rfl := congrArg (fun (p : State × _) => p.1) heq; clear heq) | split | (intro x; clear_value x; fail_if_success (have := State.rf x)) | lift_lets)

@[simp] theorem State.effPasswordLockoutEnd_kept {bk : Bool} {s0 : State} (s : State) (h0 : Kept bk s0 s) : Kept bk s0 (State.effPasswordLockoutEnd s) := by
  unfold State.effPasswordLockoutEnd
  first | exact h0 | (simp [h0]; done) | (((repeat' split) <;> simp [*]); done)

@[simp] theorem State.effKill_kept {bk : Bool} {s0 : State} (s : State) (handle : BitVec 16) (h0 : Kept bk s0 s) : Kept bk s0 (State.effKill s handle) := by
  unfold State.effKill
  repeat' (first | with_reducible assumption | with_reducible apply State.access_kept | with_reducible apply State.backscatter_kept | with_reducible apply kept_ite | with_reducible apply kept_ite_fst | (with_reducible refine foldl_kept _ _ ?_ ?_; (on_goal 1 => intro t a ht)) | (with_reducible refine foldl_kept_fst _ _ ?_ ?_; (on_goal 1 => intro t a ht)) | (intro t ht) | (simp only [kept_mk, keepsF_fold]) | (rename_i heq; obtain rfl := congrArg (fun (p : State × _) => p.1) heq; clear heq) | split | (intro x; clear_value x; fail_if_success (have := State.rf x)) | lift_lets)

@[simp] theorem State.authFail_kept {bk : Bool} {s0 : State} (s : State) (method : Nat) (h0 : Kept bk s0 s) : Kept bk s0 (State.authFail s method) := by
  unfold State.authFail
  repeat' (first | with_reducible assumption | with_reducible apply State.countBy_kept | with_reducible apply State.raise_kept | with_reducible apply State.audit_kept | with_reducible apply State.fieldError_kept | with_reducible apply State.leaveAccess_kept | with_reducible apply kept_ite | with_reducible apply kept_ite_fst | (with_reducible refine foldl_kept _ _ ?_ ?_; (on_goal 1 => intro t a ht)) | (with_reducible refine foldl_kept_fst _ _ ?_ ?_; (on_goal 1 => intro t a ht)) | (simp only [kept_mk, keepsF_fold]) | (rename_i heq; obtain rfl := congrArg (fun (p : State × _) => p.1) heq; clear heq) | split)

@[simp] theorem State.authOk_kept {bk : Bool} {s0 : State} (s : State) (h0 : Kept bk s0 s) : Kept bk s0 (State.authOk s) := by
  unfold State.authOk
  first | exact h0 | (simp [h0]; done) | (((repeat' split) <;> simp [*]); done)

@[simp] theorem State.fieldSession_kept {bk : Bool} {s0 : State} (s : State) (key : List Byte) (challenge : List Byte) (bits : List Bool) (h0 : Kept bk s0 s) : Kept bk s0 (State.fieldSession s key challenge bits) := by
  unfold State.fieldSession
  first | exact h0 | (simp [h0]; done) | (((repeat' split) <;> simp [*]); done)

@[simp] theorem State.effAuthenticate_kept {bk : Bool} {s0 : State} (s : State) (handle : BitVec 16) (method : Nat) (keyId : Nat) (challenge : List Byte) (response : List Byte) (h0 : Kept bk s0 s) : Kept bk s0 (State.effAuthenticate s handle method keyId challenge response) := by
  unfold State.effAuthenticate
  repeat' (first | with_reducible assumption | with_reducible apply State.access_kept | with_reducible apply State.fieldError_kept | with_reducible apply State.authFail_kept | with_reducible apply State.drawBits_kept | with_reducible apply State.backscatter_kept | with_reducible apply State.authOk_kept | with_reducible apply State.leaveAccess_kept | with_reducible apply State.fieldSession_kept | with_reducible apply State.enterSecured_kept | with_reducible apply kept_ite | with_reducible apply kept_ite_fst | (with_reducible refine foldl_kept _ _ ?_ ?_; (on_goal 1 => intro t a ht)) | (with_reducible refine foldl_kept_fst _ _ ?_ ?_; (on_goal 1 => intro t a ht)) | (intro t ht) | (simp only [kept_mk, keepsF_fold]) | (rename_i heq; obtain rfl := congrArg (fun (p : State × _) => p.1) heq; clear heq) | split | (intro x; clear_value x; fail_if_success (have := State.rf x)) | lift_lets)

@[simp] theorem State.gwTooMuch_kept {bk : Bool} {s0 : State} (s : State) (h0 : Kept bk s0 s) : Kept bk s0 (State.gwTooMuch s) := by
  unfold State.gwTooMuch
  first | exact h0 | (simp [h0]; done) | (((repeat' split) <;> simp [*]); done)

@[simp] theorem State.effGRecRead_kept {bk : Bool} {s0 : State} (s : State) (handle : BitVec 16) (mode : Nat) (part : Nat) (stroke : Nat) (offset : Nat) (count : Nat) (h0 : Kept bk s0 s) : Kept bk s0 (State.effGRecRead s handle mode part stroke offset count) := by
  unfold State.effGRecRead
  repeat' (first | with_reducible assumption | with_reducible apply State.access_kept | with_reducible apply State.fieldError_kept | with_reducible apply State.gwTooMuch_kept | with_reducible apply State.fieldWakeCore_kept | with_reducible apply State.guarded_kept | with_reducible apply State.answerData_kept | with_reducible apply kept_ite | with_reducible apply kept_ite_fst | (with_reducible refine foldl_kept _ _ ?_ ?_; (on_goal 1 => intro t a ht)) | (with_reducible refine foldl_kept_fst _ _ ?_ ?_; (on_goal 1 => intro t a ht)) | (intro t n ht) | (intro t ht) | (simp only [kept_mk, keepsF_fold]) | (rename_i heq; obtain rfl := congrArg (fun (p : State × _) => p.1) heq; clear heq) | split)

@[simp] theorem State.effGGauge_kept {bk : Bool} {s0 : State} (s : State) (handle : BitVec 16) (h0 : Kept bk s0 s) : Kept bk s0 (State.effGGauge s handle) := by
  unfold State.effGGauge
  repeat' (first | with_reducible assumption | with_reducible apply State.access_kept | with_reducible apply State.fieldError_kept | with_reducible apply State.answerData_kept | with_reducible apply kept_ite | with_reducible apply kept_ite_fst | (with_reducible refine foldl_kept _ _ ?_ ?_; (on_goal 1 => intro t a ht)) | (with_reducible refine foldl_kept_fst _ _ ?_ ?_; (on_goal 1 => intro t a ht)) | (intro t n ht) | (intro t ht) | (simp only [kept_mk, keepsF_fold]) | (rename_i heq; obtain rfl := congrArg (fun (p : State × _) => p.1) heq; clear heq) | split)

@[simp] theorem State.effGShipRead_kept {bk : Bool} {s0 : State} (s : State) (handle : BitVec 16) (fromSeconds : Nat) (maxSamples : Nat) (h0 : Kept bk s0 s) : Kept bk s0 (State.effGShipRead s handle fromSeconds maxSamples) := by
  unfold State.effGShipRead
  repeat' (first | with_reducible assumption | with_reducible apply State.access_kept | with_reducible apply State.fieldError_kept | with_reducible apply State.fieldWakeCore_kept | with_reducible apply State.guardReads_kept | with_reducible apply State.answerData_kept | with_reducible apply kept_ite | with_reducible apply kept_ite_fst | (with_reducible refine foldl_kept _ _ ?_ ?_; (on_goal 1 => intro t a ht)) | (with_reducible refine foldl_kept_fst _ _ ?_ ?_; (on_goal 1 => intro t a ht)) | (intro t n ht) | (intro t ht) | (simp only [kept_mk, keepsF_fold]) | (rename_i heq; obtain rfl := congrArg (fun (p : State × _) => p.1) heq; clear heq) | split)

@[simp] theorem State.effGStageWrite_kept {bk : Bool} {s0 : State} (s : State) (handle : BitVec 16) (item : Nat) (flags : Byte) (version : Word) (body : List Byte) (h0 : Kept bk s0 s) : Kept bk s0 (State.effGStageWrite s handle item flags version body) := by
  unfold State.effGStageWrite
  repeat' (first | with_reducible assumption | with_reducible apply State.access_kept | with_reducible apply State.fieldError_kept | with_reducible apply State.fieldWrite_kept | with_reducible apply kept_ite | with_reducible apply kept_ite_fst | (with_reducible refine foldl_kept _ _ ?_ ?_; (on_goal 1 => intro t a ht)) | (with_reducible refine foldl_kept_fst _ _ ?_ ?_; (on_goal 1 => intro t a ht)) | (intro t ht) | (simp only [kept_mk, keepsF_fold]) | (rename_i heq; obtain rfl := congrArg (fun (p : State × _) => p.1) heq; clear heq) | split | (intro x; clear_value x; fail_if_success (have := State.rf x)) | lift_lets)

@[simp] theorem State.effGExportOpen_kept {bk : Bool} {s0 : State} (s : State) (handle : BitVec 16) (part : Nat) (stroke : Nat) (count : Nat) (h0 : Kept bk s0 s) : Kept bk s0 (State.effGExportOpen s handle part stroke count) := by
  unfold State.effGExportOpen
  repeat' (first | with_reducible assumption | with_reducible apply State.access_kept | with_reducible apply State.fieldError_kept | with_reducible apply State.fieldWakeCore_kept | with_reducible apply State.guardReads_kept | with_reducible apply State.boundary_kept | with_reducible apply State.endJob_kept | with_reducible apply State.dropKind_kept | with_reducible apply State.askBlock_kept | with_reducible apply kept_ite | with_reducible apply kept_ite_fst | (with_reducible refine foldl_kept _ _ ?_ ?_; (on_goal 1 => intro t a ht)) | (with_reducible refine foldl_kept_fst _ _ ?_ ?_; (on_goal 1 => intro t a ht)) | (intro t n ht) | (intro t ht) | (simp only [kept_mk, keepsF_fold]) | (rename_i heq; obtain rfl := congrArg (fun (p : State × _) => p.1) heq; clear heq) | split)

@[simp] theorem State.effGExportChunk_kept {bk : Bool} {s0 : State} (s : State) (handle : BitVec 16) (index : Nat) (count : Nat) (h0 : Kept bk s0 s) : Kept bk s0 (State.effGExportChunk s handle index count) := by
  unfold State.effGExportChunk
  repeat' (first | with_reducible assumption | with_reducible apply State.access_kept | with_reducible apply State.fieldError_kept | with_reducible apply State.gwTooMuch_kept | with_reducible apply State.fieldWakeCore_kept | with_reducible apply State.boundary_kept | with_reducible apply State.guardChunk_kept | with_reducible apply State.answerData_kept | with_reducible apply kept_ite | with_reducible apply kept_ite_fst | (with_reducible refine foldl_kept _ _ ?_ ?_; (on_goal 1 => intro t a ht)) | (with_reducible refine foldl_kept_fst _ _ ?_ ?_; (on_goal 1 => intro t a ht)) | (intro t n ht) | (intro t ht) | (simp only [kept_mk, keepsF_fold]) | (rename_i heq; obtain rfl := congrArg (fun (p : State × _) => p.1) heq; clear heq) | split)

@[simp] theorem State.effGExportClose_kept {bk : Bool} {s0 : State} (s : State) (handle : BitVec 16) (h0 : Kept bk s0 s) : Kept bk s0 (State.effGExportClose s handle) := by
  unfold State.effGExportClose
  repeat' (first | with_reducible assumption | with_reducible apply State.access_kept | with_reducible apply State.fieldError_kept | with_reducible apply State.backscatter_kept | with_reducible apply kept_ite | with_reducible apply kept_ite_fst | (with_reducible refine foldl_kept _ _ ?_ ?_; (on_goal 1 => intro t a ht)) | (with_reducible refine foldl_kept_fst _ _ ?_ ?_; (on_goal 1 => intro t a ht)) | (intro t ht) | (simp only [kept_mk, keepsF_fold]) | (rename_i heq; obtain rfl := congrArg (fun (p : State × _) => p.1) heq; clear heq) | split | (intro x; clear_value x; fail_if_success (have := State.rf x)) | lift_lets)

@[simp] theorem State.effGWake_kept {bk : Bool} {s0 : State} (s : State) (handle : BitVec 16) (reason : Byte) (h0 : Kept bk s0 s) : Kept bk s0 (State.effGWake s handle reason) := by
  unfold State.effGWake
  repeat' (first | with_reducible assumption | with_reducible apply State.access_kept | with_reducible apply State.fieldError_kept | with_reducible apply State.wakeTrigger_kept | with_reducible apply State.backscatter_kept | with_reducible apply kept_ite | with_reducible apply kept_ite_fst | (with_reducible refine foldl_kept _ _ ?_ ?_; (on_goal 1 => intro t a ht)) | (with_reducible refine foldl_kept_fst _ _ ?_ ?_; (on_goal 1 => intro t a ht)) | (intro t ht) | (simp only [kept_mk, keepsF_fold]) | (rename_i heq; obtain rfl := congrArg (fun (p : State × _) => p.1) heq; clear heq) | split | (intro x; clear_value x; fail_if_success (have := State.rf x)) | lift_lets)

@[simp] theorem State.markApplied_kept {bk : Bool} {s0 : State} (s : State) (value : Nat) (h0 : Kept bk s0 s) : Kept bk s0 (State.markApplied s value) := by
  unfold State.markApplied
  first | exact h0 | (simp [h0]; done) | (((repeat' split) <;> simp [*]); done)

@[simp] theorem State.replayEntry_kept {bk : Bool} {s0 : State} (s : State) (e : FJEntry) (h0 : Kept bk s0 s) : Kept bk s0 (State.replayEntry s e) := by
  unfold State.replayEntry
  repeat' (first | with_reducible assumption | with_reducible apply State.zeroNow_kept | with_reducible apply State.commitHere_kept | with_reducible apply State.stamp_kept | with_reducible apply State.commitAtHead_kept | with_reducible apply State.setStream_kept | with_reducible apply State.laterSeq_kept | with_reducible apply State.raise_kept | with_reducible apply State.markApplied_kept | with_reducible apply kept_ite | with_reducible apply kept_ite_fst | (with_reducible refine foldl_kept _ _ ?_ ?_; (on_goal 1 => intro t a ht)) | (with_reducible refine foldl_kept_fst _ _ ?_ ?_; (on_goal 1 => intro t a ht)) | (simp only [kept_mk, keepsF_fold]) | (rename_i heq; obtain rfl := congrArg (fun (p : State × _) => p.1) heq; clear heq) | split)

@[simp] theorem State.replayJournal_kept {bk : Bool} {s0 : State} (s : State) (h0 : Kept bk s0 s) : Kept bk s0 (State.replayJournal s) := by
  unfold State.replayJournal
  repeat' (first | with_reducible assumption | with_reducible apply State.markApplied_kept | with_reducible apply State.replayEntry_kept | with_reducible apply kept_ite | with_reducible apply kept_ite_fst | (with_reducible refine foldl_kept _ _ ?_ ?_; (on_goal 1 => intro t a ht)) | (with_reducible refine foldl_kept_fst _ _ ?_ ?_; (on_goal 1 => intro t a ht)) | (simp only [kept_mk, keepsF_fold]) | (rename_i heq; obtain rfl := congrArg (fun (p : State × _) => p.1) heq; clear heq) | split)

@[simp] theorem State.seeSsn_kept {bk : Bool} {s0 : State} (s : State) (ssn : Word) (h0 : Kept bk s0 s) : Kept bk s0 (State.seeSsn s ssn) := by
  unfold State.seeSsn
  first | exact h0 | (simp [h0]; done) | (((repeat' split) <;> simp [*]); done)

@[simp] theorem State.runAheadLines_kept {bk : Bool} {s0 : State} (s : State) (p : PipeRec) (h0 : Kept bk s0 s) : Kept bk s0 (State.runAheadLines s p) := by
  unfold State.runAheadLines
  first | exact h0 | (simp [h0]; done) | (((repeat' split) <;> simp [*]); done)

@[simp] theorem State.runLast_kept {bk : Bool} {s0 : State} (s : State) (h0 : Kept bk s0 s) : Kept bk s0 (State.runLast s) := by
  unfold State.runLast
  first | exact h0 | (simp [h0]; done) | (((repeat' split) <;> simp [*]); done)

theorem State.eventHeader_kept {bk : Bool} {s0 : State} (s : State) (h : EventHdr) (h0 : Kept bk s0 s) : KeptO bk s0 (State.eventHeader s h) := by
  unfold State.eventHeader
  repeat' (first | with_reducible assumption | with_reducible apply State.discardFrame_kept | with_reducible apply State.count_kept | with_reducible apply State.badFrame_kept | with_reducible apply State.accept_kept | with_reducible apply State.runLast_kept | (refine keptO_use ?_ (by assumption)) | exact keptO_none _ _ | with_reducible apply keptO_some | with_reducible apply keptO_ite | (with_reducible refine keptO_map ?_ ?_; (on_goal 2 => intro t ht)) | with_reducible apply kept_ite | with_reducible apply kept_ite_fst | (with_reducible refine foldl_kept _ _ ?_ ?_; (on_goal 1 => intro t a ht)) | (with_reducible refine foldl_kept_fst _ _ ?_ ?_; (on_goal 1 => intro t a ht)) | (simp only [kept_mk, keepsF_fold]) | (rename_i heq; obtain rfl := congrArg (fun (p : State × _) => p.1) heq; clear heq) | split)

@[simp] theorem State.setPipe_kept {bk : Bool} {s0 : State} (s : State) (q : PipeRec) (h0 : Kept bk s0 s) : Kept bk s0 (State.setPipe s q) := by
  unfold State.setPipe
  first | exact h0 | (simp [h0]; done) | (((repeat' split) <;> simp [*]); done)

@[simp] theorem State.countFailed_kept {bk : Bool} {s0 : State} (s : State) (e : FrameEnd) (h0 : Kept bk s0 s) : Kept bk s0 (State.countFailed s e) := by
  unfold State.countFailed
  first | exact h0 | (simp [h0]; done) | (((repeat' split) <;> simp [*]); done)

@[simp] theorem State.endUnstored_kept {bk : Bool} {s0 : State} (s : State) (c : Nat) (counted : Bool) (e : FrameEnd) (h0 : Kept bk s0 s) : Kept bk s0 (State.endUnstored s c counted e) := by
  unfold State.endUnstored
  first | exact h0 | (simp [h0]; done) | (((repeat' split) <;> simp [*]); done)

@[simp] theorem State.eventEnd_kept {bk : Bool} {s0 : State} (s : State) (e : FrameEnd) (h : EventHdr) (body : List Byte) (h0 : Kept bk s0 s) : Kept bk s0 (State.eventEnd s e h body) := by
  unfold State.eventEnd
  repeat' (first | with_reducible assumption | with_reducible apply State.endUnstored_kept | with_reducible apply State.takeDone_kept | with_reducible apply State.setPipe_kept | with_reducible apply State.freeLeads_kept | with_reducible apply State.drop_kept | with_reducible apply State.countFailed_kept | with_reducible apply kept_ite | with_reducible apply kept_ite_fst | (with_reducible refine foldl_kept _ _ ?_ ?_; (on_goal 1 => intro t a ht)) | (with_reducible refine foldl_kept_fst _ _ ?_ ?_; (on_goal 1 => intro t a ht)) | (intro t n ht) | (intro t ht) | (simp only [kept_mk, keepsF_fold]) | (rename_i heq; obtain rfl := congrArg (fun (p : State × _) => p.1) heq; clear heq) | split)

theorem State.runEvent_kept {bk : Bool} {s0 : State} (s : State) (ph : FramePhase) (h : EventHdr) (body : List Byte) (h0 : Kept bk s0 s) : KeptO bk s0 (State.runEvent s ph h body) := by
  unfold State.runEvent
  repeat' (first | with_reducible assumption | with_reducible apply State.eventHeader_kept | with_reducible apply State.eventEnd_kept | (refine keptO_use ?_ (by assumption)) | exact keptO_none _ _ | with_reducible apply keptO_some | with_reducible apply keptO_ite | (with_reducible refine keptO_map ?_ ?_; (on_goal 2 => intro t ht)) | with_reducible apply kept_ite | with_reducible apply kept_ite_fst | (with_reducible refine foldl_kept _ _ ?_ ?_; (on_goal 1 => intro t a ht)) | (with_reducible refine foldl_kept_fst _ _ ?_ ?_; (on_goal 1 => intro t a ht)) | (simp only [kept_mk, keepsF_fold]) | (rename_i heq; obtain rfl := congrArg (fun (p : State × _) => p.1) heq; clear heq) | split)

@[simp] theorem State.rejectCopy_kept {bk : Bool} {s0 : State} (s : State) (bit : Nat) (h0 : Kept bk s0 s) : Kept bk s0 (State.rejectCopy s bit) := by
  unfold State.rejectCopy
  first | exact h0 | (simp [h0]; done) | (((repeat' split) <;> simp [*]); done)

@[simp] theorem State.sendPack_kept {bk : Bool} {s0 : State} (s : State) (result : Nat) (origin : Nat) (cid : Word) (stroke : Nat) (h0 : Kept bk s0 s) : Kept bk s0 (State.sendPack s result origin cid stroke) := by
  unfold State.sendPack
  first | exact h0 | (simp [h0]; done) | (((repeat' split) <;> simp [*]); done)

theorem State.copyHeader_kept {bk : Bool} {s0 : State} (s : State) (h : CopyHdr) (body : List Byte) (h0 : Kept bk s0 s) : KeptO bk s0 (State.copyHeader s h body) := by
  unfold State.copyHeader
  repeat' (first | with_reducible assumption | with_reducible apply State.discardFrame_kept | with_reducible apply State.rejectCopy_kept | with_reducible apply State.badFrame_kept | with_reducible apply State.count_kept | with_reducible apply State.runLast_kept | with_reducible apply State.placeOwn_kept | with_reducible apply State.stamp_kept | (refine keptO_use ?_ (by assumption)) | exact keptO_none _ _ | with_reducible apply keptO_some | with_reducible apply keptO_ite | (with_reducible refine keptO_map ?_ ?_; (on_goal 2 => intro t ht)) | with_reducible apply kept_ite | with_reducible apply kept_ite_fst | (with_reducible refine foldl_kept _ _ ?_ ?_; (on_goal 1 => intro t a ht)) | (with_reducible refine foldl_kept_fst _ _ ?_ ?_; (on_goal 1 => intro t a ht)) | (simp only [kept_mk, keepsF_fold]) | (rename_i heq; obtain rfl := congrArg (fun (p : State × _) => p.1) heq; clear heq) | split)

@[simp] theorem State.copyEnd_kept {bk : Bool} {s0 : State} (s : State) (e : FrameEnd) (h : CopyHdr) (body : List Byte) (h0 : Kept bk s0 s) : Kept bk s0 (State.copyEnd s e h body) := by
  unfold State.copyEnd
  repeat' (first | with_reducible assumption | with_reducible apply State.endUnstored_kept | with_reducible apply State.sendPack_kept | with_reducible apply State.takeDone_kept | with_reducible apply State.drop_kept | with_reducible apply State.countFailed_kept | with_reducible apply State.setPipe_kept | with_reducible apply State.rejectCopy_kept | with_reducible apply kept_ite | with_reducible apply kept_ite_fst | (with_reducible refine foldl_kept _ _ ?_ ?_; (on_goal 1 => intro t a ht)) | (with_reducible refine foldl_kept_fst _ _ ?_ ?_; (on_goal 1 => intro t a ht)) | (simp only [kept_mk, keepsF_fold]) | (rename_i heq; obtain rfl := congrArg (fun (p : State × _) => p.1) heq; clear heq) | split)

theorem State.runCopy_kept {bk : Bool} {s0 : State} (s : State) (ph : FramePhase) (h : CopyHdr) (body : List Byte) (h0 : Kept bk s0 s) : KeptO bk s0 (State.runCopy s ph h body) := by
  unfold State.runCopy
  repeat' (first | with_reducible assumption | with_reducible apply State.copyHeader_kept | with_reducible apply State.copyEnd_kept | (refine keptO_use ?_ (by assumption)) | exact keptO_none _ _ | with_reducible apply keptO_some | with_reducible apply keptO_ite | (with_reducible refine keptO_map ?_ ?_; (on_goal 2 => intro t ht)) | with_reducible apply kept_ite | with_reducible apply kept_ite_fst | (with_reducible refine foldl_kept _ _ ?_ ?_; (on_goal 1 => intro t a ht)) | (with_reducible refine foldl_kept_fst _ _ ?_ ?_; (on_goal 1 => intro t a ht)) | (simp only [kept_mk, keepsF_fold]) | (rename_i heq; obtain rfl := congrArg (fun (p : State × _) => p.1) heq; clear heq) | split)

@[simp] theorem State.serveEvents_kept {bk : Bool} {s0 : State} (s : State) (fuel : Nat) (h0 : Kept bk s0 s) : Kept bk s0 (State.serveEvents s fuel) := by
  induction fuel generalizing s with
  | zero => exact h0
  | succ fuel ih =>
  unfold State.serveEvents
  repeat' (first | with_reducible assumption | with_reducible apply ih | with_reducible apply State.runEvent_kept | (refine keptO_use ?_ (by assumption)) | exact keptO_none _ _ | with_reducible apply keptO_some | with_reducible apply keptO_ite | (with_reducible refine keptO_map ?_ ?_; (on_goal 2 => intro t ht)) | with_reducible apply kept_ite | with_reducible apply kept_ite_fst | (with_reducible refine foldl_kept _ _ ?_ ?_; (on_goal 1 => intro t a ht)) | (with_reducible refine foldl_kept_fst _ _ ?_ ?_; (on_goal 1 => intro t a ht)) | (simp only [kept_mk, keepsF_fold]) | (rename_i heq; obtain rfl := congrArg (fun (p : State × _) => p.1) heq; clear heq) | split)

@[simp] theorem State.serveCopies_kept {bk : Bool} {s0 : State} (s : State) (fuel : Nat) (h0 : Kept bk s0 s) : Kept bk s0 (State.serveCopies s fuel) := by
  induction fuel generalizing s with
  | zero => exact h0
  | succ fuel ih =>
  unfold State.serveCopies
  repeat' (first | with_reducible assumption | with_reducible apply ih | with_reducible apply State.runCopy_kept | (refine keptO_use ?_ (by assumption)) | exact keptO_none _ _ | with_reducible apply keptO_some | with_reducible apply keptO_ite | (with_reducible refine keptO_map ?_ ?_; (on_goal 2 => intro t ht)) | with_reducible apply kept_ite | with_reducible apply kept_ite_fst | (with_reducible refine foldl_kept _ _ ?_ ?_; (on_goal 1 => intro t a ht)) | (with_reducible refine foldl_kept_fst _ _ ?_ ?_; (on_goal 1 => intro t a ht)) | (simp only [kept_mk, keepsF_fold]) | (rename_i heq; obtain rfl := congrArg (fun (p : State × _) => p.1) heq; clear heq) | split)

@[simp] theorem State.serveFrames_kept {bk : Bool} {s0 : State} (s : State) (h0 : Kept bk s0 s) : Kept bk s0 (State.serveFrames s) := by
  unfold State.serveFrames
  first | exact h0 | (simp [h0]; done) | (((repeat' split) <;> simp [*]); done)

@[simp] theorem State.noteSsn_kept {bk : Bool} {s0 : State} (s : State) (ph : FramePhase) (h : EventHdr) (h0 : Kept bk s0 s) : Kept bk s0 (State.noteSsn s ph h) := by
  unfold State.noteSsn
  first | exact h0 | (simp [h0]; done) | (((repeat' split) <;> simp [*]); done)

@[simp] theorem State.effEventFrame_kept {bk : Bool} {s0 : State} (s : State) (ph : FramePhase) (h : EventHdr) (body : List Byte) (h0 : Kept bk s0 s) : Kept bk s0 (State.effEventFrame s ph h body) := by
  unfold State.effEventFrame
  first | exact h0 | (simp [h0]; done) | (((repeat' split) <;> simp [*]); done)

@[simp] theorem State.effPealCopyFrame_kept {bk : Bool} {s0 : State} (s : State) (ph : FramePhase) (h : CopyHdr) (body : List Byte) (h0 : Kept bk s0 s) : Kept bk s0 (State.effPealCopyFrame s ph h body) := by
  unfold State.effPealCopyFrame
  first | exact h0 | (simp [h0]; done) | (((repeat' split) <;> simp [*]); done)

@[simp] theorem State.sendCopy_kept {bk : Bool} {s0 : State} (s : State) (r : Rec) (attempt : Nat) (dest : BitVec 64) (h0 : Kept bk s0 s) : Kept bk s0 (State.sendCopy s r attempt dest) := by
  unfold State.sendCopy
  first | exact h0 | (simp [h0]; done) | (((repeat' split) <;> simp [*]); done)

@[simp] theorem State.settleSlot_kept {bk : Bool} {s0 : State} (s : State) (slot : Option Nat) (h0 : Kept bk s0 s) : Kept bk s0 (State.settleSlot s slot) := by
  unfold State.settleSlot
  first | exact h0 | (simp [h0]; done) | (((repeat' split) <;> simp [*]); done)

@[simp] theorem State.sendFirst_kept {bk : Bool} {s0 : State} (s : State) (h0 : Kept bk s0 s) : Kept bk s0 (State.sendFirst s) := by
  unfold State.sendFirst
  repeat' (first | with_reducible assumption | with_reducible apply State.settleSlot_kept | with_reducible apply State.sendCopy_kept | with_reducible apply kept_ite | with_reducible apply kept_ite_fst | (with_reducible refine foldl_kept _ _ ?_ ?_; (on_goal 1 => intro t a ht)) | (with_reducible refine foldl_kept_fst _ _ ?_ ?_; (on_goal 1 => intro t a ht)) | (simp only [kept_mk, keepsF_fold]) | (rename_i heq; obtain rfl := congrArg (fun (p : State × _) => p.1) heq; clear heq) | split)

@[simp] theorem State.effPealSend_kept {bk : Bool} {s0 : State} (s : State) (h0 : Kept bk s0 s) : Kept bk s0 (State.effPealSend s) := by
  unfold State.effPealSend
  repeat' (first | with_reducible assumption | with_reducible apply State.dispatch_kept | with_reducible apply State.sendFirst_kept | with_reducible apply kept_ite | with_reducible apply kept_ite_fst | (with_reducible refine foldl_kept _ _ ?_ ?_; (on_goal 1 => intro t a ht)) | (with_reducible refine foldl_kept_fst _ _ ?_ ?_; (on_goal 1 => intro t a ht)) | (simp only [kept_mk, keepsF_fold]) | (rename_i heq; obtain rfl := congrArg (fun (p : State × _) => p.1) heq; clear heq) | split)

@[simp] theorem State.settle_kept {bk : Bool} {s0 : State} (s : State) (u : Unsettled) (h0 : Kept bk s0 s) : Kept bk s0 (State.settle s u) := by
  unfold State.settle
  first | exact h0 | (simp [h0]; done) | (((repeat' split) <;> simp [*]); done)

@[simp] theorem State.giveUp_kept {bk : Bool} {s0 : State} (s : State) (u : Unsettled) (reason : Nat) (h0 : Kept bk s0 s) : Kept bk s0 (State.giveUp s u reason) := by
  unfold State.giveUp
  first | exact h0 | (simp [h0]; done) | (((repeat' split) <;> simp [*]); done)

@[simp] theorem State.setUnsettled_kept {bk : Bool} {s0 : State} (s : State) (u : Unsettled) (h0 : Kept bk s0 s) : Kept bk s0 (State.setUnsettled s u) := by
  unfold State.setUnsettled
  first | exact h0 | (simp [h0]; done) | (((repeat' split) <;> simp [*]); done)

@[simp] theorem State.retry_kept {bk : Bool} {s0 : State} (s : State) (u : Unsettled) (h0 : Kept bk s0 s) : Kept bk s0 (State.retry s u) := by
  unfold State.retry
  repeat' (first | with_reducible assumption | with_reducible apply State.setUnsettled_kept | with_reducible apply State.sendCopy_kept | with_reducible apply kept_ite | with_reducible apply kept_ite_fst | (with_reducible refine foldl_kept _ _ ?_ ?_; (on_goal 1 => intro t a ht)) | (with_reducible refine foldl_kept_fst _ _ ?_ ?_; (on_goal 1 => intro t a ht)) | (simp only [kept_mk, keepsF_fold]) | (rename_i heq; obtain rfl := congrArg (fun (p : State × _) => p.1) heq; clear heq) | split)

@[simp] theorem State.retryNow_kept {bk : Bool} {s0 : State} (s : State) (u : Unsettled) (h0 : Kept bk s0 s) : Kept bk s0 (State.retryNow s u) := by
  unfold State.retryNow
  repeat' (first | with_reducible assumption | with_reducible apply State.setUnsettled_kept | with_reducible apply State.dispatch_kept | with_reducible apply State.retry_kept | with_reducible apply kept_ite | with_reducible apply kept_ite_fst | (with_reducible refine foldl_kept _ _ ?_ ?_; (on_goal 1 => intro t a ht)) | (with_reducible refine foldl_kept_fst _ _ ?_ ?_; (on_goal 1 => intro t a ht)) | (simp only [kept_mk, keepsF_fold]) | (rename_i heq; obtain rfl := congrArg (fun (p : State × _) => p.1) heq; clear heq) | split)

@[simp] theorem State.admitSend_kept {bk : Bool} {s0 : State} (s : State) (stroke : Nat) (h0 : Kept bk s0 s) : Kept bk s0 (State.admitSend s stroke) := by
  unfold State.admitSend
  first | exact h0 | (simp [h0]; done) | (((repeat' split) <;> simp [*]); done)

@[simp] theorem State.effPealRetryWaitExpiry_kept {bk : Bool} {s0 : State} (s : State) (stroke : Nat) (h0 : Kept bk s0 s) : Kept bk s0 (State.effPealRetryWaitExpiry s stroke) := by
  unfold State.effPealRetryWaitExpiry
  first | exact h0 | (simp [h0]; done) | (((repeat' split) <;> simp [*]); done)

@[simp] theorem State.sendDue_kept {bk : Bool} {s0 : State} (s : State) (h0 : Kept bk s0 s) : Kept bk s0 (State.sendDue s) := by
  unfold State.sendDue
  repeat' (first | with_reducible assumption | with_reducible apply State.retryNow_kept | with_reducible apply kept_ite | with_reducible apply kept_ite_fst | (with_reducible refine foldl_kept _ _ ?_ ?_; (on_goal 1 => intro t a ht)) | (with_reducible refine foldl_kept_fst _ _ ?_ ?_; (on_goal 1 => intro t a ht)) | (simp only [kept_mk, keepsF_fold]) | (rename_i heq; obtain rfl := congrArg (fun (p : State × _) => p.1) heq; clear heq) | split)

@[simp] theorem State.effPackFrame_kept {bk : Bool} {s0 : State} (s : State) (e : FrameEnd) (h : PackHdr) (h0 : Kept bk s0 s) : Kept bk s0 (State.effPackFrame s e h) := by
  unfold State.effPackFrame
  repeat' (first | with_reducible assumption | with_reducible apply State.freeFrame_kept | with_reducible apply State.countFailed_kept | with_reducible apply State.raise_kept | with_reducible apply State.settle_kept | with_reducible apply State.setUnsettled_kept | with_reducible apply kept_ite | with_reducible apply kept_ite_fst | (with_reducible refine foldl_kept _ _ ?_ ?_; (on_goal 1 => intro t a ht)) | (with_reducible refine foldl_kept_fst _ _ ?_ ?_; (on_goal 1 => intro t a ht)) | (simp only [kept_mk, keepsF_fold]) | (rename_i heq; obtain rfl := congrArg (fun (p : State × _) => p.1) heq; clear heq) | split)

@[simp] theorem State.effKnellMirrorStart_kept {bk : Bool} {s0 : State} (s : State) (h0 : Kept bk s0 s) : Kept bk s0 (State.effKnellMirrorStart s) := by
  unfold State.effKnellMirrorStart
  first | exact h0 | (simp [h0]; done) | (((repeat' split) <;> simp [*]); done)

@[simp] theorem State.setLease_kept {bk : Bool} {s0 : State} (s : State) (p : Nat) (l : Option Lease) (h0 : Kept bk s0 s) : Kept bk s0 (State.setLease s p l) := by
  unfold State.setLease
  first | exact h0 | (simp [h0]; done) | (((repeat' split) <;> simp [*]); done)

@[simp] theorem State.applyLease_kept {bk : Bool} {s0 : State} (s : State) (q : LeaseReq) (h0 : Kept bk s0 s) : Kept bk s0 (State.applyLease s q) := by
  unfold State.applyLease
  repeat' (first | with_reducible assumption | with_reducible apply State.answer_kept | with_reducible apply State.complete_kept | with_reducible apply State.setLease_kept | with_reducible apply kept_ite | with_reducible apply kept_ite_fst | (with_reducible refine foldl_kept _ _ ?_ ?_; (on_goal 1 => intro t a ht)) | (with_reducible refine foldl_kept_fst _ _ ?_ ?_; (on_goal 1 => intro t a ht)) | (simp only [kept_mk, keepsF_fold]) | (rename_i heq; obtain rfl := congrArg (fun (p : State × _) => p.1) heq; clear heq) | split)

@[simp] theorem State.effLeaseExpiry_kept {bk : Bool} {s0 : State} (s : State) (p : Nat) (h0 : Kept bk s0 s) : Kept bk s0 (State.effLeaseExpiry s p) := by
  unfold State.effLeaseExpiry
  repeat' (first | with_reducible assumption | with_reducible apply State.raise_kept | with_reducible apply State.setLease_kept | with_reducible apply kept_ite | with_reducible apply kept_ite_fst | (with_reducible refine foldl_kept _ _ ?_ ?_; (on_goal 1 => intro t a ht)) | (with_reducible refine foldl_kept_fst _ _ ?_ ?_; (on_goal 1 => intro t a ht)) | (simp only [kept_mk, keepsF_fold]) | (rename_i heq; obtain rfl := congrArg (fun (p : State × _) => p.1) heq; clear heq) | split)

@[simp] theorem State.clearLeases_kept {bk : Bool} {s0 : State} (s : State) (h0 : Kept bk s0 s) : Kept bk s0 (State.clearLeases s) := by
  unfold State.clearLeases
  first | exact h0 | (simp [h0]; done) | (((repeat' split) <;> simp [*]); done)

@[simp] theorem State.applyCarillon_kept {bk : Bool} {s0 : State} (s : State) (h0 : Kept bk s0 s) : Kept bk s0 (State.applyCarillon s) := by
  unfold State.applyCarillon
  repeat' (first | with_reducible assumption | with_reducible apply State.createNow_kept | with_reducible apply State.applyAt_kept | with_reducible apply State.audit_kept | with_reducible apply kept_ite | with_reducible apply kept_ite_fst | (with_reducible refine foldl_kept _ _ ?_ ?_; (on_goal 1 => intro t a ht)) | (with_reducible refine foldl_kept_fst _ _ ?_ ?_; (on_goal 1 => intro t a ht)) | (simp only [kept_mk, keepsF_fold]) | (rename_i heq; obtain rfl := congrArg (fun (p : State × _) => p.1) heq; clear heq) | split)

@[simp] theorem State.applyClass_kept {bk : Bool} {s0 : State} (s : State) (i : Nat) (h0 : Kept bk s0 s) : Kept bk s0 (State.applyClass s i) := by
  unfold State.applyClass
  repeat' (first | with_reducible assumption | with_reducible apply State.setForce_kept | with_reducible apply State.giveUp_kept | with_reducible apply State.raise_kept | with_reducible apply kept_ite | with_reducible apply kept_ite_fst | (with_reducible refine foldl_kept _ _ ?_ ?_; (on_goal 1 => intro t a ht)) | (with_reducible refine foldl_kept_fst _ _ ?_ ?_; (on_goal 1 => intro t a ht)) | (simp only [kept_mk, keepsF_fold]) | (rename_i heq; obtain rfl := congrArg (fun (p : State × _) => p.1) heq; clear heq) | split)

@[simp] theorem State.applyPeers_kept {bk : Bool} {s0 : State} (s : State) (h0 : Kept bk s0 s) : Kept bk s0 (State.applyPeers s) := by
  unfold State.applyPeers
  repeat' (first | with_reducible assumption | with_reducible apply State.applyClass_kept | with_reducible apply State.setPend_kept | with_reducible apply kept_ite | with_reducible apply kept_ite_fst | (with_reducible refine foldl_kept _ _ ?_ ?_; (on_goal 1 => intro t a ht)) | (with_reducible refine foldl_kept_fst _ _ ?_ ?_; (on_goal 1 => intro t a ht)) | (simp only [kept_mk, keepsF_fold]) | (rename_i heq; obtain rfl := congrArg (fun (p : State × _) => p.1) heq; clear heq) | split)

@[simp] theorem State.groupBoundary_kept {bk : Bool} {s0 : State} (s : State) (h0 : Kept bk s0 s) : Kept bk s0 (State.groupBoundary s) := by
  unfold State.groupBoundary
  repeat' (first | with_reducible assumption | with_reducible apply State.applyPeers_kept | with_reducible apply State.applyCarillon_kept | with_reducible apply State.boundary_kept | with_reducible apply State.applyLease_kept | with_reducible apply kept_ite | with_reducible apply kept_ite_fst | (with_reducible refine foldl_kept _ _ ?_ ?_; (on_goal 1 => intro t a ht)) | (with_reducible refine foldl_kept_fst _ _ ?_ ?_; (on_goal 1 => intro t a ht)) | (simp only [kept_mk, keepsF_fold]) | (rename_i heq; obtain rfl := congrArg (fun (p : State × _) => p.1) heq; clear heq) | split)

@[simp] theorem State.tryBoundary_kept {bk : Bool} {s0 : State} (s : State) (h0 : Kept bk s0 s) : Kept bk s0 (State.tryBoundary s) := by
  unfold State.tryBoundary
  first | exact h0 | (simp [h0]; done) | (((repeat' split) <;> simp [*]); done)

@[simp] theorem State.reach_kept {bk : Bool} {s0 : State} (s : State) (t : State) (h0 : Kept bk s0 t) : Kept bk s0 (State.reach s t) := by
  unfold State.reach
  split
  · exact State.groupBoundary_kept _ h0
  · exact h0

@[simp] theorem State.regpOff_kept {bk : Bool} {s0 : State} (s : State) (h0 : Kept bk s0 s) : Kept bk s0 (State.regpOff s) := by
  unfold State.regpOff
  first | exact h0 | (simp [h0]; done) | (((repeat' split) <;> simp [*]); done)

@[simp] theorem State.enterStep_kept {bk : Bool} {s0 : State} (s : State) (n : Nat) (h0 : Kept bk s0 s) : Kept bk s0 (State.enterStep s n) := by
  unfold State.enterStep
  repeat' (first | with_reducible assumption | with_reducible apply State.raise_kept | with_reducible apply State.snareShed_kept | with_reducible apply State.entPower_kept | with_reducible apply State.abortRaw_kept | with_reducible apply State.regpOff_kept | with_reducible apply State.closeHosts_kept | with_reducible apply kept_ite | with_reducible apply kept_ite_fst | (with_reducible refine foldl_kept _ _ ?_ ?_; (on_goal 1 => intro t a ht)) | (with_reducible refine foldl_kept_fst _ _ ?_ ?_; (on_goal 1 => intro t a ht)) | (simp only [kept_mk, keepsF_fold]) | (rename_i heq; obtain rfl := congrArg (fun (p : State × _) => p.1) heq; clear heq) | split)

@[simp] theorem State.effShedStep_kept {bk : Bool} {s0 : State} (s : State) (n : Nat) (h0 : Kept bk s0 s) : Kept bk s0 (State.effShedStep s n) := by
  unfold State.effShedStep
  first | exact h0 | (simp [h0]; done) | (((repeat' split) <;> simp [*]); done)

@[simp] theorem State.stopJobs_kept {bk : Bool} {s0 : State} (s : State) (h0 : Kept bk s0 s) : Kept bk s0 (State.stopJobs s) := by
  unfold State.stopJobs
  repeat' (first | with_reducible assumption | with_reducible apply State.abortRaw_kept | with_reducible apply State.abortTest_kept | with_reducible apply State.abortCal_kept | with_reducible apply State.releaseJobs_kept | with_reducible apply kept_ite | with_reducible apply kept_ite_fst | (with_reducible refine foldl_kept _ _ ?_ ?_; (on_goal 1 => intro t a ht)) | (with_reducible refine foldl_kept_fst _ _ ?_ ?_; (on_goal 1 => intro t a ht)) | (intro t n ht) | (intro t ht) | (simp only [kept_mk, keepsF_fold]) | (rename_i heq; obtain rfl := congrArg (fun (p : State × _) => p.1) heq; clear heq) | split)

@[simp] theorem State.dedicate_kept {bk : Bool} {s0 : State} (s : State) (h0 : Kept bk s0 s) : Kept bk s0 (State.dedicate s) := by
  unfold State.dedicate
  first | exact h0 | (simp [h0]; done) | (((repeat' split) <;> simp [*]); done)

@[simp] theorem State.dropStream_kept {bk : Bool} {s0 : State} (s : State) (h0 : Kept bk s0 s) : Kept bk s0 (State.dropStream s) := by
  unfold State.dropStream
  repeat' (first | with_reducible assumption | with_reducible apply State.releaseCredits_kept | with_reducible apply State.raise_kept | with_reducible apply kept_ite | with_reducible apply kept_ite_fst | (with_reducible refine foldl_kept _ _ ?_ ?_; (on_goal 1 => intro t a ht)) | (with_reducible refine foldl_kept_fst _ _ ?_ ?_; (on_goal 1 => intro t a ht)) | (simp only [kept_mk, keepsF_fold]) | (rename_i heq; obtain rfl := congrArg (fun (p : State × _) => p.1) heq; clear heq) | split)

@[simp] theorem State.knellEntry_kept {bk : Bool} {s0 : State} (s : State) (trigger : Nat) (h0 : Kept bk s0 s) : Kept bk s0 (State.knellEntry s trigger) := by
  unfold State.knellEntry
  repeat' (first | with_reducible assumption | with_reducible apply State.enterStep_kept | with_reducible apply State.reach_kept | with_reducible apply State.dropEach_kept | with_reducible apply State.snareKnell_kept | with_reducible apply State.dropStream_kept | with_reducible apply State.stopJobs_kept | with_reducible apply State.pealForget_kept | with_reducible apply State.dedicate_kept | with_reducible apply kept_ite | with_reducible apply kept_ite_fst | (with_reducible refine foldl_kept _ _ ?_ ?_; (on_goal 1 => intro t a ht)) | (with_reducible refine foldl_kept_fst _ _ ?_ ?_; (on_goal 1 => intro t a ht)) | (intro t n ht) | (intro t ht) | (simp only [kept_mk, keepsF_fold]) | (rename_i heq; obtain rfl := congrArg (fun (p : State × _) => p.1) heq; clear heq) | split)

@[simp] theorem State.trigger_kept {bk : Bool} {s0 : State} (s : State) (code : Nat) (h0 : Kept bk s0 s) : Kept bk s0 (State.trigger s code) := by
  unfold State.trigger
  first | exact h0 | (simp [h0]; done) | (((repeat' split) <;> simp [*]); done)

@[simp] theorem State.effVauxFail_kept {bk : Bool} {s0 : State} (s : State) (h0 : Kept bk s0 s) : Kept bk s0 (State.effVauxFail s) := by
  unfold State.effVauxFail
  repeat' (first | with_reducible assumption | with_reducible apply State.regpOff_kept | with_reducible apply State.enterStep_kept | with_reducible apply State.trigger_kept | with_reducible apply State.fixMode_kept | with_reducible apply State.entPower_kept | with_reducible apply State.disarm_kept | with_reducible apply kept_ite | with_reducible apply kept_ite_fst | (with_reducible refine foldl_kept _ _ ?_ ?_; (on_goal 1 => intro t a ht)) | (with_reducible refine foldl_kept_fst _ _ ?_ ?_; (on_goal 1 => intro t a ht)) | (intro t n ht) | (intro t ht) | (simp only [kept_mk, keepsF_fold]) | (rename_i heq; obtain rfl := congrArg (fun (p : State × _) => p.1) heq; clear heq) | split)

@[simp] theorem State.forceKnell_kept {bk : Bool} {s0 : State} (s : State) (h0 : Kept bk s0 s) : Kept bk s0 (State.forceKnell s) := by
  unfold State.forceKnell
  first | exact h0 | (simp [h0]; done) | (((repeat' split) <;> simp [*]); done)

@[simp] theorem State.openingHeader_kept {bk : Bool} {s0 : State} (s : State) (h0 : Kept bk s0 s) : Kept bk s0 (State.openingHeader s) := by
  unfold State.openingHeader
  first | exact h0 | (simp [h0]; done) | (((repeat' split) <;> simp [*]); done)

@[simp] theorem State.endIfFull_kept {bk : Bool} {s0 : State} (s : State) (h0 : Kept bk s0 s) : Kept bk s0 (State.endIfFull s) := by
  unfold State.endIfFull
  first | exact h0 | (simp [h0]; done) | (((repeat' split) <;> simp [*]); done)

@[simp] theorem State.countKnell_kept {bk : Bool} {s0 : State} (s : State) (typ : Byte) (e : FrameEnd) (body : List Byte) (h0 : Kept bk s0 s) : Kept bk s0 (State.countKnell s typ e body) := by
  unfold State.countKnell
  repeat' (first | with_reducible assumption | with_reducible apply State.count_kept | with_reducible apply State.countFailed_kept | with_reducible apply kept_ite | with_reducible apply kept_ite_fst | (with_reducible refine foldl_kept _ _ ?_ ?_; (on_goal 1 => intro t a ht)) | (with_reducible refine foldl_kept_fst _ _ ?_ ?_; (on_goal 1 => intro t a ht)) | (intro t n ht) | (intro t ht) | (simp only [kept_mk, keepsF_fold]) | (rename_i heq; obtain rfl := congrArg (fun (p : State × _) => p.1) heq; clear heq) | split)

@[simp] theorem State.openingEnd_kept {bk : Bool} {s0 : State} (s : State) (raw : FrameEnd) (body : List Byte) (h0 : Kept bk s0 s) : Kept bk s0 (State.openingEnd s raw body) := by
  unfold State.openingEnd
  repeat' (first | with_reducible assumption | with_reducible apply State.takeDone_kept | with_reducible apply State.endIfFull_kept | with_reducible apply State.takeDirectory_kept | with_reducible apply State.setIntake_kept | with_reducible apply State.countKnell_kept | with_reducible apply State.releaseCredits_kept | with_reducible apply kept_ite | with_reducible apply kept_ite_fst | (with_reducible refine foldl_kept _ _ ?_ ?_; (on_goal 1 => intro t a ht)) | (with_reducible refine foldl_kept_fst _ _ ?_ ?_; (on_goal 1 => intro t a ht)) | (intro t n ht) | (intro t ht) | (simp only [kept_mk, keepsF_fold]) | (rename_i heq; obtain rfl := congrArg (fun (p : State × _) => p.1) heq; clear heq) | split)

@[simp] theorem State.effKnellOpeningFrame_kept {bk : Bool} {s0 : State} (s : State) (ph : FramePhase) (body : List Byte) (h0 : Kept bk s0 s) : Kept bk s0 (State.effKnellOpeningFrame s ph body) := by
  unfold State.effKnellOpeningFrame
  first | exact h0 | (simp [h0]; done) | (((repeat' split) <;> simp [*]); done)

@[simp] theorem State.effKnellDataFrame_kept {bk : Bool} {s0 : State} (s : State) (raw : FrameEnd) (body : List Byte) (h0 : Kept bk s0 s) : Kept bk s0 (State.effKnellDataFrame s raw body) := by
  unfold State.effKnellDataFrame
  repeat' (first | with_reducible assumption | with_reducible apply State.takeDone_kept | with_reducible apply State.count_kept | with_reducible apply State.releaseCredits_kept | with_reducible apply State.badFrame_kept | with_reducible apply State.countKnell_kept | with_reducible apply State.takeData_kept | with_reducible apply kept_ite | with_reducible apply kept_ite_fst | (with_reducible refine foldl_kept _ _ ?_ ?_; (on_goal 1 => intro t a ht)) | (with_reducible refine foldl_kept_fst _ _ ?_ ?_; (on_goal 1 => intro t a ht)) | (intro t n ht) | (intro t ht) | (simp only [kept_mk, keepsF_fold]) | (rename_i heq; obtain rfl := congrArg (fun (p : State × _) => p.1) heq; clear heq) | split)

@[simp] theorem State.effDirWaitExpiry_kept {bk : Bool} {s0 : State} (s : State) (h0 : Kept bk s0 s) : Kept bk s0 (State.effDirWaitExpiry s) := by
  unfold State.effDirWaitExpiry
  first | exact h0 | (simp [h0]; done) | (((repeat' split) <;> simp [*]); done)

@[simp] theorem State.effIntakeMsExpiry_kept {bk : Bool} {s0 : State} (s : State) (h0 : Kept bk s0 s) : Kept bk s0 (State.effIntakeMsExpiry s) := by
  unfold State.effIntakeMsExpiry
  first | exact h0 | (simp [h0]; done) | (((repeat' split) <;> simp [*]); done)

@[simp] theorem State.effKSign_kept {bk : Bool} {s0 : State} (s : State) (h0 : Kept bk s0 s) : Kept bk s0 (State.effKSign s) := by
  unfold State.effKSign
  first | exact h0 | (simp [h0]; done) | (((repeat' split) <;> simp [*]); done)

@[simp] theorem State.effKnellArm_kept {bk : Bool} {s0 : State} (s : State) (h0 : Kept bk s0 s) : Kept bk s0 (State.effKnellArm s) := by
  unfold State.effKnellArm
  first | exact h0 | (simp [h0]; done) | (((repeat' split) <;> simp [*]); done)

@[simp] theorem State.effShedStep6_kept {bk : Bool} {s0 : State} (s : State) (h0 : Kept bk s0 s) : Kept bk s0 (State.effShedStep6 s) := by
  unfold State.effShedStep6
  repeat' (first | with_reducible assumption | with_reducible apply State.reach_kept | with_reducible apply State.dropAll_kept | with_reducible apply State.stopJobs_kept | with_reducible apply State.enterStep_kept | with_reducible apply State.snareGate_kept | with_reducible apply State.linkOff_kept | with_reducible apply kept_ite | with_reducible apply kept_ite_fst | (with_reducible refine foldl_kept _ _ ?_ ?_; (on_goal 1 => intro t a ht)) | (with_reducible refine foldl_kept_fst _ _ ?_ ?_; (on_goal 1 => intro t a ht)) | (simp only [kept_mk, keepsF_fold]) | (rename_i heq; obtain rfl := congrArg (fun (p : State × _) => p.1) heq; clear heq) | split)

@[simp] theorem State.effShedStep7_kept {bk : Bool} {s0 : State} (s : State) (h0 : Kept bk s0 s) : Kept bk s0 (State.effShedStep7 s) := by
  unfold State.effShedStep7
  repeat' (first | with_reducible assumption | with_reducible apply State.saveNow_kept | with_reducible apply State.pealForget_kept | with_reducible apply State.entCoreGate_kept | with_reducible apply State.aonOnly_kept | with_reducible apply State.setDom_kept | with_reducible apply State.fixMode_kept | with_reducible apply kept_ite | with_reducible apply kept_ite_fst | (with_reducible refine foldl_kept _ _ ?_ ?_; (on_goal 1 => intro t a ht)) | (with_reducible refine foldl_kept_fst _ _ ?_ ?_; (on_goal 1 => intro t a ht)) | (simp only [kept_mk, keepsF_fold]) | (rename_i heq; obtain rfl := congrArg (fun (p : State × _) => p.1) heq; clear heq) | split)

@[simp] theorem State.returnCredits_kept {bk : Bool} {s0 : State} (s : State) (h0 : Kept bk s0 s) : Kept bk s0 (State.returnCredits s) := by
  unfold State.returnCredits
  first | exact h0 | (simp [h0]; done) | (((repeat' split) <;> simp [*]); done)

@[simp] theorem State.effShedLeave_kept {bk : Bool} {s0 : State} (s : State) (h0 : Kept bk s0 s) : Kept bk s0 (State.effShedLeave s) := by
  unfold State.effShedLeave
  repeat' (first | with_reducible assumption | with_reducible apply State.feedField_kept | with_reducible apply State.fixMode_kept | with_reducible apply State.wakeArray_kept | with_reducible apply State.raise_kept | with_reducible apply State.returnCredits_kept | with_reducible apply State.wakeLink_kept | with_reducible apply State.snareUnshed_kept | with_reducible apply State.snareWake_kept | with_reducible apply State.wakePinned_kept | with_reducible apply State.startNextTest_kept | with_reducible apply State.rearmKnell_kept | with_reducible apply State.snareFeed_kept | with_reducible apply State.serveFrames_kept | with_reducible apply State.drain_kept | with_reducible apply State.sendDue_kept | with_reducible apply State.entPower_kept | with_reducible apply kept_ite | with_reducible apply kept_ite_fst | (with_reducible refine foldl_kept _ _ ?_ ?_; (on_goal 1 => intro t a ht)) | (with_reducible refine foldl_kept_fst _ _ ?_ ?_; (on_goal 1 => intro t a ht)) | (intro t n ht) | (intro t ht) | (simp only [kept_mk, keepsF_fold]) | (rename_i heq; obtain rfl := congrArg (fun (p : State × _) => p.1) heq; clear heq) | split)

@[simp] theorem State.wakeDrum_kept {bk : Bool} {s0 : State} (s : State) (h0 : Kept bk s0 s) : Kept bk s0 (State.wakeDrum s) := by
  unfold State.wakeDrum
  first | exact h0 | (simp [h0]; done) | (((repeat' split) <;> simp [*]); done)

@[simp] theorem State.setUsable_kept {bk : Bool} {s0 : State} (s : State) (src : Nat) (u : Bool) (h0 : Kept bk s0 s) : Kept bk s0 (State.setUsable s src u) := by
  unfold State.setUsable
  first | exact h0 | (simp [h0]; done) | (((repeat' split) <;> simp [*]); done)

@[simp] theorem State.moveAssist_kept {bk : Bool} {s0 : State} (s : State) (src : Nat) (h0 : Kept bk s0 s) : Kept bk s0 (State.moveAssist s src) := by
  unfold State.moveAssist
  repeat' (first | with_reducible assumption | with_reducible apply State.raise_kept | with_reducible apply State.feedField_kept | with_reducible apply State.fieldEnd_kept | with_reducible apply kept_ite | with_reducible apply kept_ite_fst | (with_reducible refine foldl_kept _ _ ?_ ?_; (on_goal 1 => intro t a ht)) | (with_reducible refine foldl_kept_fst _ _ ?_ ?_; (on_goal 1 => intro t a ht)) | (simp only [kept_mk, keepsF_fold]) | (rename_i heq; obtain rfl := congrArg (fun (p : State × _) => p.1) heq; clear heq) | split)

@[simp] theorem State.losePower_kept {bk : Bool} {s0 : State} (s : State) (h0 : Kept bk s0 s) : Kept bk s0 (State.losePower s) := by
  unfold State.losePower
  repeat' (first | with_reducible assumption | with_reducible apply State.gateMost_kept | with_reducible apply State.gateSource_kept | with_reducible apply State.stopField_kept | with_reducible apply kept_ite | with_reducible apply kept_ite_fst | (with_reducible refine foldl_kept _ _ ?_ ?_; (on_goal 1 => intro t a ht)) | (with_reducible refine foldl_kept_fst _ _ ?_ ?_; (on_goal 1 => intro t a ht)) | (simp only [kept_mk, keepsF_fold]) | (rename_i heq; obtain rfl := congrArg (fun (p : State × _) => p.1) heq; clear heq) | split)

@[simp] theorem State.effSupplyChange_kept {bk : Bool} {s0 : State} (s : State) (src : Nat) (usable : Bool) (h0 : Kept bk s0 s) : Kept bk s0 (State.effSupplyChange s src usable) := by
  unfold State.effSupplyChange
  repeat' (first | with_reducible assumption | with_reducible apply State.setUsable_kept | with_reducible apply State.losePower_kept | with_reducible apply State.effVauxFail_kept | with_reducible apply State.feedField_kept | with_reducible apply State.moveAssist_kept | with_reducible apply kept_ite | with_reducible apply kept_ite_fst | (with_reducible refine foldl_kept _ _ ?_ ?_; (on_goal 1 => intro t a ht)) | (with_reducible refine foldl_kept_fst _ _ ?_ ?_; (on_goal 1 => intro t a ht)) | (simp only [kept_mk, keepsF_fold]) | (rename_i heq; obtain rfl := congrArg (fun (p : State × _) => p.1) heq; clear heq) | split)

@[simp] theorem State.effHoldTopUp_kept {bk : Bool} {s0 : State} (s : State) (h0 : Kept bk s0 s) : Kept bk s0 (State.effHoldTopUp s) := by
  unfold State.effHoldTopUp
  first | exact h0 | (simp [h0]; done) | (((repeat' split) <;> simp [*]); done)

@[simp] theorem State.endCapacitance_kept {bk : Bool} {s0 : State} (s : State) (uf : Nat) (fail : Bool) (h0 : Kept bk s0 s) : Kept bk s0 (State.endCapacitance s uf fail) := by
  unfold State.endCapacitance
  repeat' (first | with_reducible assumption | with_reducible apply State.raise_kept | with_reducible apply State.rearmKnell_kept | with_reducible apply kept_ite | with_reducible apply kept_ite_fst | (with_reducible refine foldl_kept _ _ ?_ ?_; (on_goal 1 => intro t a ht)) | (with_reducible refine foldl_kept_fst _ _ ?_ ?_; (on_goal 1 => intro t a ht)) | (simp only [kept_mk, keepsF_fold]) | (rename_i heq; obtain rfl := congrArg (fun (p : State × _) => p.1) heq; clear heq) | split)

@[simp] theorem State.effHoldCapDone_kept {bk : Bool} {s0 : State} (s : State) (riseUs : Nat) (h0 : Kept bk s0 s) : Kept bk s0 (State.effHoldCapDone s riseUs) := by
  unfold State.effHoldCapDone
  first | exact h0 | (simp [h0]; done) | (((repeat' split) <;> simp [*]); done)

@[simp] theorem State.effHoldCapTimeout_kept {bk : Bool} {s0 : State} (s : State) (h0 : Kept bk s0 s) : Kept bk s0 (State.effHoldCapTimeout s) := by
  unfold State.effHoldCapTimeout
  first | exact h0 | (simp [h0]; done) | (((repeat' split) <;> simp [*]); done)

@[simp] theorem State.measureCell_kept {bk : Bool} {s0 : State} (s : State) (mv : Nat) (h0 : Kept bk s0 s) : Kept bk s0 (State.measureCell s mv) := by
  unfold State.measureCell
  repeat' (first | with_reducible assumption | with_reducible apply State.raise_kept | with_reducible apply State.setUsable_kept | with_reducible apply State.losePower_kept | with_reducible apply State.feedField_kept | with_reducible apply State.moveAssist_kept | with_reducible apply kept_ite | with_reducible apply kept_ite_fst | (with_reducible refine foldl_kept _ _ ?_ ?_; (on_goal 1 => intro t a ht)) | (with_reducible refine foldl_kept_fst _ _ ?_ ?_; (on_goal 1 => intro t a ht)) | (simp only [kept_mk, keepsF_fold]) | (rename_i heq; obtain rfl := congrArg (fun (p : State × _) => p.1) heq; clear heq) | split)

@[simp] theorem State.effCellMeasure_kept {bk : Bool} {s0 : State} (s : State) (mv : Nat) (h0 : Kept bk s0 s) : Kept bk s0 (State.effCellMeasure s mv) := by
  unfold State.effCellMeasure
  first | exact h0 | (simp [h0]; done) | (((repeat' split) <;> simp [*]); done)

@[simp] theorem State.effVbatDetect_kept {bk : Bool} {s0 : State} (s : State) (mv : Nat) (h0 : Kept bk s0 s) : Kept bk s0 (State.effVbatDetect s mv) := by
  unfold State.effVbatDetect
  first | exact h0 | (simp [h0]; done) | (((repeat' split) <;> simp [*]); done)

@[simp] theorem State.effHarvColdStart_kept {bk : Bool} {s0 : State} (s : State) (voc : Nat) (h0 : Kept bk s0 s) : Kept bk s0 (State.effHarvColdStart s voc) := by
  unfold State.effHarvColdStart
  repeat' (first | with_reducible assumption | with_reducible apply State.boundary_kept | with_reducible apply State.setDom_kept | with_reducible apply State.raise_kept | with_reducible apply State.setUsable_kept | with_reducible apply kept_ite | with_reducible apply kept_ite_fst | (with_reducible refine foldl_kept _ _ ?_ ?_; (on_goal 1 => intro t a ht)) | (with_reducible refine foldl_kept_fst _ _ ?_ ?_; (on_goal 1 => intro t a ht)) | (simp only [kept_mk, keepsF_fold]) | (rename_i heq; obtain rfl := congrArg (fun (p : State × _) => p.1) heq; clear heq) | split)

@[simp] theorem State.stopHarv_kept {bk : Bool} {s0 : State} (s : State) (h0 : Kept bk s0 s) : Kept bk s0 (State.stopHarv s) := by
  unfold State.stopHarv
  first | exact h0 | (simp [h0]; done) | (((repeat' split) <;> simp [*]); done)

@[simp] theorem State.effTrackingSample_kept {bk : Bool} {s0 : State} (s : State) (x : Tracked) (h0 : Kept bk s0 s) : Kept bk s0 (State.effTrackingSample s x) := by
  unfold State.effTrackingSample
  repeat' (first | with_reducible assumption | with_reducible apply State.boundary_kept | with_reducible apply State.losePower_kept | with_reducible apply State.stopHarv_kept | with_reducible apply kept_ite | with_reducible apply kept_ite_fst | (with_reducible refine foldl_kept _ _ ?_ ?_; (on_goal 1 => intro t a ht)) | (with_reducible refine foldl_kept_fst _ _ ?_ ?_; (on_goal 1 => intro t a ht)) | (simp only [kept_mk, keepsF_fold]) | (rename_i heq; obtain rfl := congrArg (fun (p : State × _) => p.1) heq; clear heq) | split)

@[simp] theorem State.requestMppt_kept {bk : Bool} {s0 : State} (s : State) (h0 : Kept bk s0 s) : Kept bk s0 (State.requestMppt s) := by
  unfold State.requestMppt
  first | exact h0 | (simp [h0]; done) | (((repeat' split) <;> simp [*]); done)

@[simp] theorem State.countDark_kept {bk : Bool} {s0 : State} (s : State) (h0 : Kept bk s0 s) : Kept bk s0 (State.countDark s) := by
  unfold State.countDark
  first | exact h0 | (simp [h0]; done) | (((repeat' split) <;> simp [*]); done)

@[simp] theorem State.effGaugeUpdate_kept {bk : Bool} {s0 : State} (s : State) (g : GaugeReading) (h0 : Kept bk s0 s) : Kept bk s0 (State.effGaugeUpdate s g) := by
  unfold State.effGaugeUpdate
  repeat' (first | with_reducible assumption | with_reducible apply State.boundary_kept | with_reducible apply State.countDark_kept | with_reducible apply kept_ite | with_reducible apply kept_ite_fst | (with_reducible refine foldl_kept _ _ ?_ ?_; (on_goal 1 => intro t a ht)) | (with_reducible refine foldl_kept_fst _ _ ?_ ?_; (on_goal 1 => intro t a ht)) | (simp only [kept_mk, keepsF_fold]) | (rename_i heq; obtain rfl := congrArg (fun (p : State × _) => p.1) heq; clear heq) | split)

@[simp] theorem State.effStoreFull_kept {bk : Bool} {s0 : State} (s : State) (h0 : Kept bk s0 s) : Kept bk s0 (State.effStoreFull s) := by
  unfold State.effStoreFull
  first | exact h0 | (simp [h0]; done) | (((repeat' split) <;> simp [*]); done)

@[simp] theorem State.effDerateBandChange_kept {bk : Bool} {s0 : State} (s : State) (temp : Int) (h0 : Kept bk s0 s) : Kept bk s0 (State.effDerateBandChange s temp) := by
  unfold State.effDerateBandChange
  repeat' (first | with_reducible assumption | with_reducible apply State.sendDue_kept | with_reducible apply State.raise_kept | with_reducible apply kept_ite | with_reducible apply kept_ite_fst | (with_reducible refine foldl_kept _ _ ?_ ?_; (on_goal 1 => intro t a ht)) | (with_reducible refine foldl_kept_fst _ _ ?_ ?_; (on_goal 1 => intro t a ht)) | (simp only [kept_mk, keepsF_fold]) | (rename_i heq; obtain rfl := congrArg (fun (p : State × _) => p.1) heq; clear heq) | split)

@[simp] theorem State.effDomainIdleGate_kept {bk : Bool} {s0 : State} (s : State) (d : Nat) (h0 : Kept bk s0 s) : Kept bk s0 (State.effDomainIdleGate s d) := by
  unfold State.effDomainIdleGate
  repeat' (first | with_reducible assumption | with_reducible apply State.boundary_kept | with_reducible apply State.setDom_kept | with_reducible apply State.pealForget_kept | with_reducible apply State.entCoreGate_kept | with_reducible apply kept_ite | with_reducible apply kept_ite_fst | (with_reducible refine foldl_kept _ _ ?_ ?_; (on_goal 1 => intro t a ht)) | (with_reducible refine foldl_kept_fst _ _ ?_ ?_; (on_goal 1 => intro t a ht)) | (simp only [kept_mk, keepsF_fold]) | (rename_i heq; obtain rfl := congrArg (fun (p : State × _) => p.1) heq; clear heq) | split)

@[simp] theorem State.grantHead_kept {bk : Bool} {s0 : State} (s : State) (j : Job) (h0 : Kept bk s0 s) : Kept bk s0 (State.grantHead s j) := by
  unfold State.grantHead
  repeat' (first | with_reducible assumption | with_reducible apply State.wakeDoms_kept | with_reducible apply State.createBatch_kept | with_reducible apply State.dropJob_kept | with_reducible apply State.grantJob_kept | with_reducible apply State.askBlock_kept | with_reducible apply State.tryCal_kept | with_reducible apply State.admitSend_kept | with_reducible apply kept_ite | with_reducible apply kept_ite_fst | (with_reducible refine foldl_kept _ _ ?_ ?_; (on_goal 1 => intro t a ht)) | (with_reducible refine foldl_kept_fst _ _ ?_ ?_; (on_goal 1 => intro t a ht)) | (simp only [kept_mk, keepsF_fold]) | (rename_i heq; obtain rfl := congrArg (fun (p : State × _) => p.1) heq; clear heq) | split)

@[simp] theorem State.effJobAdmit_kept {bk : Bool} {s0 : State} (s : State) (q : Nat) (h0 : Kept bk s0 s) : Kept bk s0 (State.effJobAdmit s q) := by
  unfold State.effJobAdmit
  repeat' (first | with_reducible assumption | with_reducible apply State.drain_kept | with_reducible apply State.boundary_kept | with_reducible apply State.markHead_kept | with_reducible apply State.grantHead_kept | with_reducible apply kept_ite | with_reducible apply kept_ite_fst | (with_reducible refine foldl_kept _ _ ?_ ?_; (on_goal 1 => intro t a ht)) | (with_reducible refine foldl_kept_fst _ _ ?_ ?_; (on_goal 1 => intro t a ht)) | (intro t n ht) | (intro t ht) | (simp only [kept_mk, keepsF_fold]) | (rename_i heq; obtain rfl := congrArg (fun (p : State × _) => p.1) heq; clear heq) | split)

@[simp] theorem State.serveAbove_kept {bk : Bool} {s0 : State} (s : State) (q : Nat) (fuel : Nat) (h0 : Kept bk s0 s) : Kept bk s0 (State.serveAbove s q fuel) := by
  induction fuel generalizing s with
  | zero => exact h0
  | succ fuel ih =>
    unfold State.serveAbove
    split
    · exact h0
    · exact ih _ (State.effJobAdmit_kept s q h0)

@[simp] theorem State.serveHigher_kept {bk : Bool} {s0 : State} (s : State) (q : Nat) (h0 : Kept bk s0 s) : Kept bk s0 (State.serveHigher s q) := by
  unfold State.serveHigher
  repeat' (first | with_reducible assumption | with_reducible apply State.serveAbove_kept | with_reducible apply kept_ite | with_reducible apply kept_ite_fst | (with_reducible refine foldl_kept _ _ ?_ ?_; (on_goal 1 => intro t a ht)) | (with_reducible refine foldl_kept_fst _ _ ?_ ?_; (on_goal 1 => intro t a ht)) | (intro t n ht) | (intro t ht) | (simp only [kept_mk, keepsF_fold]) | (rename_i heq; obtain rfl := congrArg (fun (p : State × _) => p.1) heq; clear heq) | split)

@[simp] theorem State.endRead_kept {bk : Bool} {s0 : State} (s : State) (p : Port) (len : Nat) (bytes : List Byte) (h0 : Kept bk s0 s) : Kept bk s0 (State.endRead s p len bytes) := by
  unfold State.endRead
  first | exact h0 | (simp [h0]; done) | (((repeat' split) <;> simp [*]); done)

@[simp] theorem State.failRead_kept {bk : Bool} {s0 : State} (s : State) (p : Port) (result : Nat) (h0 : Kept bk s0 s) : Kept bk s0 (State.failRead s p result) := by
  unfold State.failRead
  first | exact h0 | (simp [h0]; done) | (((repeat' split) <;> simp [*]); done)

@[simp] theorem State.guardHeld_kept {bk : Bool} {s0 : State} (s : State) (p : Port) (code : Nat) (idx : Nat) (h0 : Kept bk s0 s) : Kept bk s0 (State.guardHeld s p code idx).1 := by
  unfold State.guardHeld
  repeat' (first | with_reducible assumption | with_reducible apply State.guardChunk_kept | with_reducible apply kept_ite | with_reducible apply kept_ite_fst | (with_reducible refine foldl_kept _ _ ?_ ?_; (on_goal 1 => intro t a ht)) | (with_reducible refine foldl_kept_fst _ _ ?_ ?_; (on_goal 1 => intro t a ht)) | (intro t n ht) | (intro t ht) | (simp only [kept_mk, keepsF_fold]) | (rename_i heq; obtain rfl := congrArg (fun (p : State × _) => p.1) heq; clear heq) | split)

@[simp] theorem State.mbxDoRead_kept {bk : Bool} {s0 : State} (s : State) (p : Port) (h0 : Kept bk s0 s) : Kept bk s0 (State.mbxDoRead s p) := by
  unfold State.mbxDoRead
  repeat' (first | with_reducible assumption | with_reducible apply State.failRead_kept | with_reducible apply State.guardHeld_kept | with_reducible apply State.endRead_kept | with_reducible apply State.modMbx_kept | with_reducible apply kept_ite | with_reducible apply kept_ite_fst | (with_reducible refine foldl_kept _ _ ?_ ?_; (on_goal 1 => intro t a ht)) | (with_reducible refine foldl_kept_fst _ _ ?_ ?_; (on_goal 1 => intro t a ht)) | (intro t n ht) | (intro t ht) | (simp only [kept_mk, keepsF_fold]) | (rename_i heq; obtain rfl := congrArg (fun (p : State × _) => p.1) heq; clear heq) | split)

@[simp] theorem State.mbxDoStage_kept {bk : Bool} {s0 : State} (s : State) (p : Port) (h0 : Kept bk s0 s) : Kept bk s0 (State.mbxDoStage s p) := by
  unfold State.mbxDoStage
  repeat' (first | with_reducible assumption | with_reducible apply State.failRead_kept | with_reducible apply State.modMbx_kept | with_reducible apply kept_ite | with_reducible apply kept_ite_fst | (with_reducible refine foldl_kept _ _ ?_ ?_; (on_goal 1 => intro t a ht)) | (with_reducible refine foldl_kept_fst _ _ ?_ ?_; (on_goal 1 => intro t a ht)) | (simp only [kept_mk, keepsF_fold]) | (rename_i heq; obtain rfl := congrArg (fun (p : State × _) => p.1) heq; clear heq) | split)

@[simp] theorem State.mbxTime_kept {bk : Bool} {s0 : State} (s : State) (p : Port) (d : List Byte) (h0 : Kept bk s0 s) : Kept bk s0 (State.mbxTime s p d) := by
  unfold State.mbxTime
  first | exact h0 | (simp [h0]; done) | (((repeat' split) <;> simp [*]); done)

@[simp] theorem State.mbxPartMap_kept {bk : Bool} {s0 : State} (s : State) (p : Port) (c : List Byte) (h0 : Kept bk s0 s) : Kept bk s0 (State.mbxPartMap s p c) := by
  unfold State.mbxPartMap
  repeat' (first | with_reducible assumption | with_reducible apply State.endMbx_kept | with_reducible apply State.audit_kept | with_reducible apply kept_ite | with_reducible apply kept_ite_fst | (with_reducible refine foldl_kept _ _ ?_ ?_; (on_goal 1 => intro t a ht)) | (with_reducible refine foldl_kept_fst _ _ ?_ ?_; (on_goal 1 => intro t a ht)) | (simp only [kept_mk, keepsF_fold]) | (rename_i heq; obtain rfl := congrArg (fun (p : State × _) => p.1) heq; clear heq) | split)

@[simp] theorem State.mbxPeers_kept {bk : Bool} {s0 : State} (s : State) (p : Port) (d : List Byte) (h0 : Kept bk s0 s) : Kept bk s0 (State.mbxPeers s p d) := by
  unfold State.mbxPeers
  first | exact h0 | (simp [h0]; done) | (((repeat' split) <;> simp [*]); done)

@[simp] theorem State.mbxSelftest_kept {bk : Bool} {s0 : State} (s : State) (p : Port) (d : List Byte) (h0 : Kept bk s0 s) : Kept bk s0 (State.mbxSelftest s p d) := by
  unfold State.mbxSelftest
  repeat' (first | with_reducible assumption | with_reducible apply State.endMbx_kept | with_reducible apply State.startNextTest_kept | with_reducible apply kept_ite | with_reducible apply kept_ite_fst | (with_reducible refine foldl_kept _ _ ?_ ?_; (on_goal 1 => intro t a ht)) | (with_reducible refine foldl_kept_fst _ _ ?_ ?_; (on_goal 1 => intro t a ht)) | (simp only [kept_mk, keepsF_fold]) | (rename_i heq; obtain rfl := congrArg (fun (p : State × _) => p.1) heq; clear heq) | split)

@[simp] theorem State.guardNewRec_kept {bk : Bool} {s0 : State} (s : State) (id : Nat) (master : Nat) (rights : Byte) (req : Nat) (h0 : Kept bk s0 s) : Kept bk s0 (State.guardNewRec s id master rights req).1 := by
  unfold State.guardNewRec
  repeat' (first | with_reducible assumption | with_reducible apply State.guarded_kept | with_reducible apply State.drop_kept | with_reducible apply State.setPipe_kept | with_reducible apply kept_ite | with_reducible apply kept_ite_fst | (with_reducible refine foldl_kept _ _ ?_ ?_; (on_goal 1 => intro t a ht)) | (with_reducible refine foldl_kept_fst _ _ ?_ ?_; (on_goal 1 => intro t a ht)) | (simp only [kept_mk, keepsF_fold]) | (rename_i heq; obtain rfl := congrArg (fun (p : State × _) => p.1) heq; clear heq) | split)

@[simp] theorem State.countReserved_kept {bk : Bool} {s0 : State} (s : State) (typ : Byte) (h0 : Kept bk s0 s) : Kept bk s0 (State.countReserved s typ) := by
  unfold State.countReserved
  first | exact h0 | (simp [h0]; done) | (((repeat' split) <;> simp [*]); done)

@[simp] theorem State.mbxRecAccept_kept {bk : Bool} {s0 : State} (s : State) (typ : Byte) (fl : Nat) (seq : Word) (pl : List Byte) (h0 : Kept bk s0 s) : Kept bk s0 (State.mbxRecAccept s typ fl seq pl) := by
  unfold State.mbxRecAccept
  repeat' (first | with_reducible assumption | with_reducible apply State.accept_kept | with_reducible apply State.guardNewRec_kept | with_reducible apply State.endMbx_kept | with_reducible apply kept_ite | with_reducible apply kept_ite_fst | (with_reducible refine foldl_kept _ _ ?_ ?_; (on_goal 1 => intro t a ht)) | (with_reducible refine foldl_kept_fst _ _ ?_ ?_; (on_goal 1 => intro t a ht)) | (simp only [kept_mk, keepsF_fold]) | (rename_i heq; obtain rfl := congrArg (fun (p : State × _) => p.1) heq; clear heq) | split)

@[simp] theorem State.mbxRec_kept {bk : Bool} {s0 : State} (s : State) (len : Nat) (h0 : Kept bk s0 s) : Kept bk s0 (State.mbxRec s len) := by
  unfold State.mbxRec
  repeat' (first | with_reducible assumption | with_reducible apply State.endMbx_kept | with_reducible apply State.countReserved_kept | with_reducible apply State.count_kept | with_reducible apply State.mbxRecAccept_kept | with_reducible apply kept_ite | with_reducible apply kept_ite_fst | (with_reducible refine foldl_kept _ _ ?_ ?_; (on_goal 1 => intro t a ht)) | (with_reducible refine foldl_kept_fst _ _ ?_ ?_; (on_goal 1 => intro t a ht)) | (simp only [kept_mk, keepsF_fold]) | (rename_i heq; obtain rfl := congrArg (fun (p : State × _) => p.1) heq; clear heq) | split)

@[simp] theorem State.serveMbx_kept {bk : Bool} {s0 : State} (s : State) (h0 : Kept bk s0 s) : Kept bk s0 (State.serveMbx s) := by
  unfold State.serveMbx
  first | exact h0 | (simp [h0]; done) | (((repeat' split) <;> simp [*]); done)

@[simp] theorem State.unlockMisuse_kept {bk : Bool} {s0 : State} (s : State) (p : Port) (off : Nat) (h0 : Kept bk s0 s) : Kept bk s0 (State.unlockMisuse s p off) := by
  unfold State.unlockMisuse
  first | exact h0 | (simp [h0]; done) | (((repeat' split) <;> simp [*]); done)

@[simp] theorem State.itemCommit_kept {bk : Bool} {s0 : State} (s : State) (p : Port) (code : Nat) (len : Nat) (h0 : Kept bk s0 s) : Kept bk s0 (State.itemCommit s p code len) := by
  unfold State.itemCommit
  first | exact h0 | (simp [h0]; done) | (((repeat' split) <;> simp [*]); done)

@[simp] theorem State.mbxDoCommit_kept {bk : Bool} {s0 : State} (s : State) (p : Port) (len : Nat) (armed : Bool) (h0 : Kept bk s0 s) : Kept bk s0 (State.mbxDoCommit s p len armed) := by
  unfold State.mbxDoCommit
  repeat' (first | with_reducible assumption | with_reducible apply State.endMbx_kept | with_reducible apply State.unlockMisuse_kept | with_reducible apply State.itemCommit_kept | with_reducible apply kept_ite | with_reducible apply kept_ite_fst | (with_reducible refine foldl_kept _ _ ?_ ?_; (on_goal 1 => intro t a ht)) | (with_reducible refine foldl_kept_fst _ _ ?_ ?_; (on_goal 1 => intro t a ht)) | (simp only [kept_mk, keepsF_fold]) | (rename_i heq; obtain rfl := congrArg (fun (p : State × _) => p.1) heq; clear heq) | split)

@[simp] theorem State.mbxDoAbort_kept {bk : Bool} {s0 : State} (s : State) (p : Port) (h0 : Kept bk s0 s) : Kept bk s0 (State.mbxDoAbort s p) := by
  unfold State.mbxDoAbort
  repeat' (first | with_reducible assumption | with_reducible apply State.endMbx_kept | with_reducible apply State.dropKind_kept | with_reducible apply kept_ite | with_reducible apply kept_ite_fst | (with_reducible refine foldl_kept _ _ ?_ ?_; (on_goal 1 => intro t a ht)) | (with_reducible refine foldl_kept_fst _ _ ?_ ?_; (on_goal 1 => intro t a ht)) | (simp only [kept_mk, keepsF_fold]) | (rename_i heq; obtain rfl := congrArg (fun (p : State × _) => p.1) heq; clear heq) | split)

@[simp] theorem State.mbxControl_kept {bk : Bool} {s0 : State} (s : State) (p : Port) (v : Word) (armed : Bool) (h0 : Kept bk s0 s) : Kept bk s0 (State.mbxControl s p v armed).1 := by
  unfold State.mbxControl
  first | exact h0 | (simp [h0]; done) | (((repeat' split) <;> simp [*]); done)

@[simp] theorem State.effTimeRtcLoad_kept {bk : Bool} {s0 : State} (s : State) (h0 : Kept bk s0 s) : Kept bk s0 (State.effTimeRtcLoad s) := by
  unfold State.effTimeRtcLoad
  repeat' (first | with_reducible assumption | with_reducible apply State.elapse_kept | with_reducible apply State.create_kept | with_reducible apply State.raise_kept | with_reducible apply kept_ite | with_reducible apply kept_ite_fst | (with_reducible refine foldl_kept _ _ ?_ ?_; (on_goal 1 => intro t a ht)) | (with_reducible refine foldl_kept_fst _ _ ?_ ?_; (on_goal 1 => intro t a ht)) | (simp only [kept_mk, keepsF_fold]) | (rename_i heq; obtain rfl := congrArg (fun (p : State × _) => p.1) heq; clear heq) | split)

@[simp] theorem State.disarmKey_kept {bk : Bool} {s0 : State} (s : State) (p : Port) (h0 : Kept bk s0 s) : Kept bk s0 (State.disarmKey s p) := by
  unfold State.disarmKey
  first | exact h0 | (simp [h0]; done) | (((repeat' split) <;> simp [*]); done)

@[simp] theorem State.setReject_kept {bk : Bool} {s0 : State} (s : State) (p : Port) (bad : Bool) (h0 : Kept bk s0 s) : Kept bk s0 (State.setReject s p bad) := by
  unfold State.setReject
  first | exact h0 | (simp [h0]; done) | (((repeat' split) <;> simp [*]); done)

@[simp] theorem State.wonceViolation_kept {bk : Bool} {s0 : State} (s : State) (p : Port) (off : Nat) (v : Word) (h0 : Kept bk s0 s) : Kept bk s0 (State.wonceViolation s p off v) := by
  unfold State.wonceViolation
  first | exact h0 | (simp [h0]; done) | (((repeat' split) <;> simp [*]); done)

@[simp] theorem State.storeMbx_kept {bk : Bool} {s0 : State} (s : State) (p : Port) (off : Nat) (v : Word) (h0 : Kept bk s0 s) : Kept bk s0 (State.storeMbx s p off v) := by
  unfold State.storeMbx
  first | exact h0 | (simp [h0]; done) | (((repeat' split) <;> simp [*]); done)

@[simp] theorem State.storeShadow_kept {bk : Bool} {s0 : State} (s : State) (off : Nat) (v : Word) (h0 : Kept bk s0 s) : Kept bk s0 (State.storeShadow s off v) := by
  unfold State.storeShadow
  first | exact h0 | (simp [h0]; done) | (((repeat' split) <;> simp [*]); done)

@[simp] theorem State.storeConfig_kept {bk : Bool} {s0 : State} (s : State) (d : RegDesc) (new : Word) (touched : Word) (h0 : Kept bk s0 s) : Kept bk s0 (State.storeConfig s d new touched) := by
  unfold State.storeConfig
  repeat' (first | with_reducible assumption | with_reducible apply State.setReg_kept | with_reducible apply State.setForce_kept | with_reducible apply State.setPend_kept | with_reducible apply kept_ite | with_reducible apply kept_ite_fst | (with_reducible refine foldl_kept _ _ ?_ ?_; (on_goal 1 => intro t a ht)) | (with_reducible refine foldl_kept_fst _ _ ?_ ?_; (on_goal 1 => intro t a ht)) | (simp only [kept_mk, keepsF_fold]) | (rename_i heq; obtain rfl := congrArg (fun (p : State × _) => p.1) heq; clear heq) | split)

@[simp] theorem State.afterStore_kept {bk : Bool} {s0 : State} (s : State) (p : Port) (off : Nat) (new : Word) (h0 : Kept bk s0 s) : Kept bk s0 (State.afterStore s p off new) := by
  unfold State.afterStore
  repeat' (first | with_reducible assumption | with_reducible apply State.wakePinned_kept | with_reducible apply State.tryBoundary_kept | with_reducible apply State.rearmKnell_kept | with_reducible apply State.setStmEn_kept | with_reducible apply State.raise_kept | with_reducible apply State.setPend_kept | with_reducible apply State.armBoundary_kept | with_reducible apply State.setForce_kept | with_reducible apply State.disarm_kept | with_reducible apply State.boundary_kept | with_reducible apply kept_ite | with_reducible apply kept_ite_fst | (with_reducible refine foldl_kept _ _ ?_ ?_; (on_goal 1 => intro t a ht)) | (with_reducible refine foldl_kept_fst _ _ ?_ ?_; (on_goal 1 => intro t a ht)) | (simp only [kept_mk, keepsF_fold]) | (rename_i heq; obtain rfl := congrArg (fun (p : State × _) => p.1) heq; clear heq) | split)

@[simp] theorem State.storeRegister_kept {bk : Bool} {s0 : State} (s : State) (p : Port) (d : RegDesc) (new : Word) (touched : Word) (h0 : Kept bk s0 s) : Kept bk s0 (State.storeRegister s p d new touched) := by
  unfold State.storeRegister
  first | exact h0 | (simp [h0]; done) | (((repeat' split) <;> simp [*]); done)

@[simp] theorem State.passKeyedAudit_kept {bk : Bool} {s0 : State} (s : State) (h0 : Kept bk s0 s) : Kept bk s0 (State.passKeyedAudit s) := by
  unfold State.passKeyedAudit
  first | exact h0 | (simp [h0]; done) | (((repeat' split) <;> simp [*]); done)

@[simp] theorem State.beginKeyedStop_kept {bk : Bool} {s0 : State} (s : State) (src : BitVec 16) (iface : Nat) (h0 : Kept bk s0 s) : Kept bk s0 (State.beginKeyedStop s src iface) := by
  unfold State.beginKeyedStop
  repeat' (first | with_reducible assumption | with_reducible apply State.reach_kept | with_reducible apply State.dropAll_kept | with_reducible apply State.stamp_kept | with_reducible apply State.serveMbx_kept | with_reducible apply State.serveFrames_kept | with_reducible apply State.passKeyedAudit_kept | with_reducible apply kept_ite | with_reducible apply kept_ite_fst | (with_reducible refine foldl_kept _ _ ?_ ?_; (on_goal 1 => intro t a ht)) | (with_reducible refine foldl_kept_fst _ _ ?_ ?_; (on_goal 1 => intro t a ht)) | (simp only [kept_mk, keepsF_fold]) | (rename_i heq; obtain rfl := congrArg (fun (p : State × _) => p.1) heq; clear heq) | split)

@[simp] theorem State.requestReset_kept {bk : Bool} {s0 : State} (s : State) (p : Port) (h0 : Kept bk s0 s) : Kept bk s0 (State.requestReset s p) := by
  unfold State.requestReset
  first | exact h0 | (simp [h0]; done) | (((repeat' split) <;> simp [*]); done)

@[simp] theorem State.writeLock_kept {bk : Bool} {s0 : State} (s : State) (v : Word) (hu : s.rf.lockUsed = false) (h0 : Kept bk s0 s) : Kept bk s0 (State.writeLock s v) := by
  unfold State.writeLock
  apply State.raise_kept
  refine ⟨h0.1, h0.2.1, h0.2.2.1, fun hb => ⟨(h0.2.2.2 hb).1, fun hl => ?_⟩⟩
  have := ((h0.2.2.2 hb).2 hl).2
  rw [hu] at this
  cases this

@[simp] theorem State.onBit_kept {bk : Bool} {s0 : State} (s : State) (v : Word) (n : Nat) (f : State → State) (h_f : ∀ t, Kept bk s0 t → Kept bk s0 (f t)) (h0 : Kept bk s0 s) : Kept bk s0 (State.onBit s v n f) := by
  unfold State.onBit
  first | exact h0 | (simp [h0]; done) | (((repeat' split) <;> simp [*]); done)

@[simp] theorem State.runCommand_kept {bk : Bool} {s0 : State} (s : State) (p : Port) (off : Nat) (c : Word) (armed : Bool) (hu : off = 0x028 → s.rf.lockUsed = false) (h0 : Kept bk s0 s) : Kept bk s0 (State.runCommand s p off c armed).1 := by
  unfold State.runCommand
  repeat' (first | with_reducible assumption | with_reducible apply State.onBit_kept | with_reducible apply State.requestReset_kept | with_reducible apply State.writeLock_kept | with_reducible apply State.requestMppt_kept | with_reducible apply State.requestScrub_kept | with_reducible apply State.requestCkpt_kept | with_reducible apply State.tollInc_kept | with_reducible apply State.requestCons_kept | with_reducible apply State.forceKnell_kept | with_reducible apply State.requestRetrain_kept | with_reducible apply State.clearLeases_kept | with_reducible apply State.wakeTrigger_kept | with_reducible apply State.wakeRelease_kept | with_reducible apply State.requestCal_kept | with_reducible apply State.snareForce_kept | with_reducible apply State.rawStart_kept | with_reducible apply State.rawStop_kept | with_reducible apply State.rawRelease_kept | with_reducible apply State.requestApply_kept | with_reducible apply State.sesControl_kept | with_reducible apply State.mbxControl_kept | with_reducible apply kept_ite | with_reducible apply kept_ite_fst | (with_reducible refine foldl_kept _ _ ?_ ?_; (on_goal 1 => intro t a ht)) | (with_reducible refine foldl_kept_fst _ _ ?_ ?_; (on_goal 1 => intro t a ht)) | (intro t n ht) | (intro t ht) | (exact hu rfl) | (simp only [kept_mk, keepsF_fold]) | (rename_i heq; obtain rfl := congrArg (fun (p : State × _) => p.1) heq; clear heq) | split | (intro x; clear_value x; fail_if_success (have := State.rf x)) | lift_lets)

@[simp] theorem State.wordWrite_kept {bk : Bool} {s0 : State} (s : State) (p : Port) (a : Nat) (v : Word) (mask : Word) (h0 : Kept bk s0 s) : Kept bk s0 (State.wordWrite s p a v mask).1 := by
  unfold State.wordWrite
  dsimp only
  have h1 := State.disarmKey_kept s p h0
  have hl : (s.disarmKey p).rf.lockUsed = s.rf.lockUsed := rfl
  split
  · exact h1
  · rename_i d heq
    split
    · exact State.wonceViolation_kept _ _ _ _ h1
    · rename_i hagain
      split
      · exact State.unlockMisuse_kept _ _ _ h1
      · split
        · rename_i hw
          refine State.runCommand_kept _ _ _ _ _ (fun hoff => ?_) (State.storeRegister_kept _ _ _ _ _ h1)
          rw [hoff] at heq
          have hd : regDesc 0x028 = some { off := 0x028, block := .glb, w1k := allBits } := by decide
          rw [hd] at heq
          cases heq
          simp only [Bool.and_eq_true, decide_eq_true_eq] at hw
          simp only [Bool.or_eq_true, Bool.and_eq_true, not_or, not_and, Bool.not_eq_true] at hagain
          have hu := hagain.1 (by simp [hw.1]; decide)
          have ht : touchedBits (windowOfAddr a) v mask (RegDesc.config { off := 0x028, block := .glb, w1k := allBits }) = 0#32 := by
            simp [touchedBits, RegDesc.config]
          rw [ht]
          unfold State.storeRegister
          rw [if_pos rfl]
          exact hu
        · exact State.storeRegister_kept _ _ _ _ _ h1

@[simp] theorem State.narrowWrite_kept {bk : Bool} {s0 : State} (s : State) (p : Port) (a : Nat) (width : Nat) (data : Nat) (h0 : Kept bk s0 s) : Kept bk s0 (State.narrowWrite s p a width data).1 := by
  unfold State.narrowWrite
  first | exact h0 | (simp [h0]; done) | (((repeat' split) <;> simp [*]); done)

@[simp] theorem State.performWrite_kept {bk : Bool} {s0 : State} (s : State) (p : Port) (a : Nat) (width : Nat) (data : BitVec 64) (h0 : Kept bk s0 s) : Kept bk s0 (State.performWrite s p a width data).1 := by
  unfold State.performWrite
  repeat' (first | with_reducible assumption | with_reducible apply State.wordWrite_kept | with_reducible apply State.narrowWrite_kept | with_reducible apply kept_ite | with_reducible apply kept_ite_fst | (with_reducible refine foldl_kept _ _ ?_ ?_; (on_goal 1 => intro t a ht)) | (with_reducible refine foldl_kept_fst _ _ ?_ ?_; (on_goal 1 => intro t a ht)) | (simp only [kept_mk, keepsF_fold]) | (rename_i heq; obtain rfl := congrArg (fun (p : State × _) => p.1) heq; clear heq) | split)

@[simp] theorem State.wordRead_kept {bk : Bool} {s0 : State} (s : State) (p : Port) (a : Nat) (h0 : Kept bk s0 s) : Kept bk s0 (State.wordRead s p a).1 := by
  unfold State.wordRead
  first | exact h0 | (simp [h0]; done) | (((repeat' split) <;> simp [*]); done)

@[simp] theorem State.performRead_kept {bk : Bool} {s0 : State} (s : State) (p : Port) (a : Nat) (width : Nat) (h0 : Kept bk s0 s) : Kept bk s0 (State.performRead s p a width).1 := by
  unfold State.performRead
  repeat' (first | with_reducible assumption | with_reducible apply State.wordRead_kept | with_reducible apply kept_ite | with_reducible apply kept_ite_fst | (with_reducible refine foldl_kept _ _ ?_ ?_; (on_goal 1 => intro t a ht)) | (with_reducible refine foldl_kept_fst _ _ ?_ ?_; (on_goal 1 => intro t a ht)) | (simp only [kept_mk, keepsF_fold]) | (rename_i heq; obtain rfl := congrArg (fun (p : State × _) => p.1) heq; clear heq) | split)

@[simp] theorem State.regpGuard_kept {bk : Bool} {s0 : State} (s : State) (a : Nat) (wr : Bool) (h0 : Kept bk s0 s) : Kept bk s0 (State.regpGuard s a wr).1 := by
  unfold State.regpGuard
  first | exact h0 | (simp [h0]; done) | (((repeat' split) <;> simp [*]); done)

@[simp] theorem State.postedNotice_kept {bk : Bool} {s0 : State} (s : State) (w : Posted) (a : Nat) (h0 : Kept bk s0 s) : Kept bk s0 (State.postedNotice s w a) := by
  unfold State.postedNotice
  first | exact h0 | (simp [h0]; done) | (((repeat' split) <;> simp [*]); done)

@[simp] theorem State.performPosted_kept {bk : Bool} {s0 : State} (s : State) (w : Posted) (h0 : Kept bk s0 s) : Kept bk s0 (State.performPosted s w).1 := by
  unfold State.performPosted
  repeat' (first | with_reducible assumption | with_reducible apply State.wordWrite_kept | with_reducible apply State.performWrite_kept | with_reducible apply kept_ite | with_reducible apply kept_ite_fst | (with_reducible refine foldl_kept _ _ ?_ ?_; (on_goal 1 => intro t a ht)) | (with_reducible refine foldl_kept_fst _ _ ?_ ?_; (on_goal 1 => intro t a ht)) | (intro t n ht) | (intro t ht) | (simp only [kept_mk, keepsF_fold]) | (rename_i heq; obtain rfl := congrArg (fun (p : State × _) => p.1) heq; clear heq) | split)

@[simp] theorem State.drainPosted_kept {bk : Bool} {s0 : State} (s : State) (m : Nat) (h0 : Kept bk s0 s) : Kept bk s0 (State.drainPosted s m) := by
  unfold State.drainPosted State.takePosted
  split
  · exact h0
  · rename_i heq
    split at heq
    · cases heq
    · simp only [Option.some.injEq, Prod.mk.injEq] at heq
      obtain ⟨rfl, rfl⟩ := heq
      rename_i w _
      have hp : ∀ u : State, Kept bk s0 u → Kept bk s0 (u.performPosted w).1 :=
        fun u hu => State.performPosted_kept _ _ hu
      have h1 := hp { s with grd.posted := s.grd.posted.takeWhile (fun x => x.master != m) ++
        (s.grd.posted.dropWhile (fun x => x.master != m)).drop 1 } h0
      revert h1
      generalize State.performPosted _ _ = q
      obtain ⟨u, st, a⟩ := q
      intro h1
      dsimp only at h1 ⊢
      have h2 := State.setReject_kept u w.port (st != stOk) h1
      have h3 : Kept bk s0 (if st = stOk then u.setReject w.port (st != stOk) else
          { u.setReject w.port (st != stOk) with
            rf.notices := (u.setReject w.port (st != stOk)).rf.notices.filter (fun (q : Port) => q != w.port) ++ [w.port] }) := by
        split
        · exact h2
        · exact h2
      split
      · exact State.postedNotice_kept _ _ _ h3
      · exact h3

@[simp] theorem State.drainMaster_kept {bk : Bool} {s0 : State} (s : State) (m : Nat) (h0 : Kept bk s0 s) : Kept bk s0 (State.drainMaster s m) := by
  unfold State.drainMaster
  repeat' (first | with_reducible assumption | with_reducible apply State.drainPosted_kept | with_reducible apply kept_ite | with_reducible apply kept_ite_fst | (with_reducible refine foldl_kept _ _ ?_ ?_; (on_goal 1 => intro t a ht)) | (with_reducible refine foldl_kept_fst _ _ ?_ ?_; (on_goal 1 => intro t a ht)) | (simp only [kept_mk, keepsF_fold]) | (rename_i heq; obtain rfl := congrArg (fun (p : State × _) => p.1) heq; clear heq) | split)

@[simp] theorem State.effPostedWriteDrain_kept {bk : Bool} {s0 : State} (s : State) (m : Nat) (h0 : Kept bk s0 s) : Kept bk s0 (State.effPostedWriteDrain s m) := by
  unfold State.effPostedWriteDrain
  first | exact h0 | (simp [h0]; done) | (((repeat' split) <;> simp [*]); done)

@[simp] theorem State.postWrite_kept {bk : Bool} {s0 : State} (s : State) (p : Port) (a : Nat) (width : Nat) (data : BitVec 64) (h0 : Kept bk s0 s) : Kept bk s0 (State.postWrite s p a width data) := by
  unfold State.postWrite
  first | exact h0 | (simp [h0]; done) | (((repeat' split) <;> simp [*]); done)

@[simp] theorem State.turnAway_kept {bk : Bool} {s0 : State} (s : State) (p : Port) (st : Nat) (h0 : Kept bk s0 s) : Kept bk s0 (State.turnAway s p st).1 := by
  unfold State.turnAway
  first | exact h0 | (simp [h0]; done) | (((repeat' split) <;> simp [*]); done)

@[simp] theorem State.inbandWrite_kept {bk : Bool} {s0 : State} (s : State) (p : Port) (a : Nat) (width : Nat) (data : BitVec 64) (h0 : Kept bk s0 s) : Kept bk s0 (State.inbandWrite s p a width data).1 := by
  unfold State.inbandWrite
  repeat' (first | with_reducible assumption | with_reducible apply State.turnAway_kept | with_reducible apply State.guarded_kept | with_reducible apply State.postWrite_kept | with_reducible apply State.performWrite_kept | with_reducible apply State.drainMaster_kept | with_reducible apply kept_ite | with_reducible apply kept_ite_fst | (with_reducible refine foldl_kept _ _ ?_ ?_; (on_goal 1 => intro t a ht)) | (with_reducible refine foldl_kept_fst _ _ ?_ ?_; (on_goal 1 => intro t a ht)) | (simp only [kept_mk, keepsF_fold]) | (rename_i heq; obtain rfl := congrArg (fun (p : State × _) => p.1) heq; clear heq) | split)

@[simp] theorem State.inbandRead_kept {bk : Bool} {s0 : State} (s : State) (p : Port) (a : Nat) (width : Nat) (h0 : Kept bk s0 s) : Kept bk s0 (State.inbandRead s p a width).1 := by
  unfold State.inbandRead
  repeat' (first | with_reducible assumption | with_reducible apply State.guarded_kept | with_reducible apply State.drainMaster_kept | with_reducible apply State.performRead_kept | with_reducible apply kept_ite | with_reducible apply kept_ite_fst | (with_reducible refine foldl_kept _ _ ?_ ?_; (on_goal 1 => intro t a ht)) | (with_reducible refine foldl_kept_fst _ _ ?_ ?_; (on_goal 1 => intro t a ht)) | (simp only [kept_mk, keepsF_fold]) | (rename_i heq; obtain rfl := congrArg (fun (p : State × _) => p.1) heq; clear heq) | split)

@[simp] theorem State.wakeFor_kept {bk : Bool} {s0 : State} (s : State) (p : Port) (h0 : Kept bk s0 s) : Kept bk s0 (State.wakeFor s p) := by
  unfold State.wakeFor
  first | exact h0 | (simp [h0]; done) | (((repeat' split) <;> simp [*]); done)

@[simp] theorem State.regpWord_kept {bk : Bool} {s0 : State} (s : State) (a : Nat) (v : Word) (h0 : Kept bk s0 s) : Kept bk s0 (State.regpWord s a v).1 := by
  unfold State.regpWord
  repeat' (first | with_reducible assumption | with_reducible apply State.regpGuard_kept | with_reducible apply State.disarmKey_kept | with_reducible apply State.wordWrite_kept | with_reducible apply kept_ite | with_reducible apply kept_ite_fst | (with_reducible refine foldl_kept _ _ ?_ ?_; (on_goal 1 => intro t a ht)) | (with_reducible refine foldl_kept_fst _ _ ?_ ?_; (on_goal 1 => intro t a ht)) | (simp only [kept_mk, keepsF_fold]) | (rename_i heq; obtain rfl := congrArg (fun (p : State × _) => p.1) heq; clear heq) | split)

@[simp] theorem State.portWrite_kept {bk : Bool} {s0 : State} (s : State) (p : Port) (a : Nat) (v : Word) (h0 : Kept bk s0 s) : Kept bk s0 (State.portWrite s p a v) := by
  unfold State.portWrite
  repeat' (first | with_reducible assumption | with_reducible apply State.wakeFor_kept | with_reducible apply State.regpWord_kept | with_reducible apply State.inbandWrite_kept | with_reducible apply State.boundary_kept | with_reducible apply State.setReject_kept | with_reducible apply kept_ite | with_reducible apply kept_ite_fst | (with_reducible refine foldl_kept _ _ ?_ ?_; (on_goal 1 => intro t a ht)) | (with_reducible refine foldl_kept_fst _ _ ?_ ?_; (on_goal 1 => intro t a ht)) | (intro t n ht) | (intro t ht) | (simp only [kept_mk, keepsF_fold]) | (rename_i heq; obtain rfl := congrArg (fun (p : State × _) => p.1) heq; clear heq) | split)

@[simp] theorem State.regpReadWord_kept {bk : Bool} {s0 : State} (s : State) (a : Nat) (h0 : Kept bk s0 s) : Kept bk s0 (State.regpReadWord s a).1 := by
  unfold State.regpReadWord
  repeat' (first | with_reducible assumption | with_reducible apply State.regpGuard_kept | with_reducible apply State.wordRead_kept | with_reducible apply kept_ite | with_reducible apply kept_ite_fst | (with_reducible refine foldl_kept _ _ ?_ ?_; (on_goal 1 => intro t a ht)) | (with_reducible refine foldl_kept_fst _ _ ?_ ?_; (on_goal 1 => intro t a ht)) | (simp only [kept_mk, keepsF_fold]) | (rename_i heq; obtain rfl := congrArg (fun (p : State × _) => p.1) heq; clear heq) | split)

@[simp] theorem State.portRead_kept {bk : Bool} {s0 : State} (s : State) (p : Port) (a : Nat) (h0 : Kept bk s0 s) : Kept bk s0 (State.portRead s p a) := by
  unfold State.portRead
  repeat' (first | with_reducible assumption | with_reducible apply State.wakeFor_kept | with_reducible apply State.regpReadWord_kept | with_reducible apply State.inbandRead_kept | with_reducible apply State.boundary_kept | with_reducible apply kept_ite | with_reducible apply kept_ite_fst | (with_reducible refine foldl_kept _ _ ?_ ?_; (on_goal 1 => intro t a ht)) | (with_reducible refine foldl_kept_fst _ _ ?_ ?_; (on_goal 1 => intro t a ht)) | (intro t n ht) | (intro t ht) | (simp only [kept_mk, keepsF_fold]) | (rename_i heq; obtain rfl := congrArg (fun (p : State × _) => p.1) heq; clear heq) | split)

@[simp] theorem State.effGuardUpdate_kept {bk : Bool} {s0 : State} (s : State) (h0 : Kept bk s0 s) : Kept bk s0 (State.effGuardUpdate s) := by
  unfold State.effGuardUpdate
  repeat' (first | with_reducible assumption | with_reducible apply State.nextGuard_kept | with_reducible apply State.copyPolicy_kept | with_reducible apply State.drainMaster_kept | with_reducible apply kept_ite | with_reducible apply kept_ite_fst | (with_reducible refine foldl_kept _ _ ?_ ?_; (on_goal 1 => intro t a ht)) | (with_reducible refine foldl_kept_fst _ _ ?_ ?_; (on_goal 1 => intro t a ht)) | (simp only [kept_mk, keepsF_fold]) | (rename_i heq; obtain rfl := congrArg (fun (p : State × _) => p.1) heq; clear heq) | split)

@[simp] theorem State.endTransaction_kept {bk : Bool} {s0 : State} (s : State) (first : Byte) (result : Nat) (bytes : List Byte) (h0 : Kept bk s0 s) : Kept bk s0 (State.endTransaction s first result bytes) := by
  unfold State.endTransaction
  first | exact h0 | (simp [h0]; done) | (((repeat' split) <;> simp [*]); done)

@[simp] theorem State.transaction_kept {bk : Bool} {s0 : State} (s : State) (f : State → State × Nat × List Byte) (h_f : ∀ t, Kept bk s0 t → Kept bk s0 (f t).1) (h0 : Kept bk s0 s) : Kept bk s0 (State.transaction s f) := by
  unfold State.transaction
  repeat' (first | with_reducible assumption | with_reducible apply State.wakeFor_kept | with_reducible apply State.endTransaction_kept | apply h_f | with_reducible apply kept_ite | with_reducible apply kept_ite_fst | (with_reducible refine foldl_kept _ _ ?_ ?_; (on_goal 1 => intro t a ht)) | (with_reducible refine foldl_kept_fst _ _ ?_ ?_; (on_goal 1 => intro t a ht)) | (simp only [kept_mk, keepsF_fold]) | (rename_i heq; obtain rfl := congrArg (fun (p : State × _) => p.1) heq; clear heq) | split)

@[simp] theorem State.effStatus_kept {bk : Bool} {s0 : State} (s : State) (h0 : Kept bk s0 s) : Kept bk s0 (State.effStatus s) := by
  unfold State.effStatus
  first | exact h0 | (simp [h0]; done) | (((repeat' split) <;> simp [*]); done)

@[simp] theorem State.effBadOpcode_kept {bk : Bool} {s0 : State} (s : State) (h0 : Kept bk s0 s) : Kept bk s0 (State.effBadOpcode s) := by
  unfold State.effBadOpcode
  first | exact h0 | (simp [h0]; done) | (((repeat' split) <;> simp [*]); done)

@[simp] theorem State.burstWrite_kept {bk : Bool} {s0 : State} (s : State) (a : Nat) (i : Nat) (ws : List Word) (h0 : Kept bk s0 s) : Kept bk s0 (State.burstWrite s a i ws).1 := by
  induction ws generalizing s a i with
  | nil => exact h0
  | cons a l ih =>
  unfold State.burstWrite
  repeat' (first | with_reducible assumption | with_reducible apply ih | with_reducible apply State.regpWord_kept | with_reducible apply kept_ite | with_reducible apply kept_ite_fst | (with_reducible refine foldl_kept _ _ ?_ ?_; (on_goal 1 => intro t a ht)) | (with_reducible refine foldl_kept_fst _ _ ?_ ?_; (on_goal 1 => intro t a ht)) | (intro t n ht) | (intro t ht) | (simp only [kept_mk, keepsF_fold]) | (rename_i heq; obtain rfl := congrArg (fun (p : State × _) => p.1) heq; clear heq) | split | (intro x; clear_value x; fail_if_success (have := State.rf x)) | lift_lets)

@[simp] theorem State.writeWords_kept {bk : Bool} {s0 : State} (s : State) (a : Nat) (ws : List Word) (cut : Bool) (h0 : Kept bk s0 s) : Kept bk s0 (State.writeWords s a ws cut).1 := by
  unfold State.writeWords
  repeat' (first | with_reducible assumption | with_reducible apply State.disarmKey_kept | with_reducible apply State.burstWrite_kept | with_reducible apply kept_ite | with_reducible apply kept_ite_fst | (with_reducible refine foldl_kept _ _ ?_ ?_; (on_goal 1 => intro t a ht)) | (with_reducible refine foldl_kept_fst _ _ ?_ ?_; (on_goal 1 => intro t a ht)) | (simp only [kept_mk, keepsF_fold]) | (rename_i heq; obtain rfl := congrArg (fun (p : State × _) => p.1) heq; clear heq) | split)

@[simp] theorem State.effRegpWrite_kept {bk : Bool} {s0 : State} (s : State) (a : Nat) (data : Option Word) (h0 : Kept bk s0 s) : Kept bk s0 (State.effRegpWrite s a data) := by
  unfold State.effRegpWrite
  repeat' (first | with_reducible assumption | with_reducible apply State.transaction_kept | with_reducible apply State.writeWords_kept | with_reducible apply kept_ite | with_reducible apply kept_ite_fst | (with_reducible refine foldl_kept _ _ ?_ ?_; (on_goal 1 => intro t a ht)) | (with_reducible refine foldl_kept_fst _ _ ?_ ?_; (on_goal 1 => intro t a ht)) | (intro t ht) | (simp only [kept_mk, keepsF_fold]) | (rename_i heq; obtain rfl := congrArg (fun (p : State × _) => p.1) heq; clear heq) | split | (intro x; clear_value x; fail_if_success (have := State.rf x)) | lift_lets)

@[simp] theorem State.effWriteInc_kept {bk : Bool} {s0 : State} (s : State) (a : Nat) (data : List Word) (cut : Bool) (h0 : Kept bk s0 s) : Kept bk s0 (State.effWriteInc s a data cut) := by
  unfold State.effWriteInc
  repeat' (first | with_reducible assumption | with_reducible apply State.transaction_kept | with_reducible apply State.writeWords_kept | with_reducible apply kept_ite | with_reducible apply kept_ite_fst | (with_reducible refine foldl_kept _ _ ?_ ?_; (on_goal 1 => intro t a ht)) | (with_reducible refine foldl_kept_fst _ _ ?_ ?_; (on_goal 1 => intro t a ht)) | (intro t ht) | (simp only [kept_mk, keepsF_fold]) | (rename_i heq; obtain rfl := congrArg (fun (p : State × _) => p.1) heq; clear heq) | split | (intro x; clear_value x; fail_if_success (have := State.rf x)) | lift_lets)

@[simp] theorem State.burstRead_kept {bk : Bool} {s0 : State} (s : State) (a : Nat) (step : Nat) (i : Nat) (ws : List Bool) (h0 : Kept bk s0 s) : Kept bk s0 (State.burstRead s a step i ws).1 := by
  induction ws generalizing s a step i with
  | nil => exact h0
  | cons a l ih =>
  unfold State.burstRead
  repeat' (first | with_reducible assumption | with_reducible apply ih | with_reducible apply State.regpReadWord_kept | with_reducible apply kept_ite | with_reducible apply kept_ite_fst | (with_reducible refine foldl_kept _ _ ?_ ?_; (on_goal 1 => intro t a ht)) | (with_reducible refine foldl_kept_fst _ _ ?_ ?_; (on_goal 1 => intro t a ht)) | (intro t n ht) | (intro t ht) | (simp only [kept_mk, keepsF_fold]) | (rename_i heq; obtain rfl := congrArg (fun (p : State × _) => p.1) heq; clear heq) | split | (intro x; clear_value x; fail_if_success (have := State.rf x)) | lift_lets)

@[simp] theorem State.readWords_kept {bk : Bool} {s0 : State} (s : State) (a : Nat) (step : Nat) (ws : List Bool) (h0 : Kept bk s0 s) : Kept bk s0 (State.readWords s a step ws).1 := by
  unfold State.readWords
  first | exact h0 | (simp [h0]; done) | (((repeat' split) <;> simp [*]); done)

@[simp] theorem State.effRegpRead_kept {bk : Bool} {s0 : State} (s : State) (a : Nat) (whole : Bool) (h0 : Kept bk s0 s) : Kept bk s0 (State.effRegpRead s a whole) := by
  unfold State.effRegpRead
  repeat' (first | with_reducible assumption | with_reducible apply State.transaction_kept | with_reducible apply State.readWords_kept | with_reducible apply kept_ite | with_reducible apply kept_ite_fst | (with_reducible refine foldl_kept _ _ ?_ ?_; (on_goal 1 => intro t a ht)) | (with_reducible refine foldl_kept_fst _ _ ?_ ?_; (on_goal 1 => intro t a ht)) | (intro t ht) | (simp only [kept_mk, keepsF_fold]) | (rename_i heq; obtain rfl := congrArg (fun (p : State × _) => p.1) heq; clear heq) | split | (intro x; clear_value x; fail_if_success (have := State.rf x)) | lift_lets)

@[simp] theorem State.effReadInc_kept {bk : Bool} {s0 : State} (s : State) (a : Nat) (words : Nat) (cut : List Nat) (h0 : Kept bk s0 s) : Kept bk s0 (State.effReadInc s a words cut) := by
  unfold State.effReadInc
  repeat' (first | with_reducible assumption | with_reducible apply State.transaction_kept | with_reducible apply State.readWords_kept | with_reducible apply kept_ite | with_reducible apply kept_ite_fst | (with_reducible refine foldl_kept _ _ ?_ ?_; (on_goal 1 => intro t a ht)) | (with_reducible refine foldl_kept_fst _ _ ?_ ?_; (on_goal 1 => intro t a ht)) | (intro t ht) | (simp only [kept_mk, keepsF_fold]) | (rename_i heq; obtain rfl := congrArg (fun (p : State × _) => p.1) heq; clear heq) | split | (intro x; clear_value x; fail_if_success (have := State.rf x)) | lift_lets)

@[simp] theorem State.effReadRep_kept {bk : Bool} {s0 : State} (s : State) (a : Nat) (words : Nat) (cut : List Nat) (h0 : Kept bk s0 s) : Kept bk s0 (State.effReadRep s a words cut) := by
  unfold State.effReadRep
  repeat' (first | with_reducible assumption | with_reducible apply State.transaction_kept | with_reducible apply State.readWords_kept | with_reducible apply kept_ite | with_reducible apply kept_ite_fst | (with_reducible refine foldl_kept _ _ ?_ ?_; (on_goal 1 => intro t a ht)) | (with_reducible refine foldl_kept_fst _ _ ?_ ?_; (on_goal 1 => intro t a ht)) | (intro t ht) | (simp only [kept_mk, keepsF_fold]) | (rename_i heq; obtain rfl := congrArg (fun (p : State × _) => p.1) heq; clear heq) | split | (intro x; clear_value x; fail_if_success (have := State.rf x)) | lift_lets)

@[simp] theorem State.commandWrite_kept {bk : Bool} {s0 : State} (s : State) (p : Port) (off : Nat) (n : Nat) (v : Word) (h0 : Kept bk s0 s) : Kept bk s0 (State.commandWrite s p off n v) := by
  unfold State.commandWrite
  first | exact h0 | (simp [h0]; done) | (((repeat' split) <;> simp [*]); done)

@[simp] theorem State.enableWrite_kept {bk : Bool} {s0 : State} (s : State) (p : Port) (off : Nat) (en : Bool) (h0 : Kept bk s0 s) : Kept bk s0 (State.enableWrite s p off en) := by
  unfold State.enableWrite
  first | exact h0 | (simp [h0]; done) | (((repeat' split) <;> simp [*]); done)

@[simp] theorem State.commitItem_kept {bk : Bool} {s0 : State} (s : State) (p : Port) (code : Nat) (len : Nat) (h0 : Kept bk s0 s) : Kept bk s0 (State.commitItem s p code len) := by
  unfold State.commitItem
  first | exact h0 | (simp [h0]; done) | (((repeat' split) <;> simp [*]); done)

@[simp] theorem State.effRcRead_kept {bk : Bool} {s0 : State} (s : State) (p : Port) (off : Nat) (h0 : Kept bk s0 s) : Kept bk s0 (State.effRcRead s p off) := by
  unfold State.effRcRead
  first | exact h0 | (simp [h0]; done) | (((repeat' split) <;> simp [*]); done)

@[simp] theorem State.effRegisterWrite_kept {bk : Bool} {s0 : State} (s : State) (p : Port) (a : Nat) (v : Word) (h0 : Kept bk s0 s) : Kept bk s0 (State.effRegisterWrite s p a v) := by
  unfold State.effRegisterWrite
  first | exact h0 | (simp [h0]; done) | (((repeat' split) <;> simp [*]); done)

@[simp] theorem State.touchSession_kept {bk : Bool} {s0 : State} (s : State) (h : MgmtHdr) (h0 : Kept bk s0 s) : Kept bk s0 (State.touchSession s h) := by
  unfold State.touchSession
  first | exact h0 | (simp [h0]; done) | (((repeat' split) <;> simp [*]); done)

@[simp] theorem State.completeBody_kept {bk : Bool} {s0 : State} (s : State) (h : MgmtHdr) (op : Nat) (status : Nat) (flags : Nat) (more : Bool) (stroke : Nat) (body : List Byte) (h0 : Kept bk s0 s) : Kept bk s0 (State.completeBody s h op status flags more stroke body) := by
  unfold State.completeBody
  first | exact h0 | (simp [h0]; done) | (((repeat' split) <;> simp [*]); done)

@[simp] theorem State.serveRegRead_kept {bk : Bool} {s0 : State} (s : State) (h : MgmtHdr) (a : Nat) (width : Nat) (h0 : Kept bk s0 s) : Kept bk s0 (State.serveRegRead s h a width) := by
  unfold State.serveRegRead
  repeat' (first | with_reducible assumption | with_reducible apply State.answer_kept | with_reducible apply State.inbandRead_kept | with_reducible apply State.complete_kept | with_reducible apply kept_ite | with_reducible apply kept_ite_fst | (with_reducible refine foldl_kept _ _ ?_ ?_; (on_goal 1 => intro t a ht)) | (with_reducible refine foldl_kept_fst _ _ ?_ ?_; (on_goal 1 => intro t a ht)) | (simp only [kept_mk, keepsF_fold]) | (rename_i heq; obtain rfl := congrArg (fun (p : State × _) => p.1) heq; clear heq) | split)

@[simp] theorem State.serveRegWrite_kept {bk : Bool} {s0 : State} (s : State) (h : MgmtHdr) (a : Nat) (width : Nat) (data : BitVec 64) (h0 : Kept bk s0 s) : Kept bk s0 (State.serveRegWrite s h a width data) := by
  unfold State.serveRegWrite
  repeat' (first | with_reducible assumption | with_reducible apply State.answer_kept | with_reducible apply State.inbandWrite_kept | with_reducible apply State.setReject_kept | with_reducible apply kept_ite | with_reducible apply kept_ite_fst | (with_reducible refine foldl_kept _ _ ?_ ?_; (on_goal 1 => intro t a ht)) | (with_reducible refine foldl_kept_fst _ _ ?_ ?_; (on_goal 1 => intro t a ht)) | (simp only [kept_mk, keepsF_fold]) | (rename_i heq; obtain rfl := congrArg (fun (p : State × _) => p.1) heq; clear heq) | split)

@[simp] theorem State.returnRecord_kept {bk : Bool} {s0 : State} (s : State) (h : MgmtHdr) (r : Stored) (opened : Bool) (h0 : Kept bk s0 s) : Kept bk s0 (State.returnRecord s h r opened) := by
  unfold State.returnRecord
  first | exact h0 | (simp [h0]; done) | (((repeat' split) <;> simp [*]); done)

@[simp] theorem State.serveRecRead_kept {bk : Bool} {s0 : State} (s : State) (h : MgmtHdr) (stroke : Nat) (mode : Nat) (arg : Nat) (opened : Bool) (found : Option Nat) (h0 : Kept bk s0 s) : Kept bk s0 (State.serveRecRead s h stroke mode arg opened found) := by
  unfold State.serveRecRead
  repeat' (first | with_reducible assumption | with_reducible apply State.answer_kept | with_reducible apply State.guarded_kept | with_reducible apply State.completeBody_kept | with_reducible apply State.returnRecord_kept | with_reducible apply kept_ite | with_reducible apply kept_ite_fst | (with_reducible refine foldl_kept _ _ ?_ ?_; (on_goal 1 => intro t a ht)) | (with_reducible refine foldl_kept_fst _ _ ?_ ?_; (on_goal 1 => intro t a ht)) | (simp only [kept_mk, keepsF_fold]) | (rename_i heq; obtain rfl := congrArg (fun (p : State × _) => p.1) heq; clear heq) | split)

@[simp] theorem State.refuseWriteReq_kept {bk : Bool} {s0 : State} (s : State) (h : MgmtHdr) (n : Nat) (status : Nat) (h0 : Kept bk s0 s) : Kept bk s0 (State.refuseWriteReq s h n status) := by
  unfold State.refuseWriteReq
  first | exact h0 | (simp [h0]; done) | (((repeat' split) <;> simp [*]); done)

theorem State.serveRecWrite_kept {bk : Bool} {s0 : State} (s : State) (h : MgmtHdr) (typ : Byte) (first : Bool) (last : Bool) (seq : Word) (pl : List Byte) (c : Nat) (h0 : Kept bk s0 s) : KeptO bk s0 (State.serveRecWrite s h typ first last seq pl c) := by
  unfold State.serveRecWrite
  dsimp only
  split
  · exact keptO_some (State.refuseWriteReq_kept _ _ _ _ (State.countReserved_kept _ _ h0))
  split
  · exact keptO_some (State.refuseWriteReq_kept _ _ _ _ h0)
  split
  · exact keptO_some (State.refuseWriteReq_kept _ _ _ _ h0)
  split
  · exact keptO_some (State.refuseWriteReq_kept _ _ _ _ h0)
  split
  · exact keptO_some (State.refuseWriteReq_kept _ _ _ _ (State.count_kept _ _ h0))
  split
  · exact keptO_some (State.refuseWriteReq_kept _ _ _ _ h0)
  split
  · exact keptO_none _ _
  have h1 := State.accept_kept s (s.source (16 + h.requester.toNat)) 2 typ (setFlags first last) seq 0#32 pl
    (.mgmtWrite h) false true (some (.mgmt, c)) none h0
  generalize State.accept _ _ _ _ _ _ _ _ _ _ _ _ _ = t at h1 ⊢
  split
  · exact keptO_some (h1)
  · rename_i r _
    have h2 := State.guardNewRec_kept t r.id 1 (t.portRights (MgmtHdrPort h)) h.requester.toNat h1
    generalize State.guardNewRec _ _ _ _ _ = q at h2 ⊢
    obtain ⟨u, ok⟩ := q
    cases ok
    · exact keptO_some (State.answer_kept _ _ _ _ h2)
    · exact keptO_some h2

@[simp] theorem State.serveHello_kept {bk : Bool} {s0 : State} (s : State) (h : MgmtHdr) (method : Nat) (rights : Byte) (point : List Byte) (h0 : Kept bk s0 s) : Kept bk s0 (State.serveHello s h method rights point) := by
  unfold State.serveHello
  repeat' (first | with_reducible assumption | with_reducible apply State.boundary_kept | with_reducible apply State.refuseOpenStatus_kept | with_reducible apply State.feed_kept | with_reducible apply State.entPower_kept | with_reducible apply State.helloStart_kept | with_reducible apply State.touchSession_kept | with_reducible apply kept_ite | with_reducible apply kept_ite_fst | (with_reducible refine foldl_kept _ _ ?_ ?_; (on_goal 1 => intro t a ht)) | (with_reducible refine foldl_kept_fst _ _ ?_ ?_; (on_goal 1 => intro t a ht)) | (intro t n ht) | (intro t ht) | (simp only [kept_mk, keepsF_fold]) | (rename_i heq; obtain rfl := congrArg (fun (p : State × _) => p.1) heq; clear heq) | split)

@[simp] theorem State.serveProve_kept {bk : Bool} {s0 : State} (s : State) (h : MgmtHdr) (sig : List Byte) (h0 : Kept bk s0 s) : Kept bk s0 (State.serveProve s h sig) := by
  unfold State.serveProve
  repeat' (first | with_reducible assumption | with_reducible apply State.boundary_kept | with_reducible apply State.refuseOpenStatus_kept | with_reducible apply State.prove_kept | with_reducible apply kept_ite | with_reducible apply kept_ite_fst | (with_reducible refine foldl_kept _ _ ?_ ?_; (on_goal 1 => intro t a ht)) | (with_reducible refine foldl_kept_fst _ _ ?_ ?_; (on_goal 1 => intro t a ht)) | (intro t n ht) | (intro t ht) | (simp only [kept_mk, keepsF_fold]) | (rename_i heq; obtain rfl := congrArg (fun (p : State × _) => p.1) heq; clear heq) | split)

@[simp] theorem State.serveClose_kept {bk : Bool} {s0 : State} (s : State) (h : MgmtHdr) (h0 : Kept bk s0 s) : Kept bk s0 (State.serveClose s h) := by
  unfold State.serveClose
  first | exact h0 | (simp [h0]; done) | (((repeat' split) <;> simp [*]); done)

@[simp] theorem State.serveLease_kept {bk : Bool} {s0 : State} (s : State) (h : MgmtHdr) (part : Nat) (op : Nat) (seconds : Nat) (h0 : Kept bk s0 s) : Kept bk s0 (State.serveLease s h part op seconds) := by
  unfold State.serveLease
  first | exact h0 | (simp [h0]; done) | (((repeat' split) <;> simp [*]); done)

@[simp] theorem State.sendItems_kept {bk : Bool} {s0 : State} (s : State) (h : MgmtHdr) (rs : List Stored) (h0 : Kept bk s0 s) : Kept bk s0 (State.sendItems s h rs) := by
  induction rs generalizing s h with
  | nil => exact h0
  | cons a l ih =>
  unfold State.sendItems
  repeat' (first | with_reducible assumption | with_reducible apply ih | with_reducible apply State.completeBody_kept | with_reducible apply kept_ite | with_reducible apply kept_ite_fst | (with_reducible refine foldl_kept _ _ ?_ ?_; (on_goal 1 => intro t a ht)) | (with_reducible refine foldl_kept_fst _ _ ?_ ?_; (on_goal 1 => intro t a ht)) | (intro t n ht) | (intro t ht) | (simp only [kept_mk, keepsF_fold]) | (rename_i heq; obtain rfl := congrArg (fun (p : State × _) => p.1) heq; clear heq) | split | (intro x; clear_value x; fail_if_success (have := State.rf x)) | lift_lets)

@[simp] theorem State.servePull_kept {bk : Bool} {s0 : State} (s : State) (h : MgmtHdr) (h0 : Kept bk s0 s) : Kept bk s0 (State.servePull s h) := by
  unfold State.servePull
  repeat' (first | with_reducible assumption | with_reducible apply State.answer_kept | with_reducible apply State.raise_kept | with_reducible apply State.complete_kept | with_reducible apply State.sendItems_kept | with_reducible apply kept_ite | with_reducible apply kept_ite_fst | (with_reducible refine foldl_kept _ _ ?_ ?_; (on_goal 1 => intro t a ht)) | (with_reducible refine foldl_kept_fst _ _ ?_ ?_; (on_goal 1 => intro t a ht)) | (intro t n ht) | (intro t ht) | (simp only [kept_mk, keepsF_fold]) | (rename_i heq; obtain rfl := congrArg (fun (p : State × _) => p.1) heq; clear heq) | split)

theorem State.needsSession_kept {bk : Bool} {s0 : State} (s : State) (h : MgmtHdr) (op : Nat) (f : State → Option State) (h_f : ∀ t, Kept bk s0 t → KeptO bk s0 (f t)) (h0 : Kept bk s0 s) : KeptO bk s0 (State.needsSession s h op f) := by
  unfold State.needsSession
  repeat' (first | with_reducible assumption | with_reducible apply State.answer_kept | with_reducible apply State.touchSession_kept | (refine keptO_use ?_ (by assumption)) | exact keptO_none _ _ | with_reducible apply keptO_some | with_reducible apply keptO_ite | (with_reducible refine keptO_map ?_ ?_; (on_goal 2 => intro t ht)) | apply h_f | with_reducible apply kept_ite | with_reducible apply kept_ite_fst | (with_reducible refine foldl_kept _ _ ?_ ?_; (on_goal 1 => intro t a ht)) | (with_reducible refine foldl_kept_fst _ _ ?_ ?_; (on_goal 1 => intro t a ht)) | (simp only [kept_mk, keepsF_fold]) | (rename_i heq; obtain rfl := congrArg (fun (p : State × _) => p.1) heq; clear heq) | split)

theorem State.runMgmt_kept {bk : Bool} {s0 : State} (s : State) (i : Instr) (h0 : Kept bk s0 s) : KeptO bk s0 (State.runMgmt s i) := by
  unfold State.runMgmt
  split
  · apply State.needsSession_kept
    · intro t ht
      exact keptO_some (State.serveRecRead_kept _ _ _ _ _ _ _ ht)
    · exact h0
  · dsimp only
    split
    · exact keptO_some (State.refuseWriteReq_kept _ _ _ _ h0)
    · exact State.serveRecWrite_kept _ _ _ _ _ _ _ _ (State.drainMaster_kept _ _ (State.touchSession_kept _ _ h0))
  · exact keptO_some (State.serveHello_kept _ _ _ _ _ h0)
  · exact keptO_some (State.serveProve_kept _ _ _ h0)
  · apply State.needsSession_kept
    · intro t ht
      exact keptO_some (State.serveClose_kept _ _ ht)
    · exact h0
  · apply State.needsSession_kept
    · intro t ht
      exact keptO_some (State.serveLease_kept _ _ _ _ _ ht)
    · exact h0
  · exact keptO_some (State.servePull_kept _ _ h0)
  · exact keptO_some h0

@[simp] theorem State.served_kept {bk : Bool} {s0 : State} (s : State) (h0 : Kept bk s0 s) : Kept bk s0 (State.served s) := by
  unfold State.served
  first | exact h0 | (simp [h0]; done) | (((repeat' split) <;> simp [*]); done)

@[simp] theorem State.serveQueue_kept {bk : Bool} {s0 : State} (s : State) (fuel : Nat) (h0 : Kept bk s0 s) : Kept bk s0 (State.serveQueue s fuel) := by
  induction fuel generalizing s with
  | zero => exact h0
  | succ fuel ih =>
  unfold State.serveQueue
  repeat' (first | with_reducible assumption | with_reducible apply ih | with_reducible apply State.runMgmt_kept | with_reducible apply State.served_kept | (refine keptO_use ?_ (by assumption)) | exact keptO_none _ _ | with_reducible apply keptO_some | with_reducible apply keptO_ite | (with_reducible refine keptO_map ?_ ?_; (on_goal 2 => intro t ht)) | with_reducible apply kept_ite | with_reducible apply kept_ite_fst | (with_reducible refine foldl_kept _ _ ?_ ?_; (on_goal 1 => intro t a ht)) | (with_reducible refine foldl_kept_fst _ _ ?_ ?_; (on_goal 1 => intro t a ht)) | (intro t n ht) | (intro t ht) | (simp only [kept_mk, keepsF_fold]) | (rename_i heq; obtain rfl := congrArg (fun (p : State × _) => p.1) heq; clear heq) | split | (intro x; clear_value x; fail_if_success (have := State.rf x)) | lift_lets)

@[simp] theorem State.serveMgmt_kept {bk : Bool} {s0 : State} (s : State) (h0 : Kept bk s0 s) : Kept bk s0 (State.serveMgmt s) := by
  unfold State.serveMgmt
  first | exact h0 | (simp [h0]; done) | (((repeat' split) <;> simp [*]); done)

@[simp] theorem State.receiveRequest_kept {bk : Bool} {s0 : State} (s : State) (h : MgmtHdr) (i : Instr) (f : State → Nat → State) (h_f : ∀ t n, Kept bk s0 t → Kept bk s0 (f t n)) (h0 : Kept bk s0 s) : Kept bk s0 (State.receiveRequest s h i f) := by
  unfold State.receiveRequest
  repeat' (first | with_reducible assumption | with_reducible apply State.takeDone_kept | with_reducible apply State.wakeCore_kept | with_reducible apply State.releaseCredits_kept | with_reducible apply State.countFailed_kept | with_reducible apply State.badFrame_kept | with_reducible apply State.answer_kept | with_reducible apply State.served_kept | apply h_f | with_reducible apply kept_ite | with_reducible apply kept_ite_fst | (with_reducible refine foldl_kept _ _ ?_ ?_; (on_goal 1 => intro t a ht)) | (with_reducible refine foldl_kept_fst _ _ ?_ ?_; (on_goal 1 => intro t a ht)) | (intro t n ht) | (intro t ht) | (simp only [kept_mk, keepsF_fold]) | (rename_i heq; obtain rfl := congrArg (fun (p : State × _) => p.1) heq; clear heq) | split | (intro x; clear_value x; fail_if_success (have := State.rf x)) | lift_lets)

@[simp] theorem State.hostRequest_kept {bk : Bool} {s0 : State} (s : State) (h : MgmtHdr) (op : Nat) (i : Instr) (f : State → Nat → State) (h_f : ∀ t n, Kept bk s0 t → Kept bk s0 (f t n)) (h0 : Kept bk s0 s) : Kept bk s0 (State.hostRequest s h op i f) := by
  unfold State.hostRequest
  repeat' (first | with_reducible assumption | with_reducible apply State.receiveRequest_kept | with_reducible apply State.answer_kept | with_reducible apply State.served_kept | with_reducible apply State.releaseCredits_kept | with_reducible apply State.boundary_kept | apply h_f | with_reducible apply kept_ite | with_reducible apply kept_ite_fst | (with_reducible refine foldl_kept _ _ ?_ ?_; (on_goal 1 => intro t a ht)) | (with_reducible refine foldl_kept_fst _ _ ?_ ?_; (on_goal 1 => intro t a ht)) | (intro t n ht) | (intro t ht) | (simp only [kept_mk, keepsF_fold]) | (rename_i heq; obtain rfl := congrArg (fun (p : State × _) => p.1) heq; clear heq) | split | (intro x; clear_value x; fail_if_success (have := State.rf x)) | lift_lets)

@[simp] theorem State.regRequest_kept {bk : Bool} {s0 : State} (s : State) (h : MgmtHdr) (op : Nat) (i : Instr) (f : State → State) (h_f : ∀ t, Kept bk s0 t → Kept bk s0 (f t)) (h0 : Kept bk s0 s) : Kept bk s0 (State.regRequest s h op i f) := by
  unfold State.regRequest
  repeat' (first | with_reducible assumption | with_reducible apply State.hostRequest_kept | with_reducible apply State.served_kept | with_reducible apply State.releaseCredits_kept | with_reducible apply State.touchSession_kept | with_reducible apply State.answer_kept | apply h_f | with_reducible apply kept_ite | with_reducible apply kept_ite_fst | (with_reducible refine foldl_kept _ _ ?_ ?_; (on_goal 1 => intro t a ht)) | (with_reducible refine foldl_kept_fst _ _ ?_ ?_; (on_goal 1 => intro t a ht)) | (intro t n ht) | (intro t ht) | (simp only [kept_mk, keepsF_fold]) | (rename_i heq; obtain rfl := congrArg (fun (p : State × _) => p.1) heq; clear heq) | split | (intro x; clear_value x; fail_if_success (have := State.rf x)) | lift_lets)

@[simp] theorem State.noteRequest_kept {bk : Bool} {s0 : State} (s : State) (i : Instr) (n : Nat) (h0 : Kept bk s0 s) : Kept bk s0 (State.noteRequest s i n) := by
  unfold State.noteRequest
  first | exact h0 | (simp [h0]; done) | (((repeat' split) <;> simp [*]); done)

@[simp] theorem State.queueRequest_kept {bk : Bool} {s0 : State} (s : State) (h : MgmtHdr) (op : Nat) (i : Instr) (h0 : Kept bk s0 s) : Kept bk s0 (State.queueRequest s h op i) := by
  unfold State.queueRequest
  repeat' (first | with_reducible assumption | with_reducible apply State.hostRequest_kept | with_reducible apply State.noteRequest_kept | with_reducible apply State.serveMgmt_kept | with_reducible apply kept_ite | with_reducible apply kept_ite_fst | (with_reducible refine foldl_kept _ _ ?_ ?_; (on_goal 1 => intro t a ht)) | (with_reducible refine foldl_kept_fst _ _ ?_ ?_; (on_goal 1 => intro t a ht)) | (intro t n ht) | (intro t ht) | (simp only [kept_mk, keepsF_fold]) | (rename_i heq; obtain rfl := congrArg (fun (p : State × _) => p.1) heq; clear heq) | split | (intro x; clear_value x; fail_if_success (have := State.rf x)) | lift_lets)

@[simp] theorem State.effRegRead_kept {bk : Bool} {s0 : State} (s : State) (h : MgmtHdr) (a : Nat) (width : Nat) (h0 : Kept bk s0 s) : Kept bk s0 (State.effRegRead s h a width) := by
  unfold State.effRegRead
  repeat' (first | with_reducible assumption | with_reducible apply State.regRequest_kept | with_reducible apply State.serveRegRead_kept | with_reducible apply kept_ite | with_reducible apply kept_ite_fst | (with_reducible refine foldl_kept _ _ ?_ ?_; (on_goal 1 => intro t a ht)) | (with_reducible refine foldl_kept_fst _ _ ?_ ?_; (on_goal 1 => intro t a ht)) | (intro t ht) | (simp only [kept_mk, keepsF_fold]) | (rename_i heq; obtain rfl := congrArg (fun (p : State × _) => p.1) heq; clear heq) | split | (intro x; clear_value x; fail_if_success (have := State.rf x)) | lift_lets)

@[simp] theorem State.effRegWrite_kept {bk : Bool} {s0 : State} (s : State) (h : MgmtHdr) (a : Nat) (width : Nat) (data : BitVec 64) (h0 : Kept bk s0 s) : Kept bk s0 (State.effRegWrite s h a width data) := by
  unfold State.effRegWrite
  repeat' (first | with_reducible assumption | with_reducible apply State.regRequest_kept | with_reducible apply State.serveRegWrite_kept | with_reducible apply kept_ite | with_reducible apply kept_ite_fst | (with_reducible refine foldl_kept _ _ ?_ ?_; (on_goal 1 => intro t a ht)) | (with_reducible refine foldl_kept_fst _ _ ?_ ?_; (on_goal 1 => intro t a ht)) | (intro t ht) | (simp only [kept_mk, keepsF_fold]) | (rename_i heq; obtain rfl := congrArg (fun (p : State × _) => p.1) heq; clear heq) | split | (intro x; clear_value x; fail_if_success (have := State.rf x)) | lift_lets)

@[simp] theorem State.effRecRead_kept {bk : Bool} {s0 : State} (s : State) (h : MgmtHdr) (stroke : Nat) (mode : Nat) (arg : Nat) (opened : Bool) (h0 : Kept bk s0 s) : Kept bk s0 (State.effRecRead s h stroke mode arg opened) := by
  unfold State.effRecRead
  first | exact h0 | (simp [h0]; done) | (((repeat' split) <;> simp [*]); done)

@[simp] theorem State.effRecWrite_kept {bk : Bool} {s0 : State} (s : State) (h : MgmtHdr) (typ : Byte) (first : Bool) (last : Bool) (seq : Word) (pl : List Byte) (h0 : Kept bk s0 s) : Kept bk s0 (State.effRecWrite s h typ first last seq pl) := by
  unfold State.effRecWrite
  first | exact h0 | (simp [h0]; done) | (((repeat' split) <;> simp [*]); done)

@[simp] theorem State.effSessionOpenHello_kept {bk : Bool} {s0 : State} (s : State) (h : MgmtHdr) (method : Nat) (rights : Byte) (point : List Byte) (h0 : Kept bk s0 s) : Kept bk s0 (State.effSessionOpenHello s h method rights point) := by
  unfold State.effSessionOpenHello
  first | exact h0 | (simp [h0]; done) | (((repeat' split) <;> simp [*]); done)

@[simp] theorem State.effSessionOpenProve_kept {bk : Bool} {s0 : State} (s : State) (h : MgmtHdr) (sig : List Byte) (h0 : Kept bk s0 s) : Kept bk s0 (State.effSessionOpenProve s h sig) := by
  unfold State.effSessionOpenProve
  first | exact h0 | (simp [h0]; done) | (((repeat' split) <;> simp [*]); done)

@[simp] theorem State.effSessionClose_kept {bk : Bool} {s0 : State} (s : State) (h : MgmtHdr) (h0 : Kept bk s0 s) : Kept bk s0 (State.effSessionClose s h) := by
  unfold State.effSessionClose
  first | exact h0 | (simp [h0]; done) | (((repeat' split) <;> simp [*]); done)

@[simp] theorem State.effLease_kept {bk : Bool} {s0 : State} (s : State) (h : MgmtHdr) (part : Nat) (op : Nat) (seconds : Nat) (h0 : Kept bk s0 s) : Kept bk s0 (State.effLease s h part op seconds) := by
  unfold State.effLease
  first | exact h0 | (simp [h0]; done) | (((repeat' split) <;> simp [*]); done)

@[simp] theorem State.effStagePull_kept {bk : Bool} {s0 : State} (s : State) (h : MgmtHdr) (h0 : Kept bk s0 s) : Kept bk s0 (State.effStagePull s h) := by
  unfold State.effStagePull
  repeat' (first | with_reducible assumption | with_reducible apply State.receiveRequest_kept | with_reducible apply State.releaseCredits_kept | with_reducible apply State.answer_kept | with_reducible apply State.served_kept | with_reducible apply State.serveMgmt_kept | with_reducible apply kept_ite | with_reducible apply kept_ite_fst | (with_reducible refine foldl_kept _ _ ?_ ?_; (on_goal 1 => intro t a ht)) | (with_reducible refine foldl_kept_fst _ _ ?_ ?_; (on_goal 1 => intro t a ht)) | (intro t n ht) | (intro t ht) | (simp only [kept_mk, keepsF_fold]) | (rename_i heq; obtain rfl := congrArg (fun (p : State × _) => p.1) heq; clear heq) | split | (intro x; clear_value x; fail_if_success (have := State.rf x)) | lift_lets)

@[simp] theorem State.applyXtal_kept {bk : Bool} {s0 : State} (s : State) (h0 : Kept bk s0 s) : Kept bk s0 (State.applyXtal s) := by
  unfold State.applyXtal
  repeat' (first | with_reducible assumption | with_reducible apply State.boundary_kept | with_reducible apply kept_ite | with_reducible apply kept_ite_fst | (with_reducible refine foldl_kept _ _ ?_ ?_; (on_goal 1 => intro t a ht)) | (with_reducible refine foldl_kept_fst _ _ ?_ ?_; (on_goal 1 => intro t a ht)) | (simp only [kept_mk, keepsF_fold]) | (rename_i heq; obtain rfl := congrArg (fun (p : State × _) => p.1) heq; clear heq) | split)

@[simp] theorem State.advanceSchedule_kept {bk : Bool} {s0 : State} (s : State) (h0 : Kept bk s0 s) : Kept bk s0 (State.advanceSchedule s) := by
  unfold State.advanceSchedule
  first | exact h0 | (simp [h0]; done) | (((repeat' split) <;> simp [*]); done)

@[simp] theorem State.effLoggerTick_kept {bk : Bool} {s0 : State} (s : State) (h0 : Kept bk s0 s) : Kept bk s0 (State.effLoggerTick s) := by
  unfold State.effLoggerTick
  repeat' (first | with_reducible assumption | with_reducible apply State.elapse_kept | with_reducible apply State.applyXtal_kept | with_reducible apply State.advanceSchedule_kept | with_reducible apply State.requestBatch_kept | with_reducible apply kept_ite | with_reducible apply kept_ite_fst | (with_reducible refine foldl_kept _ _ ?_ ?_; (on_goal 1 => intro t a ht)) | (with_reducible refine foldl_kept_fst _ _ ?_ ?_; (on_goal 1 => intro t a ht)) | (simp only [kept_mk, keepsF_fold]) | (rename_i heq; obtain rfl := congrArg (fun (p : State × _) => p.1) heq; clear heq) | split)

@[simp] theorem State.skipSample_kept {bk : Bool} {s0 : State} (s : State) (h0 : Kept bk s0 s) : Kept bk s0 (State.skipSample s) := by
  unfold State.skipSample
  first | exact h0 | (simp [h0]; done) | (((repeat' split) <;> simp [*]); done)

@[simp] theorem State.fullBatch_kept {bk : Bool} {s0 : State} (s : State) (h0 : Kept bk s0 s) : Kept bk s0 (State.fullBatch s) := by
  unfold State.fullBatch
  repeat' (first | with_reducible assumption | with_reducible apply State.requestBatch_kept | with_reducible apply kept_ite | with_reducible apply kept_ite_fst | (with_reducible refine foldl_kept _ _ ?_ ?_; (on_goal 1 => intro t a ht)) | (with_reducible refine foldl_kept_fst _ _ ?_ ?_; (on_goal 1 => intro t a ht)) | (intro t n ht) | (intro t ht) | (simp only [kept_mk, keepsF_fold]) | (rename_i heq; obtain rfl := congrArg (fun (p : State × _) => p.1) heq; clear heq) | split)

@[simp] theorem State.addSample_kept {bk : Bool} {s0 : State} (s : State) (temp : Int) (h0 : Kept bk s0 s) : Kept bk s0 (State.addSample s temp) := by
  unfold State.addSample
  repeat' (first | with_reducible assumption | with_reducible apply State.fullBatch_kept | with_reducible apply State.countBy_kept | with_reducible apply State.raise_kept | with_reducible apply kept_ite | with_reducible apply kept_ite_fst | (with_reducible refine foldl_kept _ _ ?_ ?_; (on_goal 1 => intro t a ht)) | (with_reducible refine foldl_kept_fst _ _ ?_ ?_; (on_goal 1 => intro t a ht)) | (intro t n ht) | (intro t ht) | (simp only [kept_mk, keepsF_fold]) | (rename_i heq; obtain rfl := congrArg (fun (p : State × _) => p.1) heq; clear heq) | split)

@[simp] theorem State.runSample_kept {bk : Bool} {s0 : State} (s : State) (temp : Int) (h0 : Kept bk s0 s) : Kept bk s0 (State.runSample s temp) := by
  unfold State.runSample
  repeat' (first | with_reducible assumption | with_reducible apply State.boundary_kept | with_reducible apply State.skipSample_kept | with_reducible apply State.requestBatch_kept | with_reducible apply State.addSample_kept | with_reducible apply kept_ite | with_reducible apply kept_ite_fst | (with_reducible refine foldl_kept _ _ ?_ ?_; (on_goal 1 => intro t a ht)) | (with_reducible refine foldl_kept_fst _ _ ?_ ?_; (on_goal 1 => intro t a ht)) | (simp only [kept_mk, keepsF_fold]) | (rename_i heq; obtain rfl := congrArg (fun (p : State × _) => p.1) heq; clear heq) | split)

@[simp] theorem State.effLoggerSample_kept {bk : Bool} {s0 : State} (s : State) (temp : Int) (h0 : Kept bk s0 s) : Kept bk s0 (State.effLoggerSample s temp) := by
  unfold State.effLoggerSample
  repeat' (first | with_reducible assumption | with_reducible apply State.runSample_kept | with_reducible apply State.fullBatch_kept | with_reducible apply State.boundary_kept | with_reducible apply kept_ite | with_reducible apply kept_ite_fst | (with_reducible refine foldl_kept _ _ ?_ ?_; (on_goal 1 => intro t a ht)) | (with_reducible refine foldl_kept_fst _ _ ?_ ?_; (on_goal 1 => intro t a ht)) | (intro t n ht) | (intro t ht) | (simp only [kept_mk, keepsF_fold]) | (rename_i heq; obtain rfl := congrArg (fun (p : State × _) => p.1) heq; clear heq) | split)

@[simp] theorem State.effCrystalSwitch_kept {bk : Bool} {s0 : State} (s : State) (h0 : Kept bk s0 s) : Kept bk s0 (State.effCrystalSwitch s) := by
  unfold State.effCrystalSwitch
  first | exact h0 | (simp [h0]; done) | (((repeat' split) <;> simp [*]); done)

@[simp] theorem State.effCrystalFail_kept {bk : Bool} {s0 : State} (s : State) (h0 : Kept bk s0 s) : Kept bk s0 (State.effCrystalFail s) := by
  unfold State.effCrystalFail
  first | exact h0 | (simp [h0]; done) | (((repeat' split) <;> simp [*]); done)

@[simp] theorem State.effClockBackup_kept {bk : Bool} {s0 : State} (s : State) (h0 : Kept bk s0 s) : Kept bk s0 (State.effClockBackup s) := by
  unfold State.effClockBackup
  first | exact h0 | (simp [h0]; done) | (((repeat' split) <;> simp [*]); done)

@[simp] theorem State.effChassisSample_kept {bk : Bool} {s0 : State} (s : State) (high : Bool) (h0 : Kept bk s0 s) : Kept bk s0 (State.effChassisSample s high) := by
  unfold State.effChassisSample
  first | exact h0 | (simp [h0]; done) | (((repeat' split) <;> simp [*]); done)

@[simp] theorem State.effChassisChange_kept {bk : Bool} {s0 : State} (s : State) (h0 : Kept bk s0 s) : Kept bk s0 (State.effChassisChange s) := by
  unfold State.effChassisChange
  first | exact h0 | (simp [h0]; done) | (((repeat' split) <;> simp [*]); done)

@[simp] theorem State.effSeal_kept {bk : Bool} {s0 : State} (s : State) (h0 : Kept bk s0 s) : Kept bk s0 (State.effSeal s) := by
  unfold State.effSeal
  repeat' (first | with_reducible assumption | with_reducible apply State.sealNext_kept | with_reducible apply State.checkWear_kept | with_reducible apply State.touchAll_kept | with_reducible apply kept_ite | with_reducible apply kept_ite_fst | (with_reducible refine foldl_kept _ _ ?_ ?_; (on_goal 1 => intro t a ht)) | (with_reducible refine foldl_kept_fst _ _ ?_ ?_; (on_goal 1 => intro t a ht)) | (simp only [kept_mk, keepsF_fold]) | (rename_i heq; obtain rfl := congrArg (fun (p : State × _) => p.1) heq; clear heq) | split)

@[simp] theorem State.serveAll_kept {bk : Bool} {s0 : State} (s : State) (h0 : Kept bk s0 s) : Kept bk s0 (State.serveAll s) := by
  unfold State.serveAll
  repeat' (first | with_reducible assumption | with_reducible apply State.snareFeed_kept | with_reducible apply State.serveMgmt_kept | with_reducible apply State.serveMbx_kept | with_reducible apply State.serveFrames_kept | with_reducible apply State.drain_kept | with_reducible apply kept_ite | with_reducible apply kept_ite_fst | (with_reducible refine foldl_kept _ _ ?_ ?_; (on_goal 1 => intro t a ht)) | (with_reducible refine foldl_kept_fst _ _ ?_ ?_; (on_goal 1 => intro t a ht)) | (simp only [kept_mk, keepsF_fold]) | (rename_i heq; obtain rfl := congrArg (fun (p : State × _) => p.1) heq; clear heq) | split)

@[simp] theorem State.runHook_kept {bk : Bool} {s0 : State} (s : State) (q : PipeRec) (h0 : Kept bk s0 s) : Kept bk s0 (State.runHook s q) := by
  unfold State.runHook
  first | exact h0 | (simp [h0]; done) | (((repeat' split) <;> simp [*]); done)

@[simp] theorem State.committed_kept {bk : Bool} {s0 : State} (s : State) (q : PipeRec) (h0 : Kept bk s0 s) : Kept bk s0 (State.committed s q) := by
  unfold State.committed
  repeat' (first | with_reducible assumption | with_reducible apply State.takeForMirror_kept | with_reducible apply State.releaseRec_kept | with_reducible apply State.runHook_kept | with_reducible apply kept_ite | with_reducible apply kept_ite_fst | (with_reducible refine foldl_kept _ _ ?_ ?_; (on_goal 1 => intro t a ht)) | (with_reducible refine foldl_kept_fst _ _ ?_ ?_; (on_goal 1 => intro t a ht)) | (simp only [kept_mk, keepsF_fold]) | (rename_i heq; obtain rfl := congrArg (fun (p : State × _) => p.1) heq; clear heq) | split)

@[simp] theorem State.effCommitGroup_kept {bk : Bool} {s0 : State} (s : State) (h0 : Kept bk s0 s) : Kept bk s0 (State.effCommitGroup s) := by
  unfold State.effCommitGroup
  repeat' (first | with_reducible assumption | with_reducible apply State.reseal_kept | with_reducible apply State.commitGroup_kept | with_reducible apply State.committed_kept | with_reducible apply State.fixShadow_kept | with_reducible apply State.checkWear_kept | with_reducible apply State.serveAll_kept | with_reducible apply State.groupBoundary_kept | with_reducible apply kept_ite | with_reducible apply kept_ite_fst | (with_reducible refine foldl_kept _ _ ?_ ?_; (on_goal 1 => intro t a ht)) | (with_reducible refine foldl_kept_fst _ _ ?_ ?_; (on_goal 1 => intro t a ht)) | (simp only [kept_mk, keepsF_fold]) | (rename_i heq; obtain rfl := congrArg (fun (p : State × _) => p.1) heq; clear heq) | split)

@[simp] theorem State.sealAll_kept {bk : Bool} {s0 : State} (s : State) (h0 : Kept bk s0 s) : Kept bk s0 (State.sealAll s) := by
  unfold State.sealAll
  repeat' (first | with_reducible assumption | with_reducible apply State.effSeal_kept | with_reducible apply kept_ite | with_reducible apply kept_ite_fst | (with_reducible refine foldl_kept _ _ ?_ ?_; (on_goal 1 => intro t a ht)) | (with_reducible refine foldl_kept_fst _ _ ?_ ?_; (on_goal 1 => intro t a ht)) | (simp only [kept_mk, keepsF_fold]) | (rename_i heq; obtain rfl := congrArg (fun (p : State × _) => p.1) heq; clear heq) | split)

@[simp] theorem State.commitAll_kept {bk : Bool} {s0 : State} (s : State) (h0 : Kept bk s0 s) : Kept bk s0 (State.commitAll s) := by
  unfold State.commitAll
  repeat' (first | with_reducible assumption | with_reducible apply State.effCommitGroup_kept | with_reducible apply State.sealAll_kept | with_reducible apply kept_ite | with_reducible apply kept_ite_fst | (with_reducible refine foldl_kept _ _ ?_ ?_; (on_goal 1 => intro t a ht)) | (with_reducible refine foldl_kept_fst _ _ ?_ ?_; (on_goal 1 => intro t a ht)) | (simp only [kept_mk, keepsF_fold]) | (rename_i heq; obtain rfl := congrArg (fun (p : State × _) => p.1) heq; clear heq) | split)

@[simp] theorem State.finishRebuild_kept {bk : Bool} {s0 : State} (s : State) (h0 : Kept bk s0 s) : Kept bk s0 (State.finishRebuild s) := by
  unfold State.finishRebuild
  repeat' (first | with_reducible assumption | with_reducible apply State.commitAll_kept | with_reducible apply State.createNow_kept | with_reducible apply State.raise_kept | with_reducible apply kept_ite | with_reducible apply kept_ite_fst | (with_reducible refine foldl_kept _ _ ?_ ?_; (on_goal 1 => intro t a ht)) | (with_reducible refine foldl_kept_fst _ _ ?_ ?_; (on_goal 1 => intro t a ht)) | (simp only [kept_mk, keepsF_fold]) | (rename_i heq; obtain rfl := congrArg (fun (p : State × _) => p.1) heq; clear heq) | split)

@[simp] theorem State.testSpares_kept {bk : Bool} {s0 : State} (s : State) (bank : Nat) (h0 : Kept bk s0 s) : Kept bk s0 (State.testSpares s bank) := by
  unfold State.testSpares
  first | exact h0 | (simp [h0]; done) | (((repeat' split) <;> simp [*]); done)

@[simp] theorem State.effBankSelftest_kept {bk : Bool} {s0 : State} (s : State) (low : List Nat) (badSpares : Nat) (timeout : Bool) (h0 : Kept bk s0 s) : Kept bk s0 (State.effBankSelftest s low badSpares timeout) := by
  unfold State.effBankSelftest
  repeat' (first | with_reducible assumption | with_reducible apply State.touchAll_kept | with_reducible apply State.testSpares_kept | with_reducible apply State.startNextTest_kept | with_reducible apply State.finishRebuild_kept | with_reducible apply State.failBank_kept | with_reducible apply State.endSelftest_kept | with_reducible apply State.raise_kept | with_reducible apply kept_ite | with_reducible apply kept_ite_fst | (with_reducible refine foldl_kept _ _ ?_ ?_; (on_goal 1 => intro t a ht)) | (with_reducible refine foldl_kept_fst _ _ ?_ ?_; (on_goal 1 => intro t a ht)) | (simp only [kept_mk, keepsF_fold]) | (rename_i heq; obtain rfl := congrArg (fun (p : State × _) => p.1) heq; clear heq) | split)

@[simp] theorem State.restoreAon_kept {bk : Bool} {s0 : State} (s : State) (h0 : Kept bk s0 s) : Kept bk s0 (State.restoreAon s) := by
  unfold State.restoreAon
  repeat' (first | with_reducible assumption | with_reducible apply kept_ite | with_reducible apply kept_ite_fst | (with_reducible refine foldl_kept _ _ ?_ ?_; (on_goal 1 => intro t a ht)) | (with_reducible refine foldl_kept_fst _ _ ?_ ?_; (on_goal 1 => intro t a ht)) | (simp only [kept_mk, keepsF_fold]) | (rename_i heq; obtain rfl := congrArg (fun (p : State × _) => p.1) heq; clear heq) | split)

@[simp] theorem State.levelToll_kept {bk : Bool} {s0 : State} (s : State) (c : Nat) (h0 : Kept bk s0 s) : Kept bk s0 (State.levelToll s c).1 := by
  unfold State.levelToll
  repeat' (first | with_reducible assumption | with_reducible apply State.tollWriteA_kept | with_reducible apply State.tollWriteB_kept | with_reducible apply kept_ite | with_reducible apply kept_ite_fst | (with_reducible refine foldl_kept _ _ ?_ ?_; (on_goal 1 => intro t a ht)) | (with_reducible refine foldl_kept_fst _ _ ?_ ?_; (on_goal 1 => intro t a ht)) | (simp only [kept_mk, keepsF_fold]) | (rename_i heq; obtain rfl := congrArg (fun (p : State × _) => p.1) heq; clear heq) | split)

@[simp] theorem State.levelTolls_kept {bk : Bool} {s0 : State} (s : State) (h0 : Kept bk s0 s) : Kept bk s0 (State.levelTolls s).1 := by
  unfold State.levelTolls
  repeat' (first | with_reducible assumption | with_reducible apply State.levelToll_kept | with_reducible apply kept_ite | with_reducible apply kept_ite_fst | (with_reducible refine foldl_kept _ _ ?_ ?_; (on_goal 1 => intro t a ht)) | (with_reducible refine foldl_kept_fst _ _ ?_ ?_; (on_goal 1 => intro t a ht)) | (simp only [kept_mk, keepsF_fold]) | (rename_i heq; obtain rfl := congrArg (fun (p : State × _) => p.1) heq; clear heq) | split)

@[simp] theorem State.loadCkpt_kept {bk : Bool} {s0 : State} (s : State) (h0 : Kept bk s0 s) : Kept bk s0 (State.loadCkpt s).1 := by
  unfold State.loadCkpt
  first | exact h0 | (simp [h0]; done) | (((repeat' split) <;> simp [*]); done)

@[simp] theorem State.rollForward_kept {bk : Bool} {s0 : State} (s : State) (top : Nat) (h0 : Kept bk s0 s) : Kept bk s0 (State.rollForward s top).1 := by
  unfold State.rollForward
  first | exact h0 | (simp [h0]; done) | (((repeat' split) <;> simp [*]); done)

@[simp] theorem State.rollPart_kept {bk : Bool} {s0 : State} (s : State) (p : Nat) (out : Nat → Bool) (h0 : Kept bk s0 s) : Kept bk s0 (State.rollPart s p out) := by
  unfold State.rollPart
  repeat' (first | with_reducible assumption | with_reducible apply State.modPart_kept | with_reducible apply kept_ite | with_reducible apply kept_ite_fst | (with_reducible refine foldl_kept _ _ ?_ ?_; (on_goal 1 => intro t a ht)) | (with_reducible refine foldl_kept_fst _ _ ?_ ?_; (on_goal 1 => intro t a ht)) | (simp only [kept_mk, keepsF_fold]) | (rename_i heq; obtain rfl := congrArg (fun (p : State × _) => p.1) heq; clear heq) | split)

@[simp] theorem State.undoChanges_kept {bk : Bool} {s0 : State} (s : State) (out : Nat → Bool) (h0 : Kept bk s0 s) : Kept bk s0 (State.undoChanges s out) := by
  unfold State.undoChanges
  have hu : ∀ (p : State × List Nat) (c : ExtChange), Kept bk s0 p.1 → Kept bk s0 (State.undoChange p c out).1 := by
    intro p c hp
    unfold State.undoChange
    dsimp only
    have h1 := State.modPart_kept _ c.part (fun x => { x with used := c.used })
      (State.setCode_kept _ c.part c.ext c.old (State.takeFree_kept _ c.old (State.giveFree_kept p.1 c.new hp)))
    exact h1
  dsimp only
  have h2 := foldl_kept_fst (s.arr.changes.filter (fun c => out c.stroke &&
      !(s.recsOf c.part).any (fun r => r.sector / extSectors == c.ext))).reverse
    (fun p c => State.undoChange p c out) (fun p c hp => hu p c hp) (p := (s, [])) h0
  exact h2

@[simp] theorem State.vacateStored_kept {bk : Bool} {s0 : State} (s : State) (r : Stored) (h0 : Kept bk s0 s) : Kept bk s0 (State.vacateStored s r) := by
  unfold State.vacateStored
  repeat' (first | with_reducible assumption | with_reducible apply State.vacate_kept | with_reducible apply kept_ite | with_reducible apply kept_ite_fst | (with_reducible refine foldl_kept _ _ ?_ ?_; (on_goal 1 => intro t a ht)) | (with_reducible refine foldl_kept_fst _ _ ?_ ?_; (on_goal 1 => intro t a ht)) | (intro t n ht) | (intro t ht) | (simp only [kept_mk, keepsF_fold]) | (rename_i heq; obtain rfl := congrArg (fun (p : State × _) => p.1) heq; clear heq) | split)

@[simp] theorem State.rollBack_kept {bk : Bool} {s0 : State} (s : State) (out : Nat → Bool) (h0 : Kept bk s0 s) : Kept bk s0 (State.rollBack s out).1 := by
  unfold State.rollBack
  repeat' (first | with_reducible assumption | with_reducible apply State.undoChanges_kept | with_reducible apply State.vacateStored_kept | with_reducible apply State.countBy_kept | with_reducible apply State.rollPart_kept | with_reducible apply kept_ite | with_reducible apply kept_ite_fst | (with_reducible refine foldl_kept _ _ ?_ ?_; (on_goal 1 => intro t a ht)) | (with_reducible refine foldl_kept_fst _ _ ?_ ?_; (on_goal 1 => intro t a ht)) | (intro t n ht) | (intro t ht) | (simp only [kept_mk, keepsF_fold]) | (rename_i heq; obtain rfl := congrArg (fun (p : State × _) => p.1) heq; clear heq) | split)

@[simp] theorem State.claim_kept {bk : Bool} {s0 : State} (s : State) (top : Nat) (h0 : Kept bk s0 s) : Kept bk s0 (State.claim s top).1 := by
  unfold State.claim
  first | exact h0 | (simp [h0]; done) | (((repeat' split) <;> simp [*]); done)

@[simp] theorem State.applyEntry_kept {bk : Bool} {s0 : State} (s : State) (e : Entry) (h0 : Kept bk s0 s) : Kept bk s0 (State.applyEntry s e) := by
  unfold State.applyEntry
  repeat' (first | with_reducible assumption | with_reducible apply State.setStream_kept | with_reducible apply State.laterSeq_kept | with_reducible apply kept_ite | with_reducible apply kept_ite_fst | (with_reducible refine foldl_kept _ _ ?_ ?_; (on_goal 1 => intro t a ht)) | (with_reducible refine foldl_kept_fst _ _ ?_ ?_; (on_goal 1 => intro t a ht)) | (simp only [kept_mk, keepsF_fold]) | (rename_i heq; obtain rfl := congrArg (fun (p : State × _) => p.1) heq; clear heq) | split)

@[simp] theorem State.seedInner_kept {bk : Bool} {s0 : State} (s : State) (h0 : Kept bk s0 s) : Kept bk s0 (State.seedInner s) := by
  unfold State.seedInner
  repeat' (first | with_reducible assumption | with_reducible apply State.setSeq_kept | with_reducible apply kept_ite | with_reducible apply kept_ite_fst | (with_reducible refine foldl_kept _ _ ?_ ?_; (on_goal 1 => intro t a ht)) | (with_reducible refine foldl_kept_fst _ _ ?_ ?_; (on_goal 1 => intro t a ht)) | (simp only [kept_mk, keepsF_fold]) | (rename_i heq; obtain rfl := congrArg (fun (p : State × _) => p.1) heq; clear heq) | split)

@[simp] theorem State.rebuildStreams_kept {bk : Bool} {s0 : State} (s : State) (h0 : Kept bk s0 s) : Kept bk s0 (State.rebuildStreams s) := by
  unfold State.rebuildStreams
  repeat' (first | with_reducible assumption | with_reducible apply State.applyEntry_kept | with_reducible apply kept_ite | with_reducible apply kept_ite_fst | (with_reducible refine foldl_kept _ _ ?_ ?_; (on_goal 1 => intro t a ht)) | (with_reducible refine foldl_kept_fst _ _ ?_ ?_; (on_goal 1 => intro t a ht)) | (simp only [kept_mk, keepsF_fold]) | (rename_i heq; obtain rfl := congrArg (fun (p : State × _) => p.1) heq; clear heq) | split)

@[simp] theorem State.fullScan_kept {bk : Bool} {s0 : State} (s : State) (h0 : Kept bk s0 s) : Kept bk s0 (State.fullScan s).1 := by
  unfold State.fullScan
  have h1 := State.levelTolls_kept s h0
  generalize s.levelTolls = p at h1 ⊢
  obtain ⟨t, lv⟩ := p
  dsimp only at h1 ⊢
  have h2 := State.loadCkpt_kept t h1
  generalize t.loadCkpt = q at h2 ⊢
  obtain ⟨u, ck⟩ := q
  dsimp only at h2 ⊢
  have hle := recovered_keeps h2
  generalize u.recoveredStroke = top at hle ⊢
  have h3 : Kept bk s0 (if (!u.strokeBounds.isEmpty) = true then u.rollForward top else (u, false)).1 := by
    split
    · exact State.rollForward_kept u top h2
    · exact h2
  generalize (if (!u.strokeBounds.isEmpty) = true then u.rollForward top else (u, false)) = r at h3 ⊢
  obtain ⟨v, half⟩ := r
  dsimp only at h3 ⊢
  generalize hf : (fun n => decide (top < n) || (if (!u.strokeBounds.isEmpty) = true then [] else u.halfStrokes).contains n) = f
  have h5 := State.rollBack_kept v f h3
  generalize v.rollBack f = r at h5 ⊢
  obtain ⟨x, gone⟩ := r
  dsimp only at h5 ⊢
  have h6 := State.claim_kept x top h5
  generalize x.claim top = r at h6 ⊢
  obtain ⟨y, brk⟩ := r
  dsimp only at h6 ⊢
  exact State.rebuildStreams_kept _ (setShadow_keeps h6 hle)

@[simp] theorem State.fastScan_kept {bk : Bool} {s0 : State} (s : State) (retained : Bool) (h0 : Kept bk s0 s) : Kept bk s0 (State.fastScan s retained).1 := by
  unfold State.fastScan
  have h2 := State.loadCkpt_kept s h0
  generalize s.loadCkpt = q at h2 ⊢
  obtain ⟨u, ck⟩ := q
  dsimp only at h2 ⊢
  have hle := recovered_keeps h2
  generalize u.recoveredStroke = top at hle ⊢
  split
  · exact setShadow_keeps h2 hle
  · have h5 := State.rollBack_kept u (fun n => top < n) h2
    generalize u.rollBack (fun n => top < n) = r at h5 ⊢
    obtain ⟨x, gone⟩ := r
    dsimp only at h5 ⊢
    exact State.rebuildStreams_kept _ (setShadow_keeps h5 hle)

@[simp] theorem State.recover_kept {bk : Bool} {s0 : State} (s : State) (f : StartFacts) (h0 : Kept bk s0 s) : Kept bk s0 (State.recover s f).1 := by
  unfold State.recover
  repeat' (first | with_reducible assumption | with_reducible apply State.fastScan_kept | with_reducible apply State.fullScan_kept | with_reducible apply State.seedInner_kept | with_reducible apply kept_ite | with_reducible apply kept_ite_fst | (with_reducible refine foldl_kept _ _ ?_ ?_; (on_goal 1 => intro t a ht)) | (with_reducible refine foldl_kept_fst _ _ ?_ ?_; (on_goal 1 => intro t a ht)) | (simp only [kept_mk, keepsF_fold]) | (rename_i heq; obtain rfl := congrArg (fun (p : State × _) => p.1) heq; clear heq) | split)

@[simp] theorem State.deriveSlots_kept {bk : Bool} {s0 : State} (s : State) (h0 : Kept bk s0 s) : Kept bk s0 (State.deriveSlots s) := by
  unfold State.deriveSlots
  first | exact h0 | (simp [h0]; done) | (((repeat' split) <;> simp [*]); done)

@[simp] theorem State.reloadLast_kept {bk : Bool} {s0 : State} (s : State) (h0 : Kept bk s0 s) : Kept bk s0 (State.reloadLast s) := by
  unfold State.reloadLast
  repeat' (first | with_reducible assumption | with_reducible apply kept_ite | with_reducible apply kept_ite_fst | (with_reducible refine foldl_kept _ _ ?_ ?_; (on_goal 1 => intro t a ht)) | (with_reducible refine foldl_kept_fst _ _ ?_ ?_; (on_goal 1 => intro t a ht)) | (simp only [kept_mk, keepsF_fold]) | (rename_i heq; obtain rfl := congrArg (fun (p : State × _) => p.1) heq; clear heq) | split)

@[simp] theorem State.cutKnell_kept {bk : Bool} {s0 : State} (s : State) (h0 : Kept bk s0 s) : Kept bk s0 (State.cutKnell s) := by
  unfold State.cutKnell
  first | exact h0 | (simp [h0]; done) | (((repeat' split) <;> simp [*]); done)

@[simp] theorem State.readKeys_kept {bk : Bool} {s0 : State} (s : State) (h0 : Kept bk s0 s) : Kept bk s0 (State.readKeys s) := by
  unfold State.readKeys
  repeat' (first | with_reducible assumption | with_reducible apply State.auditSelf_kept | with_reducible apply State.raise_kept | with_reducible apply kept_ite | with_reducible apply kept_ite_fst | (with_reducible refine foldl_kept _ _ ?_ ?_; (on_goal 1 => intro t a ht)) | (with_reducible refine foldl_kept_fst _ _ ?_ ?_; (on_goal 1 => intro t a ht)) | (simp only [kept_mk, keepsF_fold]) | (rename_i heq; obtain rfl := congrArg (fun (p : State × _) => p.1) heq; clear heq) | split)

@[simp] theorem State.completeOwner_kept {bk : Bool} {s0 : State} (s : State) (h0 : Kept bk s0 s) : Kept bk s0 (State.completeOwner s) := by
  unfold State.completeOwner
  repeat' (first | with_reducible assumption | with_reducible apply State.raise_kept | with_reducible apply State.auditSelf_kept | with_reducible apply State.tollUpdate_kept | with_reducible apply kept_ite | with_reducible apply kept_ite_fst | (with_reducible refine foldl_kept _ _ ?_ ?_; (on_goal 1 => intro t a ht)) | (with_reducible refine foldl_kept_fst _ _ ?_ ?_; (on_goal 1 => intro t a ht)) | (simp only [kept_mk, keepsF_fold]) | (rename_i heq; obtain rfl := congrArg (fun (p : State × _) => p.1) heq; clear heq) | split)

@[simp] theorem State.compareShadow_kept {bk : Bool} {s0 : State} (s : State) (h0 : Kept bk s0 s) : Kept bk s0 (State.compareShadow s) := by
  unfold State.compareShadow
  first | exact h0 | (simp [h0]; done) | (((repeat' split) <;> simp [*]); done)

@[simp] theorem State.runRecovery_kept {bk : Bool} {s0 : State} (s : State) (f : StartFacts) (h0 : Kept bk s0 s) : Kept bk s0 (State.runRecovery s f).1 := by
  unfold State.runRecovery
  repeat' (first | with_reducible assumption | with_reducible apply State.tollUpdate_kept | with_reducible apply State.recover_kept | with_reducible apply State.raise_kept | with_reducible apply State.replayJournal_kept | with_reducible apply State.compareShadow_kept | with_reducible apply State.deriveSlots_kept | with_reducible apply kept_ite | with_reducible apply kept_ite_fst | (with_reducible refine foldl_kept _ _ ?_ ?_; (on_goal 1 => intro t a ht)) | (with_reducible refine foldl_kept_fst _ _ ?_ ?_; (on_goal 1 => intro t a ht)) | (simp only [kept_mk, keepsF_fold]) | (rename_i heq; obtain rfl := congrArg (fun (p : State × _) => p.1) heq; clear heq) | split)

@[simp] theorem State.clearImages_kept {bk : Bool} {s0 : State} (s : State) (base : Nat) (h0 : Kept bk s0 s) : Kept bk s0 (State.clearImages s base) := by
  unfold State.clearImages
  repeat' (first | with_reducible assumption | with_reducible apply State.touchAll_kept | with_reducible apply State.stampEpoch_kept | with_reducible apply State.setCode_kept | with_reducible apply State.takeFree_kept | with_reducible apply State.journal_kept | with_reducible apply kept_ite | with_reducible apply kept_ite_fst | (with_reducible refine foldl_kept _ _ ?_ ?_; (on_goal 1 => intro t a ht)) | (with_reducible refine foldl_kept_fst _ _ ?_ ?_; (on_goal 1 => intro t a ht)) | (simp only [kept_mk, keepsF_fold]) | (rename_i heq; obtain rfl := congrArg (fun (p : State × _) => p.1) heq; clear heq) | split)

@[simp] theorem State.fixImages_kept {bk : Bool} {s0 : State} (s : State) (base : Nat) (h0 : Kept bk s0 s) : Kept bk s0 (State.fixImages s base) := by
  unfold State.fixImages
  repeat' (first | with_reducible assumption | with_reducible apply State.takeFree_kept | with_reducible apply State.stampEpoch_kept | with_reducible apply kept_ite | with_reducible apply kept_ite_fst | (with_reducible refine foldl_kept _ _ ?_ ?_; (on_goal 1 => intro t a ht)) | (with_reducible refine foldl_kept_fst _ _ ?_ ?_; (on_goal 1 => intro t a ht)) | (intro t n ht) | (intro t ht) | (simp only [kept_mk, keepsF_fold]) | (rename_i heq; obtain rfl := congrArg (fun (p : State × _) => p.1) heq; clear heq) | split)

@[simp] theorem State.placePart_kept {bk : Bool} {s0 : State} (s : State) (p : Nat) (h0 : Kept bk s0 s) : Kept bk s0 (State.placePart s p) := by
  unfold State.placePart
  repeat' (first | with_reducible assumption | with_reducible apply State.setCode_kept | with_reducible apply State.takeFree_kept | with_reducible apply State.stampEpoch_kept | with_reducible apply kept_ite | with_reducible apply kept_ite_fst | (with_reducible refine foldl_kept _ _ ?_ ?_; (on_goal 1 => intro t a ht)) | (with_reducible refine foldl_kept_fst _ _ ?_ ?_; (on_goal 1 => intro t a ht)) | (simp only [kept_mk, keepsF_fold]) | (rename_i heq; obtain rfl := congrArg (fun (p : State × _) => p.1) heq; clear heq) | split)

@[simp] theorem State.applyMap_kept {bk : Bool} {s0 : State} (s : State) (sizes : List Nat) (h0 : Kept bk s0 s) : Kept bk s0 (State.applyMap s sizes).1 := by
  unfold State.applyMap
  repeat' (first | with_reducible assumption | with_reducible apply State.fixImages_kept | with_reducible apply State.clearImages_kept | with_reducible apply State.placePart_kept | with_reducible apply State.tollUpdate_kept | with_reducible apply State.fixShadow_kept | with_reducible apply State.deriveSlots_kept | with_reducible apply kept_ite | with_reducible apply kept_ite_fst | (with_reducible refine foldl_kept _ _ ?_ ?_; (on_goal 1 => intro t a ht)) | (with_reducible refine foldl_kept_fst _ _ ?_ ?_; (on_goal 1 => intro t a ht)) | (intro t n ht) | (intro t ht) | (simp only [kept_mk, keepsF_fold]) | (rename_i heq; obtain rfl := congrArg (fun (p : State × _) => p.1) heq; clear heq) | split)

@[simp] theorem State.takeMap_kept {bk : Bool} {s0 : State} (s : State) (device : Bool) (h0 : Kept bk s0 s) : Kept bk s0 (State.takeMap s device).1 := by
  unfold State.takeMap
  repeat' (first | with_reducible assumption | with_reducible apply State.applyMap_kept | with_reducible apply kept_ite | with_reducible apply kept_ite_fst | (with_reducible refine foldl_kept _ _ ?_ ?_; (on_goal 1 => intro t a ht)) | (with_reducible refine foldl_kept_fst _ _ ?_ ?_; (on_goal 1 => intro t a ht)) | (simp only [kept_mk, keepsF_fold]) | (rename_i heq; obtain rfl := congrArg (fun (p : State × _) => p.1) heq; clear heq) | split)

@[simp] theorem State.recordMap_kept {bk : Bool} {s0 : State} (s : State) (m : Option (Nat × BitVec 16 × List Nat × List Nat)) (h0 : Kept bk s0 s) : Kept bk s0 (State.recordMap s m) := by
  unfold State.recordMap
  first | exact h0 | (simp [h0]; done) | (((repeat' split) <;> simp [*]); done)

@[simp] theorem State.clearCore_kept {bk : Bool} {s0 : State} (s : State) (h0 : Kept bk s0 s) : Kept bk s0 (State.clearCore s).1 := by
  unfold State.clearCore
  repeat' (first | with_reducible assumption | with_reducible apply State.resetRegs_kept | with_reducible apply State.abandon_kept | with_reducible apply kept_ite | with_reducible apply kept_ite_fst | (with_reducible refine foldl_kept _ _ ?_ ?_; (on_goal 1 => intro t a ht)) | (with_reducible refine foldl_kept_fst _ _ ?_ ?_; (on_goal 1 => intro t a ht)) | (simp only [kept_mk, keepsF_fold]) | (rename_i heq; obtain rfl := congrArg (fun (p : State × _) => p.1) heq; clear heq) | split)

@[simp] theorem State.forgetTests_kept {bk : Bool} {s0 : State} (s : State) (h0 : Kept bk s0 s) : Kept bk s0 (State.forgetTests s) := by
  unfold State.forgetTests
  repeat' (first | with_reducible assumption | with_reducible apply kept_ite | with_reducible apply kept_ite_fst | (with_reducible refine foldl_kept _ _ ?_ ?_; (on_goal 1 => intro t a ht)) | (with_reducible refine foldl_kept_fst _ _ ?_ ?_; (on_goal 1 => intro t a ht)) | (intro t n ht) | (intro t ht) | (simp only [kept_mk, keepsF_fold]) | (rename_i heq; obtain rfl := congrArg (fun (p : State × _) => p.1) heq; clear heq) | split)

@[simp] theorem State.deviceClear_kept {s0 : State} (s : State) (h0 : Kept false s0 s) : Kept false s0 (State.deviceClear s) := by
  unfold State.deviceClear
  repeat' (first | with_reducible assumption | with_reducible apply State.closeAllCtx_kept | with_reducible apply State.resetRegs_kept | with_reducible apply State.stopField_kept | with_reducible apply State.resetGuards_kept | with_reducible apply State.forgetTests_kept | (with_reducible refine keepsF_drop ?_) | (with_reducible refine keepsF_clear ?_) | with_reducible apply kept_ite | with_reducible apply kept_ite_fst | (with_reducible refine foldl_kept _ _ ?_ ?_; (on_goal 1 => intro t a ht)) | (with_reducible refine foldl_kept_fst _ _ ?_ ?_; (on_goal 1 => intro t a ht)) | (intro t n ht) | (intro t ht) | (simp only [kept_mk, keepsF_fold]) | (rename_i heq; obtain rfl := congrArg (fun (p : State × _) => p.1) heq; clear heq) | split)

@[simp] theorem State.aonClear_kept {s0 : State} (s : State) (h0 : Kept false s0 s) : Kept false s0 (State.aonClear s) := by
  unfold State.aonClear
  repeat' (first | with_reducible assumption | with_reducible apply State.cutKnell_kept | with_reducible apply State.stopField_kept | with_reducible apply State.resetRegs_kept | with_reducible apply State.reloadLast_kept | with_reducible apply State.deriveSlots_kept | with_reducible apply State.forgetTests_kept | with_reducible apply State.raise_kept | with_reducible apply State.restoreAon_kept | (with_reducible refine keepsF_drop ?_) | (with_reducible refine keepsF_clear ?_) | with_reducible apply kept_ite | with_reducible apply kept_ite_fst | (with_reducible refine foldl_kept _ _ ?_ ?_; (on_goal 1 => intro t a ht)) | (with_reducible refine foldl_kept_fst _ _ ?_ ?_; (on_goal 1 => intro t a ht)) | (intro t n ht) | (intro t ht) | (simp only [kept_mk, keepsF_fold]) | (rename_i heq; obtain rfl := congrArg (fun (p : State × _) => p.1) heq; clear heq) | split)

@[simp] theorem State.blankShadow_kept {s0 : State} (s : State) (h0 : Kept false s0 s) : Kept false s0 (State.blankShadow s) := by
  exact ⟨h0.1, h0.2.1, fun _ => ⟨rfl, rfl, Or.inr rfl⟩, fun hb => by cases hb⟩

@[simp] theorem State.shadowFromArray_kept {s0 : State} (s : State) (h0 : Kept false s0 s) : Kept false s0 (State.shadowFromArray s) := by
  unfold State.shadowFromArray
  split
  · exact h0
  · exact setShadow_keeps h0 (fun hb => by cases hb)

@[simp] theorem State.loseTime_kept {s0 : State} (s : State) (h0 : Kept false s0 s) : Kept false s0 (State.loseTime s) := by
  unfold State.loseTime
  repeat' (first | with_reducible assumption | with_reducible apply State.shadowFromArray_kept | with_reducible apply State.blankShadow_kept | with_reducible apply State.raise_kept | with_reducible apply kept_ite | with_reducible apply kept_ite_fst | (with_reducible refine foldl_kept _ _ ?_ ?_; (on_goal 1 => intro t a ht)) | (with_reducible refine foldl_kept_fst _ _ ?_ ?_; (on_goal 1 => intro t a ht)) | (intro t n ht) | (intro t ht) | (simp only [kept_mk, keepsF_fold]) | (rename_i heq; obtain rfl := congrArg (fun (p : State × _) => p.1) heq; clear heq) | split)

@[simp] theorem State.commitBreaks_kept {bk : Bool} {s0 : State} (s : State) (breaks : List (Nat × Nat)) (h0 : Kept bk s0 s) : Kept bk s0 (State.commitBreaks s breaks) := by
  unfold State.commitBreaks
  repeat' (first | with_reducible assumption | with_reducible apply State.createNow_kept | with_reducible apply kept_ite | with_reducible apply kept_ite_fst | (with_reducible refine foldl_kept _ _ ?_ ?_; (on_goal 1 => intro t a ht)) | (with_reducible refine foldl_kept_fst _ _ ?_ ?_; (on_goal 1 => intro t a ht)) | (simp only [kept_mk, keepsF_fold]) | (rename_i heq; obtain rfl := congrArg (fun (p : State × _) => p.1) heq; clear heq) | split)

@[simp] theorem State.commitBoots_kept {bk : Bool} {s0 : State} (s : State) (f : DarkFacts) (h0 : Kept bk s0 s) : Kept bk s0 (State.commitBoots s f) := by
  unfold State.commitBoots
  repeat' (first | with_reducible assumption | with_reducible apply State.commitBreaks_kept | with_reducible apply State.createNow_kept | with_reducible apply kept_ite | with_reducible apply kept_ite_fst | (with_reducible refine foldl_kept _ _ ?_ ?_; (on_goal 1 => intro t a ht)) | (with_reducible refine foldl_kept_fst _ _ ?_ ?_; (on_goal 1 => intro t a ht)) | (simp only [kept_mk, keepsF_fold]) | (rename_i heq; obtain rfl := congrArg (fun (p : State × _) => p.1) heq; clear heq) | split)

@[simp] theorem State.markAtBoot_kept {bk : Bool} {s0 : State} (s : State) (h0 : Kept bk s0 s) : Kept bk s0 (State.markAtBoot s) := by
  unfold State.markAtBoot
  first | exact h0 | (simp [h0]; done) | (((repeat' split) <;> simp [*]); done)

@[simp] theorem State.repeatRebuild_kept {bk : Bool} {s0 : State} (s : State) (h0 : Kept bk s0 s) : Kept bk s0 (State.repeatRebuild s) := by
  unfold State.repeatRebuild
  repeat' (first | with_reducible assumption | with_reducible apply State.finishRebuild_kept | with_reducible apply State.rebuild_kept | with_reducible apply kept_ite | with_reducible apply kept_ite_fst | (with_reducible refine foldl_kept _ _ ?_ ?_; (on_goal 1 => intro t a ht)) | (with_reducible refine foldl_kept_fst _ _ ?_ ?_; (on_goal 1 => intro t a ht)) | (simp only [kept_mk, keepsF_fold]) | (rename_i heq; obtain rfl := congrArg (fun (p : State × _) => p.1) heq; clear heq) | split)

@[simp] theorem State.wireUp_kept {bk : Bool} {s0 : State} (s : State) (h0 : Kept bk s0 s) : Kept bk s0 (State.wireUp s) := by
  unfold State.wireUp
  apply State.entPower_kept
  apply State.wakeLink_kept
  apply State.wakeArray_kept
  apply State.setDom_kept
  have h1 : Kept bk s0 (if s.pwr.step = 0 then s else s.raise 0x070 4) := kept_ite _ _ _ _ _ h0 (State.raise_kept s _ _ h0)
  have h2 : (if s.pwr.step = 0 then s else s.raise 0x070 4).cmt = s.cmt ∧ (if s.pwr.step = 0 then s else s.raise 0x070 4).pending = s.pending := by
    split
    · exact ⟨rfl, rfl⟩
    · unfold State.raise State.raiseBits
      dsimp only
      repeat' split
      all_goals exact ⟨rfl, rfl⟩
  dsimp only
  unfold Kept at h1
  rw [h2.1, h2.2] at h1
  exact h1

@[simp] theorem State.wiredStart_kept {bk : Bool} {s0 : State} (s : State) (f : StartFacts) (h0 : Kept bk s0 s) : Kept bk s0 (State.wiredStart s f) := by
  unfold State.wiredStart
  repeat' (first | with_reducible assumption | with_reducible apply State.wireUp_kept | with_reducible apply State.runRecovery_kept | with_reducible apply State.takeMap_kept | with_reducible apply State.recordMap_kept | with_reducible apply State.commitBoots_kept | with_reducible apply State.markAtBoot_kept | with_reducible apply State.completeSlots_kept | with_reducible apply State.takeCkpt_kept | with_reducible apply State.completeOwner_kept | with_reducible apply State.readKeys_kept | with_reducible apply State.raise_kept | with_reducible apply State.queueCons_kept | with_reducible apply State.repeatRebuild_kept | with_reducible apply State.snareWake_kept | with_reducible apply State.checkWear_kept | with_reducible apply State.wakePinned_kept | with_reducible apply State.startNextTest_kept | with_reducible apply State.serveAll_kept | with_reducible apply kept_ite | with_reducible apply kept_ite_fst | (with_reducible refine foldl_kept _ _ ?_ ?_; (on_goal 1 => intro t a ht)) | (with_reducible refine foldl_kept_fst _ _ ?_ ?_; (on_goal 1 => intro t a ht)) | (simp only [kept_mk, keepsF_fold]) | (rename_i heq; obtain rfl := congrArg (fun (p : State × _) => p.1) heq; clear heq) | split)

@[simp] theorem State.darkStart_kept {bk : Bool} {s0 : State} (s : State) (f : StartFacts) (h0 : Kept bk s0 s) : Kept bk s0 (State.darkStart s f) := by
  unfold State.darkStart
  repeat' (first | with_reducible assumption | with_reducible apply State.runRecovery_kept | with_reducible apply State.wakeArray_kept | with_reducible apply State.takeMap_kept | with_reducible apply State.recordMap_kept | with_reducible apply State.serveAll_kept | with_reducible apply State.queueCons_kept | with_reducible apply State.repeatRebuild_kept | with_reducible apply State.completeOwner_kept | with_reducible apply State.readKeys_kept | with_reducible apply kept_ite | with_reducible apply kept_ite_fst | (with_reducible refine foldl_kept _ _ ?_ ?_; (on_goal 1 => intro t a ht)) | (with_reducible refine foldl_kept_fst _ _ ?_ ?_; (on_goal 1 => intro t a ht)) | (intro t n ht) | (intro t ht) | (simp only [kept_mk, keepsF_fold]) | (rename_i heq; obtain rfl := congrArg (fun (p : State × _) => p.1) heq; clear heq) | split)

@[simp] theorem State.deferStart_kept {bk : Bool} {s0 : State} (s : State) (f : StartFacts) (h0 : Kept bk s0 s) : Kept bk s0 (State.deferStart s f) := by
  unfold State.deferStart
  first | exact h0 | (simp [h0]; done) | (((repeat' split) <;> simp [*]); done)

@[simp] theorem State.startUp_kept {bk : Bool} {s0 : State} (s : State) (f : StartFacts) (h0 : Kept bk s0 s) : Kept bk s0 (State.startUp s f) := by
  unfold State.startUp
  first | exact h0 | (simp [h0]; done) | (((repeat' split) <;> simp [*]); done)

@[simp] theorem State.supplyUp_kept {bk : Bool} {s0 : State} (s : State) (vaux : Bool) (src : Nat) (h0 : Kept bk s0 s) : Kept bk s0 (State.supplyUp s vaux src) := by
  unfold State.supplyUp
  first | exact h0 | (simp [h0]; done) | (((repeat' split) <;> simp [*]); done)

@[simp] theorem State.keepField_kept {bk : Bool} {s0 : State} (t : State) (s : State) (h0 : Kept bk s0 s) : Kept bk s0 (State.keepField t s) := by
  unfold State.keepField
  split
  · exact h0
  · dsimp only
    apply State.feedField_kept
    apply State.raise_kept
    apply State.raise_kept
    exact h0

@[simp] theorem State.effPowerOn_kept {s0 : State} (s : State) (vaux : Bool) (src : Nat) (h0 : Kept false s0 s) : Kept false s0 (State.effPowerOn s vaux src) := by
  unfold State.effPowerOn
  repeat' (first | with_reducible assumption | with_reducible apply State.clearCore_kept | with_reducible apply State.loseTime_kept | with_reducible apply State.aonClear_kept | with_reducible apply State.keepField_kept | with_reducible apply State.supplyUp_kept | with_reducible apply State.startUp_kept | with_reducible apply kept_ite | with_reducible apply kept_ite_fst | (with_reducible refine foldl_kept _ _ ?_ ?_; (on_goal 1 => intro t a ht)) | (with_reducible refine foldl_kept_fst _ _ ?_ ?_; (on_goal 1 => intro t a ht)) | (simp only [kept_mk, keepsF_fold]) | (rename_i heq; obtain rfl := congrArg (fun (p : State × _) => p.1) heq; clear heq) | split)

@[simp] theorem State.effVauxReturn_kept {bk : Bool} {s0 : State} (s : State) (h0 : Kept bk s0 s) : Kept bk s0 (State.effVauxReturn s) := by
  unfold State.effVauxReturn
  repeat' (first | with_reducible assumption | with_reducible apply State.fixMode_kept | with_reducible apply State.wakePinned_kept | with_reducible apply State.feedField_kept | with_reducible apply State.clearCore_kept | with_reducible apply State.wiredStart_kept | with_reducible apply kept_ite | with_reducible apply kept_ite_fst | (with_reducible refine foldl_kept _ _ ?_ ?_; (on_goal 1 => intro t a ht)) | (with_reducible refine foldl_kept_fst _ _ ?_ ?_; (on_goal 1 => intro t a ht)) | (simp only [kept_mk, keepsF_fold]) | (rename_i heq; obtain rfl := congrArg (fun (p : State × _) => p.1) heq; clear heq) | split)

@[simp] theorem State.effCutoffExit_kept {s0 : State} (s : State) (src : Nat) (h0 : Kept false s0 s) : Kept false s0 (State.effCutoffExit s src) := by
  unfold State.effCutoffExit
  repeat' (first | with_reducible assumption | with_reducible apply State.clearCore_kept | with_reducible apply State.aonClear_kept | with_reducible apply State.loseTime_kept | with_reducible apply State.keepField_kept | with_reducible apply State.supplyUp_kept | with_reducible apply State.raise_kept | with_reducible apply State.startUp_kept | with_reducible apply kept_ite | with_reducible apply kept_ite_fst | (with_reducible refine foldl_kept _ _ ?_ ?_; (on_goal 1 => intro t a ht)) | (with_reducible refine foldl_kept_fst _ _ ?_ ?_; (on_goal 1 => intro t a ht)) | (simp only [kept_mk, keepsF_fold]) | (rename_i heq; obtain rfl := congrArg (fun (p : State × _) => p.1) heq; clear heq) | split)

@[simp] theorem State.effResetAssert_kept {bk : Bool} {s0 : State} (s : State) (h0 : Kept bk s0 s) : Kept bk s0 (State.effResetAssert s) := by
  unfold State.effResetAssert
  first | exact h0 | (simp [h0]; done) | (((repeat' split) <;> simp [*]); done)

@[simp] theorem State.effPinReset_kept {s0 : State} (s : State) (h0 : Kept false s0 s) : Kept false s0 (State.effPinReset s) := by
  unfold State.effPinReset
  repeat' (first | with_reducible assumption | with_reducible apply State.clearCore_kept | with_reducible apply State.deviceClear_kept | with_reducible apply State.startUp_kept | with_reducible apply kept_ite | with_reducible apply kept_ite_fst | (with_reducible refine foldl_kept _ _ ?_ ?_; (on_goal 1 => intro t a ht)) | (with_reducible refine foldl_kept_fst _ _ ?_ ?_; (on_goal 1 => intro t a ht)) | (simp only [kept_mk, keepsF_fold]) | (rename_i heq; obtain rfl := congrArg (fun (p : State × _) => p.1) heq; clear heq) | split)

@[simp] theorem State.effKeyedReset_kept {s0 : State} (s : State) (h0 : Kept false s0 s) : Kept false s0 (State.effKeyedReset s) := by
  unfold State.effKeyedReset
  repeat' (first | with_reducible assumption | with_reducible apply State.beginKeyedStop_kept | with_reducible apply State.passKeyedAudit_kept | with_reducible apply State.saveNow_kept | with_reducible apply State.clearCore_kept | with_reducible apply State.deviceClear_kept | with_reducible apply State.startUp_kept | with_reducible apply kept_ite | with_reducible apply kept_ite_fst | (with_reducible refine foldl_kept _ _ ?_ ?_; (on_goal 1 => intro t a ht)) | (with_reducible refine foldl_kept_fst _ _ ?_ ?_; (on_goal 1 => intro t a ht)) | (simp only [kept_mk, keepsF_fold]) | (rename_i heq; obtain rfl := congrArg (fun (p : State × _) => p.1) heq; clear heq) | split)

@[simp] theorem State.effDarkStartup_kept {bk : Bool} {s0 : State} (s : State) (h0 : Kept bk s0 s) : Kept bk s0 (State.effDarkStartup s) := by
  unfold State.effDarkStartup
  first | exact h0 | (simp [h0]; done) | (((repeat' split) <;> simp [*]); done)

@[simp] theorem State.shipMode_kept {bk : Bool} {s0 : State} (s : State) (h0 : Kept bk s0 s) : Kept bk s0 (State.shipMode s) := by
  unfold State.shipMode
  repeat' (first | with_reducible assumption | with_reducible apply State.fixMode_kept | with_reducible apply State.losePower_kept | with_reducible apply State.stopHarv_kept | with_reducible apply kept_ite | with_reducible apply kept_ite_fst | (with_reducible refine foldl_kept _ _ ?_ ?_; (on_goal 1 => intro t a ht)) | (with_reducible refine foldl_kept_fst _ _ ?_ ?_; (on_goal 1 => intro t a ht)) | (simp only [kept_mk, keepsF_fold]) | (rename_i heq; obtain rfl := congrArg (fun (p : State × _) => p.1) heq; clear heq) | split)

@[simp] theorem State.enterCutoff_kept {bk : Bool} {s0 : State} (s : State) (h0 : Kept bk s0 s) : Kept bk s0 (State.enterCutoff s) := by
  unfold State.enterCutoff
  repeat' (first | with_reducible assumption | with_reducible apply State.stopField_kept | with_reducible apply State.gateMost_kept | with_reducible apply kept_ite | with_reducible apply kept_ite_fst | (with_reducible refine foldl_kept _ _ ?_ ?_; (on_goal 1 => intro t a ht)) | (with_reducible refine foldl_kept_fst _ _ ?_ ?_; (on_goal 1 => intro t a ht)) | (simp only [kept_mk, keepsF_fold]) | (rename_i heq; obtain rfl := congrArg (fun (p : State × _) => p.1) heq; clear heq) | split)

@[simp] theorem State.effLongDarknessCutoff_kept {bk : Bool} {s0 : State} (s : State) (h0 : Kept bk s0 s) : Kept bk s0 (State.effLongDarknessCutoff s) := by
  unfold State.effLongDarknessCutoff
  repeat' (first | with_reducible assumption | with_reducible apply State.darkStart_kept | with_reducible apply State.queueCons_kept | with_reducible apply State.dropAll_kept | with_reducible apply State.enterCutoff_kept | with_reducible apply State.keepAlive_kept | with_reducible apply State.commitBatch_kept | with_reducible apply kept_ite | with_reducible apply kept_ite_fst | (with_reducible refine foldl_kept _ _ ?_ ?_; (on_goal 1 => intro t a ht)) | (with_reducible refine foldl_kept_fst _ _ ?_ ?_; (on_goal 1 => intro t a ht)) | (simp only [kept_mk, keepsF_fold]) | (rename_i heq; obtain rfl := congrArg (fun (p : State × _) => p.1) heq; clear heq) | split)

@[simp] theorem State.liveAir_kept {bk : Bool} {s0 : State} (s : State) (f : State → State) (h_f : ∀ t, Kept bk s0 t → Kept bk s0 (f t)) (h0 : Kept bk s0 s) : Kept bk s0 (State.liveAir s f) := by
  unfold State.liveAir
  first | exact h0 | (simp [h0]; done) | (((repeat' split) <;> simp [*]); done)

@[simp] theorem asked_kept {bk : Bool} {s0 : State} (s : State) (h : MgmtHdr) (h0 : Kept bk s0 s) : Kept bk s0 (asked s h) := by
  unfold asked
  repeat' (first | with_reducible assumption | with_reducible apply State.takeDone_kept | with_reducible apply State.wakeCore_kept | with_reducible apply State.touchSession_kept | with_reducible apply State.served_kept | with_reducible apply State.releaseCredits_kept | with_reducible apply State.boundary_kept | with_reducible apply kept_ite | with_reducible apply kept_ite_fst | (with_reducible refine foldl_kept _ _ ?_ ?_; (on_goal 1 => intro t a ht)) | (with_reducible refine foldl_kept_fst _ _ ?_ ?_; (on_goal 1 => intro t a ht)) | (simp only [kept_mk, keepsF_fold]) | (rename_i heq; obtain rfl := congrArg (fun (p : State × _) => p.1) heq; clear heq) | split)

end Sys2Proof.Machine
end

