-- ==== Sys2Proof/Laws/Exec.lean ====
section
/-! SUPPORT. What every command keeps, in one lemma over exec. -/

set_option Elab.async false

namespace Sys2Proof.Machine

/-- A running tag keeps what the effect keeps; a tag that does not run keeps everything. -/
theorem live_kept {bk : Bool} (s : State) (f : State → State) (h : Kept bk s (f s)) : Kept bk s (s.live f) := by
  unfold State.live; exact kept_ite _ _ _ _ _ (Kept.refl _ _) h

/-- The same of a command of the field, which the field tank can also feed. -/
theorem liveAir_kept {bk : Bool} (s : State) (f : State → State) (h : Kept bk s (f s)) : Kept bk s (s.liveAir f) := by
  unfold State.liveAir; exact kept_ite _ _ _ _ _ (Kept.refl _ _) h

/-- Every command keeps the queue, the canonical form of the register maps and the soundness of the
shadow; one that does not start the tag anew also keeps the toll and GLB_LOCK. -/
theorem exec_kept (c : Instr) (s t : State) (h : exec c s = .next t) : Kept (!startsAnew c) s t := by
  cases c
  case dataPacket =>
    cases h; apply live_kept; apply State.serveAll_kept; apply State.wakeDrum_kept
    exact State.effDataPacket_kept _ _ _ _ _ _ _ (Kept.refl _ _)
  case badPacket =>
    cases h; apply live_kept; apply State.serveAll_kept; apply State.wakeDrum_kept
    exact State.effBadPacket_kept _ _ _ _ (Kept.refl _ _)
  case sectorPulseDone =>
    cases h; apply live_kept; apply State.reach_kept; apply State.finishRebuild_kept
    exact State.effSectorPulseDone_kept _ _ _ (Kept.refl _ _)
  case bankFail =>
    cases h; apply live_kept; apply State.reach_kept; apply State.finishRebuild_kept
    exact State.effBankFail_kept _ _ (Kept.refl _ _)
  case dirWaitExpiry =>
    cases h; apply live_kept; apply State.reach_kept; apply State.serveAll_kept
    exact State.effDirWaitExpiry_kept _ (Kept.refl _ _)
  case kIndex =>
    cases h; apply live_kept; apply State.reach_kept; apply State.shipMode_kept
    exact State.effKIndex_kept _ (Kept.refl _ _)
  all_goals (cases h; first
    | (apply live_kept; simp [startsAnew, Kept.refl])
    | (apply liveAir_kept; simp [startsAnew, Kept.refl])
    | (simp [startsAnew, Kept.refl]))

end Sys2Proof.Machine
end

