-- ==== Sys2Proof/Laws/State.lean ====
section
/-! SUPPORT. One lemma for each field of State and each update that later proofs meet, and what the register maps answer after a write. -/

namespace Sys2Proof.Machine

@[simp] theorem State.setReg_clk (s : State) (o : Nat) (v : Word) : (s.setReg o v).clk = s.clk := rfl
@[simp] theorem State.setReg_arr (s : State) (o : Nat) (v : Word) : (s.setReg o v).arr = s.arr := rfl
@[simp] theorem State.setReg_cmt (s : State) (o : Nat) (v : Word) : (s.setReg o v).cmt = s.cmt := rfl
@[simp] theorem State.setReg_kn (s : State) (o : Nat) (v : Word) : (s.setReg o v).kn = s.kn := rfl
@[simp] theorem State.setReg_pwr (s : State) (o : Nat) (v : Word) : (s.setReg o v).pwr = s.pwr := rfl
@[simp] theorem State.setReg_stm (s : State) (o : Nat) (v : Word) : (s.setReg o v).stm = s.stm := rfl
@[simp] theorem State.setReg_lnk (s : State) (o : Nat) (v : Word) : (s.setReg o v).lnk = s.lnk := rfl
@[simp] theorem State.setReg_peal (s : State) (o : Nat) (v : Word) : (s.setReg o v).peal = s.peal := rfl
@[simp] theorem State.setReg_fld (s : State) (o : Nat) (v : Word) : (s.setReg o v).fld = s.fld := rfl
@[simp] theorem State.setReg_fldx (s : State) (o : Nat) (v : Word) : (s.setReg o v).fldx = s.fldx := rfl
@[simp] theorem State.setReg_fmem (s : State) (o : Nat) (v : Word) : (s.setReg o v).fmem = s.fmem := rfl
@[simp] theorem State.setReg_snr (s : State) (o : Nat) (v : Word) : (s.setReg o v).snr = s.snr := rfl
@[simp] theorem State.setReg_ent (s : State) (o : Nat) (v : Word) : (s.setReg o v).ent = s.ent := rfl
@[simp] theorem State.setReg_st (s : State) (o : Nat) (v : Word) : (s.setReg o v).st = s.st := rfl
@[simp] theorem State.setReg_grd (s : State) (o : Nat) (v : Word) : (s.setReg o v).grd = s.grd := rfl
@[simp] theorem State.setReg_ses (s : State) (o : Nat) (v : Word) : (s.setReg o v).ses = s.ses := rfl
@[simp] theorem State.setReg_log (s : State) (o : Nat) (v : Word) : (s.setReg o v).log = s.log := rfl
@[simp] theorem State.setReg_boot (s : State) (o : Nat) (v : Word) : (s.setReg o v).boot = s.boot := rfl
@[simp] theorem State.setReg_fresh (s : State) (o : Nat) (v : Word) : (s.setReg o v).fresh = s.fresh := rfl
@[simp] theorem State.setReg_pending (s : State) (o : Nat) (v : Word) : (s.setReg o v).pending = s.pending := rfl

@[simp] theorem State.setForce_clk (s : State) (o : Nat) (v : Word) : (s.setForce o v).clk = s.clk := rfl
@[simp] theorem State.setForce_arr (s : State) (o : Nat) (v : Word) : (s.setForce o v).arr = s.arr := rfl
@[simp] theorem State.setForce_cmt (s : State) (o : Nat) (v : Word) : (s.setForce o v).cmt = s.cmt := rfl
@[simp] theorem State.setForce_kn (s : State) (o : Nat) (v : Word) : (s.setForce o v).kn = s.kn := rfl
@[simp] theorem State.setForce_pwr (s : State) (o : Nat) (v : Word) : (s.setForce o v).pwr = s.pwr := rfl
@[simp] theorem State.setForce_stm (s : State) (o : Nat) (v : Word) : (s.setForce o v).stm = s.stm := rfl
@[simp] theorem State.setForce_lnk (s : State) (o : Nat) (v : Word) : (s.setForce o v).lnk = s.lnk := rfl
@[simp] theorem State.setForce_peal (s : State) (o : Nat) (v : Word) : (s.setForce o v).peal = s.peal := rfl
@[simp] theorem State.setForce_fld (s : State) (o : Nat) (v : Word) : (s.setForce o v).fld = s.fld := rfl
@[simp] theorem State.setForce_fldx (s : State) (o : Nat) (v : Word) : (s.setForce o v).fldx = s.fldx := rfl
@[simp] theorem State.setForce_fmem (s : State) (o : Nat) (v : Word) : (s.setForce o v).fmem = s.fmem := rfl
@[simp] theorem State.setForce_snr (s : State) (o : Nat) (v : Word) : (s.setForce o v).snr = s.snr := rfl
@[simp] theorem State.setForce_ent (s : State) (o : Nat) (v : Word) : (s.setForce o v).ent = s.ent := rfl
@[simp] theorem State.setForce_st (s : State) (o : Nat) (v : Word) : (s.setForce o v).st = s.st := rfl
@[simp] theorem State.setForce_grd (s : State) (o : Nat) (v : Word) : (s.setForce o v).grd = s.grd := rfl
@[simp] theorem State.setForce_ses (s : State) (o : Nat) (v : Word) : (s.setForce o v).ses = s.ses := rfl
@[simp] theorem State.setForce_log (s : State) (o : Nat) (v : Word) : (s.setForce o v).log = s.log := rfl
@[simp] theorem State.setForce_boot (s : State) (o : Nat) (v : Word) : (s.setForce o v).boot = s.boot := rfl
@[simp] theorem State.setForce_fresh (s : State) (o : Nat) (v : Word) : (s.setForce o v).fresh = s.fresh := rfl
@[simp] theorem State.setForce_pending (s : State) (o : Nat) (v : Word) : (s.setForce o v).pending = s.pending := rfl

@[simp] theorem State.setPend_clk (s : State) (o : Nat) (v : Word) : (s.setPend o v).clk = s.clk := rfl
@[simp] theorem State.setPend_arr (s : State) (o : Nat) (v : Word) : (s.setPend o v).arr = s.arr := rfl
@[simp] theorem State.setPend_cmt (s : State) (o : Nat) (v : Word) : (s.setPend o v).cmt = s.cmt := rfl
@[simp] theorem State.setPend_kn (s : State) (o : Nat) (v : Word) : (s.setPend o v).kn = s.kn := rfl
@[simp] theorem State.setPend_pwr (s : State) (o : Nat) (v : Word) : (s.setPend o v).pwr = s.pwr := rfl
@[simp] theorem State.setPend_stm (s : State) (o : Nat) (v : Word) : (s.setPend o v).stm = s.stm := rfl
@[simp] theorem State.setPend_lnk (s : State) (o : Nat) (v : Word) : (s.setPend o v).lnk = s.lnk := rfl
@[simp] theorem State.setPend_peal (s : State) (o : Nat) (v : Word) : (s.setPend o v).peal = s.peal := rfl
@[simp] theorem State.setPend_fld (s : State) (o : Nat) (v : Word) : (s.setPend o v).fld = s.fld := rfl
@[simp] theorem State.setPend_fldx (s : State) (o : Nat) (v : Word) : (s.setPend o v).fldx = s.fldx := rfl
@[simp] theorem State.setPend_fmem (s : State) (o : Nat) (v : Word) : (s.setPend o v).fmem = s.fmem := rfl
@[simp] theorem State.setPend_snr (s : State) (o : Nat) (v : Word) : (s.setPend o v).snr = s.snr := rfl
@[simp] theorem State.setPend_ent (s : State) (o : Nat) (v : Word) : (s.setPend o v).ent = s.ent := rfl
@[simp] theorem State.setPend_st (s : State) (o : Nat) (v : Word) : (s.setPend o v).st = s.st := rfl
@[simp] theorem State.setPend_grd (s : State) (o : Nat) (v : Word) : (s.setPend o v).grd = s.grd := rfl
@[simp] theorem State.setPend_ses (s : State) (o : Nat) (v : Word) : (s.setPend o v).ses = s.ses := rfl
@[simp] theorem State.setPend_log (s : State) (o : Nat) (v : Word) : (s.setPend o v).log = s.log := rfl
@[simp] theorem State.setPend_boot (s : State) (o : Nat) (v : Word) : (s.setPend o v).boot = s.boot := rfl
@[simp] theorem State.setPend_fresh (s : State) (o : Nat) (v : Word) : (s.setPend o v).fresh = s.fresh := rfl
@[simp] theorem State.setPend_pending (s : State) (o : Nat) (v : Word) : (s.setPend o v).pending = s.pending := rfl

@[simp] theorem State.resetRegs_clk (s : State) (k : Nat → Bool) : (s.resetRegs k).clk = s.clk := rfl
@[simp] theorem State.resetRegs_arr (s : State) (k : Nat → Bool) : (s.resetRegs k).arr = s.arr := rfl
@[simp] theorem State.resetRegs_cmt (s : State) (k : Nat → Bool) : (s.resetRegs k).cmt = s.cmt := rfl
@[simp] theorem State.resetRegs_kn (s : State) (k : Nat → Bool) : (s.resetRegs k).kn = s.kn := rfl
@[simp] theorem State.resetRegs_pwr (s : State) (k : Nat → Bool) : (s.resetRegs k).pwr = s.pwr := rfl
@[simp] theorem State.resetRegs_stm (s : State) (k : Nat → Bool) : (s.resetRegs k).stm = s.stm := rfl
@[simp] theorem State.resetRegs_lnk (s : State) (k : Nat → Bool) : (s.resetRegs k).lnk = s.lnk := rfl
@[simp] theorem State.resetRegs_peal (s : State) (k : Nat → Bool) : (s.resetRegs k).peal = s.peal := rfl
@[simp] theorem State.resetRegs_fld (s : State) (k : Nat → Bool) : (s.resetRegs k).fld = s.fld := rfl
@[simp] theorem State.resetRegs_fldx (s : State) (k : Nat → Bool) : (s.resetRegs k).fldx = s.fldx := rfl
@[simp] theorem State.resetRegs_fmem (s : State) (k : Nat → Bool) : (s.resetRegs k).fmem = s.fmem := rfl
@[simp] theorem State.resetRegs_snr (s : State) (k : Nat → Bool) : (s.resetRegs k).snr = s.snr := rfl
@[simp] theorem State.resetRegs_ent (s : State) (k : Nat → Bool) : (s.resetRegs k).ent = s.ent := rfl
@[simp] theorem State.resetRegs_st (s : State) (k : Nat → Bool) : (s.resetRegs k).st = s.st := rfl
@[simp] theorem State.resetRegs_grd (s : State) (k : Nat → Bool) : (s.resetRegs k).grd = s.grd := rfl
@[simp] theorem State.resetRegs_ses (s : State) (k : Nat → Bool) : (s.resetRegs k).ses = s.ses := rfl
@[simp] theorem State.resetRegs_log (s : State) (k : Nat → Bool) : (s.resetRegs k).log = s.log := rfl
@[simp] theorem State.resetRegs_boot (s : State) (k : Nat → Bool) : (s.resetRegs k).boot = s.boot := rfl
@[simp] theorem State.resetRegs_fresh (s : State) (k : Nat → Bool) : (s.resetRegs k).fresh = s.fresh := rfl
@[simp] theorem State.resetRegs_pending (s : State) (k : Nat → Bool) : (s.resetRegs k).pending = s.pending := rfl

@[simp] theorem State.elapse_rf (s : State) (u : Nat) : (s.elapse u).rf = s.rf := rfl
@[simp] theorem State.elapse_arr (s : State) (u : Nat) : (s.elapse u).arr = s.arr := rfl
@[simp] theorem State.elapse_cmt (s : State) (u : Nat) : (s.elapse u).cmt = s.cmt := rfl
@[simp] theorem State.elapse_kn (s : State) (u : Nat) : (s.elapse u).kn = s.kn := rfl
@[simp] theorem State.elapse_pwr (s : State) (u : Nat) : (s.elapse u).pwr = s.pwr := rfl
@[simp] theorem State.elapse_stm (s : State) (u : Nat) : (s.elapse u).stm = s.stm := rfl
@[simp] theorem State.elapse_lnk (s : State) (u : Nat) : (s.elapse u).lnk = s.lnk := rfl
@[simp] theorem State.elapse_peal (s : State) (u : Nat) : (s.elapse u).peal = s.peal := rfl
@[simp] theorem State.elapse_fld (s : State) (u : Nat) : (s.elapse u).fld = s.fld := rfl
@[simp] theorem State.elapse_fldx (s : State) (u : Nat) : (s.elapse u).fldx = s.fldx := rfl
@[simp] theorem State.elapse_fmem (s : State) (u : Nat) : (s.elapse u).fmem = s.fmem := rfl
@[simp] theorem State.elapse_snr (s : State) (u : Nat) : (s.elapse u).snr = s.snr := rfl
@[simp] theorem State.elapse_ent (s : State) (u : Nat) : (s.elapse u).ent = s.ent := rfl
@[simp] theorem State.elapse_st (s : State) (u : Nat) : (s.elapse u).st = s.st := rfl
@[simp] theorem State.elapse_grd (s : State) (u : Nat) : (s.elapse u).grd = s.grd := rfl
@[simp] theorem State.elapse_ses (s : State) (u : Nat) : (s.elapse u).ses = s.ses := rfl
@[simp] theorem State.elapse_log (s : State) (u : Nat) : (s.elapse u).log = s.log := rfl
@[simp] theorem State.elapse_boot (s : State) (u : Nat) : (s.elapse u).boot = s.boot := rfl
@[simp] theorem State.elapse_fresh (s : State) (u : Nat) : (s.elapse u).fresh = s.fresh := rfl
@[simp] theorem State.elapse_pending (s : State) (u : Nat) : (s.elapse u).pending = s.pending := rfl

@[simp] theorem State.takeFresh_clk (s : State) : (s.takeFresh).clk = s.clk := rfl
@[simp] theorem State.takeFresh_rf (s : State) : (s.takeFresh).rf = s.rf := rfl
@[simp] theorem State.takeFresh_arr (s : State) : (s.takeFresh).arr = s.arr := rfl
@[simp] theorem State.takeFresh_cmt (s : State) : (s.takeFresh).cmt = s.cmt := rfl
@[simp] theorem State.takeFresh_kn (s : State) : (s.takeFresh).kn = s.kn := rfl
@[simp] theorem State.takeFresh_pwr (s : State) : (s.takeFresh).pwr = s.pwr := rfl
@[simp] theorem State.takeFresh_stm (s : State) : (s.takeFresh).stm = s.stm := rfl
@[simp] theorem State.takeFresh_lnk (s : State) : (s.takeFresh).lnk = s.lnk := rfl
@[simp] theorem State.takeFresh_peal (s : State) : (s.takeFresh).peal = s.peal := rfl
@[simp] theorem State.takeFresh_fld (s : State) : (s.takeFresh).fld = s.fld := rfl
@[simp] theorem State.takeFresh_fldx (s : State) : (s.takeFresh).fldx = s.fldx := rfl
@[simp] theorem State.takeFresh_fmem (s : State) : (s.takeFresh).fmem = s.fmem := rfl
@[simp] theorem State.takeFresh_snr (s : State) : (s.takeFresh).snr = s.snr := rfl
@[simp] theorem State.takeFresh_ent (s : State) : (s.takeFresh).ent = s.ent := rfl
@[simp] theorem State.takeFresh_st (s : State) : (s.takeFresh).st = s.st := rfl
@[simp] theorem State.takeFresh_grd (s : State) : (s.takeFresh).grd = s.grd := rfl
@[simp] theorem State.takeFresh_ses (s : State) : (s.takeFresh).ses = s.ses := rfl
@[simp] theorem State.takeFresh_log (s : State) : (s.takeFresh).log = s.log := rfl
@[simp] theorem State.takeFresh_boot (s : State) : (s.takeFresh).boot = s.boot := rfl
@[simp] theorem State.takeFresh_pending (s : State) : (s.takeFresh).pending = s.pending := rfl

@[simp] theorem State.setReg_rf_inForce (s : State) (o : Nat) (v : Word) : (s.setReg o v).rf.inForce = s.rf.inForce := rfl
@[simp] theorem State.setReg_rf_pend (s : State) (o : Nat) (v : Word) : (s.setReg o v).rf.pend = s.rf.pend := rfl
@[simp] theorem State.setReg_rf_keyArmed (s : State) (o : Nat) (v : Word) : (s.setReg o v).rf.keyArmed = s.rf.keyArmed := rfl
@[simp] theorem State.setReg_rf_prevReject (s : State) (o : Nat) (v : Word) : (s.setReg o v).rf.prevReject = s.rf.prevReject := rfl
@[simp] theorem State.setReg_rf_result (s : State) (o : Nat) (v : Word) : (s.setReg o v).rf.result = s.rf.result := rfl
@[simp] theorem State.setReg_rf_locked (s : State) (o : Nat) (v : Word) : (s.setReg o v).rf.locked = s.rf.locked := rfl
@[simp] theorem State.setReg_rf_lockUsed (s : State) (o : Nat) (v : Word) : (s.setReg o v).rf.lockUsed = s.rf.lockUsed := rfl
@[simp] theorem State.setReg_rf_cause (s : State) (o : Nat) (v : Word) : (s.setReg o v).rf.cause = s.rf.cause := rfl
@[simp] theorem State.setReg_rf_ready (s : State) (o : Nat) (v : Word) : (s.setReg o v).rf.ready = s.rf.ready := rfl
@[simp] theorem State.setReg_rf_sdo (s : State) (o : Nat) (v : Word) : (s.setReg o v).rf.sdo = s.rf.sdo := rfl
@[simp] theorem State.setReg_rf_mbx (s : State) (o : Nat) (v : Word) : (s.setReg o v).rf.mbx = s.rf.mbx := rfl
@[simp] theorem State.setForce_rf_cur (s : State) (o : Nat) (v : Word) : (s.setForce o v).rf.cur = s.rf.cur := rfl
@[simp] theorem State.setForce_rf_pend (s : State) (o : Nat) (v : Word) : (s.setForce o v).rf.pend = s.rf.pend := rfl
@[simp] theorem State.setForce_rf_keyArmed (s : State) (o : Nat) (v : Word) : (s.setForce o v).rf.keyArmed = s.rf.keyArmed := rfl
@[simp] theorem State.setForce_rf_prevReject (s : State) (o : Nat) (v : Word) : (s.setForce o v).rf.prevReject = s.rf.prevReject := rfl
@[simp] theorem State.setForce_rf_result (s : State) (o : Nat) (v : Word) : (s.setForce o v).rf.result = s.rf.result := rfl
@[simp] theorem State.setForce_rf_locked (s : State) (o : Nat) (v : Word) : (s.setForce o v).rf.locked = s.rf.locked := rfl
@[simp] theorem State.setForce_rf_lockUsed (s : State) (o : Nat) (v : Word) : (s.setForce o v).rf.lockUsed = s.rf.lockUsed := rfl
@[simp] theorem State.setForce_rf_cause (s : State) (o : Nat) (v : Word) : (s.setForce o v).rf.cause = s.rf.cause := rfl
@[simp] theorem State.setForce_rf_ready (s : State) (o : Nat) (v : Word) : (s.setForce o v).rf.ready = s.rf.ready := rfl
@[simp] theorem State.setForce_rf_sdo (s : State) (o : Nat) (v : Word) : (s.setForce o v).rf.sdo = s.rf.sdo := rfl
@[simp] theorem State.setForce_rf_mbx (s : State) (o : Nat) (v : Word) : (s.setForce o v).rf.mbx = s.rf.mbx := rfl
@[simp] theorem State.setPend_rf_cur (s : State) (o : Nat) (v : Word) : (s.setPend o v).rf.cur = s.rf.cur := rfl
@[simp] theorem State.setPend_rf_inForce (s : State) (o : Nat) (v : Word) : (s.setPend o v).rf.inForce = s.rf.inForce := rfl
@[simp] theorem State.setPend_rf_keyArmed (s : State) (o : Nat) (v : Word) : (s.setPend o v).rf.keyArmed = s.rf.keyArmed := rfl
@[simp] theorem State.setPend_rf_prevReject (s : State) (o : Nat) (v : Word) : (s.setPend o v).rf.prevReject = s.rf.prevReject := rfl
@[simp] theorem State.setPend_rf_result (s : State) (o : Nat) (v : Word) : (s.setPend o v).rf.result = s.rf.result := rfl
@[simp] theorem State.setPend_rf_locked (s : State) (o : Nat) (v : Word) : (s.setPend o v).rf.locked = s.rf.locked := rfl
@[simp] theorem State.setPend_rf_lockUsed (s : State) (o : Nat) (v : Word) : (s.setPend o v).rf.lockUsed = s.rf.lockUsed := rfl
@[simp] theorem State.setPend_rf_cause (s : State) (o : Nat) (v : Word) : (s.setPend o v).rf.cause = s.rf.cause := rfl
@[simp] theorem State.setPend_rf_ready (s : State) (o : Nat) (v : Word) : (s.setPend o v).rf.ready = s.rf.ready := rfl
@[simp] theorem State.setPend_rf_sdo (s : State) (o : Nat) (v : Word) : (s.setPend o v).rf.sdo = s.rf.sdo := rfl
@[simp] theorem State.setPend_rf_mbx (s : State) (o : Nat) (v : Word) : (s.setPend o v).rf.mbx = s.rf.mbx := rfl

/-- The value read at a key after a write at the same key. -/
theorem nget_nset_same {α : Type} [DecidableEq α] (m : List (Nat × α)) (k : Nat) (v d : α)
    (h : risingFrom 0 m = true) : nget (nset m k v d) k d = v := by
  have key : ∀ (m : List (Nat × α)) (lo : Nat), risingFrom lo m = true → k < lo → nget m k d = d := by
    intro m
    induction m with
    | nil => intro lo _ _; rfl
    | cons p t ih =>
      obtain ⟨k', v'⟩ := p
      intro lo hm hk
      simp only [risingFrom, Bool.and_eq_true, decide_eq_true_eq] at hm
      have : k ≠ k' := by omega
      simp only [nget, this, if_false]
      exact ih (k' + 1) hm.2 (by omega)
  suffices H : ∀ (m : List (Nat × α)) (lo : Nat), risingFrom lo m = true → nget (nset m k v d) k d = v from H m 0 h
  intro m
  induction m with
  | nil => intro lo _; simp only [nset]; split <;> simp_all [nget]
  | cons p t ih =>
    obtain ⟨k', v'⟩ := p
    intro lo hm
    have hm2 := hm
    simp only [risingFrom, Bool.and_eq_true, decide_eq_true_eq] at hm
    unfold nset
    split
    · split
      · rename_i h1 h2
        subst h2
        exact key _ (k + 1) (by simp only [risingFrom, Bool.and_eq_true, decide_eq_true_eq]; exact ⟨h1, hm.2⟩) (by omega)
      · simp [nget]
    · split
      · rename_i h1 h2
        split
        · rename_i h3
          subst h3; subst h2
          exact key t (k + 1) hm.2 (by omega)
        · simp [nget]
      · rename_i h1 h2
        simp only [nget, h2, if_false]
        exact ih (k' + 1) hm.2

/-- A write leaves every other key as it reads. -/
theorem nget_nset_other {α : Type} [DecidableEq α] (m : List (Nat × α)) (k j : Nat) (v d e : α) (h : j ≠ k) :
    nget (nset m k v d) j e = nget m j e := by
  induction m with
  | nil => simp only [nset]; split <;> simp [nget, h]
  | cons p t ih =>
    obtain ⟨k', v'⟩ := p
    unfold nset
    split
    · split <;> simp [nget, h]
    · split
      · rename_i h1 h2
        subst h2
        split <;> simp [nget, h]
      · simp only [nget]
        split
        · rfl
        · exact ih

@[simp] theorem State.setReg_reg_other (s : State) (o p : Nat) (v : Word) (h : p ≠ o) :
    (s.setReg o v).reg p = s.reg p := nget_nset_other _ _ _ _ _ _ h

theorem State.setReg_reg (s : State) (o : Nat) (v : Word) (h : regsCanonical s = true) :
    (s.setReg o v).reg o = v := by
  simp only [regsCanonical, canonical, Bool.and_eq_true] at h
  exact nget_nset_same _ _ _ _ h.1.1.1

@[simp] theorem State.setReg_force (s : State) (o p : Nat) (v : Word) : (s.setReg o v).force p = s.force p := rfl
@[simp] theorem State.setReg_pendBits (s : State) (o p : Nat) (v : Word) :
    (s.setReg o v).pendBits p = s.pendBits p := rfl
@[simp] theorem State.setForce_reg (s : State) (o p : Nat) (v : Word) : (s.setForce o v).reg p = s.reg p := rfl
@[simp] theorem State.setPend_reg (s : State) (o p : Nat) (v : Word) : (s.setPend o v).reg p = s.reg p := rfl
@[simp] theorem State.setPend_force (s : State) (o p : Nat) (v : Word) : (s.setPend o v).force p = s.force p := rfl

@[simp] theorem State.raiseBits_clk (s : State) (o : Nat) (m : Word) : (s.raiseBits o m).clk = s.clk := by
  unfold State.raiseBits; repeat' (first | rfl | split)
@[simp] theorem State.raiseBits_arr (s : State) (o : Nat) (m : Word) : (s.raiseBits o m).arr = s.arr := by
  unfold State.raiseBits; repeat' (first | rfl | split)
@[simp] theorem State.raiseBits_cmt (s : State) (o : Nat) (m : Word) : (s.raiseBits o m).cmt = s.cmt := by
  unfold State.raiseBits; repeat' (first | rfl | split)
@[simp] theorem State.raiseBits_kn (s : State) (o : Nat) (m : Word) : (s.raiseBits o m).kn = s.kn := by
  unfold State.raiseBits; repeat' (first | rfl | split)
@[simp] theorem State.raiseBits_pwr (s : State) (o : Nat) (m : Word) : (s.raiseBits o m).pwr = s.pwr := by
  unfold State.raiseBits; repeat' (first | rfl | split)
@[simp] theorem State.raiseBits_stm (s : State) (o : Nat) (m : Word) : (s.raiseBits o m).stm = s.stm := by
  unfold State.raiseBits; repeat' (first | rfl | split)
@[simp] theorem State.raiseBits_lnk (s : State) (o : Nat) (m : Word) : (s.raiseBits o m).lnk = s.lnk := by
  unfold State.raiseBits; repeat' (first | rfl | split)
@[simp] theorem State.raiseBits_peal (s : State) (o : Nat) (m : Word) : (s.raiseBits o m).peal = s.peal := by
  unfold State.raiseBits; repeat' (first | rfl | split)
@[simp] theorem State.raiseBits_fld (s : State) (o : Nat) (m : Word) : (s.raiseBits o m).fld = s.fld := by
  unfold State.raiseBits; repeat' (first | rfl | split)
@[simp] theorem State.raiseBits_fldx (s : State) (o : Nat) (m : Word) : (s.raiseBits o m).fldx = s.fldx := by
  unfold State.raiseBits; repeat' (first | rfl | split)
@[simp] theorem State.raiseBits_fmem (s : State) (o : Nat) (m : Word) : (s.raiseBits o m).fmem = s.fmem := by
  unfold State.raiseBits; repeat' (first | rfl | split)
@[simp] theorem State.raiseBits_snr (s : State) (o : Nat) (m : Word) : (s.raiseBits o m).snr = s.snr := by
  unfold State.raiseBits; repeat' (first | rfl | split)
@[simp] theorem State.raiseBits_ent (s : State) (o : Nat) (m : Word) : (s.raiseBits o m).ent = s.ent := by
  unfold State.raiseBits; repeat' (first | rfl | split)
@[simp] theorem State.raiseBits_st (s : State) (o : Nat) (m : Word) : (s.raiseBits o m).st = s.st := by
  unfold State.raiseBits; repeat' (first | rfl | split)
@[simp] theorem State.raiseBits_grd (s : State) (o : Nat) (m : Word) : (s.raiseBits o m).grd = s.grd := by
  unfold State.raiseBits; repeat' (first | rfl | split)
@[simp] theorem State.raiseBits_ses (s : State) (o : Nat) (m : Word) : (s.raiseBits o m).ses = s.ses := by
  unfold State.raiseBits; repeat' (first | rfl | split)
@[simp] theorem State.raiseBits_log (s : State) (o : Nat) (m : Word) : (s.raiseBits o m).log = s.log := by
  unfold State.raiseBits; repeat' (first | rfl | split)
@[simp] theorem State.raiseBits_boot (s : State) (o : Nat) (m : Word) : (s.raiseBits o m).boot = s.boot := by
  unfold State.raiseBits; repeat' (first | rfl | split)
@[simp] theorem State.raiseBits_fresh (s : State) (o : Nat) (m : Word) : (s.raiseBits o m).fresh = s.fresh := by
  unfold State.raiseBits; repeat' (first | rfl | split)
@[simp] theorem State.raiseBits_pending (s : State) (o : Nat) (m : Word) : (s.raiseBits o m).pending = s.pending := by
  unfold State.raiseBits; repeat' (first | rfl | split)
@[simp] theorem State.raiseBits_rf_inForce (s : State) (o : Nat) (m : Word) : (s.raiseBits o m).rf.inForce = s.rf.inForce := by
  unfold State.raiseBits; repeat' (first | rfl | split)
@[simp] theorem State.raiseBits_rf_pend (s : State) (o : Nat) (m : Word) : (s.raiseBits o m).rf.pend = s.rf.pend := by
  unfold State.raiseBits; repeat' (first | rfl | split)
@[simp] theorem State.raiseBits_rf_keyArmed (s : State) (o : Nat) (m : Word) : (s.raiseBits o m).rf.keyArmed = s.rf.keyArmed := by
  unfold State.raiseBits; repeat' (first | rfl | split)
@[simp] theorem State.raiseBits_rf_prevReject (s : State) (o : Nat) (m : Word) : (s.raiseBits o m).rf.prevReject = s.rf.prevReject := by
  unfold State.raiseBits; repeat' (first | rfl | split)
@[simp] theorem State.raiseBits_rf_result (s : State) (o : Nat) (m : Word) : (s.raiseBits o m).rf.result = s.rf.result := by
  unfold State.raiseBits; repeat' (first | rfl | split)
@[simp] theorem State.raiseBits_rf_locked (s : State) (o : Nat) (m : Word) : (s.raiseBits o m).rf.locked = s.rf.locked := by
  unfold State.raiseBits; repeat' (first | rfl | split)
@[simp] theorem State.raiseBits_rf_lockUsed (s : State) (o : Nat) (m : Word) : (s.raiseBits o m).rf.lockUsed = s.rf.lockUsed := by
  unfold State.raiseBits; repeat' (first | rfl | split)
@[simp] theorem State.raiseBits_rf_cause (s : State) (o : Nat) (m : Word) : (s.raiseBits o m).rf.cause = s.rf.cause := by
  unfold State.raiseBits; repeat' (first | rfl | split)
@[simp] theorem State.raiseBits_rf_ready (s : State) (o : Nat) (m : Word) : (s.raiseBits o m).rf.ready = s.rf.ready := by
  unfold State.raiseBits; repeat' (first | rfl | split)
@[simp] theorem State.raiseBits_rf_sdo (s : State) (o : Nat) (m : Word) : (s.raiseBits o m).rf.sdo = s.rf.sdo := by
  unfold State.raiseBits; repeat' (first | rfl | split)
@[simp] theorem State.raiseBits_rf_mbx (s : State) (o : Nat) (m : Word) : (s.raiseBits o m).rf.mbx = s.rf.mbx := by
  unfold State.raiseBits; repeat' (first | rfl | split)
@[simp] theorem State.raise_clk (s : State) (o n : Nat) : (s.raise o n).clk = s.clk := State.raiseBits_clk s o _
@[simp] theorem State.raise_arr (s : State) (o n : Nat) : (s.raise o n).arr = s.arr := State.raiseBits_arr s o _
@[simp] theorem State.raise_cmt (s : State) (o n : Nat) : (s.raise o n).cmt = s.cmt := State.raiseBits_cmt s o _
@[simp] theorem State.raise_kn (s : State) (o n : Nat) : (s.raise o n).kn = s.kn := State.raiseBits_kn s o _
@[simp] theorem State.raise_pwr (s : State) (o n : Nat) : (s.raise o n).pwr = s.pwr := State.raiseBits_pwr s o _
@[simp] theorem State.raise_stm (s : State) (o n : Nat) : (s.raise o n).stm = s.stm := State.raiseBits_stm s o _
@[simp] theorem State.raise_lnk (s : State) (o n : Nat) : (s.raise o n).lnk = s.lnk := State.raiseBits_lnk s o _
@[simp] theorem State.raise_peal (s : State) (o n : Nat) : (s.raise o n).peal = s.peal := State.raiseBits_peal s o _
@[simp] theorem State.raise_fld (s : State) (o n : Nat) : (s.raise o n).fld = s.fld := State.raiseBits_fld s o _
@[simp] theorem State.raise_fldx (s : State) (o n : Nat) : (s.raise o n).fldx = s.fldx := State.raiseBits_fldx s o _
@[simp] theorem State.raise_fmem (s : State) (o n : Nat) : (s.raise o n).fmem = s.fmem := State.raiseBits_fmem s o _
@[simp] theorem State.raise_snr (s : State) (o n : Nat) : (s.raise o n).snr = s.snr := State.raiseBits_snr s o _
@[simp] theorem State.raise_ent (s : State) (o n : Nat) : (s.raise o n).ent = s.ent := State.raiseBits_ent s o _
@[simp] theorem State.raise_st (s : State) (o n : Nat) : (s.raise o n).st = s.st := State.raiseBits_st s o _
@[simp] theorem State.raise_grd (s : State) (o n : Nat) : (s.raise o n).grd = s.grd := State.raiseBits_grd s o _
@[simp] theorem State.raise_ses (s : State) (o n : Nat) : (s.raise o n).ses = s.ses := State.raiseBits_ses s o _
@[simp] theorem State.raise_log (s : State) (o n : Nat) : (s.raise o n).log = s.log := State.raiseBits_log s o _
@[simp] theorem State.raise_boot (s : State) (o n : Nat) : (s.raise o n).boot = s.boot := State.raiseBits_boot s o _
@[simp] theorem State.raise_fresh (s : State) (o n : Nat) : (s.raise o n).fresh = s.fresh := State.raiseBits_fresh s o _
@[simp] theorem State.raise_pending (s : State) (o n : Nat) : (s.raise o n).pending = s.pending := State.raiseBits_pending s o _
@[simp] theorem State.raise_rf_inForce (s : State) (o n : Nat) : (s.raise o n).rf.inForce = s.rf.inForce := State.raiseBits_rf_inForce s o _
@[simp] theorem State.raise_rf_pend (s : State) (o n : Nat) : (s.raise o n).rf.pend = s.rf.pend := State.raiseBits_rf_pend s o _
@[simp] theorem State.raise_rf_keyArmed (s : State) (o n : Nat) : (s.raise o n).rf.keyArmed = s.rf.keyArmed := State.raiseBits_rf_keyArmed s o _
@[simp] theorem State.raise_rf_prevReject (s : State) (o n : Nat) : (s.raise o n).rf.prevReject = s.rf.prevReject := State.raiseBits_rf_prevReject s o _
@[simp] theorem State.raise_rf_result (s : State) (o n : Nat) : (s.raise o n).rf.result = s.rf.result := State.raiseBits_rf_result s o _
@[simp] theorem State.raise_rf_locked (s : State) (o n : Nat) : (s.raise o n).rf.locked = s.rf.locked := State.raiseBits_rf_locked s o _
@[simp] theorem State.raise_rf_lockUsed (s : State) (o n : Nat) : (s.raise o n).rf.lockUsed = s.rf.lockUsed := State.raiseBits_rf_lockUsed s o _
@[simp] theorem State.raise_rf_cause (s : State) (o n : Nat) : (s.raise o n).rf.cause = s.rf.cause := State.raiseBits_rf_cause s o _
@[simp] theorem State.raise_rf_ready (s : State) (o n : Nat) : (s.raise o n).rf.ready = s.rf.ready := State.raiseBits_rf_ready s o _
@[simp] theorem State.raise_rf_sdo (s : State) (o n : Nat) : (s.raise o n).rf.sdo = s.rf.sdo := State.raiseBits_rf_sdo s o _
@[simp] theorem State.raise_rf_mbx (s : State) (o n : Nat) : (s.raise o n).rf.mbx = s.rf.mbx := State.raiseBits_rf_mbx s o _
@[simp] theorem State.countBy_clk (s : State) (o hi lo n : Nat) : (s.countBy o hi lo n).clk = s.clk := rfl
@[simp] theorem State.countBy_arr (s : State) (o hi lo n : Nat) : (s.countBy o hi lo n).arr = s.arr := rfl
@[simp] theorem State.countBy_cmt (s : State) (o hi lo n : Nat) : (s.countBy o hi lo n).cmt = s.cmt := rfl
@[simp] theorem State.countBy_kn (s : State) (o hi lo n : Nat) : (s.countBy o hi lo n).kn = s.kn := rfl
@[simp] theorem State.countBy_pwr (s : State) (o hi lo n : Nat) : (s.countBy o hi lo n).pwr = s.pwr := rfl
@[simp] theorem State.countBy_stm (s : State) (o hi lo n : Nat) : (s.countBy o hi lo n).stm = s.stm := rfl
@[simp] theorem State.countBy_lnk (s : State) (o hi lo n : Nat) : (s.countBy o hi lo n).lnk = s.lnk := rfl
@[simp] theorem State.countBy_peal (s : State) (o hi lo n : Nat) : (s.countBy o hi lo n).peal = s.peal := rfl
@[simp] theorem State.countBy_fld (s : State) (o hi lo n : Nat) : (s.countBy o hi lo n).fld = s.fld := rfl
@[simp] theorem State.countBy_fldx (s : State) (o hi lo n : Nat) : (s.countBy o hi lo n).fldx = s.fldx := rfl
@[simp] theorem State.countBy_fmem (s : State) (o hi lo n : Nat) : (s.countBy o hi lo n).fmem = s.fmem := rfl
@[simp] theorem State.countBy_snr (s : State) (o hi lo n : Nat) : (s.countBy o hi lo n).snr = s.snr := rfl
@[simp] theorem State.countBy_ent (s : State) (o hi lo n : Nat) : (s.countBy o hi lo n).ent = s.ent := rfl
@[simp] theorem State.countBy_st (s : State) (o hi lo n : Nat) : (s.countBy o hi lo n).st = s.st := rfl
@[simp] theorem State.countBy_grd (s : State) (o hi lo n : Nat) : (s.countBy o hi lo n).grd = s.grd := rfl
@[simp] theorem State.countBy_ses (s : State) (o hi lo n : Nat) : (s.countBy o hi lo n).ses = s.ses := rfl
@[simp] theorem State.countBy_log (s : State) (o hi lo n : Nat) : (s.countBy o hi lo n).log = s.log := rfl
@[simp] theorem State.countBy_boot (s : State) (o hi lo n : Nat) : (s.countBy o hi lo n).boot = s.boot := rfl
@[simp] theorem State.countBy_fresh (s : State) (o hi lo n : Nat) : (s.countBy o hi lo n).fresh = s.fresh := rfl
@[simp] theorem State.countBy_pending (s : State) (o hi lo n : Nat) : (s.countBy o hi lo n).pending = s.pending := rfl
@[simp] theorem State.countBy_rf_inForce (s : State) (o hi lo n : Nat) : (s.countBy o hi lo n).rf.inForce = s.rf.inForce := rfl
@[simp] theorem State.countBy_rf_pend (s : State) (o hi lo n : Nat) : (s.countBy o hi lo n).rf.pend = s.rf.pend := rfl
@[simp] theorem State.countBy_rf_keyArmed (s : State) (o hi lo n : Nat) : (s.countBy o hi lo n).rf.keyArmed = s.rf.keyArmed := rfl
@[simp] theorem State.countBy_rf_prevReject (s : State) (o hi lo n : Nat) : (s.countBy o hi lo n).rf.prevReject = s.rf.prevReject := rfl
@[simp] theorem State.countBy_rf_result (s : State) (o hi lo n : Nat) : (s.countBy o hi lo n).rf.result = s.rf.result := rfl
@[simp] theorem State.countBy_rf_locked (s : State) (o hi lo n : Nat) : (s.countBy o hi lo n).rf.locked = s.rf.locked := rfl
@[simp] theorem State.countBy_rf_lockUsed (s : State) (o hi lo n : Nat) : (s.countBy o hi lo n).rf.lockUsed = s.rf.lockUsed := rfl
@[simp] theorem State.countBy_rf_cause (s : State) (o hi lo n : Nat) : (s.countBy o hi lo n).rf.cause = s.rf.cause := rfl
@[simp] theorem State.countBy_rf_ready (s : State) (o hi lo n : Nat) : (s.countBy o hi lo n).rf.ready = s.rf.ready := rfl
@[simp] theorem State.countBy_rf_sdo (s : State) (o hi lo n : Nat) : (s.countBy o hi lo n).rf.sdo = s.rf.sdo := rfl
@[simp] theorem State.countBy_rf_mbx (s : State) (o hi lo n : Nat) : (s.countBy o hi lo n).rf.mbx = s.rf.mbx := rfl
@[simp] theorem State.count_clk (s : State) (o : Nat) : (s.count o).clk = s.clk := rfl
@[simp] theorem State.count_arr (s : State) (o : Nat) : (s.count o).arr = s.arr := rfl
@[simp] theorem State.count_cmt (s : State) (o : Nat) : (s.count o).cmt = s.cmt := rfl
@[simp] theorem State.count_kn (s : State) (o : Nat) : (s.count o).kn = s.kn := rfl
@[simp] theorem State.count_pwr (s : State) (o : Nat) : (s.count o).pwr = s.pwr := rfl
@[simp] theorem State.count_stm (s : State) (o : Nat) : (s.count o).stm = s.stm := rfl
@[simp] theorem State.count_lnk (s : State) (o : Nat) : (s.count o).lnk = s.lnk := rfl
@[simp] theorem State.count_peal (s : State) (o : Nat) : (s.count o).peal = s.peal := rfl
@[simp] theorem State.count_fld (s : State) (o : Nat) : (s.count o).fld = s.fld := rfl
@[simp] theorem State.count_fldx (s : State) (o : Nat) : (s.count o).fldx = s.fldx := rfl
@[simp] theorem State.count_fmem (s : State) (o : Nat) : (s.count o).fmem = s.fmem := rfl
@[simp] theorem State.count_snr (s : State) (o : Nat) : (s.count o).snr = s.snr := rfl
@[simp] theorem State.count_ent (s : State) (o : Nat) : (s.count o).ent = s.ent := rfl
@[simp] theorem State.count_st (s : State) (o : Nat) : (s.count o).st = s.st := rfl
@[simp] theorem State.count_grd (s : State) (o : Nat) : (s.count o).grd = s.grd := rfl
@[simp] theorem State.count_ses (s : State) (o : Nat) : (s.count o).ses = s.ses := rfl
@[simp] theorem State.count_log (s : State) (o : Nat) : (s.count o).log = s.log := rfl
@[simp] theorem State.count_boot (s : State) (o : Nat) : (s.count o).boot = s.boot := rfl
@[simp] theorem State.count_fresh (s : State) (o : Nat) : (s.count o).fresh = s.fresh := rfl
@[simp] theorem State.count_pending (s : State) (o : Nat) : (s.count o).pending = s.pending := rfl
@[simp] theorem State.count_rf_inForce (s : State) (o : Nat) : (s.count o).rf.inForce = s.rf.inForce := rfl
@[simp] theorem State.count_rf_pend (s : State) (o : Nat) : (s.count o).rf.pend = s.rf.pend := rfl
@[simp] theorem State.count_rf_keyArmed (s : State) (o : Nat) : (s.count o).rf.keyArmed = s.rf.keyArmed := rfl
@[simp] theorem State.count_rf_prevReject (s : State) (o : Nat) : (s.count o).rf.prevReject = s.rf.prevReject := rfl
@[simp] theorem State.count_rf_result (s : State) (o : Nat) : (s.count o).rf.result = s.rf.result := rfl
@[simp] theorem State.count_rf_locked (s : State) (o : Nat) : (s.count o).rf.locked = s.rf.locked := rfl
@[simp] theorem State.count_rf_lockUsed (s : State) (o : Nat) : (s.count o).rf.lockUsed = s.rf.lockUsed := rfl
@[simp] theorem State.count_rf_cause (s : State) (o : Nat) : (s.count o).rf.cause = s.rf.cause := rfl
@[simp] theorem State.count_rf_ready (s : State) (o : Nat) : (s.count o).rf.ready = s.rf.ready := rfl
@[simp] theorem State.count_rf_sdo (s : State) (o : Nat) : (s.count o).rf.sdo = s.rf.sdo := rfl
@[simp] theorem State.count_rf_mbx (s : State) (o : Nat) : (s.count o).rf.mbx = s.rf.mbx := rfl

end Sys2Proof.Machine
end

