-- ==== Sys2Proof/Laws/Run.lean ====
section
/-! SUPPORT. What commands are cut down to: a running tag runs a command's effect, nothing that waits is served, a boundary changes the register maps only. -/

set_option Elab.async false

namespace Sys2Proof.Machine

theorem live_of_runs {s : State} (h : runs s) (f : State → State) : s.live f = f s := by
  unfold State.live
  rw [if_neg]
  simp [h.1, h.2]
theorem next_live {s : State} (h : runs s) (f : State → State) : s.run f = .next (f s) := by
  unfold State.run; rw [live_of_runs h]
theorem next_liveAir {s : State} (h : runs s) (f : State → State) : s.runAir f = .next (f s) := by
  unfold State.runAir State.liveAir
  rw [if_neg]
  simp [h.1, h.2]
theorem reach_idle {s t : State} (h : t.awaitsBoundary = false) : s.reach t = t := by
  unfold State.reach
  simp [h]
theorem raise_rf_congr {s t : State} (h : s.rf = t.rf) (o n : Nat) : (s.raise o n).rf = (t.raise o n).rf := by
  unfold State.raise State.raiseBits State.setReg State.reg
  simp only [h]
  split
  · rfl
  · split <;> simp
theorem count_rf_congr {s t : State} (h : s.rf = t.rf) (o hi lo n : Nat) : (s.countBy o hi lo n).rf = (t.countBy o hi lo n).rf := by
  unfold State.countBy State.setReg State.reg
  simp only [h]

theorem applyAt_eq (s : State) (b : Boundary) (off : Nat) : s.applyAt b off = { s with rf := (s.applyAt b off).rf } := by
  unfold State.applyAt
  cases regDesc off with
  | none => rfl
  | some d =>
    dsimp only
    split <;> rfl

theorem boundary_stm (s : State) (b : Boundary) : { s.boundary b with rf := s.rf } = s := by
  unfold State.boundary
  have : ∀ (l : List Nat) (t : State), { t with rf := s.rf } = s → { l.foldl (fun s off => s.applyAt b off) t with rf := s.rf } = s := by
    intro l
    induction l with
    | nil => intro t h; exact h
    | cons a l ih =>
      intro t h
      apply ih
      show { t.applyAt b a with rf := s.rf } = s
      rw [applyAt_eq]
      exact h
  exact this _ _ rfl

theorem boundary_eq (s : State) (b : Boundary) : s.boundary b = { s with rf := (s.boundary b).rf } := by
  have := boundary_stm s b
  generalize s.boundary b = t at this ⊢
  cases t; cases s; simp at this; simp_all

theorem applyAt_rf_congr {s t : State} (h : s.rf = t.rf) (b : Boundary) (o : Nat) : (s.applyAt b o).rf = (t.applyAt b o).rf := by
  unfold State.applyAt
  cases regDesc o with
  | none => exact h
  | some d =>
    dsimp only [State.pendBits, State.force, State.reg, State.setForce, State.setPend]
    rw [h]
    split
    · exact h
    · dsimp only

theorem boundary_rf_congr {s t : State} (h : s.rf = t.rf) (b : Boundary) : (s.boundary b).rf = (t.boundary b).rf := by
  unfold State.boundary
  rw [h]
  have : ∀ (l : List Nat) (s t : State), s.rf = t.rf → (l.foldl (fun s off => s.applyAt b off) s).rf = (l.foldl (fun s off => s.applyAt b off) t).rf := by
    intro l
    induction l with
    | nil => intro s t h; exact h
    | cons a l ih => intro s t h; exact ih _ _ (applyAt_rf_congr h ..)
  exact this _ _ _ h

theorem serveAll_idle {s : State} (h : nothingWaits s) : s.serveAll = s := by
  obtain ⟨h1, h2, h3, h4, h5, h6, h7⟩ := h
  have a : s.drain = s := by simp [State.drain, h1, h2, State.drainWait]
  have b : s.serveFrames = s := by simp [State.serveFrames, h3, h4, State.serveEvents, State.serveCopies]
  have c : s.serveMbx = s := by simp [State.serveMbx, h6]
  have d : s.serveMgmt = s := by simp [State.serveMgmt, h5, State.serveQueue]
  have e : s.snareFeed = s := by simp [State.snareFeed, h7]
  unfold State.serveAll
  rw [a, b, c, d, e]


theorem applyAt_mbx (s : State) (b : Boundary) (off : Nat) : (s.applyAt b off).rf.mbx = s.rf.mbx := by
  unfold State.applyAt
  cases regDesc off with
  | none => rfl
  | some d =>
    dsimp only
    split <;> rfl

theorem boundary_mbx (s : State) (b : Boundary) : (s.boundary b).rf.mbx = s.rf.mbx := by
  unfold State.boundary
  have : ∀ (l : List Nat) (s : State),
      (l.foldl (fun s off => s.applyAt b off) s).rf.mbx = s.rf.mbx := by
    intro l
    induction l with
    | nil => intro s; rfl
    | cons a l ih => intro s; exact (ih _).trans (applyAt_mbx ..)
  exact this _ _

theorem raiseBits_mbx (s : State) (o : Nat) (m : Word) : (s.raiseBits o m).rf.mbx = s.rf.mbx := by
  unfold State.raiseBits
  dsimp only
  split
  · rfl
  · split <;> rfl

theorem raise_mbx (s : State) (o n : Nat) : (s.raise o n).rf.mbx = s.rf.mbx := raiseBits_mbx ..

theorem countBy_mbx (s : State) (o hi lo n : Nat) : (s.countBy o hi lo n).rf.mbx = s.rf.mbx := rfl

theorem raiseBits_force (s : State) (o : Nat) (m : Word) (x : Nat) :
    (s.raiseBits o m).force x = s.force x := by
  unfold State.raiseBits
  dsimp only
  split
  · rfl
  · split <;> rfl

theorem raise_force (s : State) (o n x : Nat) : (s.raise o n).force x = s.force x :=
  raiseBits_force ..

theorem raise_eq (s : State) (o n : Nat) : s.raise o n = { s with rf := (s.raise o n).rf } := by
  unfold State.raise State.raiseBits
  dsimp only
  split
  · rfl
  · split <;> rfl

theorem countBy_eq (s : State) (o hi lo n : Nat) :
    s.countBy o hi lo n = { s with rf := (s.countBy o hi lo n).rf } := rfl

theorem countBy_force (s : State) (o hi lo n x : Nat) : (s.countBy o hi lo n).force x = s.force x := rfl

theorem guarded_ok {s : State} {m : Nat} {x : Access} (h : (s.guarded m x).2 = true) :
    s.guarded m x = (s, true) := by
  revert h
  unfold State.guarded
  split
  · intro _; rfl
  · intro h; exact absurd h (by simp)

theorem regpGuard_ok {s : State} {a : Nat} {w : Bool} (h : (s.regpGuard a w).2 = true) :
    s.regpGuard a w = (s, true) := by
  revert h
  unfold State.regpGuard
  dsimp only
  split
  · intro _; rfl
  · exact guarded_ok

/-- A register-port write whose guard lets it through is one word write. -/
theorem portWrite_regp {s : State} {a : Nat} {v : Word} (ho : s.portOpen .regp = true)
    (hg : (s.wakeFor .regp).regpGuard a true = (s.wakeFor .regp, true)) :
    s.portWrite .regp a v =
      { ((s.wakeFor .regp).wordWrite .regp a v allBits).1 with
        rf.result := resultCode ((s.wakeFor .regp).wordWrite .regp a v allBits).2
        rf.sdo := (s.wakeFor .regp).statusByte :: zeroBytes 6 } := by
  unfold State.portWrite State.regpWord
  rw [if_neg (by simp [ho])]
  simp only [hg]

/-- A word write through the register window that meets neither a lock nor a missing key stores its
configuration and runs its commands. -/
theorem wordWrite_command {s : State} {p : Port} {a : Nat} {v : Word} {d : RegDesc}
    (hd : regDesc (regOff a) = some d) (hwin : windowOfAddr a = 0) (hw1 : d.w1k = 0#32)
    (hlock : lockHit s.rf.locked d ((s.disarmKey p).configOf p d)
      (newConfig 0 ((s.disarmKey p).configOf p d) v allBits d.config) (commandBits 0 d v allBits) = false)
    (hkey : keyGuarded 0 d ((s.disarmKey p).configOf p d) (s.force d.off)
      (newConfig 0 ((s.disarmKey p).configOf p d) v allBits d.config) (commandBits 0 d v allBits) = true →
      s.rf.keyArmed.contains p = true)
    (hcmd : (d.wo ||| d.wok ||| d.w1k) ≠ 0#32) :
    s.wordWrite p a v allBits =
      ((s.disarmKey p).storeRegister p d
        (newConfig 0 ((s.disarmKey p).configOf p d) v allBits d.config)
        (touchedBits 0 v allBits d.config)).runCommand p (regOff a) (commandBits 0 d v allBits)
        (s.rf.keyArmed.contains p) := by
  unfold State.wordWrite
  simp only [hd, hwin]
  have h1 : (s.disarmKey p).rf.locked = s.rf.locked := rfl
  have h2 : ¬ ((0 == 0 && d.w1k != 0#32 && (s.disarmKey p).rf.lockUsed) = true) := by simp [hw1]
  rw [if_neg (by rw [h1, hlock]; simp [hw1]), if_neg (by
    intro hk
    simp only [Bool.and_eq_true, Bool.not_eq_true', ] at hk
    rw [hkey hk.1] at hk
    exact absurd hk.2 (by simp))]
  rw [if_pos (by simp [hcmd])]

theorem storeConfig_eq (s : State) (d : RegDesc) (new touched : Word) :
    s.storeConfig d new touched = { s with rf := (s.storeConfig d new touched).rf } := by
  unfold State.storeConfig
  dsimp only
  split <;> rfl

/-- A command register written through the register port: the register map and the supply of CORE
and REGP change, and then the commands run. -/
theorem command_runs {s : State} {a : Nat} {v : Word} {d : RegDesc} (ho : s.portOpen .regp = true)
    (hg : (s.wakeFor .regp).regpGuard a true = (s.wakeFor .regp, true))
    (hd : regDesc (regOff a) = some d) (hwin : windowOfAddr a = 0) (hw1 : d.w1k = 0#32)
    (hblk : d.block ≠ .mbx ∧ d.off ≠ 0x428 ∧ d.off ≠ 0x42C)
    (hafter : ∀ (u : State) w, u.afterStore .regp d.off w = u)
    (hlock : lockHit s.rf.locked d (s.reg d.off &&& d.config)
      (v &&& d.config) (v &&& (d.wo ||| d.wok ||| d.w1k)) = false)
    (hkey : keyGuarded 0 d (s.reg d.off &&& d.config) (s.force d.off) (v &&& d.config)
      (v &&& (d.wo ||| d.wok ||| d.w1k)) = true → s.rf.keyArmed.contains .regp = true)
    (hcmd : (d.wo ||| d.wok ||| d.w1k) ≠ 0#32) :
    ∃ (r : RegFile) (dom : List Bool) (sdo : List Byte), r.mbx = s.rf.mbx ∧ r.locked = s.rf.locked ∧
      r.lockUsed = s.rf.lockUsed ∧ (d.config = 0#32 → r = (s.disarmKey .regp).rf) ∧
      s.portWrite .regp a v =
        { (({ s with rf := r, pwr.domOn := dom } : State).runCommand .regp (regOff a)
            (v &&& (d.wo ||| d.wok ||| d.w1k)) (s.rf.keyArmed.contains .regp)).1 with
          rf.result := resultCode (({ s with rf := r, pwr.domOn := dom } : State).runCommand .regp (regOff a)
            (v &&& (d.wo ||| d.wok ||| d.w1k)) (s.rf.keyArmed.contains .regp)).2
          rf.sdo := sdo } := by
  let w := s.wakeFor .regp
  have hw : w = { s with pwr.domOn := w.pwr.domOn } := rfl
  have hc : (w.disarmKey .regp).configOf .regp d = s.reg d.off &&& d.config := by
    unfold State.configOf
    split
    · exact absurd ‹_› hblk.1
    · rw [if_neg (by simp [hblk.2])]; rfl
    · rfl
  have hn : newConfig 0 (s.reg d.off &&& d.config) v allBits d.config = v &&& d.config := by
    unfold newConfig
    ext i hi
    have e : allBits = BitVec.allOnes 32 := rfl
    simp only [e, BitVec.getElem_or, BitVec.getElem_and, BitVec.getElem_not, BitVec.getElem_allOnes]
    cases (s.reg d.off)[i] <;> cases v[i] <;> cases (d.config)[i] <;> rfl
  have hall : ∀ x : Word, x &&& allBits = x := by
    intro x
    have e : allBits = BitVec.allOnes 32 := rfl
    rw [e, BitVec.and_allOnes]
  have hcb : commandBits 0 d v allBits = v &&& (d.wo ||| d.wok ||| d.w1k) := by
    simp [commandBits, hall]
  have htb : touchedBits 0 v allBits d.config = d.config := by
    have : allBits &&& d.config = d.config := by rw [BitVec.and_comm, hall]
    simp [touchedBits, this]
  have hcw : (w.disarmKey .regp).configOf .regp d = s.reg d.off &&& d.config := hc
  have hww := wordWrite_command (s := w) (p := .regp) (a := a) (v := v) hd hwin hw1
    (by rw [hcw, hn, hcb]; exact hlock) (by rw [hcw, hn, hcb]; exact hkey) hcmd
  rw [hcw, hn, hcb, htb] at hww
  have hka : w.rf.keyArmed.contains Port.regp = s.rf.keyArmed.contains Port.regp := rfl
  rw [hka] at hww
  have hst : ∃ r : RegFile, r.mbx = s.rf.mbx ∧ r.locked = s.rf.locked ∧ r.lockUsed = s.rf.lockUsed ∧
      (d.config = 0#32 → r = (s.disarmKey .regp).rf) ∧
      (w.disarmKey .regp).storeRegister .regp d (v &&& d.config) d.config =
        ({ s with rf := r, pwr.domOn := w.pwr.domOn } : State) := by
    unfold State.storeRegister
    by_cases h0 : d.config = 0#32
    · rw [if_pos h0]
      exact ⟨(s.disarmKey .regp).rf, rfl, rfl, rfl, fun _ => rfl, rfl⟩
    · rw [if_neg h0]
      split
      · exact absurd ‹_› hblk.1
      · rw [if_neg (by simp [hblk.2]), hafter, storeConfig_eq]
        refine ⟨_, ?_, ?_, ?_, fun h => absurd h h0, rfl⟩ <;>
          (unfold State.storeConfig; dsimp only; split <;> rfl)
  obtain ⟨r, h1, h2, h3, h4, h5⟩ := hst
  refine ⟨r, w.pwr.domOn, w.statusByte :: zeroBytes 6, h1, h2, h3, h4, ?_⟩
  rw [portWrite_regp ho hg]
  show ({ (w.wordWrite .regp a v allBits).1 with
      rf.result := resultCode (w.wordWrite .regp a v allBits).2
      rf.sdo := w.statusByte :: zeroBytes 6 } : State) = _
  rw [hww, h5]

end Sys2Proof.Machine
end

