-- ==== Sys2Proof/WellFormed.lean ====
section
/-! DEFINITION. Which commands are well formed: every operand lies in the range that its field, pin or event has in the spec. A value inside the field that the spec refuses (an unknown mode, a bad length) is well formed: the block answers it. -/

namespace Sys2Proof

/-- A port that exists: the register port, contexts 0 to 63 (R448), hosts 0 to 47 (R476). -/
def Port.wf : Port → Bool
  | .regp => true
  | .session c => c < 64
  | .host n => n < 48

/-- A frame's end: a header of 16 bytes and a trailer of 8 where they are given (R249, R250). -/
def FrameEnd.wf : FrameEnd → Bool
  | .raw header trailer => header.length = 16 && trailer.length = 8
  | _ => true

/-- The part of a frame that a command reports. -/
def FramePhase.wf : FramePhase → Bool
  | .whole e => e.wf
  | .header => true
  | .finish e => e.wf

/-- A MGMT header: the context number has 6 bits (R257). -/
def MgmtHdr.wf (h : MgmtHdr) : Bool := h.ending.wf && match h.session with
  | none => true
  | some c => c < 64

/-- A record-frame header: body length in 16 bits, local source number in 10 (R252). -/
def EventHdr.wf (h : EventHdr) : Bool := h.bodyLen < 65536 && h.source < 1024

/-- A COPY header (R276): tag index of 6 bits, attempt number of one byte. -/
def CopyHdr.wf (h : CopyHdr) : Bool := h.origin < 64 && h.attempt < 256

/-- A PACK header (R277). -/
def PackHdr.wf (h : PackHdr) : Bool :=
  h.acker < 64 && h.result < 256 && h.origin < 256 && h.stroke < 2 ^ 64

/-- A pulse target: 4 banks of 512,000 data lines, 32 toll counters (R70, R96). -/
def PulseTarget.wf : PulseTarget → Bool
  | .line b _ => b < 4
  | .toll c _ => c < 32

/-- What a gauge register can hold (R180, R181). -/
def GaugeReading.wf (g : GaugeReading) : Bool :=
  g.holdMv < 65536 && g.storeMv < 65536 && g.frMv < 65536 && g.fieldUw < 65536

/-- A width cap of an ordered set or a LINK_REQ (R211, R227). -/
def capOk (cap : Nat) : Bool := cap = 1 || cap = 2 || cap = 4

/-- A frame body holds at most 4,096 bytes: a COPY body, the longest (R276). -/
def bodyOk (body : List Byte) : Bool := body.length ≤ 4096

/-- The operands of a command lie in their ranges. -/
def Instr.wf (i : Instr) : Bool := match i with
  | .dataPacket _ _ _ _ len _ => 1 ≤ len && len ≤ 512
  | .badPacket lane sent raw => lane < 4 && sent < 65536 && raw.length ≤ 524
  | .ackPacket _ => true
  | .nakPacket _ => true
  | .creditPacket _ _ => true
  | .linkReqPacket _ typ _ cap => 1#8 ≤ typ && typ ≤ 3#8 && capOk cap && (typ == 2#8 || cap == 4)
  | .ts1 lane _ _ cap window => lane < 4 && capOk cap && 16 ≤ window && window ≤ 1024
  | .ts2 lane _ cap _ _ _ window _ => lane < 4 && capOk cap && 16 ≤ window && window ≤ 1024
  | .ackTimer => true
  | .replayTimeout => true
  | .linkReqRepeat => true
  | .ts1PhaseTimer => true
  | .trainingPhaseTimeout => true
  | .retrainTimeout => true
  | .noValidSymbolTimeout => true
  | .errorWindowLinkDown => true
  | .laneFault _ => true
  | .graceExpiry => true
  | .clockLocked => true
  | .packetBoundaryTransmit => true
  | .retrain p _ => p.wf
  | .fullRetrain p _ => p.wf
  | .stmEn p _ => p.wf
  | .eventFrame ph h body => ph.wf && h.wf && bodyOk body
  | .regRead h addr width => h.wf && addr < 65536 && width < 256
  | .regWrite h addr width _ => h.wf && addr < 65536 && width < 256
  | .recRead h stroke mode arg _ => h.wf && stroke < 2 ^ 64 && mode < 256 && arg < 256
  | .recWrite h _ _ _ _ payload => h.wf && bodyOk payload
  | .sessionOpenHello h method _ point => h.wf && method < 256 && point.length = 64
  | .sessionOpenProve h sig => h.wf && sig.length = 64
  | .sessionClose h => h.wf
  | .lease h part op seconds => h.wf && part < 256 && op < 256 && seconds < 65536
  | .stagePull h => h.wf
  | .leaseExpiry part => part = 8 || part = 9
  | .pealSend => true
  | .pealRetryWaitExpiry stroke => stroke < 2 ^ 64
  | .packFrame e h => e.wf && h.wf
  | .pealCopyFrame ph h body => ph.wf && h.wf && bodyOk body
  | .knellMirrorStart => true
  | .seal => true
  | .commitGroup => true
  | .sectorPulseDone t _ => t.wf
  | .bankFail bank => bank < 4
  | .checkpointInterval => true
  | .checkpointEntryCount => true
  | .checkpoint => true
  | .ckptReq p _ => p.wf
  | .scrubReq p _ => p.wf
  | .scrubExtent bank _ _ _ _ => bank < 4
  | .staticLevelMove bank => bank < 4
  | .cmtTollInc p _ => p.wf
  | .keepAliveEnergyLow => true
  | .vauxFail => true
  | .force p _ => p.wf
  | .knellOpeningFrame ph body => ph.wf && bodyOk body
  | .knellDataFrame e body => e.wf && bodyOk body
  | .dirWaitExpiry => true
  | .intakeMsExpiry => true
  | .knellSegmentStart => true
  | .kSign => true
  | .kIndex => true
  | .knellArm => true
  | .consReq p _ => p.wf
  | .knlEn p _ => p.wf
  | .shedStep step => 1 ≤ step && step ≤ 5
  | .shedStep6 => true
  | .shedStep7 => true
  | .shedLeave => true
  | .supplyChange src _ => src < 6
  | .holdTopUp => true
  | .holdCapDone _ => true
  | .holdCapTimeout => true
  | .cellMeasure mv => mv < 65536
  | .vbatDetect mv => mv < 65536
  | .harvColdStart voc => voc < 65536
  | .trackingSample x => x.voc < 65536 && x.harv < 65536
  | .mpptSample p _ => p.wf
  | .gaugeUpdate g => g.wf
  | .jobAdmit queue => queue < 8
  | .derateBandChange temp => -32768 ≤ temp && temp < 32768
  | .domainIdleGate dom => dom < 20
  | .longDarknessCutoff => true
  | .ship p _ => p.wf
  | .fieldDetect => true
  | .snifferSample _ => true
  | .fieldInterrupted _ => true
  | .fieldGone => true
  | .select target action bank _ mask _ =>
    target < 8 && action < 8 && bank < 4 && mask.length < 256
  | .query _ m _ sel session _ q _ _ => m < 4 && sel < 4 && session < 4 && q < 16
  | .queryAdjust session updn => session < 4 && updn < 3
  | .queryRep session => session < 4
  | .ack _ => true
  | .nak => true
  | .reqRn _ => true
  | .t2Expiry => true
  | .invalidCommand _ => true
  | .read _ bank _ count => bank < 4 && count < 256
  | .write _ bank _ _ => bank < 4
  | .blockWrite _ bank _ data => bank < 4 && data.length < 256
  | .lock _ _ _ => true
  | .access _ _ => true
  | .authenticate _ method keyId _ _ => method < 4 && keyId < 256
  | .kill _ => true
  | .passwordLockoutEnd => true
  | .s1PersistenceExpiry => true
  | .flagPersistenceExpiry flag => flag = 2 || flag = 3 || flag = 4
  | .gRecRead _ mode part stroke offset count =>
    mode < 4 && part < 16 && stroke < 2 ^ 64 && offset < 128 && count < 16
  | .gGauge _ => true
  | .gShipRead _ fromSeconds maxSamples => fromSeconds < 2 ^ 40 && maxSamples < 256
  | .gStageWrite _ item _ _ body => item < 65536 && body.length < 256
  | .gExportOpen _ part stroke count => part < 16 && stroke < 2 ^ 64 && count < 256
  | .gExportChunk _ index count => index < 65536 && count < 8
  | .gExportClose _ => true
  | .gWake _ _ => true
  | .wakeTest p _ => p.wf
  | .wakeRelease p _ => p.wf
  | .wakePulseEnd => true
  | .wakeLevelTimeout => true
  | .userMapBuilt => true
  | .channelEvent ch _ _ => ch < 8
  | .postWindowEnd waves => waves.all (fun w => w.1 < 8)
  | .ringStagingDone => true
  | .snrForce p _ => p.wf
  | .calReq p _ => p.wf
  | .periodicCalibration => true
  | .calibration _ _ _ _ _ => true
  | .snrEn p _ => p.wf
  | .blockRelease _ _ _ => true
  | .healthTestFail _ test _ _ => test < 3
  | .entIdleGate _ => true
  | .entSelftest _ _ _ _ => true
  | .rawStart p _ => p.wf
  | .rawStop p _ => p.wf
  | .rawCaptureEnd bytes _ _ => bytes.length ≤ 131072
  | .rawRelease p _ => p.wf
  | .entDataRead p _ => p.wf
  | .grdApply p _ => p.wf
  | .guardUpdate => true
  | .postedWriteDrain master => master < 7
  | .guardFaultAudit master => master < 7
  | .sessionIdleTimeout ctx => ctx < 64
  | .helloExpiry ctx => ctx < 64
  | .closeSel p _ => p.wf
  | .closeAll p _ => p.wf
  | .status => true
  | .regpWrite addr _ => addr < 65536
  | .regpRead addr _ => addr < 65536
  | .writeInc addr _ _ => addr < 65536
  | .readInc addr _ _ => addr < 65536
  | .readRep addr _ _ => addr < 65536
  | .badOpcode op => !([0x00#8, 0x02#8, 0x03#8, 0x0A#8, 0x0B#8, 0x0C#8].contains op)
  | .glbKey p _ => p.wf
  | .glbReset p _ => p.wf
  | .glbLock p _ => p.wf
  | .rcRead p off => p.wf && off < 0x800 && off % 4 = 0
  | .registerWrite p addr _ => p.wf && addr < 0x2000 && addr % 4 = 0
  | .mbxRead p => p.wf
  | .mbxStage p => p.wf
  | .mbxAbort p => p.wf
  | .timeCommit p len => p.wf && len ≤ 256
  | .timeRtcLoad => true
  | .partMapCommit p len => p.wf && len ≤ 256
  | .mbxRecWrite len => len ≤ 256
  | .pealPeersCommit p len => p.wf && len ≤ 256
  | .keyLoad p len => p.wf && len ≤ 256
  | .bivikOpen p len => p.wf && len ≤ 256
  | .selftestReq p len => p.wf && len ≤ 256
  | .bankSelftest _ _ _ => true
  | .loggerTick => true
  | .loggerSample temp => -32768 ≤ temp && temp < 32768
  | .flushReq p _ => p.wf
  | .sampleNow p _ => p.wf
  | .crystalSwitch => true
  | .crystalFail => true
  | .clockBackup => true
  | .chassisSample _ => true
  | .chassisChange => true
  | .powerOn vaux src => vaux || (1 ≤ src && src < 6)
  | .vauxReturn => true
  | .cutoffExit src => src = 0 || src = 2 || src = 4
  | .resetAssert => true
  | .pinReset => true
  | .keyedReset => true
  | .darkStartup => true
  | .storeFull => true
  | .channelEventEnd ch _ => ch < 8

end Sys2Proof
end

