-- ==== Sys2Proof/Tests/Slice0.lean ====
section
/-! SUPPORT. Tests: single commands on small states, against the spec's worked examples; ill-formed operands that the well-formedness check refuses; and, for each statement, states and operands that meet its hypotheses. -/

set_option Elab.async false
set_option linter.all false
set_option maxRecDepth 20000

open Sys2Proof Sys2Proof.Machine

namespace Sys2Proof.Machine

/-- A running wired tag. -/
def wired0 : State :=
  { State.reset with
    pwr := { State.reset.pwr with mode := 1, vauxOk := true, usable := [true, true, false, true, false, true], capUf := 1000, cellState := 1, cellMv := 3000
                                  domOn := List.replicate 20 true, gauge := { zeroGauge with holdMv := 5000, storeMv := 4000 } }
    rf := { State.reset.rf with ready := true }
    kn := { State.reset.kn with state := 1 }
    ent := { State.reset.ent with a := { State.reset.ent.a with state := 2 }, b := { State.reset.ent.b with state := 2 } }
    stm := { State.reset.stm with st := 4, rxLanes := 0xF#4, txLanes := 0xF#4 }
    lnk := { State.reset.lnk with credited := true, rxLimit := [256, 8192, 1024, 2048], window := 256 } }
/-- The same state with TAG_VAUX present, no lock, the default guards and the register port's key armed. -/
def State.up (s : State) : State :=
  { s with pwr.mode := 1, pwr.step := 0, pwr.vauxOk := true, pwr.usable := [true, true, false, true, false, true]
           boot.resetLow := false, grd := {}, rf.locked := 0#32, rf.lockUsed := false, rf.keyArmed := [.regp] }
/-- ... and nothing waits. -/
def State.calm (s : State) : State :=
  { s.up with cmt.auditHeld := [], cmt.s1wait := [], cmt.pipe := [], peal.eventWait := [], peal.copyWait := [], peal.mgmtWait := [], peal.pullHeads := [], peal.writeCredits := [], peal.readFound := []
              rf.pend := [], peal.peersWait := false, peal.leaseWait := [], boot.keyedAudit := none, cmt.rebuildTail := none
              rf.mbx := {}, snr.waiting := [], kn.state := 1, kn.intake := none, boot.s1Stopped := false, boot.keyedStop := false, boot.keyedPending := none
              cmt.recovering := false, pwr.jobs := [], pwr.grants := [], ent.waiting := [] }

/-- Host writes to the register map pass the guard, posted. -/
def allowAll : List (Nat × Word × Word) := [(regionKey 1 2, 0#32, regionCfg 0 false true true 11 0 0)]
/-- ... and ordered. -/
def allowAllOrd : List (Nat × Word × Word) := [(regionKey 1 2, 0#32, regionCfg 1 false true true 11 0 0)]
/-- The base point of P-256, as the tag reads a public key. -/
def basePoint : List Byte :=
  (leBytes 32 0x6B17D1F2E12C4247F8BCE6E563A440F277037D812DEB33A0F4A13945D898C296).reverse ++
  (leBytes 32 0x4FE342E2FE1A7F9B8EE7EB4A7C0F9E162BCE33576B315ECECBB6406837BF51F5).reverse
/-- A STAGE_CFG record. -/
def stageRec : Rec := factoryRec 0x60#8 0#8 8 5 5 0 [1#8, 0#8, 0#8, 0#8, 0#8, 0#8, 0#8, 0#8]
/-- Another one. -/
def stageRec2 : Rec := factoryRec 0x60#8 0#8 8 5 5 0 [9#8, 0#8, 0#8, 0#8, 0#8, 0#8, 0#8, 0#8]
/-- A FOREIGN_COPY record of tag 9, stroke number 7. -/
def foreignRec : Rec := factoryRec 0x50#8 0#8 7 5 6 0
  (zeroBytes 4 ++ [0#8, 0x24#8] ++ zeroBytes 10 ++ leBytes 8 7 ++ zeroBytes 72)
/-- ... in a field session in state `st`, wired, with 80 bits in the field buffer. -/
def State.inField (s : State) (st : Nat) : State :=
  { s.calm with
    fld := { s.fld with
      st := st, ready := true, present := true, session := 1, q := 2, rn16 := 0x1234#16, handle := 0x4321#16
      priv := (if st = 6 then 3 else if st = 5 then 1 else 0), lockout := false, pwCount := 0, supply := 0
      buf := [(.a, List.replicate 40 true), (.b, List.replicate 40 false)] }
    fldx := {}, fmem := State.reset.fmem, cmt.recovering := false, cmt.rebuilding := false
    boot.darkPending := none, pwr.domOn := List.replicate 20 true
    rf.cur := [], rf.inForce := [], rf.pend := [], ent.a.state := 2, ent.b.state := 2 }
/-- An open container without records. -/
def container0 : Bivik := { header := zeroBytes 64, sig := zeroBytes 64, strokes := [], sizes := [], sealed := false, created := 0, part := 0 }
/-- An open capture. -/
def capture0 : Capture :=
  { number := 5#32, cause := 1, mask := 1#8, stored := 1#8, flags := 0#8, time := 7, tick := 40, calCh := 255, secondaries := 0
    late := 0, bracket := 0#32, pre := 0, post := 64, tied := true, lost := false, chans := [], closeTime := 0, closeBracket := 0#32
    ends := [], waves := [], trigDone := false }
/-- ... with the Snare armed and channel 0 in use. -/
def State.inSnare (s : State) : State :=
  { s.calm with
    snr := { armed := true, capNum := 5#32 }, pwr.domOn := List.replicate 20 true
    rf.cur := [], rf.pend := [], rf.inForce := [(0x360, 0x7#32)] }
/-- ... with both noise sources RUNNING. -/
def State.inSource (s : State) : State :=
  { s.calm with
    ent := { a := { state := 2 }, b := { state := 2 } }, pwr.domOn := List.replicate 20 true, st := {}
    fld := {}, rf.cur := [], rf.pend := [], rf.inForce := [] }
/-- A raw capture that runs on source A. -/
def raw0 : Raw := { src := .a, running := true, stop := false, bytes := [], rct := 0, apt := 0 }
/-- A window of alternating samples. -/
def goodWindow : BitVec 1024 := BitVec.ofNat 1024 ((2 ^ 1024 - 1) / 3)
/-- ... with the logger on. -/
def State.inLog (s : State) : State :=
  { s.calm with rf.cur := [], rf.pend := [], rf.inForce := [(0x560, 1#32)] }
/-- ... with the array as manufacture leaves it. -/
def State.inBoot (s : State) : State :=
  { s.calm with arr := State.reset.arr, cmt := State.reset.cmt, fmem := State.reset.fmem, ses := {} }
/-- A start-up that was deferred. -/
def start0 : StartFacts := { cause := 1, src := 3, lost := 0, rolled := false, retained := false, aonKept := false, device := true }
/-- An unsettled record that waits for peer 1. -/
def unsettled0 : Unsettled :=
  { stroke := 7, typ := 0x10#8, degree := 1, set := 2#64, got := 0#64, attempt := 0, sends := 1, firstSent := 0, due := false, slot := none }

end Sys2Proof.Machine

namespace Sys2Proof.Tests

/-- Terms that the well-formedness check refuses, one for each check. -/
def badHdr : MgmtHdr := { requester := 3#8, tag := 7#16, session := some 64, ending := .good }
def goodHdr : MgmtHdr := { requester := 3#8, tag := 7#16, session := none, ending := .good }
def zeroReading : GaugeReading := { zeroGauge with holdMv := 65536 }

theorem test_wf_refuses_link : [Instr.dataPacket 0#12 .event true false 0 none, .dataPacket 0#12 .event true false 513 none,
    .linkReqPacket 1#8 0#8 0#4 4, .linkReqPacket 1#8 4#8 0#4 4, .linkReqPacket 1#8 2#8 0#4 3,
    .linkReqPacket 1#8 1#8 0#4 2, .ts1 4 0#8 0#8 4 256, .ts1 0 0#8 0#8 3 256, .ts1 0 0#8 0#8 4 15, .ts1 0 0#8 0#8 4 1025,
    .badPacket 4 0 [], .badPacket 0 65536 [], .badPacket 0 0 (zeroBytes 525),
    .retrain (.session 64) 0#32, .fullRetrain (.host 48) 0#32, .stmEn (.host 48) true].all (fun i => !i.wf) = true := by
  decide +kernel

theorem test_wf_refuses_frames : [Instr.eventFrame .header { typ := 0x10#8, first := true, last := true, bodyLen := 65536, source := 1, seq := 0#32, ssn := 0#32 } [],
    .eventFrame .header { typ := 0x10#8, first := true, last := true, bodyLen := 1, source := 1024, seq := 0#32, ssn := 0#32 } [],
    .eventFrame .header { typ := 0x10#8, first := true, last := true, bodyLen := 1, source := 1, seq := 0#32, ssn := 0#32 } (zeroBytes 4097),
    .eventFrame (.finish (.raw (zeroBytes 15) (zeroBytes 8))) { typ := 0x10#8, first := true, last := true, bodyLen := 1, source := 1, seq := 0#32, ssn := 0#32 } [],
    .eventFrame (.whole (.raw (zeroBytes 16) (zeroBytes 7))) { typ := 0x10#8, first := true, last := true, bodyLen := 1, source := 1, seq := 0#32, ssn := 0#32 } [],
    .stagePull { goodHdr with ending := .raw [] [] }, .knellDataFrame (.raw [] []) [], .knellOpeningFrame (.finish (.raw [] [])) [],
    .packFrame (.raw [] []) { origin := 0, cid := 0#32, stroke := 0, acker := 0, result := 0 },
    .regRead badHdr 0 2, .regRead goodHdr 65536 2, .regRead goodHdr 0 256, .regWrite goodHdr 65536 2 0#64, .regWrite goodHdr 0 256 0#64,
    .regWrite badHdr 0 2 0#64, .recRead badHdr 1 0 0 true, .recRead goodHdr (2 ^ 64) 0 0 true, .recRead goodHdr 1 256 0 true,
    .recRead goodHdr 1 0 256 true, .recWrite badHdr 0xB0#8 true true 0#32 [], .recWrite goodHdr 0xB0#8 true true 0#32 (zeroBytes 4097),
    .sessionOpenHello badHdr 0 0#8 (zeroBytes 64), .sessionOpenHello goodHdr 256 0#8 (zeroBytes 64), .sessionOpenHello goodHdr 0 0#8 (zeroBytes 63),
    .sessionOpenProve badHdr (zeroBytes 64), .sessionOpenProve goodHdr (zeroBytes 65), .sessionClose badHdr,
    .lease badHdr 8 0 0, .lease goodHdr 256 0 0, .lease goodHdr 8 256 0, .lease goodHdr 8 0 65536, .stagePull badHdr, .leaseExpiry 7,
    .pealRetryWaitExpiry (2 ^ 64)].all (fun i => !i.wf) = true := by
  decide +kernel

theorem test_wf_refuses_engines : [Instr.packFrame .good { origin := 256, cid := 0#32, stroke := 0, acker := 0, result := 0 },
    .packFrame .good { origin := 0, cid := 0#32, stroke := 2 ^ 64, acker := 0, result := 0 },
    .packFrame .good { origin := 0, cid := 0#32, stroke := 0, acker := 64, result := 0 },
    .packFrame .good { origin := 0, cid := 0#32, stroke := 0, acker := 0, result := 256 },
    .sectorPulseDone (.line 4 0) true, .sectorPulseDone (.toll 32 true) true, .bankFail 4, .ckptReq (.session 64) 0#32, .scrubReq (.host 48) 0#32,
    .scrubExtent 4 0 [] [] [], .staticLevelMove 4, .cmtTollInc (.host 48) 0#32, .force (.host 48) 0#32, .knellOpeningFrame .header (zeroBytes 4097),
    .knellDataFrame .good (zeroBytes 4097), .consReq (.host 48) 0#32, .knlEn (.host 48) true, .shedStep 0, .shedStep 6, .supplyChange 6 true,
    .cellMeasure 65536, .vbatDetect 65536, .harvColdStart 65536, .trackingSample ⟨65536, 0⟩, .trackingSample ⟨0, 65536⟩, .mpptSample (.host 48) 0#32, .gaugeUpdate zeroReading,
    .jobAdmit 8, .derateBandChange 32768, .derateBandChange (-32769), .domainIdleGate 20, .ship (.host 48) 0#32].all (fun i => !i.wf) = true := by
  decide +kernel

theorem test_wf_refuses_field : [Instr.select 8 0 1 0 [] false, .select 0 8 1 0 [] false, .select 0 0 4 0 [] false, .select 0 0 1 0 (List.replicate 256 true) false,
    .query false 4 false 0 0 false 0 0 0, .query false 0 false 4 0 false 0 0 0, .query false 0 false 0 4 false 0 0 0, .query false 0 false 0 0 false 16 0 0,
    .queryAdjust 4 0, .queryAdjust 0 3, .queryRep 4, .read 0#16 4 0 1, .read 0#16 1 0 256, .write 0#16 4 0 0#16, .blockWrite 0#16 4 0 [],
    .blockWrite 0#16 1 0 (List.replicate 256 0#16), .authenticate 0#16 4 0 [] [], .authenticate 0#16 1 256 [] [], .flagPersistenceExpiry 1,
    .gRecRead 0#16 4 0 0 0 1, .gRecRead 0#16 0 16 0 0 1, .gRecRead 0#16 0 0 (2 ^ 64) 0 1, .gRecRead 0#16 0 0 0 128 1, .gRecRead 0#16 0 0 0 0 16,
    .gShipRead 0#16 (2 ^ 40) 1, .gShipRead 0#16 0 256, .gStageWrite 0#16 65536 0#8 0#32 [], .gStageWrite 0#16 1 0#8 0#32 (zeroBytes 256),
    .gExportOpen 0#16 16 0 1, .gExportOpen 0#16 0 (2 ^ 64) 1, .gExportOpen 0#16 0 0 256, .gExportChunk 0#16 65536 1, .gExportChunk 0#16 0 8,
    .wakeTest (.host 48) 0#32, .wakeRelease (.host 48) 0#32].all (fun i => !i.wf) = true := by
  decide +kernel

theorem test_wf_refuses_others : [Instr.channelEvent 8 true 0, .channelEventEnd 8 0, .postWindowEnd [(8, [])], .snrForce (.host 48) 0#32, .calReq (.host 48) 0#32,
    .snrEn (.host 48) true, .healthTestFail .a 3 0 0, .rawStart (.host 48) 0#32, .rawStop (.host 48) 0#32, .rawRelease (.host 48) 0#32,
    .entDataRead (.host 48) false, .grdApply (.host 48) 0#32, .postedWriteDrain 7, .guardFaultAudit 7, .sessionIdleTimeout 64, .helloExpiry 64,
    .closeSel (.host 48) 0#32, .closeAll (.host 48) 0#32, .regpWrite 65536 none, .regpRead 65536 true, .writeInc 65536 [] false, .readInc 65536 1 [],
    .readRep 65536 1 [], .badOpcode 0x03#8, .glbKey (.host 48) 0#32, .glbReset (.host 48) 0#32, .glbLock (.host 48) 0#32, .rcRead (.host 48) 0,
    .rcRead .regp 0x800, .rcRead .regp 2, .registerWrite (.host 48) 0 0#32, .registerWrite .regp 0x2000 0#32, .registerWrite .regp 2 0#32,
    .mbxRead (.host 48), .mbxStage (.host 48), .mbxAbort (.host 48), .timeCommit (.host 48) 1, .timeCommit .regp 257, .partMapCommit .regp 257,
    .mbxRecWrite 257, .pealPeersCommit .regp 257, .keyLoad .regp 257, .bivikOpen .regp 257, .selftestReq .regp 257, .loggerSample 32768,
    .flushReq (.host 48) 0#32, .sampleNow (.host 48) 0#32, .powerOn false 0, .powerOn false 6, .cutoffExit 3].all (fun i => !i.wf) = true := by
  decide +kernel

theorem test_wf_takes : [Instr.dataPacket 0#12 .event true false 512 none, .regRead goodHdr 0x070 2, .shedStep 5, .query false 3 true 3 3 true 15 0 0,
    .registerWrite .regp 0x1FFC 0#32, .powerOn true 0, .cutoffExit 4, .badOpcode 0x77#8].all (fun i => i.wf) = true := by
  decide +kernel

/-- No row of the table has bits, so no word spells a command. -/
theorem test_no_word_decodes : decodeTableWord 32 0x12345678 = none := rfl

theorem test_reset_queue_empty : State.reset.pending = [] := by decide

/-- One field of the state that a command answers with. -/
def after {α : Type} (c : Instr) (s : State) (f : State → α) : Option α := match exec c s with
  | .next t => some (f t)
  | _ => none

/-- The example of R217: the oldest packet is 3,900 and the next 60. -/
def wrapped : State := { wired0 with lnk.oldest := 3900#12, lnk.next := 60#12 }

/-- Worked example of R217, step 2: an ACK with 4,000 releases 3,900 to 4,000. -/
theorem test_ack_across_the_wrap : after (.ackPacket 4000#12) wrapped (fun t => t.lnk.oldest) = some 4001#12 := by decide +kernel

/-- Worked example of R217, step 3: a delayed ACK with 3,950 is ignored. -/
theorem test_stale_ack : after (.ackPacket 3950#12) { wrapped with lnk.oldest := 4001#12 } (fun t => t.lnk.oldest) = some 4001#12 := by
  decide +kernel

/-- Worked example of R217, step 4: a NAK with 4,095 makes packet 0 the oldest. -/
theorem test_nak_across_the_wrap : after (.nakPacket 4095#12) { wrapped with lnk.oldest := 4001#12 } (fun t => t.lnk.oldest) = some 0#12 := by
  decide +kernel

/-- Worked example of the register port, step 1: READ of 0x0E8 answers 0x40, two zeros, and the word's bytes. -/
theorem test_port_read : after (.regpRead 0x0E8 true) { (wired0.raise 0x0E8 2) with rf.ready := true } (fun t => t.rf.sdo) =
    some [0x40#8, 0#8, 0#8, 4#8, 0#8, 0#8, 0#8] := by decide +kernel

/-- Step 6: with the key armed the write of CMT_CFG is buffered and the key is consumed; TAG_SDO byte 0 is 0x60. -/
theorem test_port_keyed_write : after (.regpWrite 0x0E4 (some 0x031E1000#32)) { wired0 with rf.keyArmed := [.regp] }
    (fun t => (t.rf.sdo.head?, t.rf.keyArmed, t.rf.result, t.reg 0x0E4)) = some (some 0x60#8, [], 0, 0x031E1000#32) := by decide +kernel

/-- Step 8: after a write without the key, STATUS shows KEY_REQUIRED: 0x41. -/
theorem test_port_key_required : after .status { wired0 with rf.result := 1 } (fun t => t.rf.sdo) = some [0x41#8] := by decide +kernel

/-- Worked example of R495, step 1: BANK_FAIL sets GLB_ALERT bit 1. -/
theorem test_bank_fail_alerts : ((wired0.raise 0x0E8 5).reg 0x01C).bit 1 = true := by decide +kernel

/-- Worked example of R495, step 4: a read of CMT_STATUS returns 0x0000_0020 and clears GLB_ALERT bit 1. -/
theorem test_alert_released : after (.regpRead 0x0E8 true) (wired0.raise 0x0E8 5)
    (fun t => (t.rf.sdo.drop 3, (t.reg 0x01C).bit 1)) = some ([0x20#8, 0#8, 0#8, 0#8], false) := by decide +kernel

/-- The hash of "abc" (FIPS 180-4), the function that R395 names. -/
theorem test_sha256_abc : sha256 [0x61#8, 0x62#8, 0x63#8] =
    0xba7816bf8f01cfea414140de5dae2223b00361a396177a9cb410ff61f20015ad#256 := by decide +kernel

/-- The bytes of a WRITE of the register port (R464, R465): the opcode, the address and the word, low byte
first; and an opcode that the table does not list. -/
theorem test_port_commands : portCommand [0x02#8, 0xE4#8, 0x00#8, 0x00#8, 0x10#8, 0x1E#8, 0x03#8] =
      some (.regpWrite 0x0E4 (some 0x031E1000#32)) ∧ portCommand [0x00#8] = some .status ∧
    portCommand [0x77#8, 0#8] = some (.badOpcode 0x77#8) := by decide +kernel

/-- Worked example of R144 with R181: 220 µF with the lower edge of the error band at 5.0 V hold 2,217.6 µJ, rounded down. -/
def prefixKnell : State := { wired0 with pwr.capUf := 220, pwr.gauge := { zeroGauge with holdMv := 5010 }, pwr.vauxOk := false, pwr.usable := [false, true, false, false, false, false] }
theorem test_e_hold : prefixKnell.eHoldUj = 2217 := by decide +kernel

/-- Worked example of an inventory round, step 2: the fifth QueryRep brings slot 5 to 0 and sends an RN16. -/
theorem test_query_rep_to_zero : after (.queryRep 1) { (wired0.inField 2) with fld.slot := 1 } (fun t => (t.fld.st, t.fld.slot)) = some (3, 0) := by
  decide +kernel

/-- Worked example of an inventory round, step 6: NAK leads to ARBITRATE and leaves the flags. -/
theorem test_nak_keeps_flags : after .nak (wired0.inField 4) (fun t => (t.fld.st, t.fld.inv)) = some (2, [false, false, false, false]) := by
  decide +kernel

/-- R322, R324: the first four bytes of the TID bank. -/
theorem test_tid : slice State.reset.fmem.tid 0 4 = [0xE2#8, 0x83#8, 0x6A#8, 0x48#8] := by rfl

/-- R324: word 7 of the TID bank is 0. -/
theorem test_tid_end : slice State.reset.fmem.tid 14 2 = [0#8, 0#8] := by rfl

/-- The published check value of CRC-32C (log entry 6). -/
theorem test_crc32c : crc32c [0x31#8, 0x32#8, 0x33#8, 0x34#8, 0x35#8, 0x36#8, 0x37#8, 0x38#8, 0x39#8] = 0xE3069283#32 := by decide +kernel

/-- The published check value of the CRC-16 of ISO/IEC 18000-63 (log entry 6). -/
theorem test_crc16 : crc16 [0x31#8, 0x32#8, 0x33#8, 0x34#8, 0x35#8, 0x36#8, 0x37#8, 0x38#8, 0x39#8] = 0xD64E := by decide +kernel

/-- R211: a NAK with sequence number 0x312 and reason 2, and a LINK_REQ for width 2 with two suspected lanes. -/
theorem test_packet_bytes : parsePacket (sealPacket [0xA2#8, 0#8, 0x12#8, 0x03#8, 2#8, 0#8, 0#8, 0#8]) = some (.nak 0x312#12 2#8) ∧
    parsePacket (sealPacket [0x74#8, 9#8, 2#8, 5#8, 2#8, 0#8, 0#8, 0#8]) = some (.linkReq 9#8 2#8 5#4 2) := by decide +kernel

/-- R208, R211: an ACK with a reserved bit set is malformed, and so is an unknown kind. -/
theorem test_packet_malformed : parsePacket (sealPacket [0xA1#8, 0#8, 0x12#8, 0x13#8, 0#8, 0#8, 0#8, 0#8]) = none ∧
    parsePacket (sealPacket [0xA3#8, 0#8, 0x12#8, 0x03#8, 0#8, 0#8, 0#8, 0#8]) = none := by decide +kernel

/-- Witnesses of the statements about every command and every step. -/
theorem met_StepRunsFront : ∃ s : State, s.pending = [] := ⟨State.reset, rfl⟩
theorem met_CommandsAnswer :
    (∃ (c : Instr) (s : State), actsUnpowered c = false ∧ s.pwr.mode = 0 ∧ actsInField c = false) ∧
    (∃ (c : Instr) (s : State), actsUnpowered c = false ∧ s.pwr.mode = 0 ∧ s.fld.st = 0) ∧
    (∃ (c : Instr) (s : State), actsUnpowered c = false ∧ s.boot.resetLow = true) :=
  ⟨⟨.status, State.reset, by decide +kernel⟩, ⟨.nak, State.reset, by decide +kernel⟩,
   ⟨.status, { wired0 with boot.resetLow := true }, by decide +kernel⟩⟩
/-- Packets at the ends of their ranges. -/
theorem met_PacketsRoundTrip : [Packet.data 0#12 .knell true true none [1#8], .data 4095#12 .peal false false (some 0#12) (zeroBytes 512),
    .ack 0#12, .nak 4095#12 255#8, .credit 0#16 65535#16 0#16 65535#16, .linkReq 255#8 255#8 0#4 1, .ts1 3 1#8 0#8 4 1024 true,
    .ts1 0 1#8 0#8 1 16 false, .ts2 3 1#8 0#8 2 15#4 true 4095#12 1024 true].all (fun p => p.inRange) = true := by decide +kernel
theorem met_QueueUntouched : ∃ (c : Instr) (s t : State), exec c s = .next t := ⟨.status, State.reset, State.reset, rfl⟩
theorem met_RegistersStayCanonical : ∃ s t : State, regsCanonical s = true ∧ step s = .next t :=
  ⟨State.reset, State.reset.elapse 1, by decide +kernel, rfl⟩
theorem met_ShadowCopiesAgree : ∃ s t : State, shadowSound s ∧ step s = .next t :=
  ⟨State.reset, State.reset.elapse 1, by decide +kernel, rfl⟩
theorem met_TollAndLockPersist :
    (∃ (c : Instr) (s t : State), startsAnew c = false ∧ exec c s = .next t ∧ shadowSound s) ∧
    (∃ (c : Instr) (s t : State), startsAnew c = false ∧ exec c s = .next t ∧ s.rf.lockUsed = true) :=
  ⟨⟨.status, State.reset, State.reset, rfl, rfl, by decide +kernel⟩,
   ⟨.status, { State.reset with rf.lockUsed := true }, { State.reset with rf.lockUsed := true }, rfl, rfl, rfl⟩⟩
theorem met_DecidingRegion :
    (∃ (s : State) (m a r : Nat), r < 16 ∧ guardedSpace a = true ∧ regionCovers (s.liveRegion (regionKey m r)) a = true ∧
      (List.range 16).all (fun q => q ≤ r || !regionCovers (s.liveRegion (regionKey m q)) a) = true) ∧
    (∃ (s : State) (m a : Nat), (List.range 16).all (fun r => !regionCovers (s.liveRegion (regionKey m r)) a) = true) ∧
    (∃ (r : Word × Word) (k a : Nat), 7 ≤ regionSz r.2 ∧ r.2.bit (8 + k) = true ∧
      r.1.toNat + k * 2 ^ (regionSz r.2 - 3) ≤ a ∧ a < r.1.toNat + (k + 1) * 2 ^ (regionSz r.2 - 3)) :=
  ⟨⟨{ State.reset with grd.live := allowAll }, 1, 0x10C, 2, by decide +kernel⟩,
   ⟨State.reset, 1, 0x0F000000, by decide +kernel⟩,
   ⟨(0#32, regionCfg 0 false true true 11 1 0), 0, 5, by decide +kernel⟩⟩

theorem met_PortNeverLockedOut :
    (∃ (s : State) (a : Nat), runs s ∧ s.wired = true ∧ a % 4 = 0 ∧ (regOff a < 0x60 ∨ (0x420 ≤ regOff a ∧ regOff a < 0x4A0)) ∧ a < 2048) ∧
    (∃ (s : State) (a : Nat), runs s ∧ s.wired = true ∧ a % 4 = 0 ∧ (regOff a < 0x60 ∨ (0x420 ≤ regOff a ∧ regOff a < 0x4A0)) ∧ a < 8192) ∧
    (∃ (s : State) (a : Nat), runs s ∧ s.wired = true ∧ a % 4 = 0 ∧ (regOff a < 0x60 ∨ (0x420 ≤ regOff a ∧ regOff a < 0x4A0)) ∧ a < 8192) :=
  ⟨⟨(let s := wired0; s.up), (0x430), by decide +kernel⟩,
   ⟨(let s := wired0; s.up), (0x830), by decide +kernel⟩,
   ⟨(let s := wired0; s.up), (0x81C), by decide +kernel⟩⟩

theorem met_FieldWriteRefused :
    (∃ (s : State) (bank : Nat) (w : Nat) (d : BitVec 16), runs s ∧ 5 ≤ s.fld.st ∧ s.cfgBit 0x2A0 0 = true ∧ writable s bank w [d ^^^ s.fld.rn16] ∧ writeRefused s bank w 2) ∧
    (∃ (s : State) (bank : Nat) (w : Nat) (ds : List (BitVec 16)), runs s ∧ 5 ≤ s.fld.st ∧ s.cfgBit 0x2A0 0 = true ∧ writable s bank w ds ∧ writeRefused s bank w (2 * ds.length)) ∧
    (∃ (s : State) (m : BitVec 10) (a : BitVec 10), runs s ∧ 5 ≤ s.fld.st ∧ s.cfgBit 0x2A0 0 = true ∧ s.fld.priv ≠ 1 ∧ lockRefused s.fmem.lock (lockAfter s.fmem.lock m a) = false ∧ writeRefused s 4 0 2) ∧
    (∃ (s : State) (item : Nat) (fl : Byte) (bd : List Byte), runs s ∧ 5 ≤ s.fld.st ∧ s.cfgBit 0x2A0 0 = true ∧ s.fld.priv = 4 ∧ item < 65535 ∧ (fl = 0#8 ∨ fl = 1#8) ∧ bd.length ≤ 224 ∧ writeRefused s 5 item (8 + bd.length)) :=
  ⟨⟨(let s := wired0; { (s.inField 6) with fldx.mapBuilt := true, arr := State.reset.arr, cmt := State.reset.cmt, peal.lease9 := none, peal.lease8 := none, pwr.usable := [false, false, true, false, false, false], pwr.vauxOk := false, pwr.gauge := zeroGauge, pwr.step := 3 }), (1), (5), (0x55AA#16), by decide +kernel⟩,
   ⟨(let s := wired0; { (s.inField 6) with fldx.mapBuilt := true, arr := State.reset.arr, cmt := State.reset.cmt, peal.lease9 := none, peal.lease8 := none, pwr.usable := [false, false, true, false, false, false], pwr.vauxOk := false, pwr.gauge := zeroGauge, pwr.step := 3 }), (3), (5), ([0x55AA#16, 1#16]), by decide +kernel⟩,
   ⟨(let s := wired0; { (s.inField 6) with fldx.mapBuilt := true, arr := State.reset.arr, cmt := State.reset.cmt, peal.lease9 := none, peal.lease8 := none, pwr.usable := [false, false, true, false, false, false], pwr.vauxOk := false, pwr.gauge := zeroGauge, pwr.step := 3 }), (0x20#10), (0x20#10), by decide +kernel⟩,
   ⟨(let s := wired0; { (s.inField 6) with fldx.mapBuilt := true, arr := State.reset.arr, cmt := State.reset.cmt, peal.lease9 := none, peal.lease8 := none, fld.priv := 4, pwr.usable := [false, false, true, false, false, false], pwr.vauxOk := false, pwr.gauge := zeroGauge, pwr.step := 3 }), (7), (1#8), (zeroBytes 20), by decide +kernel⟩⟩

theorem met_FieldJournalFull :
    (∃ (s : State) (bank : Nat) (w : Nat) (d : BitVec 16), runs s ∧ 5 ≤ s.fld.st ∧ s.cfgBit 0x2A0 0 = true ∧ writable s bank w [d ^^^ s.fld.rn16] ∧ journalBlocked s bank 2) ∧
    (∃ (s : State) (bank : Nat) (w : Nat) (ds : List (BitVec 16)), runs s ∧ 5 ≤ s.fld.st ∧ s.cfgBit 0x2A0 0 = true ∧ writable s bank w ds ∧ journalBlocked s bank (2 * ds.length)) ∧
    (∃ (s : State) (m : BitVec 10) (a : BitVec 10), runs s ∧ 5 ≤ s.fld.st ∧ s.cfgBit 0x2A0 0 = true ∧ s.fld.priv ≠ 1 ∧ lockRefused s.fmem.lock (lockAfter s.fmem.lock m a) = false ∧ journalBlocked s 4 2) ∧
    (∃ (s : State) (item : Nat) (fl : Byte) (bd : List Byte), runs s ∧ 5 ≤ s.fld.st ∧ s.cfgBit 0x2A0 0 = true ∧ s.fld.priv = 4 ∧ item < 65535 ∧ (fl = 0#8 ∨ fl = 1#8) ∧ bd.length ≤ 224 ∧ journalBlocked s 5 (8 + bd.length)) :=
  ⟨⟨(let s := wired0; { (s.inField 6) with fldx.mapBuilt := true, arr := State.reset.arr, cmt := State.reset.cmt, peal.lease9 := none, peal.lease8 := none, fmem.journal := [{ pos := 0, count := 3, target := 1, addr := 6, data := [1#8, 2#8], value := 1, seq := 0#32, applied := false }] }), (1), (5), (0x55AA#16), by decide +kernel⟩,
   ⟨(let s := wired0; { (s.inField 6) with fldx.mapBuilt := true, arr := State.reset.arr, cmt := State.reset.cmt, peal.lease9 := none, peal.lease8 := none, fmem.journal := [{ pos := 0, count := 3, target := 1, addr := 6, data := [1#8, 2#8], value := 1, seq := 0#32, applied := false }] }), (3), (5), ([0x55AA#16, 1#16]), by decide +kernel⟩,
   ⟨(let s := wired0; { (s.inField 6) with fldx.mapBuilt := true, arr := State.reset.arr, cmt := State.reset.cmt, peal.lease9 := none, peal.lease8 := none, fmem.journal := [{ pos := 0, count := 3, target := 1, addr := 6, data := [1#8, 2#8], value := 1, seq := 0#32, applied := false }] }), (0x20#10), (0x20#10), by decide +kernel⟩,
   ⟨(let s := wired0; { (s.inField 6) with fldx.mapBuilt := true, arr := State.reset.arr, cmt := State.reset.cmt, peal.lease9 := none, peal.lease8 := none, fld.priv := 4, fmem.journal := [{ pos := 0, count := 3, target := 1, addr := 6, data := [1#8, 2#8], value := 1, seq := 0#32, applied := false }] }), (7), (1#8), (zeroBytes 20), by decide +kernel⟩⟩

theorem met_SupplyKeepsFlags :
    (∃ (s : State), runs s) ∧
    (∃ (s : State), runs s) :=
  ⟨⟨(let s := wired0; s), by decide +kernel⟩,
   ⟨(let s := wired0; { s.calm.setForce 0x064 1#32 with pwr.mode := 3, pwr.step := 7, pwr.darkSince := some 0, clk.up := 3600 * 16777216, boot.darkPending := none, log.batch := [], kn.slots := List.replicate 8 emptySlot, pwr.usable := [false, true, false, true, false, true], pwr.vauxOk := false }), by decide +kernel⟩⟩

theorem met_StrayAcknowledgements :
    (∃ (s : State) (h : PackHdr), runs s ∧ s.knellRunning = false ∧ s.linkOn = true ∧ (s.peal.unsettled.all (fun u => u.stroke != h.stroke) = true ∨ h.origin ≠ s.tagIndex ∨ h.cid ≠ s.cid)) ∧
    (∃ (s : State) (h : PackHdr) (u : Unsettled), runs s ∧ s.knellRunning = false ∧ s.linkOn = true ∧ s.peal.unsettled = [u] ∧ h.stroke = u.stroke ∧ u.set &&& BitVec.ofNat 64 (2 ^ (h.acker % 64)) = 0#64) :=
  ⟨⟨(let s := wired0; { s.calm with stm.st := 4, peal.unsettled := [] }), ({ origin := 3, cid := 5#32, stroke := 7, acker := 2, result := 0 }), by decide +kernel⟩,
   ⟨(let s := wired0; { s.calm with stm.st := 4, peal.unsettled := [unsettled0] }), ({ origin := 3, cid := 5#32, stroke := 7, acker := 2, result := 0 }), (unsettled0), by decide +kernel⟩⟩

theorem met_LinkTimersAndFalls :
    (∃ (s : State), runs s ∧ s.stm.st = 4 ∧ s.lnk.unacked ≠ 0) ∧
    (∃ (s : State), runs s ∧ s.stm.st = 4 ∧ s.stm.req.isSome = true ∧ s.stm.reqWhy.any (fun w => s.whyHolds w) = true) ∧
    (∃ (s : State), runs s ∧ (s.stm.st = 2 ∨ s.stm.st = 3)) ∧
    (∃ (s : State) (lanes : BitVec 4), runs s ∧ s.stm.st = 4 ∧ (2 ≤ s.lnk.badRun ∨ lanes ≠ 0#4) ∧ s.stm.req = none) ∧
    (∃ (s : State) (lanes : BitVec 4) (old : BitVec 4) (n : Nat) (typ : Nat), runs s ∧ s.stm.st = 4 ∧ lanes ≠ 0#4 ∧ s.stm.req = some (n, typ, old)) ∧
    (∃ (s : State), runs s ∧ s.stm.st = 4 ∧ s.lnk.replay ≠ [] ∧ (s.lnk.noProgress < 4 ∨ s.stm.req.isSome = true)) ∧
    (∃ (s : State), runs s ∧ s.stm.st = 4 ∧ s.lnk.replay ≠ [] ∧ 4 ≤ s.lnk.noProgress ∧ s.stm.req = none) ∧
    (∃ (s : State), runs s ∧ s.knellRunning = false ∧ s.stm.st = 4) ∧
    (∃ (s : State), runs s ∧ s.knellRunning = false ∧ s.stm.st = 4 ∧ 8 ≤ s.errCount) ∧
    (∃ (s : State), runs s ∧ s.knellRunning = false ∧ s.stm.retraining = true ∧ s.stm.st ≠ 4) ∧
    (∃ (s : State), runs s ∧ nothingWaits s ∧ s.stm.held = true ∧ s.cmt.pipe = [] ∧ s.lnk.openFrame = [none, none, none, none]) :=
  ⟨⟨(let s := wired0; { s with stm.st := 4, lnk.unacked := 3 }), by decide +kernel⟩,
   ⟨(let s := wired0; { s with stm.st := 4, stm.req := some (1, 1, 0#4), stm.reqWhy := [.control] }), by decide +kernel⟩,
   ⟨(let s := wired0; { s with stm.st := 2 }), by decide +kernel⟩,
   ⟨(let s := wired0; { s with stm.st := 4, stm.req := none, lnk.badRun := 2 }), (1#4), by decide +kernel⟩,
   ⟨(let s := wired0; { s with stm.st := 4, stm.req := some (7, 1, 2#4) }), (1#4), (2#4), (7), (1), by decide +kernel⟩,
   ⟨(let s := wired0; { s with stm.st := 4, lnk.noProgress := 1, lnk.replay := [{ seq := 0#12, cls := .mgmt, sof := true, eof := true, payload := [1#8] }] }), by decide +kernel⟩,
   ⟨(let s := wired0; { s with stm.st := 4, stm.req := none, lnk.noProgress := 4, lnk.replay := [{ seq := 0#12, cls := .mgmt, sof := true, eof := true, payload := [1#8] }] }), by decide +kernel⟩,
   ⟨(let s := wired0; { s with kn.state := 1, stm.st := 4 }), by decide +kernel⟩,
   ⟨(let s := wired0; { s with kn.state := 1, stm.st := 4, lnk.errHist := List.replicate 8 true }), by decide +kernel⟩,
   ⟨(let s := wired0; { s with kn.state := 1, stm.st := 2, stm.retraining := true }), by decide +kernel⟩,
   ⟨(let s := wired0; { s with stm.held := true, cmt.pipe := [], lnk.openFrame := [none, none, none, none], cmt.auditHeld := [], cmt.s1wait := [], peal.eventWait := [], peal.copyWait := [], peal.mgmtWait := [], rf.mbx.waitLen := none, snr.waiting := [] }), by decide +kernel⟩⟩

theorem met_ReceivedPackets :
    (∃ (s : State) (seq : BitVec 12), runs s ∧ s.stm.st = 4 ∧ nothingWaits s ∧ ackCovers s seq ≤ outstanding s) ∧
    (∃ (s : State) (seq : BitVec 12), runs s ∧ s.stm.st = 4 ∧ nothingWaits s ∧ outstanding s < ackCovers s seq) ∧
    (∃ (s : State) (seq : BitVec 12), runs s ∧ s.stm.st = 4 ∧ nothingWaits s ∧ ackCovers s seq ≤ outstanding s ∧ (released s seq).replay ≠ []) ∧
    (∃ (s : State) (seq : BitVec 12), runs s ∧ s.stm.st = 4 ∧ nothingWaits s ∧ ackCovers s seq ≤ outstanding s ∧ (released s seq).replay = []) ∧
    (∃ (s : State) (seq : BitVec 12), runs s ∧ s.stm.st = 4 ∧ nothingWaits s ∧ outstanding s < ackCovers s seq) ∧
    (∃ (s : State) (raw : List Byte), runs s ∧ s.stm.st = 4 ∧ nothingWaits s ∧ parsePacket raw = none ∧ raw ≠ idleWord) ∧
    (∃ (s : State), runs s ∧ s.stm.st = 4 ∧ nothingWaits s) ∧
    (∃ (s : State) (seq : BitVec 12) (cls : Cls) (sof : Bool) (len : Nat), runs s ∧ s.stm.st = 4 ∧ nothingWaits s ∧ 1 ≤ len ∧ len ≤ 512 ∧ seq = s.lnk.expected ∧ creditsOf len ≤ s.rxCredit cls.code ∧ s.knellRunning = false ∧ (s.lnk.openFrame.getD cls.code none).isSome = !sof ∧ (sof = true ∨ s.lnk.discard.getD cls.code false = false)) ∧
    (∃ (s : State) (seq : BitVec 12) (len : Nat), runs s ∧ s.stm.st = 4 ∧ nothingWaits s ∧ 1 ≤ len ∧ len ≤ 512 ∧ 2048 ≤ (seq - s.lnk.expected).toNat) ∧
    (∃ (s : State) (seq : BitVec 12) (cls : Cls) (len : Nat), runs s ∧ s.stm.st = 4 ∧ nothingWaits s ∧ 1 ≤ len ∧ len ≤ 512 ∧ 1 ≤ (seq - s.lnk.expected).toNat ∧ (seq - s.lnk.expected).toNat < 2048 ∧ creditsOf len ≤ s.rxCredit cls.code) ∧
    (∃ (s : State) (seq : BitVec 12) (cls : Cls) (len : Nat), runs s ∧ s.stm.st = 4 ∧ nothingWaits s ∧ 1 ≤ len ∧ len ≤ 512 ∧ (seq - s.lnk.expected).toNat < 2048 ∧ s.rxCredit cls.code < creditsOf len) :=
  ⟨⟨(let s := wired0; { s with stm.st := 4, lnk.oldest := 0#12, lnk.next := 5#12 }), (0#12), by decide +kernel⟩,
   ⟨(let s := wired0; { s with stm.st := 4, lnk.oldest := 3#12, lnk.next := 5#12 }), (0#12), by decide +kernel⟩,
   ⟨(let s := wired0; { s with stm.st := 4, lnk.oldest := 0#12, lnk.next := 5#12, lnk.replay := [{ seq := 0#12, cls := .mgmt, sof := true, eof := true, payload := [1#8] }, { seq := 1#12, cls := .mgmt, sof := true, eof := true, payload := [1#8] }] }), (0#12), by decide +kernel⟩,
   ⟨(let s := wired0; { s with stm.st := 4, lnk.oldest := 0#12, lnk.next := 5#12, lnk.replay := [{ seq := 0#12, cls := .mgmt, sof := true, eof := true, payload := [1#8] }] }), (0#12), by decide +kernel⟩,
   ⟨(let s := wired0; { s with stm.st := 4, lnk.oldest := 3#12, lnk.next := 5#12 }), (0#12), by decide +kernel⟩,
   ⟨(let s := wired0; { s.calm with stm.st := 4, lnk.nakSent := false }), ([1#8, 2#8]), by decide +kernel⟩,
   ⟨(let s := wired0; { s with stm.st := 4, lnk.oldest := 0#12, lnk.next := 5#12 }), by decide +kernel⟩,
   ⟨(let s := wired0; { s with stm.st := 4, lnk.expected := 4#12, lnk.credited := true, lnk.rxLimit := [256, 8192, 1024, 2048], lnk.rxSent := [256, 8192, 1024, 2048], lnk.rxUsed := [0, 0, 0, 0], lnk.openFrame := [none, none, none, none], kn.state := 1, cmt.auditHeld := [], cmt.s1wait := [], peal.eventWait := [], peal.copyWait := [], peal.mgmtWait := [], rf.mbx.waitLen := none, snr.waiting := [] }), (4#12), (.event), (true), (100), by decide +kernel⟩,
   ⟨(let s := wired0; { s with stm.st := 4, lnk.expected := 7#12, cmt.auditHeld := [], cmt.s1wait := [], peal.eventWait := [], peal.copyWait := [], peal.mgmtWait := [], rf.mbx.waitLen := none, snr.waiting := [] }), (4#12), (100), by decide +kernel⟩,
   ⟨(let s := wired0; { s with stm.st := 4, lnk.expected := 4#12, lnk.credited := true, lnk.rxLimit := [256, 8192, 1024, 2048], lnk.rxSent := [256, 8192, 1024, 2048], lnk.rxUsed := [0, 0, 0, 0], lnk.openFrame := [none, none, none, none], kn.state := 1, cmt.auditHeld := [], cmt.s1wait := [], peal.eventWait := [], peal.copyWait := [], peal.mgmtWait := [], rf.mbx.waitLen := none, snr.waiting := [] }), (9#12), (.event), (100), by decide +kernel⟩,
   ⟨(let s := wired0; { s.calm with stm.st := 4, lnk.expected := 4#12, lnk.nakSent := false, lnk.rxUsed := [256, 0, 0, 0], lnk.rxSent := [257, 0, 0, 0], lnk.credited := true }), (4#12), (.knell), (100), by decide +kernel⟩⟩

theorem met_TransmitOrder :
    (∃ (s : State) (r : Nat), runs s ∧ s.stm.st = 4 ∧ s.lnk.nakPending = some r) ∧
    (∃ (s : State), runs s ∧ s.stm.st = 4 ∧ s.lnk.nakPending = none ∧ s.lnk.creditPending = true ∧ (s.lnk.credited = true ∨ s.rf.ready = true)) ∧
    (∃ (s : State), runs s ∧ s.stm.st = 4 ∧ s.lnk.nakPending = none ∧ s.lnk.creditPending = false ∧ s.lnk.ackPending = true) ∧
    (∃ (s : State) (n : Nat) (typ : Nat) (lanes : BitVec 4), runs s ∧ s.stm.st = 4 ∧ s.lnk.nakPending = none ∧ s.lnk.creditPending = false ∧ s.lnk.ackPending = false ∧ s.lnk.linkReqPending = true ∧ s.stm.req = some (n, typ, lanes)) ∧
    (∃ (s : State) (p : TxPkt), runs s ∧ s.stm.st = 4 ∧ s.lnk.nakPending = none ∧ s.lnk.creditPending = false ∧ s.lnk.ackPending = false ∧ s.lnk.linkReqPending = false ∧ s.lnk.replay[s.lnk.cursor]? = some p) ∧
    (∃ (s : State) (p : TxPkt) (q : List TxPkt), runs s ∧ s.stm.st = 4 ∧ s.lnk.nakPending = none ∧ s.lnk.creditPending = false ∧ s.lnk.ackPending = false ∧ s.lnk.linkReqPending = false ∧ s.lnk.replay = [] ∧ s.lnk.cursor = 0 ∧ s.lnk.txQ = p :: q ∧ p.cls = .mgmt ∧ 1 ≤ p.payload.length ∧ p.payload.length ≤ 64 ∧ outstanding s < s.lnk.window ∧ s.lnk.txMgmtUsed ≠ s.lnk.txMgmtLimit ∧ s.knellRunning = false) :=
  ⟨⟨(let s := wired0; { s with stm.st := 4, lnk.nakPending := some 2 }), (2), by decide +kernel⟩,
   ⟨(let s := wired0; { s with stm.st := 4, lnk.nakPending := none, lnk.creditPending := true, lnk.credited := true }), by decide +kernel⟩,
   ⟨(let s := wired0; { s with stm.st := 4, lnk.nakPending := none, lnk.creditPending := false, lnk.ackPending := true }), by decide +kernel⟩,
   ⟨(let s := wired0; { s with stm.st := 4, lnk.nakPending := none, lnk.creditPending := false, lnk.ackPending := false, lnk.linkReqPending := true, stm.req := some (5, 1, 2#4) }), (5), (1), (2#4), by decide +kernel⟩,
   ⟨(let s := wired0; { s with stm.st := 4, lnk.nakPending := none, lnk.creditPending := false, lnk.ackPending := false, lnk.linkReqPending := false, lnk.cursor := 0, lnk.replay := [{ seq := 0#12, cls := .mgmt, sof := true, eof := true, payload := [1#8] }] }), ({ seq := 0#12, cls := .mgmt, sof := true, eof := true, payload := [1#8] }), by decide +kernel⟩,
   ⟨(let s := wired0; { s with stm.st := 4, kn.state := 1, lnk.nakPending := none, lnk.creditPending := false, lnk.ackPending := false, lnk.linkReqPending := false, lnk.cursor := 0, lnk.replay := [], lnk.oldest := 9#12, lnk.next := 9#12, lnk.window := 4, lnk.txMgmtLimit := 5#16, lnk.txMgmtUsed := 4#16, lnk.txQ := [{ seq := 0#12, cls := .mgmt, sof := true, eof := true, payload := [1#8] }] }), ({ seq := 0#12, cls := .mgmt, sof := true, eof := true, payload := [1#8] }), ([]), by decide +kernel⟩⟩

theorem met_Training :
    (∃ (s : State), runs s ∧ s.stm.st = 1 ∧ s.domOn 16 = true) ∧
    (∃ (s : State), runs s ∧ s.stm.st = 4 ∧ s.stm.req = none) ∧
    (∃ (s : State) (lane : Nat) (trainId : Byte), runs s ∧ s.stm.st = 2 ∧ lane < 4 ∧ s.stm.trainId = trainId.toNat) ∧
    (∃ (s : State), runs s ∧ s.stm.st = 2 ∧ goodLanes s.stm.ts1 &&& ~~~ s.excludedAll ≠ 0#4) ∧
    (∃ (s : State) (lane : Nat) (trainId : Byte) (resume : Bool) (next : BitVec 12) (sent : Nat), runs s ∧ nothingWaits s ∧ s.stm.st = 3 ∧ lane < 4 ∧ trainId.toNat = s.stm.trainId ∧ goodLanes (modNth s.stm.ts2 lane (fun x => x + 1)) ≠ 0#4 ∧ 8 ≤ sent ∧ s.stm.retraining = false ∧ s.stm.reeval = false ∧ s.stm.resumeOk = true ∧ resume = true ∧ ackCovers s (next - 1#12) ≤ outstanding s) ∧
    (∃ (s : State) (lane : Nat) (trainId : Byte) (resume : Bool) (sent : Nat), runs s ∧ nothingWaits s ∧ s.stm.st = 3 ∧ lane < 4 ∧ trainId.toNat = s.stm.trainId ∧ goodLanes (modNth s.stm.ts2 lane (fun x => x + 1)) ≠ 0#4 ∧ 8 ≤ sent ∧ s.stm.retraining = false ∧ s.stm.reeval = false ∧ (s.stm.resumeOk = false ∨ resume = false) ∧ s.stm.held = false ∧ s.stm.wasDown = false) :=
  ⟨⟨(let s := wired0; { s with stm.st := 1, pwr.domOn := List.replicate 20 true }), by decide +kernel⟩,
   ⟨(let s := wired0; { s with stm.st := 4, stm.req := none }), by decide +kernel⟩,
   ⟨(let s := wired0; { s with stm.st := 2, stm.trainId := 7, stm.ts1 := [3, 4, 4, 5] }), (0), (7#8), by decide +kernel⟩,
   ⟨(let s := wired0; { s with stm.st := 2, stm.ts1 := [4, 4, 1, 0] }), by decide +kernel⟩,
   ⟨(let s := wired0; { s with stm.st := 3, stm.trainId := 7, stm.ts2 := [3, 0, 0, 0], stm.retraining := false, stm.reeval := false, stm.resumeOk := true, stm.held := false, stm.wasDown := false, lnk.oldest := 2#12, lnk.next := 6#12, peal.writeCredits := [], cmt.auditHeld := [], cmt.s1wait := [], peal.eventWait := [], peal.copyWait := [], peal.mgmtWait := [], rf.mbx.waitLen := none, snr.waiting := [] }), (0), (7#8), (true), (4#12), (8), by decide +kernel⟩,
   ⟨(let s := wired0; { s with stm.st := 3, stm.trainId := 7, stm.ts2 := [3, 0, 0, 0], stm.retraining := false, stm.reeval := false, stm.resumeOk := true, stm.held := false, stm.wasDown := false, lnk.oldest := 2#12, lnk.next := 6#12, peal.writeCredits := [], cmt.auditHeld := [], cmt.s1wait := [], peal.eventWait := [], peal.copyWait := [], peal.mgmtWait := [], rf.mbx.waitLen := none, snr.waiting := [] }), (0), (7#8), (false), (8), by decide +kernel⟩⟩

theorem met_CommandBits :
    (∃ (s : State), runs s ∧ portReady s 0x0E0) ∧
    (∃ (s : State), runs s ∧ portReady s 0x0E0) ∧
    (∃ (s : State), runs s ∧ portReady s 0x560) ∧
    (∃ (s : State), runs s ∧ portReady s 0x560) ∧
    (∃ (s : State) (v : Word), runs s ∧ portReady s 0x060 ∧ v.bit 3 = false) ∧
    (∃ (s : State) (v : Word) (r : Raw), runs s ∧ portReady s 0x3E0 ∧ v.bit 1 = false ∧ v.bit 3 = false ∧ s.ent.raw = some r ∧ r.running = true) ∧
    (∃ (s : State) (v : Word) (r : Raw), runs s ∧ portReady s 0x3E0 ∧ v.bit 1 = false ∧ s.ent.raw = some r ∧ r.running = false) ∧
    (∃ (s : State) (v : Word), runs s ∧ portReady s 0x2A0 ∧ v.bit 1 = false ∧ v.bit 0 = (s.reg 0x2A0).bit 0 ∧ s.fld.wakeLevel = true) ∧
    (∃ (s : State) (v : Word), runs s ∧ keyReady s ∧ portReady s 0x060 ∧ v.bit 2 = false ∧ s.pwr.mode ≠ 6) ∧
    (∃ (s : State) (v : Word), runs s ∧ keyReady s ∧ portReady s 0x2A0 ∧ v.bit 2 = false ∧ s.rf.locked = 0#32 ∧ s.aonRuns = true) ∧
    (∃ (s : State) (v : Word), runs s ∧ keyReady s ∧ portReady s 0x3E0 ∧ v.bit 2 = false ∧ v.bit 3 = false ∧ s.pwr.step < 4 ∧ s.ent.a.state = 2 ∧ s.ent.b.state = 2 ∧ s.ent.raw = none ∧ s.ent.rawReq = none ∧ 131072 + s.stagingUsed ≤ s.stagingBytes) ∧
    (∃ (s : State) (v : Word), runs s ∧ keyReady s ∧ portReady s 0x420 ∧ s.rf.locked.bit 8 = false ∧ v.bit 8 = false ∧ (List.range 7).filter (fun m => v.bit m) ≠ []) ∧
    (∃ (s : State) (v : Word) (n : Nat) (ra : TollRing) (rb : TollRing), runs s ∧ keyReady s ∧ portReady s 0x118 ∧ 16 ≤ v.toNat ∧ v.toNat ≤ 31 ∧ s.toll v.toNat = { ringA := some ra, ringB := some rb, worn := false } ∧ ra.value = some n ∧ rb.value = some n ∧ n + 1 < 4294967296 ∧ ra.used + 1 < State.tollLife ∧ rb.used + 1 < State.tollLife) ∧
    (∃ (s : State) (v : Word) (c : Nat) (x : Ctx), runs s ∧ keyReady s ∧ portReady s 0x4A0 ∧ v.bit 0 = false ∧ v.bit 1 = true ∧ c = (s.reg 0x4B0).field 5 0 ∧ s.ctx c = some x) :=
  ⟨⟨(let s := wired0; s.up), by decide +kernel⟩,
   ⟨(let s := wired0; s.up), by decide +kernel⟩,
   ⟨(let s := wired0; s.up), by decide +kernel⟩,
   ⟨(let s := wired0; s.up), by decide +kernel⟩,
   ⟨(let s := wired0; s.up), (1#32), by decide +kernel⟩,
   ⟨(let s := wired0; { s.up with ent.raw := some { src := .a, running := true, stop := false, bytes := [], rct := 0, apt := 0 } }), (1#32), ({ src := .a, running := true, stop := false, bytes := [], rct := 0, apt := 0 }), by decide +kernel⟩,
   ⟨(let s := wired0; { s.up with ent.raw := some { src := .a, running := false, stop := false, bytes := [], rct := 0, apt := 0 } }), (1#32), ({ src := .a, running := false, stop := false, bytes := [], rct := 0, apt := 0 }), by decide +kernel⟩,
   ⟨(let s := wired0; { s.up with fld.wakeLevel := true }), (1#32), by decide +kernel⟩,
   ⟨(let s := wired0; s.up), (0#32), by decide +kernel⟩,
   ⟨(let s := wired0; s.up), (0#32), by decide +kernel⟩,
   ⟨(let s := wired0; { s.up with ent.a.state := 2, ent.b.state := 2, ent.raw := none, ent.rawReq := none }), (0#32), by decide +kernel⟩,
   ⟨(let s := wired0; s.up), (7#32), by decide +kernel⟩,
   ⟨(let s := wired0; s.up), (17#32), (let s := wired0; let s : State := s.up; s.tollValue 17), (let s := wired0; let s : State := s.up; (s.toll 17).ringA.getD ⟨0, 0, 0, []⟩), (let s := wired0; let s : State := s.up; (s.toll 17).ringB.getD ⟨0, 0, 0, []⟩), by decide +kernel⟩,
   ⟨(let s := wired0; (s.up.setCtx ((s.reg 0x4B0).field 5 0) (s.newCtx 3 0 1#8 []))), (2#32), (let s := wired0; let s : State := (s.up.setCtx ((s.reg 0x4B0).field 5 0) (s.newCtx 3 0 1#8 [])); (s.reg 0x4B0).field 5 0), (let s := wired0; let s : State := (s.up.setCtx ((s.reg 0x4B0).field 5 0) (s.newCtx 3 0 1#8 [])); s.newCtx 3 0 1#8 []), by decide +kernel⟩⟩

theorem met_KeyLockAndReset :
    (∃ (s : State) (v : Word), runs s ∧ s.wired = true ∧ v = 0x9B6D#32) ∧
    (∃ (s : State) (v : Word), runs s ∧ s.wired = true ∧ v ≠ 0x9B6D#32) ∧
    (∃ (s : State), runs s ∧ s.wired = true ∧ portReady s 0x10C) ∧
    (∃ (s : State), runs s ∧ s.wired = true ∧ keyReady s ∧ s.rf.lockUsed = false) ∧
    (∃ (s : State), runs s ∧ s.wired = true ∧ s.rf.keyArmed.contains .regp = false ∧ s.rf.lockUsed = false ∧ s1Takes s 0 6 32 ∧ s.cmt.pipe = []) ∧
    (∃ (s : State), runs s ∧ s.wired = true ∧ s.rf.lockUsed = true ∧ s1Takes s 0 6 32 ∧ s.cmt.pipe = []) ∧
    (∃ (s : State), runs s ∧ s.wired = true ∧ keyReady s ∧ s.boot.keyedPending = none ∧ s.knellRunning = true) ∧
    (∃ (s : State), runs s ∧ s.wired = true ∧ keyReady s ∧ s.boot.keyedPending = none ∧ s.knellRunning = false ∧ nothingWaits s ∧ s.ownGap (s.source 0) 6 = none ∧ boundaryClear s ∧ s.cmt.pipe = []) ∧
    (∃ (s : State) (v : Word), runs s ∧ keyReady s ∧ portReady s 0x4A0 ∧ v.bit 1 = false) :=
  ⟨⟨(let s := wired0; s.up), (0x9B6D#32), by decide +kernel⟩,
   ⟨(let s := wired0; s.up), (5#32), by decide +kernel⟩,
   ⟨(let s := wired0; s.up), by decide +kernel⟩,
   ⟨(let s := wired0; s.up), by decide +kernel⟩,
   ⟨(let s := wired0; { s.calm with rf.keyArmed := [] }), by decide +kernel⟩,
   ⟨(let s := wired0; { s.calm with rf.lockUsed := true }), by decide +kernel⟩,
   ⟨(let s := wired0; { s.up with kn.state := 3, boot.keyedPending := none }), by decide +kernel⟩,
   ⟨(let s := wired0; s.calm), by decide +kernel⟩,
   ⟨(let s := wired0; (s.up.setCtx 9 (s.newCtx 3 0 1#8 []))), (0#32), by decide +kernel⟩⟩

theorem met_EngineCommands :
    (∃ (s : State) (v : Word), runs s ∧ regsCanonical s = true ∧ portReady s 0x1A0 ∧ (s.reg 0x1A0).bit 0 = true ∧ s.stm.st = 4 ∧ s.stm.req = none ∧ v.bit 0 = true ∧ v.bit 3 = false) ∧
    (∃ (s : State) (v : Word), runs s ∧ regsCanonical s = true ∧ portReady s 0x1A0 ∧ (s.reg 0x1A0).bit 0 = true ∧ s.stm.st = 4 ∧ s.stm.req = none ∧ v.bit 0 = true ∧ v.bit 2 = false ∧ keyReady s) ∧
    (∃ (s : State), runs s ∧ regsCanonical s = true ∧ portReady s 0x1A0 ∧ (s.reg 0x1A0).bit 0 = true ∧ s.stm.st = 4 ∧ keyReady s ∧ s.rf.locked = 0#32 ∧ s.knellRunning = false) ∧
    (∃ (s : State), runs s ∧ regsCanonical s = true ∧ portReady s 0x1A0 ∧ (s.reg 0x1A0).bit 0 = true ∧ s.stm.st = 5 ∧ s.rf.locked = 0#32) ∧
    (∃ (s : State), runs s ∧ regsCanonical s = true ∧ portReady s 0x160 ∧ s.rf.locked = 0#32 ∧ s.kn.state = 1) ∧
    (∃ (s : State), runs s ∧ regsCanonical s = true ∧ portReady s 0x160 ∧ s.rf.locked = 0#32 ∧ s.kn.state = 0 ∧ s.rf.ready = true ∧ s.holdOk = true ∧ s.cmt.recovering = false ∧ s.pwr.holdMeasuring = false) ∧
    (∃ (s : State) (v : Word) (k : Nat), runs s ∧ regsCanonical s = true ∧ portReady s 0x160 ∧ s.rf.locked = 0#32 ∧ 6 ≤ s.kn.state ∧ v.bit 1 = false ∧ (List.range 8).filter (fun i => (s.kn.slots.getD i emptySlot).state == 2) = [k] ∧ (s.kn.slots.getD k emptySlot).manifest = 0 ∧ s.pwr.jobs = [] ∧ s.pwr.grants = [] ∧ s.kn.signWait = none ∧ s.cmt.pipe = []) ∧
    (∃ (s : State) (v : Word), runs s ∧ regsCanonical s = true ∧ portReady s 0x160 ∧ s.rf.locked = 0#32 ∧ keyReady s ∧ s.kn.state = 1 ∧ v.bit 0 = true ∧ v.bit 2 = false ∧ s.rf.ready = true ∧ s.holdOk = true ∧ s.cmt.recovering = false ∧ s.pwr.holdMeasuring = false ∧ s.cmt.pipe = [] ∧ s.st.current = none) :=
  ⟨⟨(let s := wired0; { s.calm with stm.st := 4, stm.req := none }), (1#32), by decide +kernel⟩,
   ⟨(let s := wired0; { s.calm with stm.st := 4, stm.req := none }), (1#32), by decide +kernel⟩,
   ⟨(let s := wired0; { s.calm with stm.st := 4, stm.req := none }), by decide +kernel⟩,
   ⟨(let s := wired0; { s.calm with stm.st := 5 }), by decide +kernel⟩,
   ⟨(let s := wired0; s.calm), by decide +kernel⟩,
   ⟨(let s := wired0; { s.calm with kn.state := 0, rf.ready := true, pwr.capUf := 500, pwr.holdMeasuring := false }), by decide +kernel⟩,
   ⟨(let s := wired0; { s.calm with kn.state := 6, kn.signWait := none, kn.slots := setNth (List.replicate 8 emptySlot) 3 { emptySlot with state := 2 } }), (1#32), (3), by decide +kernel⟩,
   ⟨(let s := wired0; { s.calm with rf.ready := true, pwr.capUf := 500, pwr.holdMeasuring := false }), (1#32), by decide +kernel⟩⟩

theorem met_SnareCommands :
    (∃ (s : State) (v : Word), runs s ∧ portReady s 0x320 ∧ regsCanonical s = true ∧ keyReady s ∧ v.bit 0 = true ∧ v.field 15 8 = 0 ∧ s.snr.armed = true ∧ s.snr.capture.isSome = true) ∧
    (∃ (s : State) (v : Word), runs s ∧ portReady s 0x320 ∧ regsCanonical s = true ∧ keyReady s ∧ v.bit 0 = true ∧ v.field 15 8 = 0 ∧ s.snr.armed = true ∧ s.snr.capture = none) ∧
    (∃ (s : State) (v : Word), runs s ∧ portReady s 0x320 ∧ regsCanonical s = true ∧ v.bit 0 = true ∧ v.bit 16 = false ∧ s.snr.capture.isSome = true) ∧
    (∃ (s : State), runs s ∧ portReady s 0x320 ∧ regsCanonical s = true ∧ s.snr.armed = false ∧ s.snr.capture = none ∧ s.snr.startCals = [] ∧ s.snr.calFirst = false ∧ s.domOn 18 = true ∧ s.pwr.step = 0 ∧ s.knellRunning = false) ∧
    (∃ (s : State), runs s ∧ portReady s 0x320 ∧ regsCanonical s = true ∧ s.snr.armed = true ∧ s.snr.calBusy = none) :=
  ⟨⟨(let s := wired0; { s.calm with snr.armed := true, snr.capture := (s.openCapture 0#8 2 9 []).snr.capture }), (1#32), by decide +kernel⟩,
   ⟨(let s := wired0; { s.calm with snr.armed := true, snr.capture := none }), (1#32), by decide +kernel⟩,
   ⟨(let s := wired0; { s.calm with snr.capture := (s.openCapture 0#8 2 9 []).snr.capture }), (0x2501#32), by decide +kernel⟩,
   ⟨(let s := wired0; { s.calm with snr.armed := false, snr.capture := none, snr.startCals := [], snr.calFirst := false, pwr.domOn := List.replicate 20 true }), by decide +kernel⟩,
   ⟨(let s := wired0; { s.calm with snr.armed := true, snr.calBusy := none }), by decide +kernel⟩⟩

theorem met_PortReadsAndWrites :
    (∃ (s : State) (off : Nat) (d : RegDesc), runs s ∧ s.wired = true ∧ portReady s off ∧ off < 2048 ∧ off % 4 = 0 ∧ off ≠ 0x428 ∧ off ≠ 0x42C ∧ regDesc off = some d ∧ d.block ≠ .mbx ∧ d.wo ||| d.wok ||| d.w1k = 0#32 ∧ keyReady s ∧ s.rf.locked = 0#32 ∧ regsCanonical s = true) ∧
    (∃ (s : State) (off : Nat) (d : RegDesc), runs s ∧ s.wired = true ∧ portReady s off ∧ off < 2048 ∧ off % 4 = 0 ∧ off ≠ 0x428 ∧ off ≠ 0x42C ∧ regDesc off = some d ∧ d.block ≠ .mbx ∧ d.wo ||| d.wok ||| d.w1k = 0#32 ∧ keyReady s ∧ s.rf.locked = 0#32 ∧ regsCanonical s = true) ∧
    (∃ (s : State), runs s ∧ s.wired = true ∧ s.pwr.domOn.length = 20) ∧
    (∃ (s : State), runs s ∧ s.wired = true) ∧
    (∃ (s : State), runs s ∧ s.wired = true) ∧
    (∃ (s : State), runs s ∧ s.wired = true ∧ portReady s 0x10C ∧ regsCanonical s = true) ∧
    (∃ (s : State) (a : Nat), runs s ∧ s.wired = true ∧ a < 65536 ∧ a % 4 ≠ 0) ∧
    (∃ (s : State) (off : Nat), runs s ∧ s.wired = true ∧ ((s.wakeFor .regp).regpGuard off false).2 = true ∧ off < 2048 ∧ off % 4 = 0 ∧ off ≠ 0x3F0 ∧ off ≠ 0x3F4 ∧ (regDesc off).map (fun d => d.rc) = some 0#32) ∧
    (∃ (s : State) (a : Nat), runs s ∧ s.wired = true ∧ a < 65536 ∧ a % 4 ≠ 0) ∧
    (∃ (s : State), runs s ∧ s.wired = true ∧ portReady s 0x530 ∧ portReady s 0x534) ∧
    (∃ (s : State), runs s ∧ s.wired = true) ∧
    (∃ (s : State), runs s ∧ s.wired = true) ∧
    (∃ (s : State), runs s ∧ s.wired = true ∧ portReady s 0x53C ∧ ((s.wakeFor .regp).regpGuard 0x7FC false).2 = true) ∧
    (∃ (s : State) (a : Nat) (ws : List Word), runs s ∧ s.wired = true ∧ a < 65536 ∧ a % 4 = 0 ∧ a + 4 * ws.length ≤ 2048) ∧
    (∃ (s : State) (a : Nat), runs s ∧ s.wired = true ∧ a < 65536) ∧
    (∃ (s : State) (a : Nat), runs s ∧ s.wired = true ∧ a < 65536) ∧
    (∃ (s : State) (a : Nat), runs s ∧ s.wired = true ∧ a < 65536 ∧ a % 4 = 0) :=
  ⟨⟨(let s := wired0; { s.up with rf.keyArmed := [.regp], rf.locked := 0#32 }), (0x0E4), (((regDesc 0x0E4).getD ⟨0, .glb, 0#32, 0#32, 0#32, 0#32, 0#32, 0#32, 0#32, []⟩)), by decide +kernel⟩,
   ⟨(let s := wired0; { s.up with rf.keyArmed := [.regp], rf.locked := 0#32 }), (0x0E4), (((regDesc 0x0E4).getD ⟨0, .glb, 0#32, 0#32, 0#32, 0#32, 0#32, 0#32, 0#32, []⟩)), by decide +kernel⟩,
   ⟨(let s := wired0; s.up), by decide +kernel⟩,
   ⟨(let s := wired0; s.up), by decide +kernel⟩,
   ⟨(let s := wired0; s.up), by decide +kernel⟩,
   ⟨(let s := wired0; s.up), by decide +kernel⟩,
   ⟨(let s := wired0; s.up), (5), by decide +kernel⟩,
   ⟨(let s := wired0; s.up), (0x0E4), by decide +kernel⟩,
   ⟨(let s := wired0; s.up), (0x0E6), by decide +kernel⟩,
   ⟨(let s := wired0; s.up), by decide +kernel⟩,
   ⟨(let s := wired0; s.up), by decide +kernel⟩,
   ⟨(let s := wired0; s.up), by decide +kernel⟩,
   ⟨(let s := wired0; s.up), by decide +kernel⟩,
   ⟨(let s := wired0; s.up), (0x530), ([3#32, 4#32]), by decide +kernel⟩,
   ⟨(let s := wired0; s.up), (0x1D0), by decide +kernel⟩,
   ⟨(let s := wired0; s.up), (0x3F0), by decide +kernel⟩,
   ⟨(let s := wired0; s.up), (0x1D0), by decide +kernel⟩⟩

theorem met_ClearsAndConfiguration :
    (∃ (s : State) (off : Nat) (d : RegDesc), runs s ∧ regsCanonical s = true ∧ s.wired = true ∧ ((s.wakeFor .regp).regpGuard off false).2 = true ∧ off < 2048 ∧ off % 4 = 0 ∧ off ≠ 0x3F0 ∧ off ≠ 0x3F4 ∧ off ≠ 0x01C ∧ alertSource off = none ∧ regDesc off = some d ∧ d.rc ≠ 0#32) ∧
    (∃ (s : State), runs s ∧ regsCanonical s = true ∧ s.wired = true ∧ ((s.wakeFor .regp).regpGuard 0x0E8 false).2 = true) ∧
    (∃ (s : State), runs s ∧ regsCanonical s = true ∧ keyReady s ∧ s.rf.locked = 0#32 ∧ portReady s 0x0E4 ∧ s.atBoundary = false) ∧
    (∃ (s : State), runs s ∧ regsCanonical s = true ∧ keyReady s ∧ s.rf.locked = 0#32 ∧ portReady s 0x0E4 ∧ s.atBoundary = false) ∧
    (∃ (s : State), runs s ∧ regsCanonical s = true ∧ keyReady s ∧ s.rf.locked = 0#32 ∧ portReady s 0x0E4 ∧ s.atBoundary = false) ∧
    (∃ (s : State), runs s ∧ regsCanonical s = true ∧ keyReady s ∧ s.rf.locked = 0#32 ∧ portReady s 0x0E4 ∧ s.atBoundary = false) :=
  ⟨⟨(let s := wired0; (s.up.count 0x1D8)), (0x1D8), ({ off := 0x1D8, block := .stm, rc := allBits }), by decide +kernel⟩,
   ⟨(let s := wired0; (s.up.raise 0x0E8 7)), by decide +kernel⟩,
   ⟨(let s := wired0; { s.up with cmt.pipe := [newPipe 9 attestRec 5 0 0 [] false true .none none none none] }), by decide +kernel⟩,
   ⟨(let s := wired0; { s.up with cmt.pipe := [newPipe 9 attestRec 5 0 0 [] false true .none none none none] }), by decide +kernel⟩,
   ⟨(let s := wired0; { s.up with cmt.pipe := [newPipe 9 attestRec 5 0 0 [] false true .none none none none] }), by decide +kernel⟩,
   ⟨(let s := wired0; { s.up with cmt.pipe := [newPipe 9 attestRec 5 0 0 [] false true .none none none none] }), by decide +kernel⟩⟩

theorem met_MailboxItems :
    (∃ (s : State) (r : ItemRule) (bytes : List Byte), runs s ∧ portReady s 0x524 ∧ s.rf.mbx.busy = false ∧ s.rf.ready = true ∧ s.rf.mbx.sel.field 15 0 = 0 ∧ itemRule (s.rf.mbx.sel.field 23 16) = some r ∧ r.reads = true ∧ State.directItem (s.rf.mbx.sel.field 23 16) = false ∧ s.itemBytes .regp (s.rf.mbx.sel.field 23 16) = some bytes ∧ bytes ≠ []) ∧
    (∃ (s : State), runs s ∧ portReady s 0x524 ∧ s.rf.mbx.busy = false ∧ s.rf.mbx.sel.field 15 0 < 16) ∧
    (∃ (s : State), runs s ∧ portReady s 0x524 ∧ s.rf.mbx.busy = true ∧ s.pwr.jobs.any (fun j => j.kind == .bivik .regp) = true) ∧
    (∃ (s : State), runs s ∧ portReady s 0x524 ∧ s.rf.mbx.busy = false) ∧
    (∃ (s : State), runs s ∧ portReady s 0x524 ∧ s.rf.mbx.busy = false ∧ s.rf.ready = true ∧ s.rf.mbx.sel.field 23 16 = 2 ∧ s.pwr.step < 2 ∧ s.s1Open = true ∧ s.clk.rtcLoad = none) ∧
    (∃ (s : State), runs s ∧ portReady s 0x524 ∧ s.rf.mbx.busy = false ∧ s.rf.ready = true ∧ s.rf.mbx.sel.field 23 16 = 16 ∧ s.atBoundary = false) ∧
    (∃ (s : State), runs s ∧ portReady s 0x524 ∧ s.rf.mbx.busy = false ∧ s.rf.ready = true ∧ s.rf.mbx.sel.field 23 16 = 80 ∧ slice (s.rf.mbx.inbuf ++ zeroBytes 256) 1 7 = zeroBytes 7 ∧ s.unitRefusal (byteAt (s.rf.mbx.inbuf ++ zeroBytes 256) 0) = none ∧ s.queuedTests.find? (fun q => q.2 == byteAt (s.rf.mbx.inbuf ++ zeroBytes 256) 0) = none ∧ s.queuedTests.length < 8) ∧
    (∃ (s : State), runs s ∧ portReady s 0x524 ∧ s.rf.mbx.busy = false ∧ s.rf.ready = true ∧ s.rf.mbx.sel.field 23 16 = 80 ∧ slice (s.rf.mbx.inbuf ++ zeroBytes 256) 1 7 = zeroBytes 7 ∧ s.unitRefusal (byteAt (s.rf.mbx.inbuf ++ zeroBytes 256) 0) = none ∧ s.st.queue = [] ∧ s.st.current = none ∧ s.pwr.jobs = [] ∧ s.pwr.grants = []) :=
  ⟨⟨(let s := wired0; { s.calm with rf.ready := true, rf.mbx := { s.rf.mbx with sel := 0x020000#32, busy := false } }), (⟨0x02, true, some (8, 8), 0x01#8, 0x04#8, false⟩), (let s := wired0; let s : State := { s.calm with rf.ready := true, rf.mbx := { s.rf.mbx with sel := 0x020000#32, busy := false } }; s.timeItem), by (repeat' apply And.intro) <;> first | decide +kernel | rfl⟩,
   ⟨(let s := wired0; { s.calm with rf.mbx := { s.rf.mbx with sel := 3#32, d0 := 0x01020304#32, busy := false } }), by decide +kernel⟩,
   ⟨(let s := wired0; { s.calm with rf.mbx := { s.rf.mbx with busy := true }, pwr.jobs := [{ id := 5, queue := 3, cost := 190000, weight := 1, kind := .bivik .regp }] }), by decide +kernel⟩,
   ⟨(let s := wired0; { s.calm with rf.mbx := { s.rf.mbx with busy := false } }), by decide +kernel⟩,
   ⟨(let s := wired0; { s.calm with rf.ready := true, clk.rtcLoad := none, rf.mbx := { s.rf.mbx with sel := 0x020000#32, busy := false, inbuf := [1#8, 2#8, 3#8] } }), by decide +kernel⟩,
   ⟨(let s := wired0; { s.calm with rf.ready := true, cmt.pipe := [newPipe 9 attestRec 5 0 0 [] false true .none none none none], rf.mbx := { s.rf.mbx with sel := 0x100000#32, busy := false, inbuf := [1#8, 2#8, 3#8] } }), by decide +kernel⟩,
   ⟨(let s := wired0; { s.calm with rf.ready := true, st.queue := [(3, 0x10)], st.current := some (3, 0x10), arr.banks := [0, 0, 0, 0], rf.mbx := { s.rf.mbx with sel := 0x500000#32, busy := false, inbuf := [2#8] } }), by decide +kernel⟩,
   ⟨(let s := wired0; { s.calm with rf.ready := true, st.queue := [], st.current := none, arr.banks := [0, 0, 0, 0], rf.mbx := { s.rf.mbx with sel := 0x500000#32, busy := false, inbuf := [2#8] } }), by decide +kernel⟩⟩

theorem met_MailboxRecords :
    (∃ (s : State) (n : Nat) (typ : Byte) (fl : Byte) (seq : Word), runs s ∧ s.s1Open = true ∧ s.cmt.s1wait = [] ∧ s.cmt.auditHeld = [] ∧ s.cmt.pipe = [] ∧ s.pwr.step < 6 ∧ portReady s 0x524 ∧ s.rf.mbx.busy = false ∧ s.rf.ready = true ∧ s.rf.mbx.sel.field 23 16 = 8 ∧ slice s.rf.mbx.inbuf 0 16 = [typ, fl, 0#8, 0#8] ++ leBytes 4 seq.toNat ++ zeroBytes 8 ∧ fl &&& 0xFC#8 = 0#8 ∧ 16 ≤ n ∧ n ≤ 256 ∧ hostType typ = true ∧ badPayload typ (((s.rf.mbx.inbuf ++ zeroBytes 256).take n).drop 16) = false ∧ s.leaseBlocks (partOf typ) none = false ∧ s.seqCheck (s.source 5) 5 seq = .inOrder ∧ s.partRoom (partOf typ) (sectorsOf (n - 16)) = true ∧ (s.guarded 0 (s.recAccess (partOf typ) (s.part (partOf typ)).head (sectorsOf (n - 16)) false true true true 0xFF#8 0)).2 = true) ∧
    (∃ (s : State) (n : Nat) (seq : Word), runs s ∧ s.s1Open = true ∧ s.cmt.s1wait = [] ∧ s.cmt.auditHeld = [] ∧ s.cmt.pipe = [] ∧ s.pwr.step < 6 ∧ portReady s 0x524 ∧ s.rf.mbx.busy = false ∧ s.rf.ready = true ∧ s.rf.mbx.sel.field 23 16 = 8 ∧ slice s.rf.mbx.inbuf 0 16 = [0xB0#8, 3#8, 0#8, 0#8] ++ leBytes 4 seq.toNat ++ zeroBytes 8 ∧ 16 ≤ n ∧ n ≤ 256 ∧ s.seqCheck (s.source 5) 5 seq = .inOrder ∧ s.partRoom (partOf 0xB0#8) (sectorsOf (n - 16)) = true ∧ (s.guarded 0 (s.recAccess (partOf 0xB0#8) (s.part (partOf 0xB0#8)).head (sectorsOf (n - 16)) false true true true 0xFF#8 0)).2 = true) ∧
    (∃ (s : State) (k : Nat) (key : List Byte), runs s ∧ s.s1Open = true ∧ s.cmt.s1wait = [] ∧ s.cmt.auditHeld = [] ∧ s.cmt.pipe = [] ∧ s.pwr.step < 6 ∧ portReady s 0x524 ∧ s.rf.mbx.busy = false ∧ s.rf.ready = true ∧ s.rf.mbx.sel.field 23 16 = 33 ∧ keyReady s ∧ s.slotUsed k = false ∧ s.keyPermitted .regp k 1 = true ∧ key.length = State.slotSize k ∧ State.keyGood k key = true ∧ (s.rf.mbx.inbuf ++ zeroBytes 256).take (8 + State.slotSize k) = [BitVec.ofNat 8 k, 1#8] ++ leBytes 2 (State.slotSize k) ++ digestBytes (sha256 key) 4 ++ key ∧ k < 8 ∧ s1Takes s 6 5 (16 + State.slotSize k)) ∧
    (∃ (s : State) (part : Nat) (stroke : Nat) (n : Nat) (fl : Byte), runs s ∧ portReady s 0x524 ∧ s.rf.mbx.busy = false ∧ s.rf.ready = true ∧ s.rf.mbx.sel.field 23 16 = 34 ∧ (s.rf.mbx.inbuf ++ zeroBytes 256).take 12 = [BitVec.ofNat 8 part, fl] ++ leBytes 2 n ++ leBytes 8 stroke ∧ part ≤ 10 ∧ part ≠ 1 ∧ (fl = 0#8 ∨ fl = 1#8) ∧ 1 ≤ n ∧ n ≤ 64 ∧ stroke < 18446744073709551616 ∧ (s.fromStroke part stroke).take n ≠ [] ∧ ((s.fromStroke part stroke).take n).foldl (fun y r => if y.2 then y.1.guarded 0 (y.1.readAccess r true 0xFF#8 0) else y) (s, true) = (s, true) ∧ s.bothFailed = false ∧ (s.rf.mbx.container.isSome = true ∨ s.openContainers < 8)) ∧
    (∃ (s : State) (stroke : Nat) (r : Stored), runs s ∧ portReady s 0x524 ∧ s.rf.mbx.busy = false ∧ s.rf.ready = true ∧ s.rf.mbx.sel.field 23 16 = 34 ∧ (s.rf.mbx.inbuf ++ zeroBytes 256).take 12 = [0#8, 0#8, 1#8, 0#8] ++ leBytes 8 stroke ∧ (s.fromStroke 0 stroke).take 1 = [r] ∧ (s.guarded 0 (s.readAccess r true 0xFF#8 0)).2 = true ∧ s.bothFailed = false ∧ (s.rf.mbx.container.isSome = true ∨ s.openContainers < 8)) ∧
    (∃ (s : State), s.mapRefusal ((s.rf.mbx.inbuf ++ zeroBytes 256).take 160) ((List.range 11).map (fun i => leNat (slice ((s.rf.mbx.inbuf ++ zeroBytes 256).take 160) (64 + 2 * i) 2))) = none → runs s ∧ portReady s 0x524 ∧ s.rf.mbx.busy = false ∧ s.rf.ready = true ∧ s.rf.mbx.sel.field 23 16 = 7 ∧ keyReady s ∧ s.epoch < 3 ∧ s.mapRefusal ((s.rf.mbx.inbuf ++ zeroBytes 256).take 160) ((List.range 11).map (fun i => leNat (slice ((s.rf.mbx.inbuf ++ zeroBytes 256).take 160) (64 + 2 * i) 2))) = none) :=
  ⟨⟨(let s := wired0; { (s.calm).setStream (s.source 5) 5 7#32 with rf.ready := true, rf.mbx := { s.rf.mbx with sel := 0x080000#32, busy := false, inbuf := [0x60#8, 3#8, 0#8, 0#8, 7#8, 0#8, 0#8, 0#8, 0#8, 0#8, 0#8, 0#8, 0#8, 0#8, 0#8, 0#8, 9#8] } }), (24), (0x60#8), (3#8), (7#32), by decide +kernel⟩,
   ⟨(let s := wired0; { (s.calm).setStream (s.source 5) 5 7#32 with rf.ready := true, rf.mbx := { s.rf.mbx with sel := 0x080000#32, busy := false, inbuf := [0xB0#8, 3#8, 0#8, 0#8, 7#8, 0#8, 0#8, 0#8, 0#8, 0#8, 0#8, 0#8, 0#8, 0#8, 0#8, 0#8, 0xAA#8, 0xBB#8] } }), (40), (7#32), by decide +kernel⟩,
   ⟨(let s := wired0; { s.calm with rf.ready := true, ses.keys := [(1, attestPayload)], ses.damaged := [], rf.mbx := { s.rf.mbx with sel := 0x210000#32, busy := false, inbuf := [4#8, 1#8, 16#8, 0#8] ++ digestBytes (sha256 (List.replicate 16 7#8)) 4 ++ List.replicate 16 7#8 } }), (4), (List.replicate 16 7#8), by (repeat' apply And.intro) <;> first | decide +kernel | rfl⟩,
   ⟨(let s := wired0; { s.calm with rf.ready := true, arr.recs := State.reset.arr.recs, rf.mbx := { s.rf.mbx with sel := 0x220000#32, busy := false, container := none, inbuf := [0#8, 1#8, 2#8, 0#8, 1#8] } }), (0), (1), (2), (1#8), by (repeat' apply And.intro) <;> first | decide +kernel | rfl⟩,
   ⟨(let s := wired0; { s.calm with rf.ready := true, arr.recs := State.reset.arr.recs, rf.mbx := { s.rf.mbx with sel := 0x220000#32, busy := false, container := none, inbuf := [0#8, 0#8, 1#8, 0#8, 1#8] } }), (1), (let s := wired0; let s : State := { s.calm with rf.ready := true, arr.recs := State.reset.arr.recs, rf.mbx := { s.rf.mbx with sel := 0x220000#32, busy := false, container := none, inbuf := [0#8, 0#8, 1#8, 0#8, 1#8] } }; ((s.fromStroke 0 1).getD 0 (factoryStored identityRec))), by (repeat' apply And.intro) <;> first | decide +kernel | rfl⟩,
   ⟨(let s := wired0; { s.calm with rf.ready := true, arr.mapEpoch := none, arr.banks := [0, 0, 0, 0], ses.keys := [(1, attestPayload), (5, keySlotPayload 5 4 1 0 (zeroBytes 64))], arr.tolls := setNth s.arr.tolls 4 (newToll 4 1 0), rf.mbx := { s.rf.mbx with sel := 0x070000#32, busy := false, inbuf := [0x42#8, 0x49#8, 0x56#8, 0x4B#8, 1#8, 0#8, 2#8, 0#8] ++ leBytes 8 Config.deviceId.toNat ++ [1#8, 0#8, 0#8, 0#8, 0#8, 0#8, 0#8, 2#8, 32#8, 0#8, 0#8, 0#8] ++ zeroBytes 36 ++ [1, 1, 16, 90, 76, 16, 8, 32, 4, 4, 8].flatMap (fun n => leBytes 2 n) ++ zeroBytes 10 } }), fun hv => by (repeat' apply And.intro) <;> first | exact hv | decide +kernel | rfl⟩⟩

theorem met_RtcEntropyAndBankTest :
    (∃ (s : State) (v : Nat) (at0 : Nat) (p : Port) (setter : BitVec 16), runs s ∧ s.clk.rtcLoad = some (v, at0, p, setter) ∧ s1Takes s 3 6 32 ∧ s.cmt.pipe = []) ∧
    (∃ (s : State) (second : Bool) (x : Src) (w : Word) (rest : List (Src × Word)), runs s ∧ s.wired = true ∧ ((s.wakeFor .regp).regpGuard (if second then 0x3F4 else 0x3F0) false).2 = true ∧ s.ent.fifo = (x, w) :: rest ∧ s.ent.pool = [] ∧ s.bothFailed = false) ∧
    (∃ (s : State) (second : Bool), runs s ∧ s.wired = true ∧ ((s.wakeFor .regp).regpGuard (if second then 0x3F4 else 0x3F0) false).2 = true ∧ s.ent.fifo = []) ∧
    (∃ (s : State) (second : Bool), runs s ∧ s.wired = true ∧ ((s.wakeFor .regp).regpGuard (if second then 0x3F4 else 0x3F0) false).2 = true ∧ s.bothFailed = true) ∧
    (∃ (s : State) (req : Nat) (bank : Nat) (badSpares : Nat), runs s ∧ s.st.current = some (req, bank) ∧ bank < 4 ∧ nth s.arr.banks bank = 1 ∧ badSpares ≤ 8 ∧ s.st.queue = [(req, bank)] ∧ nth s.arr.spareUsed bank + badSpares < 240 ∧ s.arr.banks.length = 4 ∧ s.arr.spareUsed.length = 4) ∧
    (∃ (s : State) (req : Nat) (bank : Nat) (badSpares : Nat), runs s ∧ s.st.current = some (req, bank) ∧ bank < 4 ∧ nth s.arr.banks bank = 1 ∧ badSpares ≤ 8 ∧ s.st.queue = [(req, bank)] ∧ nth s.arr.spareUsed bank + badSpares < 240 ∧ s.arr.banks.length = 4 ∧ s.arr.spareUsed.length = 4 ∧ s.knellRunning = false ∧ s.cmt.pipe = []) :=
  ⟨⟨(let s := wired0; { s.calm with clk.rtcLoad := some (5000, s.clk.up, .regp, 5#16) }), (5000), (let s := wired0; let s : State := { s.calm with clk.rtcLoad := some (5000, s.clk.up, .regp, 5#16) }; s.clk.up), (.regp), (5#16), by decide +kernel⟩,
   ⟨(let s := wired0; { s.up with ent.fifo := [(.a, 0x12345678#32), (.b, 4#32)], ent.pool := [] }), (false), (.a), (0x12345678#32), ([(.b, 4#32)]), by decide +kernel⟩,
   ⟨(let s := wired0; { s.up with ent.fifo := [] }), (false), by decide +kernel⟩,
   ⟨(let s := wired0; { s.up with ent.a := { s.ent.a with state := 5 }, ent.b := { s.ent.b with state := 5 } }), (false), by decide +kernel⟩,
   ⟨(let s := wired0; { s.calm with st.current := some (3, 1), st.queue := [(3, 1)], arr.banks := [0, 1, 0, 0], arr.spareUsed := [0, 0, 0, 0] }), (3), (1), (2), by decide +kernel⟩,
   ⟨(let s := wired0; { s.calm with st.current := some (3, 1), st.queue := [(3, 1)], arr.banks := [0, 1, 0, 0], arr.spareUsed := [0, 0, 0, 0] }), (3), (1), (2), by decide +kernel⟩⟩

theorem met_RegisterAndStageRequests :
    (∃ (s : State) (h : MgmtHdr), runs s ∧ hostAsks s h ∧ s.sessionOk h = true ∧ h.session = none ∧ h.requester.toNat < 48 ∧ ((s.boundary .request).guarded 1 ((s.boundary .request).regAccess (.host h.requester.toNat) 0 4 false)).2 = true ∧ s.grd.posted = []) ∧
    (∃ (s : State) (h : MgmtHdr), runs s ∧ hostAsks s h ∧ s.sessionOk h = true ∧ h.session = none ∧ h.requester.toNat < 48 ∧ ((s.boundary .request).guarded 1 ((s.boundary .request).regAccess (.host h.requester.toNat) 0x10C 4 true)).2 = true ∧ s.guardAttr 1 0x10C = 0 ∧ s.grd.posted = []) ∧
    (∃ (s : State) (h : MgmtHdr), runs s ∧ hostAsks s h ∧ s.sessionOk h = true ∧ h.session = none ∧ h.requester.toNat < 48 ∧ ((s.boundary .request).guarded 1 ((s.boundary .request).regAccess (.host h.requester.toNat) 0x10C 4 true)).2 = true ∧ s.guardAttr 1 0x10C ≠ 0 ∧ s.grd.posted = [] ∧ regsCanonical s = true) ∧
    (∃ (s : State) (h : MgmtHdr) (off : Nat), runs s ∧ hostAsks s h ∧ s.sessionOk h = true ∧ h.session = none ∧ h.requester.toNat < 48 ∧ ((s.boundary .request).guarded 1 ((s.boundary .request).regAccess (.host h.requester.toNat) off 4 false)).2 = true ∧ s.grd.posted = [] ∧ off < 2048 ∧ off % 4 = 0 ∧ off ≠ 0x3F0 ∧ off ≠ 0x3F4 ∧ (regDesc off).map (fun d => d.rc) = some 0#32 ∧ meetsMailbox off 4 = false) ∧
    (∃ (s : State) (h : MgmtHdr) (a : Nat) (w : Nat) (st : Nat) (u : State) (body : List Byte), runs s ∧ hostAsks s h ∧ s.sessionOk h = true ∧ a < 65536 ∧ w ≤ 3 ∧ (asked s h).inbandRead (MgmtHdrPort h) a w = (u, st, body)) ∧
    (∃ (s : State) (h : MgmtHdr) (a : Nat) (w : Nat) (st : Nat) (data : BitVec 64) (u : State), runs s ∧ hostAsks s h ∧ s.sessionOk h = true ∧ a < 65536 ∧ w ≤ 3 ∧ (asked s h).inbandWrite (MgmtHdrPort h) a w data = (u, st)) ∧
    (∃ (s : State) (h : MgmtHdr), runs s ∧ s.linkOn = true ∧ s.knellRunning = false ∧ h.ending = .good ∧ h.requester = switchDie ∧ s.rf.ready = true ∧ s.peal.mgmtWait = [] ∧ s.peal.pullHeads = [] ∧ s.cmt.rebuilding = false ∧ s.cmt.recovering = false ∧ s.stagedItems = []) ∧
    (∃ (s : State) (h : MgmtHdr) (rs : List Stored), runs s ∧ s.linkOn = true ∧ s.knellRunning = false ∧ h.ending = .good ∧ h.requester = switchDie ∧ s.rf.ready = true ∧ s.peal.mgmtWait = [] ∧ s.peal.pullHeads = [] ∧ s.cmt.rebuilding = false ∧ s.cmt.recovering = false ∧ s.stagedItems = rs ∧ rs ≠ [] ∧ rs.all (fun r => r.intact && decide ((State.recBytes r.record false).length ≤ 4032)) = true ∧ s.rf.prevReject = [] ∧ s.rf.notices = []) ∧
    (∃ (s : State) (h : MgmtHdr) (r : Stored), runs s ∧ s.linkOn = true ∧ s.knellRunning = false ∧ h.ending = .good ∧ h.requester = switchDie ∧ s.rf.ready = true ∧ s.peal.mgmtWait = [] ∧ s.peal.pullHeads = [] ∧ s.cmt.rebuilding = false ∧ s.cmt.recovering = false ∧ s.stagedItems = [r] ∧ r.intact = false) :=
  ⟨⟨(let s := wired0; { s.calm with stm.st := 4, rf.ready := true, grd.live := allowAll }), ({ requester := 3#8, tag := 7#16, session := none, ending := .good }), by decide +kernel⟩,
   ⟨(let s := wired0; { s.calm with stm.st := 4, rf.ready := true, grd.live := allowAll }), ({ requester := 3#8, tag := 7#16, session := none, ending := .good }), by decide +kernel⟩,
   ⟨(let s := wired0; { s.calm with stm.st := 4, rf.ready := true, grd.live := allowAllOrd }), ({ requester := 3#8, tag := 7#16, session := none, ending := .good }), by decide +kernel⟩,
   ⟨(let s := wired0; { s.calm with stm.st := 4, rf.ready := true, grd.live := allowAll }), ({ requester := 3#8, tag := 7#16, session := none, ending := .good }), (0x0E4), by decide +kernel⟩,
   ⟨(let s := wired0; { s.calm with stm.st := 4, rf.ready := true, grd.live := allowAll }), ({ requester := 3#8, tag := 7#16, session := none, ending := .good }), (0x1D0), (2), (let s := wired0; let s : State := { s.calm with stm.st := 4, rf.ready := true, grd.live := allowAll }; ((asked s ({ requester := 3#8, tag := 7#16, session := none, ending := .good })).inbandRead (MgmtHdrPort ({ requester := 3#8, tag := 7#16, session := none, ending := .good })) (0x1D0) (2)).2.1), (let s := wired0; let s : State := { s.calm with stm.st := 4, rf.ready := true, grd.live := allowAll }; ((asked s ({ requester := 3#8, tag := 7#16, session := none, ending := .good })).inbandRead (MgmtHdrPort ({ requester := 3#8, tag := 7#16, session := none, ending := .good })) (0x1D0) (2)).1), (let s := wired0; let s : State := { s.calm with stm.st := 4, rf.ready := true, grd.live := allowAll }; ((asked s ({ requester := 3#8, tag := 7#16, session := none, ending := .good })).inbandRead (MgmtHdrPort ({ requester := 3#8, tag := 7#16, session := none, ending := .good })) (0x1D0) (2)).2.2), by (repeat' apply And.intro) <;> first | decide +kernel | rfl⟩,
   ⟨(let s := wired0; { s.calm with stm.st := 4, rf.ready := true, grd.live := allowAllOrd }), ({ requester := 3#8, tag := 7#16, session := none, ending := .good }), (0x10C), (2), (let s := wired0; let s : State := { s.calm with stm.st := 4, rf.ready := true, grd.live := allowAllOrd }; ((asked s ({ requester := 3#8, tag := 7#16, session := none, ending := .good })).inbandWrite (MgmtHdrPort ({ requester := 3#8, tag := 7#16, session := none, ending := .good })) (0x10C) (2) 0x5500000066#64).2), (0x5500000066#64), (let s := wired0; let s : State := { s.calm with stm.st := 4, rf.ready := true, grd.live := allowAllOrd }; ((asked s ({ requester := 3#8, tag := 7#16, session := none, ending := .good })).inbandWrite (MgmtHdrPort ({ requester := 3#8, tag := 7#16, session := none, ending := .good })) (0x10C) (2) 0x5500000066#64).1), by (repeat' apply And.intro) <;> first | decide +kernel | rfl⟩,
   ⟨(let s := wired0; { s.calm with stm.st := 4, rf.ready := true, arr.recs := [], peal.pullHeads := [] }), ({ requester := 63#8, tag := 1#16, session := none, ending := .good }), by decide +kernel⟩,
   ⟨(let s := wired0; { s.calm with stm.st := 4, rf.ready := true, cmt.shadow := 900, arr.recs := [factoryStored stageRec, factoryStored stageRec2], peal.pullHeads := [], rf.prevReject := [], rf.notices := [] }), ({ requester := 63#8, tag := 1#16, session := none, ending := .good }), ([factoryStored stageRec, factoryStored stageRec2]), by (repeat' apply And.intro) <;> first | rfl | decide +kernel⟩,
   ⟨(let s := wired0; { s.calm with stm.st := 4, rf.ready := true, cmt.shadow := 900, arr.recs := [{ factoryStored stageRec with intact := false }], peal.pullHeads := [] }), ({ requester := 63#8, tag := 1#16, session := none, ending := .good }), ({ factoryStored stageRec with intact := false }), by (repeat' apply And.intro) <;> first | rfl | decide +kernel⟩⟩

theorem met_RecordRequests :
    (∃ (s : State) (h : MgmtHdr) (c : Nat) (x : Ctx) (stroke : Nat) (mode : Nat) (arg : Nat) (opened : Bool) (r : Stored), runs s ∧ served s h ∧ inSession s h c x ∧ s.cmt.rebuilding = false ∧ s.cmt.recovering = false ∧ s.peal.readFound = [] ∧ mode ≤ 2 ∧ (mode = 1 → arg ≤ 10 ∧ arg ≠ 1) ∧ (mode = 2 → arg ≤ 63) ∧ (opened = true → mode = 2) ∧ s.findRead stroke mode arg = some r ∧ r.record.hdr.typ ≠ 0xA0#8 ∧ (s.guarded 1 (s.readAccess r (opened || State.isSealed r) x.rights x.requester)).2 = true) ∧
    (∃ (s : State) (h : MgmtHdr) (c : Nat) (x : Ctx) (stroke : Nat) (mode : Nat) (arg : Nat) (opened : Bool), runs s ∧ served s h ∧ inSession s h c x ∧ s.cmt.rebuilding = false ∧ s.cmt.recovering = false ∧ s.peal.readFound = [] ∧ mode ≤ 2 ∧ (mode = 1 → arg ≤ 10 ∧ arg ≠ 1) ∧ (mode = 2 → arg ≤ 63) ∧ (opened = true → mode = 2) ∧ s.findRead stroke mode arg = none) ∧
    (∃ (s : State) (h : MgmtHdr) (c : Nat) (x : Ctx) (typ : Byte) (seq : Word) (pl : List Byte), runs s ∧ served s h ∧ inSession s h c x ∧ s.pwr.step < 6 ∧ s.s1Open = true ∧ s.cmt.s1wait = [] ∧ s.cmt.auditHeld = [] ∧ s.grd.posted.all (fun w => w.master != 1) = true ∧ hostType typ = true ∧ badPayload typ pl = false ∧ s.leaseBlocks (partOf typ) (some h.requester.toNat) = false ∧ s.partRoom (partOf typ) (sectorsOf pl.length) = true ∧ (s.seqCheck (s.source (16 + h.requester.toNat)) 2 seq = .inOrder ∨ s.seqCheck (s.source (16 + h.requester.toNat)) 2 seq = .fresh) ∧ s.hasRoom (sectorsOf pl.length) = true ∧ (s.newLogical (partOf typ) (s.part (partOf typ)).head (sectorsOf pl.length)).length ≤ s.freeLogical (partOf typ) ∧ (s.guarded 1 (s.recAccess (partOf typ) (s.part (partOf typ)).head (sectorsOf pl.length) false true true true x.rights h.requester.toNat)).2 = true) ∧
    (∃ (s : State) (h : MgmtHdr) (c : Nat) (x : Ctx) (typ : Byte) (seq : Word) (pl : List Byte), runs s ∧ served s h ∧ inSession s h c x ∧ s.pwr.step < 6 ∧ s.s1Open = true ∧ s.cmt.s1wait = [] ∧ s.cmt.auditHeld = [] ∧ s.grd.posted.all (fun w => w.master != 1) = true ∧ hostType typ = true ∧ badPayload typ pl = false ∧ s.leaseBlocks (partOf typ) (some h.requester.toNat) = false ∧ s.partRoom (partOf typ) (sectorsOf pl.length) = true ∧ s.seqCheck (s.source (16 + h.requester.toNat)) 2 seq ≠ .duplicate ∧ s.roomFor (s.source (16 + h.requester.toNat)) 2 seq (sectorsOf pl.length) = true) :=
  ⟨⟨(let s := wired0; { (s.calm.setCtx 5 { (s.newCtx 3 0 1#8 []) with state := .opened, rights := 0x1F#8 }) with stm.st := 4, rf.ready := true, arr.recs := State.reset.arr.recs ++ [factoryStored foreignRec], cmt.shadow := 900, cmt.rebuilding := false, grd.live := allowAll }), ({ requester := 3#8, tag := 7#16, session := some 5, ending := .good }), (5), (let s := wired0; let s : State := { (s.calm.setCtx 5 { (s.newCtx 3 0 1#8 []) with state := .opened, rights := 0x1F#8 }) with stm.st := 4, rf.ready := true, arr.recs := State.reset.arr.recs ++ [factoryStored foreignRec], cmt.shadow := 900, cmt.rebuilding := false, grd.live := allowAll }; { (s.newCtx 3 0 1#8 []) with state := .opened, rights := 0x1F#8 }), (1), (0), (0), (false), (let s := wired0; let s : State := { (s.calm.setCtx 5 { (s.newCtx 3 0 1#8 []) with state := .opened, rights := 0x1F#8 }) with stm.st := 4, rf.ready := true, arr.recs := State.reset.arr.recs ++ [factoryStored foreignRec], cmt.shadow := 900, cmt.rebuilding := false, grd.live := allowAll }; ((s.findRead 1 0 0).getD (factoryStored identityRec))), by (repeat' apply And.intro) <;> first | decide +kernel | rfl⟩,
   ⟨(let s := wired0; { (s.calm.setCtx 5 { (s.newCtx 3 0 1#8 []) with state := .opened, rights := 0x1F#8 }) with stm.st := 4, rf.ready := true, grd.live := allowAll }), ({ requester := 3#8, tag := 7#16, session := some 5, ending := .good }), (5), (let s := wired0; let s : State := { (s.calm.setCtx 5 { (s.newCtx 3 0 1#8 []) with state := .opened, rights := 0x1F#8 }) with stm.st := 4, rf.ready := true, grd.live := allowAll }; { (s.newCtx 3 0 1#8 []) with state := .opened, rights := 0x1F#8 }), (77777), (0), (0), (false), by decide +kernel⟩,
   ⟨(let s := wired0; { ((s.calm.setStream (s.source 19) 2 4#32).setCtx 5 { (s.newCtx 3 0 1#8 []) with state := .opened, rights := 0x1F#8 }) with stm.st := 4, rf.ready := true, grd.live := allowAll }), ({ requester := 3#8, tag := 7#16, session := some 5, ending := .good }), (5), (let s := wired0; let s : State := { ((s.calm.setStream (s.source 19) 2 4#32).setCtx 5 { (s.newCtx 3 0 1#8 []) with state := .opened, rights := 0x1F#8 }) with stm.st := 4, rf.ready := true, grd.live := allowAll }; { (s.newCtx 3 0 1#8 []) with state := .opened, rights := 0x1F#8 }), (0x60#8), (4#32), ([9#8, 0#8, 0#8, 0#8, 0#8, 0#8, 0#8, 0#8]), by decide +kernel⟩,
   ⟨(let s := wired0; { ((s.calm.setStream (s.source 19) 2 2#32).setCtx 5 { (s.newCtx 3 0 1#8 []) with state := .opened, rights := 0x1F#8 }) with stm.st := 4, rf.ready := true, grd.live := allowAll }), ({ requester := 3#8, tag := 7#16, session := some 5, ending := .good }), (5), (let s := wired0; let s : State := { ((s.calm.setStream (s.source 19) 2 2#32).setCtx 5 { (s.newCtx 3 0 1#8 []) with state := .opened, rights := 0x1F#8 }) with stm.st := 4, rf.ready := true, grd.live := allowAll }; { (s.newCtx 3 0 1#8 []) with state := .opened, rights := 0x1F#8 }), (0x60#8), (4#32), ([9#8, 0#8, 0#8, 0#8, 0#8, 0#8, 0#8, 0#8]), by decide +kernel⟩⟩

theorem met_SessionsAndLeases :
    (∃ (s : State) (h : MgmtHdr) (method : Nat) (point : List Byte) (u : State) (c : Nat), runs s ∧ served s h ∧ regsCanonical s = true ∧ s.pwr.step < 2 ∧ s.bothFailed = false ∧ s.sessionOk h = true ∧ s.rf.pend = [] ∧ (method = 0 ∨ (method = 1 ∧ s.ownerKey.isSome = true)) ∧ onCurve point = true ∧ (s.touchSession h).makeRoom h.requester.toNat = some u ∧ u.freeCtx = some c ∧ s.ent.pool = []) ∧
    (∃ (s : State) (h : MgmtHdr) (c : Nat) (x : Ctx) (k : List Byte) (sig : List Byte), Config.verify k (blockBytes x.challenge ++ x.tagPoint ++ x.hostPoint ++ [h.requester, x.asked] ++ leBytes 8 Config.deviceId.toNat) sig = true → runs s ∧ served s h ∧ regsCanonical s = true ∧ s.pwr.step < 2 ∧ s.bothFailed = false ∧ h.session = some c ∧ s.ctx c = some x ∧ x.state = .hello ∧ x.requester = h.requester.toNat ∧ x.method = 1 ∧ x.tagPoint ≠ [] ∧ s.ownerKey = some k ∧ Config.verify k (blockBytes x.challenge ++ x.tagPoint ++ x.hostPoint ++ [h.requester, x.asked] ++ leBytes 8 Config.deviceId.toNat) sig = true) ∧
    (∃ (s : State) (h : MgmtHdr) (c : Nat) (x : Ctx), runs s ∧ served s h ∧ regsCanonical s = true ∧ inSession s h c x) ∧
    (∃ (s : State) (h : MgmtHdr) (c : Nat) (part : Nat) (secs : Nat) (x : Ctx), runs s ∧ served s h ∧ regsCanonical s = true ∧ inSession s h c x ∧ (part = 8 ∨ part = 9) ∧ x.rights &&& 0x02#8 ≠ 0#8 ∧ s.atBoundary = true ∧ s.leaseBlocks part (some h.requester.toNat) = false ∧ s.peal.leaseWait = [] ∧ s.rf.pend = [] ∧ s.peal.peersWait = false ∧ 1 ≤ secs ∧ secs ≤ 500) ∧
    (∃ (s : State) (h : MgmtHdr) (c : Nat) (part : Nat) (x : Ctx), runs s ∧ served s h ∧ regsCanonical s = true ∧ inSession s h c x ∧ (part = 8 ∨ part = 9) ∧ x.rights &&& 0x02#8 ≠ 0#8 ∧ s.atBoundary = true ∧ s.leaseBlocks part (some h.requester.toNat) = false ∧ s.peal.leaseWait = [] ∧ s.rf.pend = [] ∧ s.peal.peersWait = false) ∧
    (∃ (s : State) (h : MgmtHdr) (c : Nat) (part : Nat) (op : Nat) (secs : Nat) (x : Ctx), runs s ∧ served s h ∧ regsCanonical s = true ∧ inSession s h c x ∧ (part = 8 ∨ part = 9) ∧ x.rights &&& 0x02#8 ≠ 0#8 ∧ s.atBoundary = false ∧ (op = 0 ∨ (op = 1 ∧ 1 ≤ secs ∧ secs ≤ 500))) ∧
    (∃ (s : State) (part : Nat) (l : Lease), runs s ∧ (part = 8 ∨ part = 9) ∧ (if part = 8 then s.peal.lease8 else s.peal.lease9) = some l ∧ l.endAt ≤ s.clk.up) ∧
    (∃ (s : State) (part : Nat) (l : Lease), runs s ∧ (part = 8 ∨ part = 9) ∧ (if part = 8 then s.peal.lease8 else s.peal.lease9) = some l ∧ s.clk.up < l.endAt) ∧
    (∃ (s : State) (part : Nat), runs s ∧ ((part ≠ 8 ∧ part ≠ 9) ∨ (part = 8 ∧ s.peal.lease8 = none) ∨ (part = 9 ∧ s.peal.lease9 = none))) :=
  ⟨⟨(let s := wired0; { s.calm with stm.st := 4, rf.ready := true, ent.pool := [], rf.pend := [], ses.ctxs := [], ses.keys := [(5, keySlotPayload 5 4 1 0 (zeroBytes 64))], arr.tolls := setNth s.arr.tolls 4 (newToll 4 1 0) }), ({ requester := 3#8, tag := 7#16, session := none, ending := .good }), (0), (basePoint), (let s := wired0; let s : State := { s.calm with stm.st := 4, rf.ready := true, ent.pool := [], rf.pend := [], ses.ctxs := [], ses.keys := [(5, keySlotPayload 5 4 1 0 (zeroBytes 64))], arr.tolls := setNth s.arr.tolls 4 (newToll 4 1 0) }; (((s.touchSession { requester := 3#8, tag := 7#16, session := none, ending := .good }).makeRoom 3).getD s)), (let s := wired0; let s : State := { s.calm with stm.st := 4, rf.ready := true, ent.pool := [], rf.pend := [], ses.ctxs := [], ses.keys := [(5, keySlotPayload 5 4 1 0 (zeroBytes 64))], arr.tolls := setNth s.arr.tolls 4 (newToll 4 1 0) }; (((((s.touchSession { requester := 3#8, tag := 7#16, session := none, ending := .good }).makeRoom 3).getD s).freeCtx).getD 99)), by (repeat' apply And.intro) <;> first | rfl | decide +kernel⟩,
   ⟨(let s := wired0; { (s.calm.setCtx 5 { (s.newCtx 3 1 1#8 []) with tagPoint := [1#8] }) with stm.st := 4, rf.ready := true, ses.keys := [(5, keySlotPayload 5 4 1 0 (zeroBytes 64))], arr.tolls := setNth s.arr.tolls 4 (newToll 4 1 0) }), ({ requester := 3#8, tag := 7#16, session := some 5, ending := .good }), (5), (let s := wired0; let s : State := { (s.calm.setCtx 5 { (s.newCtx 3 1 1#8 []) with tagPoint := [1#8] }) with stm.st := 4, rf.ready := true, ses.keys := [(5, keySlotPayload 5 4 1 0 (zeroBytes 64))], arr.tolls := setNth s.arr.tolls 4 (newToll 4 1 0) }; { (s.newCtx 3 1 1#8 []) with tagPoint := [1#8] }), (zeroBytes 64), (zeroBytes 64), fun hv => by (repeat' apply And.intro) <;> first | exact hv | decide +kernel | rfl⟩,
   ⟨(let s := wired0; { (s.calm.setCtx 5 { (s.newCtx 3 0 1#8 []) with state := .opened, rights := 0x1F#8 }) with stm.st := 4, rf.ready := true, peal.lease8 := some { host := 3, ctx := 5, endAt := 8 }, peal.lease9 := some { host := 4, ctx := 6, endAt := 8 } }), ({ requester := 3#8, tag := 7#16, session := some 5, ending := .good }), (5), (let s := wired0; let s : State := { (s.calm.setCtx 5 { (s.newCtx 3 0 1#8 []) with state := .opened, rights := 0x1F#8 }) with stm.st := 4, rf.ready := true, peal.lease8 := some { host := 3, ctx := 5, endAt := 8 }, peal.lease9 := some { host := 4, ctx := 6, endAt := 8 } }; { (s.newCtx 3 0 1#8 []) with state := .opened, rights := 0x1F#8 }), by decide +kernel⟩,
   ⟨(let s := wired0; { (s.calm.setCtx 5 { (s.newCtx 3 0 1#8 []) with state := .opened, rights := 0x1F#8 }) with stm.st := 4, rf.ready := true, rf.pend := [], peal.leaseWait := [], peal.peersWait := false, peal.lease8 := none, peal.lease9 := none }), ({ requester := 3#8, tag := 7#16, session := some 5, ending := .good }), (5), (9), (100), (let s := wired0; let s : State := { (s.calm.setCtx 5 { (s.newCtx 3 0 1#8 []) with state := .opened, rights := 0x1F#8 }) with stm.st := 4, rf.ready := true, rf.pend := [], peal.leaseWait := [], peal.peersWait := false, peal.lease8 := none, peal.lease9 := none }; { (s.newCtx 3 0 1#8 []) with state := .opened, rights := 0x1F#8 }), by decide +kernel⟩,
   ⟨(let s := wired0; { (s.calm.setCtx 5 { (s.newCtx 3 0 1#8 []) with state := .opened, rights := 0x1F#8 }) with stm.st := 4, rf.ready := true, rf.pend := [], peal.leaseWait := [], peal.peersWait := false, peal.lease8 := none, peal.lease9 := some { host := 3, ctx := 5, endAt := 8 } }), ({ requester := 3#8, tag := 7#16, session := some 5, ending := .good }), (5), (9), (let s := wired0; let s : State := { (s.calm.setCtx 5 { (s.newCtx 3 0 1#8 []) with state := .opened, rights := 0x1F#8 }) with stm.st := 4, rf.ready := true, rf.pend := [], peal.leaseWait := [], peal.peersWait := false, peal.lease8 := none, peal.lease9 := some { host := 3, ctx := 5, endAt := 8 } }; { (s.newCtx 3 0 1#8 []) with state := .opened, rights := 0x1F#8 }), by decide +kernel⟩,
   ⟨(let s := wired0; { (s.calm.setCtx 5 { (s.newCtx 3 0 1#8 []) with state := .opened, rights := 0x1F#8 }) with stm.st := 4, rf.ready := true, rf.pend := [], peal.leaseWait := [], peal.peersWait := false, peal.lease8 := none, cmt.pipe := [{ id := 1, record := factoryRec 0x10#8 0#8 3 1 5 0 [], sectors := 1, sector := 9, slot := 0, newExtents := [], runAhead := false, checked := true, granted := none, sealed := false, hook := .none, prevExpected := none, openFrame := none, credits := none }] }), ({ requester := 3#8, tag := 7#16, session := some 5, ending := .good }), (5), (9), (1), (100), (let s := wired0; let s : State := { (s.calm.setCtx 5 { (s.newCtx 3 0 1#8 []) with state := .opened, rights := 0x1F#8 }) with stm.st := 4, rf.ready := true, rf.pend := [], peal.leaseWait := [], peal.peersWait := false, peal.lease8 := none, cmt.pipe := [{ id := 1, record := factoryRec 0x10#8 0#8 3 1 5 0 [], sectors := 1, sector := 9, slot := 0, newExtents := [], runAhead := false, checked := true, granted := none, sealed := false, hook := .none, prevExpected := none, openFrame := none, credits := none }] }; { (s.newCtx 3 0 1#8 []) with state := .opened, rights := 0x1F#8 }), by decide +kernel⟩,
   ⟨(let s := wired0; { s.up with peal.lease8 := some { host := 3, ctx := 5, endAt := 0 }, peal.lease9 := some { host := 3, ctx := 5, endAt := 0 } }), (8), ({ host := 3, ctx := 5, endAt := 0 }), by decide +kernel⟩,
   ⟨(let s := wired0; { s.up with peal.lease8 := some { host := 3, ctx := 5, endAt := s.clk.up + 1 }, peal.lease9 := some { host := 3, ctx := 5, endAt := s.clk.up + 1 } }), (8), (let s := wired0; let s : State := { s.up with peal.lease8 := some { host := 3, ctx := 5, endAt := s.clk.up + 1 }, peal.lease9 := some { host := 3, ctx := 5, endAt := s.clk.up + 1 } }; { host := 3, ctx := 5, endAt := s.clk.up + 1 }), by decide +kernel⟩,
   ⟨(let s := wired0; { s.up with peal.lease8 := none, peal.lease9 := none }), (8), by decide +kernel⟩⟩

theorem met_EventFrames :
    (∃ (s : State) (h : EventHdr) (body : List Byte) (n : Nat), runs s ∧ nothingWaits s ∧ s.linkOn = true ∧ s.knellRunning = false ∧ s.s1Open = true ∧ s.cmt.pipe = [] ∧ eventFault h = 0 ∧ body.length = h.bodyLen ∧ s.lnk.doneFrames = [[], [n], [], []] ∧ s.seqCheck (s.source h.source) 1 h.seq = .inOrder) ∧
    (∃ (s : State) (h : EventHdr) (body : List Byte) (n : Nat) (e : Word), runs s ∧ nothingWaits s ∧ s.linkOn = true ∧ s.knellRunning = false ∧ s.s1Open = true ∧ s.cmt.pipe = [] ∧ eventFault h = 0 ∧ body.length = h.bodyLen ∧ s.lnk.doneFrames = [[], [n], [], []] ∧ s.seqCheck (s.source h.source) 1 h.seq = .jump e ∧ s.ownGap (s.source 0) 6 = none) ∧
    (∃ (s : State) (h : EventHdr) (body : List Byte) (n : Nat), runs s ∧ nothingWaits s ∧ s.linkOn = true ∧ s.knellRunning = false ∧ s.s1Open = true ∧ s.cmt.pipe = [] ∧ eventFault h = 0 ∧ body.length = h.bodyLen ∧ s.lnk.doneFrames = [[], [n], [], []] ∧ s.seqCheck (s.source h.source) 1 h.seq = .duplicate) ∧
    (∃ (s : State) (h : EventHdr) (body : List Byte), runs s ∧ nothingWaits s ∧ s.linkOn = true ∧ s.knellRunning = false ∧ s.s1Open = true ∧ eventFault h = 0 ∧ body.length = h.bodyLen ∧ s.openRec .event = none ∧ s.cmt.pipe.all (fun p => p.id != s.cmt.nextId) = true ∧ (s.seqCheck (s.source h.source) 1 h.seq = .inOrder ∨ s.seqCheck (s.source h.source) 1 h.seq = .fresh) ∧ s.roomFor (s.source h.source) 1 h.seq (sectorsOf h.bodyLen) = true) ∧
    (∃ (s : State) (h : EventHdr), runs s ∧ nothingWaits s ∧ s.linkOn = true ∧ s.knellRunning = false ∧ s.s1Open = true ∧ eventFault h = 0 ∧ s.openRec .event = none ∧ s.seqCheck (s.source h.source) 1 h.seq = .inOrder ∧ s.roomFor (s.source h.source) 1 h.seq (sectorsOf h.bodyLen) = true) ∧
    (∃ (s : State) (body : List Byte) (p : PipeRec), runs s ∧ nothingWaits s ∧ s.linkOn = true ∧ s.knellRunning = false ∧ s.openRec .event = some p ∧ body.length = p.record.hdr.length) ∧
    (∃ (s : State) (p : PipeRec) (w : Word) (e : FrameEnd), runs s ∧ nothingWaits s ∧ s.linkOn = true ∧ s.knellRunning = false ∧ s.cmt.pipe = [p] ∧ p.openFrame = some Cls.event ∧ p.hook = .none ∧ p.prevExpected = some (some w) ∧ s.streamOf p.record.hdr.source p.record.hdr.cls = some (p.record.hdr.seq + 1#32) ∧ (e = .poisoned ∨ e = .failed) ∧ boundaryClear s) :=
  ⟨⟨(let s := wired0; { s.calm.setStream (s.source 0x120) 1 9#32 with lnk.doneFrames := [[], [2], [], []] }), ({ typ := 0x10#8, first := true, last := true, bodyLen := 5, source := 0x120, seq := 9#32, ssn := 77#32 }), ([1#8, 2#8, 3#8, 4#8, 5#8]), (2), by decide +kernel⟩,
   ⟨(let s := wired0; { s.calm.setStream (s.source 0x120) 1 5#32 with lnk.doneFrames := [[], [2], [], []] }), ({ typ := 0x10#8, first := true, last := true, bodyLen := 5, source := 0x120, seq := 9#32, ssn := 77#32 }), ([1#8, 2#8, 3#8, 4#8, 5#8]), (2), (5#32), by decide +kernel⟩,
   ⟨(let s := wired0; { s.calm.setStream (s.source 0x120) 1 50#32 with lnk.doneFrames := [[], [2], [], []] }), ({ typ := 0x10#8, first := true, last := true, bodyLen := 5, source := 0x120, seq := 9#32, ssn := 77#32 }), ([1#8, 2#8, 3#8, 4#8, 5#8]), (2), by decide +kernel⟩,
   ⟨(let s := wired0; { s.calm.setStream (s.source 0x120) 1 9#32 with lnk.doneFrames := [[], [2], [], []] }), ({ typ := 0x10#8, first := true, last := true, bodyLen := 5, source := 0x120, seq := 9#32, ssn := 77#32 }), ([1#8, 2#8, 3#8, 4#8, 5#8]), by decide +kernel⟩,
   ⟨(let s := wired0; { s.calm.setStream (s.source 0x120) 1 9#32 with lnk.doneFrames := [[], [2], [], []] }), ({ typ := 0x10#8, first := true, last := true, bodyLen := 5, source := 0x120, seq := 9#32, ssn := 77#32 }), by decide +kernel⟩,
   ⟨(let s := wired0; { s.calm with cmt.pipe := [(newPipe 9 (factoryRec 0x10#8 0#8 3 0x120 1 0 (zeroBytes 5)) 3 0 0 [] false false .none (some (some 3#32)) (some .event) none)], lnk.doneFrames := [[], [2], [], []] }), ([1#8, 2#8, 3#8, 4#8, 5#8]), ((newPipe 9 (factoryRec 0x10#8 0#8 3 0x120 1 0 (zeroBytes 5)) 3 0 0 [] false false .none (some (some 3#32)) (some .event) none)), by (repeat' apply And.intro) <;> first | rfl | decide +kernel⟩,
   ⟨(let s := wired0; { (s.calm.setStream 0x120#16 6 1#32) with cmt.pipe := [(newPipe 9 (factoryRec 0x10#8 0#8 3 0x120 1 0 (zeroBytes 5)) 3 0 0 [] false false .none (some (some 3#32)) (some .event) none)], lnk.doneFrames := [[], [2], [], []] }), ((newPipe 9 (factoryRec 0x10#8 0#8 3 0x120 1 0 (zeroBytes 5)) 3 0 0 [] false false .none (some (some 3#32)) (some .event) none)), (3#32), (.poisoned), by (repeat' apply And.intro) <;> first | rfl | decide +kernel⟩⟩

theorem met_PealDeliveries :
    (∃ (s : State) (b : Backlog) (q : List Backlog) (r : Stored), runs s ∧ s.knellRunning = false ∧ s.linkOn = true ∧ s.wired = true ∧ s.pwr.step < 2 ∧ s.pwr.band < 3 ∧ s.peal.backlog = b :: q ∧ s.peal.unsettled.length < 64 ∧ s.byNumber b.stroke = some r ∧ s.pwr.jobs = [] ∧ s.pwr.grants = [] ∧ (s.boundary .admission).servedQueue 5 = 5 ∧ (s.boundary .admission).verdict (s.pealJob b.stroke) = .grant) ∧
    (∃ (s : State) (u : Unsettled) (r : Stored), runs s ∧ s.knellRunning = false ∧ s.linkOn = true ∧ s.pwr.step < 2 ∧ s.peal.unsettled = [u] ∧ u.attempt < 4 ∧ s.byNumber u.stroke = some r ∧ s.pwr.jobs = [] ∧ s.pwr.grants = [] ∧ (s.boundary .admission).servedQueue 5 = 5 ∧ (s.boundary .admission).verdict (s.pealJob u.stroke) = .grant) ∧
    (∃ (s : State) (u : Unsettled), runs s ∧ s.knellRunning = false ∧ s.linkOn = true ∧ s.peal.unsettled = [u] ∧ 4 ≤ u.attempt ∧ u.slot = none ∧ s1Takes s 7 6 48) ∧
    (∃ (s : State) (u : Unsettled) (h : PackHdr), runs s ∧ s.knellRunning = false ∧ s.linkOn = true ∧ s.peal.unsettled = [u] ∧ h.origin = s.tagIndex ∧ h.cid = s.cid ∧ h.stroke = u.stroke ∧ h.result ≤ 1 ∧ u.set &&& BitVec.ofNat 64 (2 ^ (h.acker % 64)) ≠ 0#64 ∧ u.got ||| BitVec.ofNat 64 (2 ^ (h.acker % 64)) ≠ u.set) ∧
    (∃ (s : State) (u : Unsettled) (h : PackHdr), runs s ∧ s.knellRunning = false ∧ s.linkOn = true ∧ s.peal.unsettled = [u] ∧ u.slot = none ∧ h.origin = s.tagIndex ∧ h.cid = s.cid ∧ h.stroke = u.stroke ∧ h.result ≤ 1 ∧ u.set &&& BitVec.ofNat 64 (2 ^ (h.acker % 64)) ≠ 0#64 ∧ u.got ||| BitVec.ofNat 64 (2 ^ (h.acker % 64)) = u.set) :=
  ⟨⟨(let s := wired0; { ((s.calm.setForce 0x220 1#32).setForce 0x224 1#32).setForce 0x228 5#32 with stm.st := 4, rf.ready := true, ses.keys := [(1, attestPayload), (2, keySlotPayload 2 2 1 0 (zeroBytes 32))], peal.peers := List.replicate 6 6#64, peal.peersWant := List.replicate 6 6#64, peal.peersWait := false, rf.pend := [], peal.leaseWait := [], pwr.band := 0, fmem.journal := [], peal.unsettled := [], peal.backlog := [{ stroke := 40, degree := 2, set := 6#64, slot := none }], arr.recs := [factoryStored (factoryRec 0x10#8 0#8 3 300 40 0 [1#8, 2#8])] }), ({ stroke := 40, degree := 2, set := 6#64, slot := none }), ([]), ((factoryStored (factoryRec 0x10#8 0#8 3 300 40 0 [1#8, 2#8]))), by (repeat' apply And.intro) <;> first | rfl | decide +kernel⟩,
   ⟨(let s := wired0; { ((s.calm.setForce 0x220 1#32).setForce 0x224 1#32).setForce 0x228 5#32 with stm.st := 4, rf.ready := true, ses.keys := [(1, attestPayload), (2, keySlotPayload 2 2 1 0 (zeroBytes 32))], peal.peers := List.replicate 6 6#64, peal.peersWant := List.replicate 6 6#64, peal.peersWait := false, rf.pend := [], peal.leaseWait := [], pwr.band := 0, fmem.journal := [], peal.unsettled := [{ stroke := 40, typ := 0x21#8, degree := 2, set := 6#64, got := 0#64, attempt := 1, sends := 2, firstSent := 9, due := false, slot := none }], arr.recs := [factoryStored (factoryRec 0x10#8 0#8 3 300 40 0 [1#8, 2#8])] }), ({ stroke := 40, typ := 0x21#8, degree := 2, set := 6#64, got := 0#64, attempt := 1, sends := 2, firstSent := 9, due := false, slot := none }), ((factoryStored (factoryRec 0x10#8 0#8 3 300 40 0 [1#8, 2#8]))), by (repeat' apply And.intro) <;> first | rfl | decide +kernel⟩,
   ⟨(let s := wired0; { ((s.calm.setForce 0x220 1#32).setForce 0x224 1#32).setForce 0x228 5#32 with stm.st := 4, rf.ready := true, ses.keys := [(1, attestPayload), (2, keySlotPayload 2 2 1 0 (zeroBytes 32))], peal.peers := List.replicate 6 6#64, peal.peersWant := List.replicate 6 6#64, peal.peersWait := false, rf.pend := [], peal.leaseWait := [], pwr.band := 0, fmem.journal := [], peal.unsettled := [{ stroke := 40, typ := 0x21#8, degree := 2, set := 6#64, got := 0#64, attempt := 4, sends := 2, firstSent := 9, due := false, slot := none }] }), ({ stroke := 40, typ := 0x21#8, degree := 2, set := 6#64, got := 0#64, attempt := 4, sends := 2, firstSent := 9, due := false, slot := none }), by decide +kernel⟩,
   ⟨(let s := wired0; { ((s.calm.setForce 0x220 1#32).setForce 0x224 1#32).setForce 0x228 5#32 with stm.st := 4, rf.ready := true, ses.keys := [(1, attestPayload), (2, keySlotPayload 2 2 1 0 (zeroBytes 32))], peal.peers := List.replicate 6 6#64, peal.peersWant := List.replicate 6 6#64, peal.peersWait := false, rf.pend := [], peal.leaseWait := [], pwr.band := 0, fmem.journal := [], peal.unsettled := [{ stroke := 40, typ := 0x21#8, degree := 2, set := 6#64, got := 0#64, attempt := 1, sends := 2, firstSent := 9, due := false, slot := none }] }), ({ stroke := 40, typ := 0x21#8, degree := 2, set := 6#64, got := 0#64, attempt := 1, sends := 2, firstSent := 9, due := false, slot := none }), ({ acker := 1, result := 0, origin := 1, cid := 5#32, stroke := 40 }), by decide +kernel⟩,
   ⟨(let s := wired0; { ((s.calm.setForce 0x220 1#32).setForce 0x224 1#32).setForce 0x228 5#32 with stm.st := 4, rf.ready := true, ses.keys := [(1, attestPayload), (2, keySlotPayload 2 2 1 0 (zeroBytes 32))], peal.peers := List.replicate 6 6#64, peal.peersWant := List.replicate 6 6#64, peal.peersWait := false, rf.pend := [], peal.leaseWait := [], pwr.band := 0, fmem.journal := [], peal.unsettled := [{ stroke := 40, typ := 0x21#8, degree := 2, set := 6#64, got := 2#64, attempt := 1, sends := 2, firstSent := 9, due := false, slot := none }] }), ({ stroke := 40, typ := 0x21#8, degree := 2, set := 6#64, got := 2#64, attempt := 1, sends := 2, firstSent := 9, due := false, slot := none }), ({ acker := 2, result := 1, origin := 1, cid := 5#32, stroke := 40 }), by decide +kernel⟩⟩

theorem met_CopiesAndBundles :
    (∃ (s : State) (h : CopyHdr) (body : List Byte) (n : Nat), copyVerifies body = true → runs s ∧ s.knellRunning = false ∧ s.pealReady = true ∧ nothingWaits s ∧ s.linkOn = true ∧ s.s1Open = true ∧ s.cmt.pipe = [] ∧ body.length = 64 + copyPayload body ∧ 64 ≤ body.length ∧ body.length ≤ 4032 ∧ s.holdsCopy body = false ∧ s.lnk.doneFrames = [[], [], [], [n]] ∧ h.origin ≠ s.tagIndex ∧ h.cid = s.cid ∧ copyVerifies body = true) ∧
    (∃ (s : State) (h : CopyHdr) (body : List Byte) (n : Nat), runs s ∧ s.knellRunning = false ∧ s.pealReady = true ∧ nothingWaits s ∧ s.linkOn = true ∧ s.s1Open = true ∧ s.cmt.pipe = [] ∧ body.length = 64 + copyPayload body ∧ 64 ≤ body.length ∧ body.length ≤ 4032 ∧ s.holdsCopy body = false ∧ s.lnk.doneFrames = [[], [], [], [n]] ∧ h.origin = s.tagIndex) ∧
    (∃ (s : State) (h : CopyHdr) (body : List Byte) (n : Nat), runs s ∧ s.knellRunning = false ∧ s.pealReady = true ∧ nothingWaits s ∧ s.linkOn = true ∧ s.s1Open = true ∧ s.cmt.pipe = [] ∧ body.length = 64 + copyPayload body ∧ 64 ≤ body.length ∧ body.length ≤ 4032 ∧ s.holdsCopy body = false ∧ s.lnk.doneFrames = [[], [], [], [n]] ∧ h.origin ≠ s.tagIndex ∧ h.cid ≠ s.cid) ∧
    (∃ (s : State) (k : Nat) (q : List Nat) (d : Nat), runs s ∧ s.knellRunning = false ∧ s.pealReady = true ∧ s.wired = true ∧ s.linkActive = true ∧ s.mirrorable = k :: q ∧ s.peal.unsettled = [] ∧ s.peal.backlog = [] ∧ ((s.slotRecords k).foldl insertStored []).map (fun r => r.record.hdr.degree) = [d] ∧ d ≠ 0) :=
  ⟨⟨(let s := wired0; { ((s.calm.setForce 0x220 1#32).setForce 0x224 1#32).setForce 0x228 5#32 with stm.st := 4, rf.ready := true, ses.keys := [(1, attestPayload), (2, keySlotPayload 2 2 1 0 (zeroBytes 32))], peal.peers := List.replicate 6 6#64, peal.peersWant := List.replicate 6 6#64, peal.peersWait := false, rf.pend := [], peal.leaseWait := [], pwr.band := 0, fmem.journal := [], lnk.doneFrames := [[], [], [], [4]], arr.recs := [] }), ({ origin := 2, attempt := 0, cid := 5#32, dest := 6#64 }), (([0x10#8, 0x44#8, 4#8, 0#8, 0#8, 8#8, 3#8, 0#8] ++ zeroBytes 8 ++ leBytes 8 41 ++ leBytes 8 7 ++ zeroBytes 32 ++ zeroBytes 12 ++ leBytes 16 357 ++ zeroBytes 4)), (4), fun hv => by (repeat' apply And.intro) <;> first | exact hv | decide +kernel | rfl⟩,
   ⟨(let s := wired0; { ((s.calm.setForce 0x220 1#32).setForce 0x224 1#32).setForce 0x228 5#32 with stm.st := 4, rf.ready := true, ses.keys := [(1, attestPayload), (2, keySlotPayload 2 2 1 0 (zeroBytes 32))], peal.peers := List.replicate 6 6#64, peal.peersWant := List.replicate 6 6#64, peal.peersWait := false, rf.pend := [], peal.leaseWait := [], pwr.band := 0, fmem.journal := [], lnk.doneFrames := [[], [], [], [4]], arr.recs := [] }), ({ origin := 1, attempt := 0, cid := 5#32, dest := 6#64 }), (([0x10#8, 0x44#8, 4#8, 0#8, 0#8, 8#8, 3#8, 0#8] ++ zeroBytes 8 ++ leBytes 8 41 ++ leBytes 8 7 ++ zeroBytes 32 ++ zeroBytes 12 ++ leBytes 16 357 ++ zeroBytes 4)), (4), by decide +kernel⟩,
   ⟨(let s := wired0; { ((s.calm.setForce 0x220 1#32).setForce 0x224 1#32).setForce 0x228 5#32 with stm.st := 4, rf.ready := true, ses.keys := [(1, attestPayload), (2, keySlotPayload 2 2 1 0 (zeroBytes 32))], peal.peers := List.replicate 6 6#64, peal.peersWant := List.replicate 6 6#64, peal.peersWait := false, rf.pend := [], peal.leaseWait := [], pwr.band := 0, fmem.journal := [], lnk.doneFrames := [[], [], [], [4]], arr.recs := [] }), ({ origin := 2, attempt := 0, cid := 6#32, dest := 6#64 }), (([0x10#8, 0x44#8, 4#8, 0#8, 0#8, 8#8, 3#8, 0#8] ++ zeroBytes 8 ++ leBytes 8 41 ++ leBytes 8 7 ++ zeroBytes 32 ++ zeroBytes 12 ++ leBytes 16 357 ++ zeroBytes 4)), (4), by decide +kernel⟩,
   ⟨(let s := wired0; { ((s.calm.setForce 0x220 1#32).setForce 0x224 1#32).setForce 0x228 5#32 with stm.st := 4, rf.ready := true, ses.keys := [(1, attestPayload), (2, keySlotPayload 2 2 1 0 (zeroBytes 32))], peal.peers := List.replicate 6 6#64, peal.peersWant := List.replicate 6 6#64, peal.peersWait := false, rf.pend := [], peal.leaseWait := [], pwr.band := 0, fmem.journal := [], kn.mirrorPend := [3], peal.unsettled := [], peal.backlog := [], arr.recs := [{ record := completeRec (factoryRec 0x20#8 0#8 4 3 50 0 [1#8]) 50 2 0#64, sector := 0, slot := 3, intact := true }] }), (3), ([]), (2), by decide +kernel⟩⟩

theorem met_SealAndCommit :
    (∃ (s : State) (p : PipeRec) (g : Nat), runs s ∧ s.cmt.pipe = [p] ∧ p.hook = .none ∧ p.granted = some g ∧ p.sealed = false) ∧
    (∃ (s : State) (p : PipeRec), runs s ∧ s.cmt.pipe = [p] ∧ p.hook = .none ∧ p.sealed = true ∧ p.credits = none ∧ p.newExtents = [] ∧ p.record.hdr.typ ≠ 0x70#8 ∧ nothingWaits s ∧ boundaryClear s) ∧
    (∃ (s : State) (l : List PipeRec) (r : List PipeRec) (p : PipeRec), runs s ∧ s.cmt.pipe = l ++ [p] ++ r ∧ l.all (fun x => x.sealed) = true ∧ p.sealed = false ∧ p.granted.isSome = true) ∧
    (∃ (s : State) (g : List PipeRec), runs s ∧ s.reseal.nextGroup = g ∧ g ≠ [] ∧ s.cmt.shadowB ≤ s.cmt.shadow) :=
  ⟨⟨(let s := wired0; { s.calm with cmt.pipe := [{ (newPipe 9 (s.newInternal 3 6 0x40#8 12#8 [1#8, 2#8]) 3 (s.part 6).head 0 [] false true .none none none none) with granted := some 4000 }] }), (let s := wired0; let s : State := { s.calm with cmt.pipe := [{ (newPipe 9 (s.newInternal 3 6 0x40#8 12#8 [1#8, 2#8]) 3 (s.part 6).head 0 [] false true .none none none none) with granted := some 4000 }] }; { (newPipe 9 (s.newInternal 3 6 0x40#8 12#8 [1#8, 2#8]) 3 (s.part 6).head 0 [] false true .none none none none) with granted := some 4000 }), (4000), by (repeat' apply And.intro) <;> first | decide +kernel | rfl⟩,
   ⟨(let s := wired0; { s.calm with cmt.pipe := [{ (newPipe 9 (s.newInternal 3 6 0x40#8 12#8 [1#8, 2#8]) 3 (s.part 6).head 0 [] false true .none none none none) with granted := some 3000, sealed := true }], rf.pend := [], peal.peersWait := false, peal.leaseWait := [] }), (let s := wired0; let s : State := { s.calm with cmt.pipe := [{ (newPipe 9 (s.newInternal 3 6 0x40#8 12#8 [1#8, 2#8]) 3 (s.part 6).head 0 [] false true .none none none none) with granted := some 3000, sealed := true }], rf.pend := [], peal.peersWait := false, peal.leaseWait := [] }; { (newPipe 9 (s.newInternal 3 6 0x40#8 12#8 [1#8, 2#8]) 3 (s.part 6).head 0 [] false true .none none none none) with granted := some 3000, sealed := true }), by (repeat' apply And.intro) <;> first | decide +kernel | rfl⟩,
   ⟨(let s := wired0; { s.calm with cmt.pipe := [{ (newPipe 9 (s.newInternal 3 6 0x40#8 12#8 [1#8, 2#8]) 3 (s.part 6).head 0 [] false true .none none none none) with granted := some 3000, sealed := true }, { (newPipe 9 (s.newInternal 3 6 0x40#8 12#8 [1#8, 2#8]) 3 (s.part 6).head 0 [] false true .none none none none) with granted := some 4000, hook := .batch }, (newPipe 9 (s.newInternal 3 6 0x40#8 12#8 [1#8, 2#8]) 3 (s.part 6).head 0 [] false true .none none none none)] }), (let s := wired0; let s : State := { s.calm with cmt.pipe := [{ (newPipe 9 (s.newInternal 3 6 0x40#8 12#8 [1#8, 2#8]) 3 (s.part 6).head 0 [] false true .none none none none) with granted := some 3000, sealed := true }, { (newPipe 9 (s.newInternal 3 6 0x40#8 12#8 [1#8, 2#8]) 3 (s.part 6).head 0 [] false true .none none none none) with granted := some 4000, hook := .batch }, (newPipe 9 (s.newInternal 3 6 0x40#8 12#8 [1#8, 2#8]) 3 (s.part 6).head 0 [] false true .none none none none)] }; [{ (newPipe 9 (s.newInternal 3 6 0x40#8 12#8 [1#8, 2#8]) 3 (s.part 6).head 0 [] false true .none none none none) with granted := some 3000, sealed := true }]), (let s := wired0; let s : State := { s.calm with cmt.pipe := [{ (newPipe 9 (s.newInternal 3 6 0x40#8 12#8 [1#8, 2#8]) 3 (s.part 6).head 0 [] false true .none none none none) with granted := some 3000, sealed := true }, { (newPipe 9 (s.newInternal 3 6 0x40#8 12#8 [1#8, 2#8]) 3 (s.part 6).head 0 [] false true .none none none none) with granted := some 4000, hook := .batch }, (newPipe 9 (s.newInternal 3 6 0x40#8 12#8 [1#8, 2#8]) 3 (s.part 6).head 0 [] false true .none none none none)] }; [(newPipe 9 (s.newInternal 3 6 0x40#8 12#8 [1#8, 2#8]) 3 (s.part 6).head 0 [] false true .none none none none)]), (let s := wired0; let s : State := { s.calm with cmt.pipe := [{ (newPipe 9 (s.newInternal 3 6 0x40#8 12#8 [1#8, 2#8]) 3 (s.part 6).head 0 [] false true .none none none none) with granted := some 3000, sealed := true }, { (newPipe 9 (s.newInternal 3 6 0x40#8 12#8 [1#8, 2#8]) 3 (s.part 6).head 0 [] false true .none none none none) with granted := some 4000, hook := .batch }, (newPipe 9 (s.newInternal 3 6 0x40#8 12#8 [1#8, 2#8]) 3 (s.part 6).head 0 [] false true .none none none none)] }; { (newPipe 9 (s.newInternal 3 6 0x40#8 12#8 [1#8, 2#8]) 3 (s.part 6).head 0 [] false true .none none none none) with granted := some 4000, hook := .batch }), by (repeat' apply And.intro) <;> first | decide +kernel | rfl⟩,
   ⟨(let s := wired0; { s.calm with cmt.pipe := [{ (newPipe 9 (s.newInternal 3 6 0x40#8 12#8 [1#8, 2#8]) 3 (s.part 6).head 0 [] false true .none none none none) with granted := some 3000, sealed := true }, { { (newPipe 9 (s.newInternal 3 6 0x40#8 12#8 [1#8, 2#8]) 3 (s.part 6).head 0 [] false true .none none none none) with granted := some 3000, sealed := true } with hook := .batch }, (newPipe 9 (s.newInternal 3 6 0x40#8 12#8 [1#8, 2#8]) 3 (s.part 6).head 0 [] false true .none none none none)] }), (let s := wired0; let s : State := { s.calm with cmt.pipe := [{ (newPipe 9 (s.newInternal 3 6 0x40#8 12#8 [1#8, 2#8]) 3 (s.part 6).head 0 [] false true .none none none none) with granted := some 3000, sealed := true }, { { (newPipe 9 (s.newInternal 3 6 0x40#8 12#8 [1#8, 2#8]) 3 (s.part 6).head 0 [] false true .none none none none) with granted := some 3000, sealed := true } with hook := .batch }, (newPipe 9 (s.newInternal 3 6 0x40#8 12#8 [1#8, 2#8]) 3 (s.part 6).head 0 [] false true .none none none none)] }; (({ s with cmt.pipe := [{ (newPipe 9 (s.newInternal 3 6 0x40#8 12#8 [1#8, 2#8]) 3 (s.part 6).head 0 [] false true .none none none none) with granted := some 3000, sealed := true }, { { (newPipe 9 (s.newInternal 3 6 0x40#8 12#8 [1#8, 2#8]) 3 (s.part 6).head 0 [] false true .none none none none) with granted := some 3000, sealed := true } with hook := .batch }, (newPipe 9 (s.newInternal 3 6 0x40#8 12#8 [1#8, 2#8]) 3 (s.part 6).head 0 [] false true .none none none none)] } : State).reseal).nextGroup), by (repeat' apply And.intro) <;> first | decide +kernel | rfl⟩⟩

theorem met_PulsesAndBanks :
    (∃ (s : State) (b : Nat), runs s ∧ s.cmt.rebuildTail = none ∧ boundaryClear s ∧ b < 4) ∧
    (∃ (s : State) (b : Nat) (l : Nat), runs s ∧ s.cmt.rebuildTail = none ∧ boundaryClear s ∧ b < 4 ∧ s.pulseRepeats (.line b l) < s.verifyRetry ∧ risingFrom 0 s.arr.tags = true ∧ l < 65536) ∧
    (∃ (s : State) (b : Nat) (c : Nat) (copyB : Bool) (ra : TollRing) (rb : TollRing), runs s ∧ s.cmt.rebuildTail = none ∧ boundaryClear s ∧ b < 4 ∧ s.pulseRepeats (.toll c copyB) < s.verifyRetry ∧ s.toll c = { ringA := some ra, ringB := some rb, worn := false }) ∧
    (∃ (s : State) (b : Nat) (l : Nat), runs s ∧ s.cmt.rebuildTail = none ∧ boundaryClear s ∧ b < 4 ∧ s.verifyRetry ≤ s.pulseRepeats (.line b l) ∧ nth s.arr.spareUsed b < 255 ∧ s.cmt.retires = [] ∧ s.arr.spareUsed.length = 4 ∧ risingFrom 0 s.arr.spareMap = true ∧ risingFrom 0 s.arr.spareMapB = true ∧ risingFrom 0 s.arr.tags = true ∧ nth s.arr.banks ((b + 2) % 4) ≠ 2 ∧ l < 32768) ∧
    (∃ (s : State) (f : Nat), runs s ∧ s.cmt.rebuildTail = none ∧ boundaryClear s ∧ f < 4 ∧ s.arr.banks.length = 4 ∧ s.arr.free.length = 4 ∧ s.arr.spareRings.length = 4 ∧ regsCanonical s = true ∧ nth s.arr.banks f ≠ 2 ∧ s.knellRunning = true) ∧
    (∃ (s : State) (f : Nat), runs s ∧ s.cmt.rebuildTail = none ∧ boundaryClear s ∧ f < 4 ∧ s.arr.banks.length = 4 ∧ s.arr.free.length = 4 ∧ s.arr.spareRings.length = 4 ∧ regsCanonical s = true ∧ nth s.arr.banks f ≠ 2 ∧ s.knellRunning = false ∧ s.cmt.recovering = false ∧ s.cmt.pipe = []) ∧
    (∃ (s : State) (f : Nat), runs s ∧ s.cmt.rebuildTail = none ∧ boundaryClear s ∧ f < 4 ∧ s.arr.banks.length = 4 ∧ s.arr.free.length = 4 ∧ s.arr.spareRings.length = 4 ∧ regsCanonical s = true ∧ nth s.arr.banks f = 2) :=
  ⟨⟨(let s := wired0; { s.calm with cmt.pulseRetries := [(.line 2 77, 3), (.line 1 5, 2)], cmt.pipe := s.cmt.pipe }), (2), by decide +kernel⟩,
   ⟨(let s := wired0; { s.calm with cmt.pulseRetries := [(.line 2 77, 1), (.line 1 77, 2)], arr.tags := [] }), (2), (77), by decide +kernel⟩,
   ⟨(let s := wired0; { s.calm with cmt.pulseRetries := [(.line 2 77, 1), (.line 1 77, 2)] }), (2), (3), (true), (let s := wired0; let s : State := { s.calm with cmt.pulseRetries := [(.line 2 77, 1), (.line 1 77, 2)] }; (s.toll 3).ringA.getD ⟨0, 0, 0, []⟩), (let s := wired0; let s : State := { s.calm with cmt.pulseRetries := [(.line 2 77, 1), (.line 1 77, 2)] }; (s.toll 3).ringB.getD ⟨0, 0, 0, []⟩), by decide +kernel⟩,
   ⟨(let s := wired0; { s.calm with cmt.pulseRetries := [(.line 2 77, 7)], cmt.retires := [], arr.tags := [(2 * 65536 + 32772, { cycles := 9, part := 0x0F, ext := 0, epoch := 0 })], arr.banks := [0, 0, 0, 0], arr.spareUsed := [4, 4, 4, 4], arr.spareMap := [], arr.spareMapB := [] }), (2), (77), by decide +kernel⟩,
   ⟨(let s := wired0; { s.calm with kn.state := 3, arr := { s.arr with banks := [0, 0, 0, 0], free := State.reset.arr.free, spareRings := [6, 6, 6, 6] } }), (1), by decide +kernel⟩,
   ⟨(let s := wired0; { s.calm with arr := { State.reset.arr with banks := [0, 0, 0, 0] }, cmt := State.reset.cmt }), (1), by decide +kernel⟩,
   ⟨(let s := wired0; { s.calm with arr := { s.arr with banks := [2, 2, 2, 2], free := State.reset.arr.free, spareRings := [6, 6, 6, 6] } }), (1), by decide +kernel⟩⟩

theorem met_BackgroundWork :
    (∃ (s : State), runs s ∧ s.cmt.commitsSince ≠ 0 ∧ s.cmt.lastCkptUp + s.ckptSeconds * second ≤ s.clk.up) ∧
    (∃ (s : State), runs s ∧ s.ckptEntries ≤ s.cmt.entriesSince) ∧
    (∃ (s : State) (n : Nat) (ra : TollRing) (rb : TollRing), runs s ∧ boundaryClear s ∧ s.ownGap (s.source 0) 6 = none ∧ s.cmt.ckptDue = true ∧ s.wired = true ∧ s.knellRunning = false ∧ s.kn.state ≤ 1 ∧ s.cmt.recovering = false ∧ s.pwr.band ≤ 1 ∧ s.pwr.jobs = [] ∧ s.pwr.grants = [] ∧ s.arr.tolls.length = 32 ∧ s.toll 2 = { ringA := some ra, ringB := some rb, worn := false } ∧ ra.value = some n ∧ rb.value = some n ∧ n + 1 < 4294967296 ∧ ra.used + 1 < State.tollLife ∧ rb.used + 1 < State.tollLife ∧ regsCanonical s = true) ∧
    (∃ (s : State), runs s ∧ s.cmt.ckptDue = true ∧ s.knellRunning = false ∧ s.kn.state ≠ 6 ∧ s.kn.state ≠ 7 ∧ s.cmt.recovering = false ∧ s.hasJob .kIndex = false ∧ (s.isGranted .checkpoint = true ∨ s.verdict s.ckptJob = .grant)) ∧
    (∃ (s : State) (b : Nat), runs s ∧ s.wired = true ∧ s.knellRunning = false ∧ s.pwr.band = 0 ∧ boundaryClear s ∧ s.pwr.jobs = [] ∧ s.pwr.grants = [] ∧ s.servedQueue 7 = 7 ∧ (s.boundary .scrub).scrubEn = true ∧ b < 4 ∧ nth s.arr.banks b ≠ 2 ∧ risingFrom 0 s.arr.tags = true) ∧
    (∃ (s : State) (b : Nat) (w : Nat) (p : Nat) (k : Nat) (e : Nat), runs s ∧ s.wired = true ∧ s.knellRunning = false ∧ s.pwr.band = 0 ∧ boundaryClear s ∧ s.pwr.jobs = [] ∧ s.pwr.grants = [] ∧ s.servedQueue 7 = 7 ∧ (s.boundary .scrub).staticWl = true ∧ b < 4 ∧ nth s.arr.banks b ≠ 2 ∧ s.cmt.lastMove.getD b none = none ∧ s.cmt.lastMove.length = 4 ∧ mostWornFree s b = some w ∧ leastWorn s b = some (p, k, e) ∧ s.extCycles b e + 64000 < s.extCycles b w ∧ risingFrom 0 s.arr.extMap = true) ∧
    (∃ (s : State), runs s ∧ s.keepAliveDue = true ∧ s.log.batch = [] ∧ (s.arr.saveA.isSome = true ∨ s.arr.saveB.isSome = true)) ∧
    (∃ (s : State) (b : Nat), runs s ∧ s.wired = true ∧ s.knellRunning = false ∧ s.pwr.band = 0 ∧ boundaryClear s ∧ s.pwr.jobs = [] ∧ s.pwr.grants = [] ∧ s.servedQueue 7 = 7 ∧ (s.boundary .scrub).scrubEn = true ∧ b < 4 ∧ nth s.arr.banks b ≠ 2) :=
  ⟨⟨(let s := wired0; { s with cmt.commitsSince := 3, cmt.lastCkptUp := 0, clk.up := 2551 * second }), by decide +kernel⟩,
   ⟨(let s := wired0; { s with cmt.entriesSince := 9999 }), by decide +kernel⟩,
   ⟨(let s := wired0; { s.calm with cmt.ckptDue := true, pwr.band := 0, arr.tolls := State.reset.arr.tolls }), (let s := wired0; let s : State := { s.calm with cmt.ckptDue := true, pwr.band := 0, arr.tolls := State.reset.arr.tolls }; s.tollValue 2), (let s := wired0; let s : State := { s.calm with cmt.ckptDue := true, pwr.band := 0, arr.tolls := State.reset.arr.tolls }; (s.toll 2).ringA.getD ⟨0, 0, 0, []⟩), (let s := wired0; let s : State := { s.calm with cmt.ckptDue := true, pwr.band := 0, arr.tolls := State.reset.arr.tolls }; (s.toll 2).ringB.getD ⟨0, 0, 0, []⟩), by decide +kernel⟩,
   ⟨(let s := wired0; { s.calm with cmt.ckptDue := true, pwr.band := 0, pwr.grants := [{ id := 4, queue := 0, cost := 400000, weight := 2, kind := .checkpoint }] }), by decide +kernel⟩,
   ⟨(let s := wired0; { s.calm.setForce 0x0E0 3#32 with pwr.band := 0, rf.pend := [], arr.tags := [], arr.banks := [0, 0, 0, 0] }), (2), by decide +kernel⟩,
   ⟨(let s := wired0; { s.calm.setForce 0x0E0 3#32 with pwr.band := 0, rf.pend := [], cmt.lastMove := [none, none, none, none], cmt.parts := setNth (List.replicate 11 (newPart 0 0 0 0#64)) 5 (newPart 1 0 0 0#64), arr := { State.reset.arr with free := [[], [], [752], []], tags := (List.range 16).map (fun i => (131072 + 752 * 16 + i, { cycles := 5000, part := 0x0F, ext := 0, epoch := 0 })) } }), (2), (752), (5), (1), (464), by decide +kernel⟩,
   ⟨(let s := wired0; { s with cmt.dirty := true, log.batch := [], pwr.usable := [false, true, false, false, false, false], pwr.vauxOk := false, pwr.gauge := { zeroGauge with holdMv := 2300 }, pwr.capUf := 1 }), by decide +kernel⟩,
   ⟨(let s := wired0; { s.calm.setForce 0x0E0 3#32 with pwr.band := 0, rf.pend := [], arr.tags := [], arr.banks := [0, 0, 0, 0] }), (2), by decide +kernel⟩⟩

theorem met_KnellStarts :
    (∃ (s : State), runs s ∧ s.usableSrc 0 = true ∧ s.pwr.mode ≠ 6 ∧ s.kn.state = 1 ∧ s.cmt.pipe = [] ∧ s.st.current = none ∧ s.pwr.step < 5) ∧
    (∃ (s : State), runs s ∧ s.linkOn = true ∧ s.kn.state = 1 ∧ s.cmt.pipe = [] ∧ s.st.current = none) ∧
    (∃ (s : State), runs s ∧ s.kn.state = 0 ∧ s.rf.ready = true ∧ s.knlEnabled = true ∧ s.holdOk = true ∧ s.cmt.recovering = false ∧ s.pwr.holdMeasuring = false) :=
  ⟨⟨(let s := wired0; s.calm), by decide +kernel⟩,
   ⟨(let s := wired0; s.calm), by decide +kernel⟩,
   ⟨(let s := wired0; { s.calm.setForce 0x160 1#32 with kn.state := 0, rf.ready := true, pwr.capUf := 500, pwr.holdMeasuring := false }), by decide +kernel⟩⟩

theorem met_KnellIntake :
    (∃ (s : State) (i : Intake) (n : Nat) (a : Nat) (k : Nat) (v : Nat) (e : Bool) (ss : List Section) (body : List Byte) (ra : TollRing) (rb : TollRing), runs s ∧ s.linkOn = true ∧ s.kn.intake = some i ∧ s.kn.state = 2 ∧ i.opening = true ∧ s.lnk.doneFrames = [[n], [], [], []] ∧ parseDirectory body = some (ss, a) ∧ 32 + 16 * ss.length ≤ min (State.energyLimit i.eline i.plan.avail a) s.sizeLimit ∧ s.pickSlot = some (k, e) ∧ k < s.kn.slots.length ∧ s.arr.tolls.length = 32 ∧ s.toll 6 = { ringA := some ra, ringB := some rb, worn := false } ∧ ra.value = some v ∧ rb.value = some v ∧ v + 1 < 4294967296 ∧ ra.used + 1 < State.tollLife ∧ rb.used + 1 < State.tollLife) ∧
    (∃ (s : State) (i : Intake) (n : Nat) (body : List Byte), runs s ∧ s.linkOn = true ∧ s.kn.intake = some i ∧ s.kn.state = 3 ∧ i.directory = 1 ∧ i.claimed.isSome = true ∧ s.lnk.doneFrames = [[n], [], [], []] ∧ body.length ≤ 4032 ∧ 8 < body.length ∧ leNat (slice body 0 4) = i.expected ∧ leNat (slice body 4 4) = 0 ∧ i.expected + (body.drop 8).length < i.target ∧ keptBytes i.sections i.kept i.expected (body.drop 8) ≠ []) ∧
    (∃ (s : State) (i : Intake), runs s ∧ s.linkOn = true ∧ s.kn.intake = some i ∧ s.kn.state = 3 ∧ i.claimed.isSome = true ∧ i.cutBytes < i.bytes.length ∧ i.directory = 1 ∧ s.wired = true) :=
  ⟨⟨(let s := wired0; { s.calm with kn.state := 2, kn.intake := some { trigger := 2, opening := true, directory := 0, sections := [], kept := [], expected := 0, bytes := [], heldCredits := [], cutBytes := 0, segsMade := 0, segsDone := 0, target := 0, claimed := none, slotWas := emptySlot, eline := 2345, plan := newPlan s 1 100000000, done := false }, lnk.doneFrames := [[4], [], [], []], arr.tolls := State.reset.arr.tolls, kn.slots := List.replicate 8 emptySlot, arr.sizes := State.reset.arr.sizes }), (let s := wired0; let s : State := { s.calm with kn.state := 2, kn.intake := some { trigger := 2, opening := true, directory := 0, sections := [], kept := [], expected := 0, bytes := [], heldCredits := [], cutBytes := 0, segsMade := 0, segsDone := 0, target := 0, claimed := none, slotWas := emptySlot, eline := 2345, plan := newPlan s 1 100000000, done := false }, lnk.doneFrames := [[4], [], [], []], arr.tolls := State.reset.arr.tolls, kn.slots := List.replicate 8 emptySlot, arr.sizes := State.reset.arr.sizes }; { trigger := 2, opening := true, directory := 0, sections := [], kept := [], expected := 0, bytes := [], heldCredits := [], cutBytes := 0, segsMade := 0, segsDone := 0, target := 0, claimed := none, slotWas := emptySlot, eline := 2345, plan := newPlan s 1 100000000, done := false }), (4), (148), (let s := wired0; let s : State := { s.calm with kn.state := 2, kn.intake := some { trigger := 2, opening := true, directory := 0, sections := [], kept := [], expected := 0, bytes := [], heldCredits := [], cutBytes := 0, segsMade := 0, segsDone := 0, target := 0, claimed := none, slotWas := emptySlot, eline := 2345, plan := newPlan s 1 100000000, done := false }, lnk.doneFrames := [[4], [], [], []], arr.tolls := State.reset.arr.tolls, kn.slots := List.replicate 8 emptySlot, arr.sizes := State.reset.arr.sizes }; ((s.pickSlot.getD (9, true)).1)), (let s := wired0; let s : State := { s.calm with kn.state := 2, kn.intake := some { trigger := 2, opening := true, directory := 0, sections := [], kept := [], expected := 0, bytes := [], heldCredits := [], cutBytes := 0, segsMade := 0, segsDone := 0, target := 0, claimed := none, slotWas := emptySlot, eline := 2345, plan := newPlan s 1 100000000, done := false }, lnk.doneFrames := [[4], [], [], []], arr.tolls := State.reset.arr.tolls, kn.slots := List.replicate 8 emptySlot, arr.sizes := State.reset.arr.sizes }; s.tollValue 6), (let s := wired0; let s : State := { s.calm with kn.state := 2, kn.intake := some { trigger := 2, opening := true, directory := 0, sections := [], kept := [], expected := 0, bytes := [], heldCredits := [], cutBytes := 0, segsMade := 0, segsDone := 0, target := 0, claimed := none, slotWas := emptySlot, eline := 2345, plan := newPlan s 1 100000000, done := false }, lnk.doneFrames := [[4], [], [], []], arr.tolls := State.reset.arr.tolls, kn.slots := List.replicate 8 emptySlot, arr.sizes := State.reset.arr.sizes }; ((s.pickSlot.getD (9, true)).2)), ([{ code := 1, priority := 0, offset := 48, length := 100, crc := 0#32 }]), ((let h : List Byte := [1#8, 0#8, 1#8, 0#8] ++ leBytes 4 148 ++ zeroBytes 20; let t : List Byte := [1#8, 0#8, 0#8, 0#8] ++ leBytes 4 48 ++ leBytes 4 100 ++ zeroBytes 4; h ++ wordBytes (crc32c (h ++ t)) ++ t)), (let s := wired0; let s : State := { s.calm with kn.state := 2, kn.intake := some { trigger := 2, opening := true, directory := 0, sections := [], kept := [], expected := 0, bytes := [], heldCredits := [], cutBytes := 0, segsMade := 0, segsDone := 0, target := 0, claimed := none, slotWas := emptySlot, eline := 2345, plan := newPlan s 1 100000000, done := false }, lnk.doneFrames := [[4], [], [], []], arr.tolls := State.reset.arr.tolls, kn.slots := List.replicate 8 emptySlot, arr.sizes := State.reset.arr.sizes }; (s.toll 6).ringA.getD ⟨0, 0, 0, []⟩), (let s := wired0; let s : State := { s.calm with kn.state := 2, kn.intake := some { trigger := 2, opening := true, directory := 0, sections := [], kept := [], expected := 0, bytes := [], heldCredits := [], cutBytes := 0, segsMade := 0, segsDone := 0, target := 0, claimed := none, slotWas := emptySlot, eline := 2345, plan := newPlan s 1 100000000, done := false }, lnk.doneFrames := [[4], [], [], []], arr.tolls := State.reset.arr.tolls, kn.slots := List.replicate 8 emptySlot, arr.sizes := State.reset.arr.sizes }; (s.toll 6).ringB.getD ⟨0, 0, 0, []⟩), by decide +kernel⟩,
   ⟨(let s := wired0; { s.calm with kn.state := 3, kn.intake := some { trigger := 1, opening := false, directory := 1, sections := [{ code := 1, priority := 0, offset := 48, length := 100, crc := 0#32 }], kept := [0], expected := 48, bytes := zeroBytes 48, heldCredits := [], cutBytes := 0, segsMade := 0, segsDone := 0, target := 148, claimed := some 2, slotWas := emptySlot, eline := 2345, plan := newPlan s 1 100000000, done := false }, lnk.doneFrames := [[4], [], [], []] }), (let s := wired0; let s : State := { s.calm with kn.state := 3, kn.intake := some { trigger := 1, opening := false, directory := 1, sections := [{ code := 1, priority := 0, offset := 48, length := 100, crc := 0#32 }], kept := [0], expected := 48, bytes := zeroBytes 48, heldCredits := [], cutBytes := 0, segsMade := 0, segsDone := 0, target := 148, claimed := some 2, slotWas := emptySlot, eline := 2345, plan := newPlan s 1 100000000, done := false }, lnk.doneFrames := [[4], [], [], []] }; { trigger := 1, opening := false, directory := 1, sections := [{ code := 1, priority := 0, offset := 48, length := 100, crc := 0#32 }], kept := [0], expected := 48, bytes := zeroBytes 48, heldCredits := [], cutBytes := 0, segsMade := 0, segsDone := 0, target := 148, claimed := some 2, slotWas := emptySlot, eline := 2345, plan := newPlan s 1 100000000, done := false }), (4), (([48#8, 0#8, 0#8, 0#8, 0#8, 0#8, 0#8, 0#8] ++ List.replicate 60 5#8)), by decide +kernel⟩,
   ⟨(let s := wired0; { s.calm with kn.state := 3, kn.intake := some { trigger := 1, opening := false, directory := 1, sections := [{ code := 1, priority := 0, offset := 48, length := 100, crc := 0#32 }], kept := [0], expected := 48, bytes := zeroBytes 48, heldCredits := [], cutBytes := 0, segsMade := 0, segsDone := 0, target := 148, claimed := some 2, slotWas := emptySlot, eline := 2345, plan := newPlan s 1 100000000, done := false } }), (let s := wired0; let s : State := { s.calm with kn.state := 3, kn.intake := some { trigger := 1, opening := false, directory := 1, sections := [{ code := 1, priority := 0, offset := 48, length := 100, crc := 0#32 }], kept := [0], expected := 48, bytes := zeroBytes 48, heldCredits := [], cutBytes := 0, segsMade := 0, segsDone := 0, target := 148, claimed := some 2, slotWas := emptySlot, eline := 2345, plan := newPlan s 1 100000000, done := false } }; { trigger := 1, opening := false, directory := 1, sections := [{ code := 1, priority := 0, offset := 48, length := 100, crc := 0#32 }], kept := [0], expected := 48, bytes := zeroBytes 48, heldCredits := [], cutBytes := 0, segsMade := 0, segsDone := 0, target := 148, claimed := some 2, slotWas := emptySlot, eline := 2345, plan := newPlan s 1 100000000, done := false }), by decide +kernel⟩⟩

theorem met_KnellStoresAndCloses :
    (∃ (s : State) (i : Intake) (k : Nat) (bytes : List Byte), runs s ∧ s.kn.intake = some i ∧ i.claimed = some k ∧ State.nextSegment i = some bytes ∧ s.hasRoom (sectorsOf bytes.length) = true ∧ s.ownGap (s.source 1) 0 = none) ∧
    (∃ (s : State) (i : Intake), runs s ∧ s.kn.intake = some i ∧ s.kn.state = 2 ∧ i.claimed = none ∧ i.segsDone = 0 ∧ s.wired = true ∧ s.knlEnabled = true ∧ nothingWaits s ∧ regsCanonical s = true ∧ s.kn.slots.all (fun x => x.state != 2) = true ∧ boundaryClear s ∧ s.log.batch = [] ∧ s.arr.saveA.isSome = true) ∧
    (∃ (s : State) (i : Intake), runs s ∧ s.kn.intake = some i ∧ s.kn.state = 2) :=
  ⟨⟨(let s := wired0; { s.calm with kn.state := 3, kn.intake := some { trigger := 1, opening := false, directory := 1, sections := [], kept := [], expected := 0, bytes := zeroBytes 5000, heldCredits := [], cutBytes := 0, segsMade := 0, segsDone := 0, target := 0, claimed := some 2, slotWas := emptySlot, eline := 2345, plan := newPlan s 1 100000000, done := false } }), (let s := wired0; let s : State := { s.calm with kn.state := 3, kn.intake := some { trigger := 1, opening := false, directory := 1, sections := [], kept := [], expected := 0, bytes := zeroBytes 5000, heldCredits := [], cutBytes := 0, segsMade := 0, segsDone := 0, target := 0, claimed := some 2, slotWas := emptySlot, eline := 2345, plan := newPlan s 1 100000000, done := false } }; { trigger := 1, opening := false, directory := 1, sections := [], kept := [], expected := 0, bytes := zeroBytes 5000, heldCredits := [], cutBytes := 0, segsMade := 0, segsDone := 0, target := 0, claimed := some 2, slotWas := emptySlot, eline := 2345, plan := newPlan s 1 100000000, done := false }), (2), (zeroBytes 3968), by decide +kernel⟩,
   ⟨(let s := wired0; { s.calm.setForce 0x160 1#32 with kn.state := 2, log.batch := [], kn.slots := List.replicate 8 emptySlot, kn.intake := some { trigger := 1, opening := false, directory := 0, sections := [], kept := [], expected := 0, bytes := [], heldCredits := [], cutBytes := 0, segsMade := 0, segsDone := 0, target := 0, claimed := none, slotWas := emptySlot, eline := 2345, plan := newPlan s 1 100000000, done := false } }), (let s := wired0; let s : State := { s.calm.setForce 0x160 1#32 with kn.state := 2, log.batch := [], kn.slots := List.replicate 8 emptySlot, kn.intake := some { trigger := 1, opening := false, directory := 0, sections := [], kept := [], expected := 0, bytes := [], heldCredits := [], cutBytes := 0, segsMade := 0, segsDone := 0, target := 0, claimed := none, slotWas := emptySlot, eline := 2345, plan := newPlan s 1 100000000, done := false } }; { trigger := 1, opening := false, directory := 0, sections := [], kept := [], expected := 0, bytes := [], heldCredits := [], cutBytes := 0, segsMade := 0, segsDone := 0, target := 0, claimed := none, slotWas := emptySlot, eline := 2345, plan := newPlan s 1 100000000, done := false }), by decide +kernel⟩,
   ⟨(let s := wired0; { s.calm with kn.state := 2, kn.intake := some { trigger := 1, opening := true, directory := 0, sections := [], kept := [], expected := 0, bytes := [], heldCredits := [(3, 2)], cutBytes := 0, segsMade := 0, segsDone := 0, target := 0, claimed := none, slotWas := emptySlot, eline := 2345, plan := newPlan s 1 100000000, done := false } }), (let s := wired0; let s : State := { s.calm with kn.state := 2, kn.intake := some { trigger := 1, opening := true, directory := 0, sections := [], kept := [], expected := 0, bytes := [], heldCredits := [(3, 2)], cutBytes := 0, segsMade := 0, segsDone := 0, target := 0, claimed := none, slotWas := emptySlot, eline := 2345, plan := newPlan s 1 100000000, done := false } }; { trigger := 1, opening := true, directory := 0, sections := [], kept := [], expected := 0, bytes := [], heldCredits := [(3, 2)], cutBytes := 0, segsMade := 0, segsDone := 0, target := 0, claimed := none, slotWas := emptySlot, eline := 2345, plan := newPlan s 1 100000000, done := false }), by decide +kernel⟩⟩

theorem met_Consolidation :
    (∃ (s : State) (k : Nat) (j : Job), runs s ∧ s.knellRunning = false ∧ s.pwr.grants = [j] ∧ j.kind = .kSign k ∧ s.kn.signWait = none ∧ s.cmt.pipe = [] ∧ s.bothFailed = false ∧ s.ent.pool = [] ∧ s.ent.waiting = [] ∧ s.wired = true ∧ s.pwr.step = 0 ∧ s.ent.a.state ≠ 0 ∧ s.ent.b.state ≠ 0 ∧ s.manifestRoom k = true) ∧
    (∃ (s : State) (k : Nat) (j : Job), runs s ∧ s.knellRunning = false ∧ s.pwr.grants = [j] ∧ j.kind = .kSign k ∧ s.kn.signWait = none ∧ s.cmt.pipe = [] ∧ s.bothFailed = true ∧ s.manifestRoom k = true ∧ s.ownGap (s.source 1) 0 = none) ∧
    (∃ (s : State) (k : Nat) (m : Nat), runs s ∧ s.knellRunning = false ∧ s.isGranted .kIndex = true ∧ s.kn.slots = setNth (List.replicate 8 emptySlot) k { emptySlot with state := 2, manifest := m } ∧ k < 8 ∧ m ≠ 0 ∧ s.pwr.shipReq = false ∧ boundaryClear s ∧ regsCanonical s = true) ∧
    (∃ (s : State), runs s ∧ s.knellRunning = false ∧ s.isGranted .kIndex = true) :=
  ⟨⟨(let s := wired0; { s.calm with pwr.grants := [{ id := 5, queue := 3, cost := 215000, weight := 1, kind := .kSign 2 }], kn.signWait := none, ent := { s.ent with pool := [], waiting := [], a := { s.ent.a with state := 2 }, b := { s.ent.b with state := 2 } } }), (2), ({ id := 5, queue := 3, cost := 215000, weight := 1, kind := .kSign 2 }), by decide +kernel⟩,
   ⟨(let s := wired0; { s.calm with pwr.grants := [{ id := 5, queue := 3, cost := 215000, weight := 1, kind := .kSign 2 }], kn.signWait := none, ent := { s.ent with a := { s.ent.a with state := 5 }, b := { s.ent.b with state := 5 } } }), (2), ({ id := 5, queue := 3, cost := 215000, weight := 1, kind := .kSign 2 }), by decide +kernel⟩,
   ⟨(let s := wired0; { s.calm with pwr.grants := [{ id := 5, queue := 0, cost := 480000, weight := 2, kind := .kIndex }], pwr.shipReq := false, kn.state := 7, kn.slots := setNth (List.replicate 8 emptySlot) 2 { emptySlot with state := 2, manifest := 44 } }), (2), (44), by decide +kernel⟩,
   ⟨(let s := wired0; { s.calm with pwr.grants := [{ id := 5, queue := 0, cost := 480000, weight := 2, kind := .kIndex }], kn.slots := setNth (setNth (List.replicate 8 emptySlot) 2 { emptySlot with state := 2, manifest := 44 }) 5 { emptySlot with state := 2, manifest := 48 } }), by decide +kernel⟩⟩

theorem met_EnergySteps :
    (∃ (s : State) (n : Nat), runs s ∧ 1 ≤ n ∧ n ≤ 4 ∧ s.pwr.step < n ∧ s.usableSrc 0 = true) ∧
    (∃ (s : State) (n : Nat), runs s ∧ 1 ≤ n ∧ n ≤ 4 ∧ s.usableSrc 0 = true) ∧
    (∃ (s : State), runs s ∧ s.usableSrc 0 = false ∧ s.pwr.step = 5 ∧ s.kn.state ≠ 2 ∧ s.kn.state ≠ 3) ∧
    (∃ (s : State), runs s ∧ s.pwr.step = 6 ∧ s.knellRunning = false ∧ s.noGrants = true ∧ s.pwr.mode ≠ 0 ∧ s.pwr.mode ≠ 6) ∧
    (∃ (s : State), runs s ∧ s.usableSrc 0 = false ∧ s.pwr.step = 5 ∧ s.kn.state ≠ 2 ∧ s.kn.state ≠ 3 ∧ s.cmt.pipe = [] ∧ s.st.current = none) ∧
    (∃ (s : State), runs s ∧ s.pwr.step = 6 ∧ s.knellRunning = false ∧ s.cmt.pipe = [] ∧ s.cmt.dirty = false ∧ s.pwr.shipReq = false ∧ s.pwr.mode ≠ 6 ∧ s.wired = false ∧ s.pwr.domOn.length = 20) ∧
    (∃ (s : State), runs s ∧ 1 ≤ s.pwr.step ∧ s.pwr.step ≤ 6 ∧ s.pwr.mode ≠ 6 ∧ s.kn.state ≤ 1 ∧ nothingWaits s ∧ regsCanonical s = true) ∧
    (∃ (s : State) (d : Nat), runs s ∧ s.pwr.darkSince = some d ∧ d + 3600 * second ≤ s.clk.up ∧ s.cutoffEn = true ∧ (s.pwr.mode = 3 ∨ s.pwr.mode = 4) ∧ s.slotPending = false ∧ s.boot.darkPending = none ∧ s.cmt.pipe = [] ∧ s.log.batch = [] ∧ (s.arr.saveA.isSome = true ∨ s.arr.saveB.isSome = true) ∧ 5 < s.pwr.usable.length) :=
  ⟨⟨(let s := wired0; { s.calm with pwr.step := 0 }), (3), by decide +kernel⟩,
   ⟨(let s := wired0; { s.calm with pwr.step := 2 }), (3), by decide +kernel⟩,
   ⟨(let s := wired0; { s.calm with pwr.step := 5, kn.state := 1, cmt.pipe := s.cmt.pipe, pwr.usable := [false, true, false, true, false, true], pwr.vauxOk := false }), by decide +kernel⟩,
   ⟨(let s := wired0; { s.calm with pwr.step := 6, kn.state := 1, pwr.mode := 2, cmt.dirty := true, pwr.shipReq := false, pwr.usable := [false, true, false, true, false, true], pwr.vauxOk := false }), by decide +kernel⟩,
   ⟨(let s := wired0; { s.calm with pwr.step := 5, kn.state := 1, pwr.usable := [false, true, false, true, false, true], pwr.vauxOk := false }), by decide +kernel⟩,
   ⟨(let s := wired0; { s.calm with pwr.step := 6, kn.state := 1, pwr.mode := 2, cmt.dirty := false, pwr.shipReq := false, pwr.usable := [false, true, false, true, false, true], pwr.vauxOk := false }), by decide +kernel⟩,
   ⟨(let s := wired0; { s.calm with pwr.step := 4 }), by decide +kernel⟩,
   ⟨(let s := wired0; { s.calm.setForce 0x064 1#32 with pwr.mode := 3, pwr.step := 7, pwr.darkSince := some 0, clk.up := 3600 * 16777216, boot.darkPending := none, log.batch := [], kn.slots := List.replicate 8 emptySlot, pwr.usable := [false, true, false, true, false, true], pwr.vauxOk := false }), (0), by decide +kernel⟩⟩

theorem met_SourcesAndHeat :
    (∃ (s : State) (src : Nat), runs s ∧ (src = 1 ∨ src = 2 ∨ src = 3)) ∧
    (∃ (s : State), runs s ∧ s.wired = true) ∧
    (∃ (s : State) (us : Nat), runs s ∧ s.pwr.holdMeasuring = true ∧ 2 ≤ s.kn.state ∧ 100 ≤ us / 80) ∧
    (∃ (s : State), runs s ∧ s.pwr.holdMeasuring = true ∧ 2 ≤ s.kn.state) ∧
    (∃ (s : State) (mv : Nat), runs s ∧ s.pwr.mode ≠ 6 ∧ 2400 ≤ mv ∧ s.pwr.usable.length = 6) ∧
    (∃ (s : State) (mv : Nat), runs s ∧ s.pwr.mode ≠ 6 ∧ 2200 ≤ mv ∧ mv < 2400 ∧ s.pwr.usable.length = 6) ∧
    (∃ (s : State), runs s ∧ s.pwr.mode ≠ 6) ∧
    (∃ (s : State), runs s ∧ s.pwr.mode ≠ 6) ∧
    (∃ (s : State) (voc : Nat), runs s ∧ s.rf.pend = [] ∧ s.pwr.mode ≠ 5 ∧ s.pwr.mode ≠ 6 ∧ s.harvEn = true ∧ 150 ≤ voc ∧ s.pwr.harvRunning = false) ∧
    (∃ (s : State) (voc : Nat), runs s ∧ s.rf.pend = [] ∧ s.pwr.harvRunning = true ∧ s.harvEn = true ∧ 80 ≤ voc) ∧
    (∃ (s : State) (voc : Nat), runs s ∧ s.rf.pend = [] ∧ s.pwr.harvRunning = true ∧ voc < 80 ∧ (setNth s.pwr.usable 4 false).any (fun u => u) = true) ∧
    (∃ (s : State), runs s ∧ s.peal.unsettled.filter (fun u => u.due) = []) ∧
    (∃ (s : State) (d : Nat), runs s ∧ s.domOn d = true ∧ s.pinned d = false ∧ s.domIdle d = true ∧ d ≠ 3 ∧ d ≠ 4) ∧
    (∃ (s : State) (d : Nat), runs s ∧ s.domOn d = true ∧ s.pinned d = true) :=
  ⟨⟨(let s := wired0; s), (3), by decide +kernel⟩,
   ⟨(let s := wired0; s.up), by decide +kernel⟩,
   ⟨(let s := wired0; { s with pwr.holdMeasuring := true, kn.state := 6 }), (160000), by decide +kernel⟩,
   ⟨(let s := wired0; { s with pwr.holdMeasuring := true, kn.state := 6 }), by decide +kernel⟩,
   ⟨(let s := wired0; s.up), (3000), by decide +kernel⟩,
   ⟨(let s := wired0; s.up), (2300), by decide +kernel⟩,
   ⟨(let s := wired0; s.up), by decide +kernel⟩,
   ⟨(let s := wired0; s.up), by decide +kernel⟩,
   ⟨(let s := wired0; { s.up.setForce 0x060 3#32 with pwr.harvRunning := false, rf.pend := [] }), (200), by decide +kernel⟩,
   ⟨(let s := wired0; { s.up.setForce 0x060 3#32 with pwr.harvRunning := true, rf.pend := [] }), (200), by decide +kernel⟩,
   ⟨(let s := wired0; { s.up with pwr.harvRunning := true, rf.pend := [] }), (10), by decide +kernel⟩,
   ⟨(let s := wired0; { s with peal.unsettled := [] }), by decide +kernel⟩,
   ⟨(let s := wired0; { s.up with fld.st := 0, pwr.domOn := List.replicate 20 true }), (2), by decide +kernel⟩,
   ⟨(let s := wired0; { s.up.setForce 0x09C 0xFFFF0#32 with pwr.domOn := List.replicate 20 true }), (9), by decide +kernel⟩⟩

theorem met_Admission :
    (∃ (s : State) (q : Nat) (j : Job), runs s ∧ s.rf.pend = [] ∧ s.queueHead q = some j ∧ s.servedQueue q = q ∧ s.cmt.s1wait = [] ∧ s.cmt.auditHeld = [] ∧ s.wired = true ∧ s.knellRunning = false ∧ j.weight ≤ bandLimit s.pwr.band q ∧ j.queue = q ∧ s.boot.darkPending = none ∧ s.cmt.pipe = [] ∧ s.pwr.jobs = [j] ∧ (j.kind = .checkpoint ∨ j.kind = .scrub ∨ j.kind = .levelMove)) ∧
    (∃ (s : State) (q : Nat) (j : Job), runs s ∧ s.rf.pend = [] ∧ s.queueHead q = some j ∧ s.servedQueue q = q ∧ s.cmt.s1wait = [] ∧ s.cmt.auditHeld = [] ∧ bandLimit s.pwr.band j.queue < j.weight) ∧
    (∃ (s : State) (q : Nat) (j : Job), runs s ∧ s.rf.pend = [] ∧ s.queueHead q = some j ∧ s.servedQueue q = q ∧ s.cmt.s1wait = [] ∧ s.cmt.auditHeld = [] ∧ s.wired = false ∧ j.weight ≤ bandLimit s.pwr.band j.queue ∧ 5 ≤ j.queue) ∧
    (∃ (s : State) (q : Nat) (j : Job), runs s ∧ s.rf.pend = [] ∧ s.queueHead q = some j ∧ s.servedQueue q = q ∧ s.cmt.s1wait = [] ∧ s.cmt.auditHeld = [] ∧ s.verdict j = .grant ∧ s.boot.darkPending = none ∧ s.cmt.pipe.any (fun p => p.id == j.id && p.granted.isNone) = true) :=
  ⟨⟨(let s := wired0; { s.calm with rf.pend := [], pwr.band := 0, boot.darkPending := none, pwr.jobs := [{ id := 5, queue := 0, cost := 480000, weight := 2, kind := .checkpoint }] }), (0), ({ id := 5, queue := 0, cost := 480000, weight := 2, kind := .checkpoint }), by decide +kernel⟩,
   ⟨(let s := wired0; { s.calm with rf.pend := [], pwr.band := 3, cmt.pipe := [], pwr.jobs := [{ id := 5, queue := 0, cost := 480000, weight := 2, kind := .checkpoint }] }), (0), ({ id := 5, queue := 0, cost := 480000, weight := 2, kind := .checkpoint }), by decide +kernel⟩,
   ⟨(let s := wired0; { s.calm with rf.pend := [], pwr.band := 0, pwr.usable := [false, true, false, true, false, true], pwr.vauxOk := false, pwr.jobs := [{ id := 5, queue := 6, cost := 30000, weight := 0, kind := .calibrate 2 1 }] }), (6), ({ id := 5, queue := 6, cost := 30000, weight := 0, kind := .calibrate 2 1 }), by decide +kernel⟩,
   ⟨(let s := wired0; { s.calm with rf.pend := [], pwr.band := 0, boot.darkPending := none, cmt.pipe := [newPipe 9 attestRec 5 0 0 [] false true .none none none none] }), (0), (let s := wired0; let s : State := { s.calm with rf.pend := [], pwr.band := 0, boot.darkPending := none, cmt.pipe := [newPipe 9 attestRec 5 0 0 [] false true .none none none none] }; ((s.queueHead 0).getD { id := 5, queue := 0, cost := 480000, weight := 2, kind := .checkpoint })), by decide +kernel⟩⟩

theorem met_FieldPresence :
    (∃ (s : State), runs s ∧ s.pwr.mode ≠ 6 ∧ s.fld.st = 0 ∧ s.wired = true ∧ s.ent.waiting = [] ∧ s.pwr.domOn.length = 20) ∧
    (∃ (s : State), s.boot.resetLow = false ∧ s.fld.st = 0 ∧ s.pwr.domOn.length = 20) ∧
    (∃ (s : State), runs s ∧ s.rf.pend = []) ∧
    (∃ (s : State), runs s ∧ s.pwr.mode ≠ 6 ∧ s.fld.st = 0 ∧ s.usableSrc 0 = false ∧ s.rf.pend = [] ∧ s.cfg 0x2A4 15 8 ≠ 0 ∧ s.assistSource ≠ 0) ∧
    (∃ (s : State), runs s ∧ s.fld.st ≠ 0 ∧ s.cfg 0x2A4 31 28 ≠ 0) ∧
    (∃ (s : State), runs s ∧ (s.fld.st = 0 ∨ s.cfg 0x2A4 31 28 ≠ 0)) ∧
    (∃ (s : State), runs s ∧ s.fld.st ≠ 0 ∧ s.wired = true ∧ s.fldx.ctx = none ∧ s.st.current = none) ∧
    (∃ (s : State) (n : Nat), s.fld.st = 0 ∧ (n = 2 ∨ n = 3)) ∧
    (∃ (s : State), s.fld.st = 0) :=
  ⟨⟨(let s := wired0; { (s.inField 0) with fld.st := 0, fld.present := false }), by decide +kernel⟩,
   ⟨(let s := wired0; { (s.inField 0) with fld.st := 0, fld.present := false, pwr.domOn := s.pwr.domOn }), by decide +kernel⟩,
   ⟨(let s := wired0; { s.up with rf.pend := [] }), by decide +kernel⟩,
   ⟨(let s := wired0; { (s.inField 0) with fld.st := 0, pwr.usable := [false, true, false, true, false, true], pwr.vauxOk := false, rf.inForce := [(0x064, 2#32)] }), by decide +kernel⟩,
   ⟨(let s := wired0; (s.inField 4)), by decide +kernel⟩,
   ⟨(let s := wired0; (s.inField 4)), by decide +kernel⟩,
   ⟨(let s := wired0; (s.inField 6)), by decide +kernel⟩,
   ⟨(let s := wired0; { (s.inField 0) with fld.st := 0 }), (3), by decide +kernel⟩,
   ⟨(let s := wired0; { (s.inField 0) with fld.st := 0 }), by decide +kernel⟩⟩

theorem met_Inventory :
    (∃ (s : State) (n : Nat), runs s ∧ s.fld.st ≠ 0 ∧ s.fldx.ctx = none ∧ n < 4) ∧
    (∃ (s : State), runs s ∧ s.fld.st ≠ 0 ∧ s.fldx.ctx = none) ∧
    (∃ (s : State) (tg : Bool) (sel : Nat) (n : Nat) (q : Nat), runs s ∧ s.fld.ready = true ∧ s.ent.waiting = [] ∧ s.bothFailed = false ∧ 1 ≤ s.fld.st ∧ s.fld.st ≤ 3 ∧ q ≤ 15 ∧ s.queryMatches sel n tg = true ∧ q ≤ s.bufBits ∧ s.fldx.ctx = none ∧ bitsNat (takeBits s.fld.buf q).1 ≠ 0) ∧
    (∃ (s : State) (tg : Bool) (sel : Nat) (n : Nat), runs s ∧ s.fld.ready = true ∧ s.ent.waiting = [] ∧ s.bothFailed = false ∧ 1 ≤ s.fld.st ∧ s.fld.st ≤ 3 ∧ s.queryMatches sel n tg = true ∧ 16 ≤ s.bufBits ∧ s.fldx.ctx = none ∧ s.cfgBit 0x2A0 0 = true) ∧
    (∃ (s : State) (tg : Bool) (sel : Nat) (n : Nat), runs s ∧ s.fld.ready = true ∧ s.ent.waiting = [] ∧ s.bothFailed = false ∧ 1 ≤ s.fld.st ∧ s.fld.st ≤ 3 ∧ s.queryMatches sel n tg = false ∧ s.fldx.ctx = none) ∧
    (∃ (s : State), runs s ∧ s.fld.ready = true ∧ s.ent.waiting = [] ∧ s.bothFailed = false ∧ s.fld.st = 2 ∧ s.fld.slot % 32768 ≠ 1) ∧
    (∃ (s : State), runs s ∧ s.fld.ready = true ∧ s.ent.waiting = [] ∧ s.bothFailed = false ∧ s.fld.st = 3) ∧
    (∃ (s : State), runs s ∧ s.fld.ready = true ∧ s.ent.waiting = [] ∧ s.bothFailed = false ∧ (s.fld.st = 2 ∨ s.fld.st = 3) ∧ min 15 (s.fld.q + 1) ≤ s.bufBits ∧ bitsNat (takeBits s.fld.buf (min 15 (s.fld.q + 1))).1 ≠ 0) ∧
    (∃ (s : State), runs s ∧ s.fld.ready = true ∧ s.ent.waiting = [] ∧ s.bothFailed = false ∧ s.fld.st = 4 ∧ s.fldx.ctx = none) ∧
    (∃ (s : State), runs s ∧ s.fld.ready = true ∧ s.ent.waiting = [] ∧ s.bothFailed = false ∧ (s.fld.st = 3 ∨ s.fld.st = 4) ∧ s.cfgBit 0x2A0 0 = true) ∧
    (∃ (s : State) (v : BitVec 16), runs s ∧ s.fld.ready = true ∧ s.ent.waiting = [] ∧ s.bothFailed = false ∧ (s.fld.st = 3 ∨ s.fld.st = 4) ∧ v ≠ s.fld.rn16) ∧
    (∃ (s : State), runs s ∧ s.fld.ready = true ∧ s.ent.waiting = [] ∧ s.bothFailed = false ∧ 3 ≤ s.fld.st ∧ s.fldx.ctx = none) ∧
    (∃ (s : State), runs s ∧ s.fld.ready = true ∧ s.ent.waiting = [] ∧ s.bothFailed = false ∧ (s.fld.st = 3 ∨ s.fld.st = 4)) ∧
    (∃ (s : State), runs s ∧ s.fld.ready = true ∧ s.ent.waiting = [] ∧ s.bothFailed = false ∧ s.fld.st ≠ 0) :=
  ⟨⟨(let s := wired0; (s.inField 2)), (2), by decide +kernel⟩,
   ⟨(let s := wired0; (s.inField 2)), by decide +kernel⟩,
   ⟨(let s := wired0; { (s.inField 2) with fld.inv := [false, false, false, false] }), (false), (0), (0), (4), by decide +kernel⟩,
   ⟨(let s := wired0; { (s.inField 2) with fld.inv := [false, false, false, false], fld.buf := s.fld.buf ++ [(.b, List.replicate 40 true)] }), (false), (0), (0), by decide +kernel⟩,
   ⟨(let s := wired0; { (s.inField 2) with fld.inv := [false, false, false, false] }), (true), (0), (0), by decide +kernel⟩,
   ⟨(let s := wired0; { (s.inField 2) with fld.slot := 0 }), by decide +kernel⟩,
   ⟨(let s := wired0; (s.inField 3)), by decide +kernel⟩,
   ⟨(let s := wired0; (s.inField 2)), by decide +kernel⟩,
   ⟨(let s := wired0; (s.inField 4)), by decide +kernel⟩,
   ⟨(let s := wired0; (s.inField 3)), by decide +kernel⟩,
   ⟨(let s := wired0; (s.inField 3)), (let s := wired0; let s : State := (s.inField 3); s.fld.rn16 + 1#16), by decide +kernel⟩,
   ⟨(let s := wired0; (s.inField 6)), by decide +kernel⟩,
   ⟨(let s := wired0; (s.inField 3)), by decide +kernel⟩,
   ⟨(let s := wired0; (s.inField 5)), by decide +kernel⟩⟩

theorem met_AccessState :
    (∃ (s : State), runs s ∧ s.bothFailed = false ∧ s.fld.st = 4 ∧ s.ent.waiting = [] ∧ s.fld.ready = true ∧ 16 ≤ s.bufBits ∧ s.cfgBit 0x2A0 0 = true ∧ s.accessPassword ≠ 0) ∧
    (∃ (s : State), runs s ∧ s.bothFailed = false ∧ s.fld.st = 4 ∧ s.ent.waiting = [] ∧ s.fld.ready = true ∧ s.wired = true ∧ 16 ≤ s.bufBits ∧ s.cfgBit 0x2A0 0 = true ∧ s.accessPassword = 0) ∧
    (∃ (s : State), runs s ∧ s.bothFailed = false ∧ 5 ≤ s.fld.st ∧ s.ent.waiting = [] ∧ s.fld.ready = true ∧ 16 ≤ s.bufBits ∧ s.cfgBit 0x2A0 0 = true) ∧
    (∃ (s : State) (w : Word), runs s ∧ s.bothFailed = false ∧ s.fld.st = 5 ∧ s.wired = true ∧ s.fld.lockout = false ∧ w.toNat = s.accessPassword ∧ w ≠ 0#32 ∧ s.cfgBit 0x2A0 0 = true) ∧
    (∃ (s : State) (w : Word), runs s ∧ s.bothFailed = false ∧ 5 ≤ s.fld.st ∧ s.fldx.ctx = none ∧ w.toNat ≠ s.accessPassword ∧ s.fld.lockout = false ∧ s.pwTries ≠ 0 ∧ s.fld.pwCount + 1 < s.pwTries) ∧
    (∃ (s : State) (w : Word), runs s ∧ s.bothFailed = false ∧ 5 ≤ s.fld.st ∧ s.fldx.ctx = none ∧ w.toNat ≠ s.accessPassword ∧ s.fld.lockout = false ∧ s.pwTries ≠ 0 ∧ s.pwTries ≤ s.fld.pwCount + 1) ∧
    (∃ (s : State), runs s ∧ s.bothFailed = false) ∧
    (∃ (s : State), runs s ∧ s.bothFailed = false ∧ 5 ≤ s.fld.st ∧ s.cfgBit 0x2A0 0 = true) ∧
    (∃ (s : State) (method : Nat) (k : Nat), runs s ∧ s.bothFailed = false ∧ 5 ≤ s.fld.st ∧ ((method ≠ 1 ∧ method ≠ 2) ∨ 1 < k) ∧ s.cfgBit 0x2A0 0 = true) ∧
    (∃ (s : State) (k : Nat) (key : List Byte), runs s ∧ s.bothFailed = false ∧ 5 ≤ s.fld.st ∧ k ≤ 1 ∧ s.keyBytes (3 + k) = some key ∧ 32 ≤ s.bufBits ∧ s.ent.waiting = [] ∧ s.fld.ready = true ∧ s.cfgBit 0x2A0 0 = true) ∧
    (∃ (s : State) (k : Nat) (key : List Byte) (ch : List Byte) (rs : List Byte), runs s ∧ s.bothFailed = false ∧ 5 ≤ s.fld.st ∧ k ≤ 1 ∧ s.keyBytes (3 + k) = some key ∧ 80 ≤ s.bufBits ∧ s.ent.waiting = [] ∧ s.fld.ready = true ∧ s.cfgBit 0x2A0 0 = true ∧ rs = Config.peerAnswer key ch (takeBits s.fld.buf 80).1) :=
  ⟨⟨(let s := wired0; { (s.inField 4) with fmem.reserved := zeroBytes 7 ++ [9#8] }), by decide +kernel⟩,
   ⟨(let s := wired0; (s.inField 4)), by decide +kernel⟩,
   ⟨(let s := wired0; (s.inField 6)), by decide +kernel⟩,
   ⟨(let s := wired0; { (s.inField 5) with fmem.reserved := zeroBytes 7 ++ [9#8] }), (9#32), by decide +kernel⟩,
   ⟨(let s := wired0; (s.inField 6)), (1#32), by decide +kernel⟩,
   ⟨(let s := wired0; { (s.inField 6) with fld.pwCount := 7 }), (1#32), by decide +kernel⟩,
   ⟨(let s := wired0; { (s.inField 2) with fld.lockout := true }), by decide +kernel⟩,
   ⟨(let s := wired0; (s.inField 6)), by decide +kernel⟩,
   ⟨(let s := wired0; (s.inField 6)), (1), (2), by decide +kernel⟩,
   ⟨(let s := wired0; { (s.inField 6) with ses.keys := [(3, keySlotPayload 3 2 1 0 (zeroBytes 16))], arr.tolls := setNth s.arr.tolls 4 (newToll 4 1 0) }), (0), (let s := wired0; let s : State := { (s.inField 6) with ses.keys := [(3, keySlotPayload 3 2 1 0 (zeroBytes 16))], arr.tolls := setNth s.arr.tolls 4 (newToll 4 1 0) }; (s.keyBytes 3).getD []), by decide +kernel⟩,
   ⟨(let s := wired0; { (s.inField 6) with ses.keys := [(3, keySlotPayload 3 2 1 0 (zeroBytes 16))], arr.tolls := setNth s.arr.tolls 4 (newToll 4 1 0) }), (0), (let s := wired0; let s : State := { (s.inField 6) with ses.keys := [(3, keySlotPayload 3 2 1 0 (zeroBytes 16))], arr.tolls := setNth s.arr.tolls 4 (newToll 4 1 0) }; (s.keyBytes 3).getD []), ([]), (let s := wired0; let s : State := { (s.inField 6) with ses.keys := [(3, keySlotPayload 3 2 1 0 (zeroBytes 16))], arr.tolls := setNth s.arr.tolls 4 (newToll 4 1 0) }; Config.peerAnswer ((s.keyBytes 3).getD []) [] (takeBits s.fld.buf 80).1), by (repeat' apply And.intro) <;> first | decide +kernel | rfl⟩⟩

theorem met_FieldMemory :
    (∃ (s : State) (bank : Nat) (w : Nat) (n : Nat), runs s ∧ 5 ≤ s.fld.st ∧ s.cfgBit 0x2A0 0 = true ∧ (bank = 1 ∨ bank = 2) ∧ 1 ≤ n ∧ n ≤ 128 ∧ w + n ≤ bankWords bank ∧ (s.fieldGuard (bankWindow bank + 2 * w) (2 * n) true false false false).2 = true) ∧
    (∃ (s : State) (bank : Nat) (w : Nat) (n : Nat), runs s ∧ 5 ≤ s.fld.st ∧ s.cfgBit 0x2A0 0 = true ∧ bankWords bank < w + n ∧ n ≤ 128) ∧
    (∃ (s : State), runs s ∧ 5 ≤ s.fld.st ∧ s.cfgBit 0x2A0 0 = true) ∧
    (∃ (s : State) (w : Nat) (ds : List (BitVec 16)), runs s ∧ 5 ≤ s.fld.st ∧ s.cfgBit 0x2A0 0 = true ∧ s.fmem.lock.getLsbD 4 = true ∧ 2 ≤ w ∧ 1 ≤ ds.length ∧ ds.length ≤ 16 ∧ w + ds.length ≤ 32) ∧
    (∃ (s : State) (m : BitVec 10) (a : BitVec 10), runs s ∧ 5 ≤ s.fld.st ∧ s.cfgBit 0x2A0 0 = true ∧ s.fld.priv ≠ 1 ∧ lockRefused s.fmem.lock (lockAfter s.fmem.lock m a) = true) ∧
    (∃ (s : State) (m : BitVec 10) (a : BitVec 10) (cost : Nat) (v : Nat) (ra : TollRing) (rb : TollRing), runs s ∧ 5 ≤ s.fld.st ∧ s.cfgBit 0x2A0 0 = true ∧ s.fld.priv ≠ 1 ∧ lockRefused s.fmem.lock (lockAfter s.fmem.lock m a) = false ∧ writeAdmitted s 4 0 2 9 cost ∧ s.arr.tolls.length = 32 ∧ s.toll 7 = { ringA := some ra, ringB := some rb, worn := false } ∧ ra.value = some v ∧ rb.value = some v ∧ v + 1 < 4294967296 ∧ ra.used + 1 < State.tollLife ∧ rb.used + 1 < State.tollLife) ∧
    (∃ (s : State) (bank : Nat) (w : Nat) (cost : Nat) (d : BitVec 16) (v : Nat) (ra : TollRing) (rb : TollRing), runs s ∧ 5 ≤ s.fld.st ∧ s.cfgBit 0x2A0 0 = true ∧ writable s bank w [d] ∧ writeAdmitted s bank w 2 9 cost ∧ s.arr.tolls.length = 32 ∧ s.toll 7 = { ringA := some ra, ringB := some rb, worn := false } ∧ ra.value = some v ∧ rb.value = some v ∧ v + 1 < 4294967296 ∧ ra.used + 1 < State.tollLife ∧ rb.used + 1 < State.tollLife) ∧
    (∃ (s : State) (bank : Nat) (w : Nat) (cost : Nat) (ds : List (BitVec 16)) (v : Nat) (ra : TollRing) (rb : TollRing), runs s ∧ 5 ≤ s.fld.st ∧ s.cfgBit 0x2A0 0 = true ∧ writable s bank w ds ∧ writeAdmitted s bank w (2 * ds.length) 9 cost ∧ s.arr.tolls.length = 32 ∧ s.toll 7 = { ringA := some ra, ringB := some rb, worn := false } ∧ ra.value = some v ∧ rb.value = some v ∧ v + 1 < 4294967296 ∧ ra.used + 1 < State.tollLife ∧ rb.used + 1 < State.tollLife) :=
  ⟨⟨(let s := wired0; (s.inField 5)), (2), (1), (2), by decide +kernel⟩,
   ⟨(let s := wired0; (s.inField 5)), (1), (30), (3), by decide +kernel⟩,
   ⟨(let s := wired0; (s.inField 6)), by decide +kernel⟩,
   ⟨(let s := wired0; { (s.inField 6) with fmem.lock := 0x10#10 }), (3), ([7#16, 8#16]), by decide +kernel⟩,
   ⟨(let s := wired0; { (s.inField 6) with fmem.lock := 0x10#10 }), (0x30#10), (0#10), by decide +kernel⟩,
   ⟨(let s := wired0; { (s.inField 6) with fldx.mapBuilt := true, fld.priv := 3, arr := State.reset.arr, cmt := State.reset.cmt, peal.lease9 := none, peal.lease8 := none }), (0x20#10), (0x20#10), (let s := wired0; let s : State := { (s.inField 6) with fldx.mapBuilt := true, fld.priv := 3, arr := State.reset.arr, cmt := State.reset.cmt, peal.lease9 := none, peal.lease8 := none }; fieldWriteCost s.pwr.band 1), (let s := wired0; let s : State := { (s.inField 6) with fldx.mapBuilt := true, fld.priv := 3, arr := State.reset.arr, cmt := State.reset.cmt, peal.lease9 := none, peal.lease8 := none }; s.tollValue 7), (let s := wired0; let s : State := { (s.inField 6) with fldx.mapBuilt := true, fld.priv := 3, arr := State.reset.arr, cmt := State.reset.cmt, peal.lease9 := none, peal.lease8 := none }; (s.toll 7).ringA.getD ⟨0, 0, 0, []⟩), (let s := wired0; let s : State := { (s.inField 6) with fldx.mapBuilt := true, fld.priv := 3, arr := State.reset.arr, cmt := State.reset.cmt, peal.lease9 := none, peal.lease8 := none }; (s.toll 7).ringB.getD ⟨0, 0, 0, []⟩), by decide +kernel⟩,
   ⟨(let s := wired0; { (s.inField 6) with fldx.mapBuilt := true, fld.priv := 3, arr := State.reset.arr, cmt := State.reset.cmt, peal.lease9 := none, peal.lease8 := none }), (1), (5), (let s := wired0; let s : State := { (s.inField 6) with fldx.mapBuilt := true, fld.priv := 3, arr := State.reset.arr, cmt := State.reset.cmt, peal.lease9 := none, peal.lease8 := none }; fieldWriteCost s.pwr.band 1), (0x55AA#16), (let s := wired0; let s : State := { (s.inField 6) with fldx.mapBuilt := true, fld.priv := 3, arr := State.reset.arr, cmt := State.reset.cmt, peal.lease9 := none, peal.lease8 := none }; s.tollValue 7), (let s := wired0; let s : State := { (s.inField 6) with fldx.mapBuilt := true, fld.priv := 3, arr := State.reset.arr, cmt := State.reset.cmt, peal.lease9 := none, peal.lease8 := none }; (s.toll 7).ringA.getD ⟨0, 0, 0, []⟩), (let s := wired0; let s : State := { (s.inField 6) with fldx.mapBuilt := true, fld.priv := 3, arr := State.reset.arr, cmt := State.reset.cmt, peal.lease9 := none, peal.lease8 := none }; (s.toll 7).ringB.getD ⟨0, 0, 0, []⟩), by decide +kernel⟩,
   ⟨(let s := wired0; { (s.inField 6) with fldx.mapBuilt := true, fld.priv := 3, arr := State.reset.arr, cmt := State.reset.cmt, peal.lease9 := none, peal.lease8 := none }), (3), (5), (let s := wired0; let s : State := { (s.inField 6) with fldx.mapBuilt := true, fld.priv := 3, arr := State.reset.arr, cmt := State.reset.cmt, peal.lease9 := none, peal.lease8 := none }; fieldWriteCost s.pwr.band 1), ([0x55AA#16, 0x1234#16]), (let s := wired0; let s : State := { (s.inField 6) with fldx.mapBuilt := true, fld.priv := 3, arr := State.reset.arr, cmt := State.reset.cmt, peal.lease9 := none, peal.lease8 := none }; s.tollValue 7), (let s := wired0; let s : State := { (s.inField 6) with fldx.mapBuilt := true, fld.priv := 3, arr := State.reset.arr, cmt := State.reset.cmt, peal.lease9 := none, peal.lease8 := none }; (s.toll 7).ringA.getD ⟨0, 0, 0, []⟩), (let s := wired0; let s : State := { (s.inField 6) with fldx.mapBuilt := true, fld.priv := 3, arr := State.reset.arr, cmt := State.reset.cmt, peal.lease9 := none, peal.lease8 := none }; (s.toll 7).ringB.getD ⟨0, 0, 0, []⟩), by decide +kernel⟩⟩

theorem met_GweunoReads :
    (∃ (s : State) (hd : BitVec 16), runs s ∧ 5 ≤ s.fld.st ∧ hd = s.fld.handle ∧ s.cfgBit 0x2A0 0 = true ∧ s.fld.priv ≤ 2) ∧
    (∃ (s : State) (hd : BitVec 16) (k : Nat) (n : Nat), runs s ∧ 5 ≤ s.fld.st ∧ hd = s.fld.handle ∧ s.cfgBit 0x2A0 0 = true ∧ s.fld.priv = 4 ∧ s.domOn 4 = true ∧ s.arrayError true = none ∧ 1 ≤ n ∧ 32 * n ≤ s.gwLimit ∧ s.byNumber k = none ∧ s.fldx.recRead = none) ∧
    (∃ (s : State) (hd : BitVec 16) (k : Nat) (o : Nat) (n : Nat) (r : Stored), runs s ∧ 5 ≤ s.fld.st ∧ hd = s.fld.handle ∧ s.cfgBit 0x2A0 0 = true ∧ s.fld.priv = 4 ∧ s.domOn 4 = true ∧ s.arrayError true = none ∧ 1 ≤ n ∧ 32 * n ≤ s.gwLimit ∧ s.byNumber k = some r ∧ r.record.hdr.part ≠ 1 ∧ o = 0 ∧ (s.guarded 2 (s.readAccess r (r.record.hdr.has flagEnc) 0#8 0)).2 = true ∧ 32 * n < (State.recBytes r.record false).length) ∧
    (∃ (s : State) (hd : BitVec 16), runs s ∧ 5 ≤ s.fld.st ∧ hd = s.fld.handle ∧ s.cfgBit 0x2A0 0 = true ∧ (s.fld.priv = 3 ∨ s.fld.priv = 4) ∧ s.aonRuns = true) ∧
    (∃ (s : State) (hd : BitVec 16) (f : Nat), runs s ∧ 5 ≤ s.fld.st ∧ hd = s.fld.handle ∧ s.cfgBit 0x2A0 0 = true ∧ (s.fld.priv = 3 ∨ s.fld.priv = 4) ∧ s.domOn 4 = true ∧ s.arrayError true = none ∧ (s.fieldGuard 0x1600_0000 1 true false true false).2 = true ∧ s.shippingLog f = []) ∧
    (∃ (s : State) (hd : BitVec 16) (f : Nat) (k : Nat) (iv : Nat) (x : List Byte), runs s ∧ 5 ≤ s.fld.st ∧ hd = s.fld.handle ∧ s.cfgBit 0x2A0 0 = true ∧ (s.fld.priv = 3 ∨ s.fld.priv = 4) ∧ s.domOn 4 = true ∧ s.arrayError true = none ∧ (s.fieldGuard 0x1600_0000 1 true false true false).2 = true ∧ s.shippingLog f = [(iv, true, [x])] ∧ 1 ≤ k ∧ 16 ≤ s.gwLimit) ∧
    (∃ (s : State) (hd : BitVec 16) (f : Nat) (k : Nat) (m : Nat) (l : List (Nat × Bool × List (List Byte))) (xs : List (List Byte)), runs s ∧ 5 ≤ s.fld.st ∧ hd = s.fld.handle ∧ s.cfgBit 0x2A0 0 = true ∧ (s.fld.priv = 3 ∨ s.fld.priv = 4) ∧ s.domOn 4 = true ∧ s.arrayError true = none ∧ (s.fieldGuard 0x1600_0000 1 true false true false).2 = true ∧ s.shippingLog f = l ∧ l.all (fun b => b.2.1) = true ∧ xs = l.flatMap (fun b => b.2.2) ∧ m = min (min k (s.gwLimit / 16)) xs.length) ∧
    (∃ (s : State) (hd : BitVec 16) (m : Nat) (p : Nat) (k : Nat) (o : Nat) (n : Nat) (r : Stored) (ch : List Byte), runs s ∧ 5 ≤ s.fld.st ∧ hd = s.fld.handle ∧ s.cfgBit 0x2A0 0 = true ∧ s.fld.priv = 4 ∧ s.domOn 4 = true ∧ s.arrayError true = none ∧ m ≤ 1 ∧ (m = 1 → p ≤ 10) ∧ 1 ≤ n ∧ 32 * n ≤ s.gwLimit ∧ s.selectRecord m p k = some r ∧ s.readGone m k o (some r.record.hdr.stroke) = false ∧ r.record.hdr.part ≠ 1 ∧ 32 * o < (State.recBytes r.record false).length ∧ (s.guarded 2 (s.readAccess r (r.record.hdr.has flagEnc) 0#8 0)).2 = true ∧ ch = ((State.recBytes r.record false).drop (32 * o)).take (32 * n)) :=
  ⟨⟨(let s := wired0; (s.inField 5)), (0x4321#16), by decide +kernel⟩,
   ⟨(let s := wired0; { (s.inField 6) with fldx.mapBuilt := true, arr := State.reset.arr, cmt := State.reset.cmt, fld.priv := 4 }), (0x4321#16), (9999999), (1), by decide +kernel⟩,
   ⟨(let s := wired0; { (s.inField 6) with fldx.mapBuilt := true, arr := State.reset.arr, cmt := State.reset.cmt, fld.priv := 4 }), (0x4321#16), (1), (0), (1), (let s := wired0; let s : State := { (s.inField 6) with fldx.mapBuilt := true, arr := State.reset.arr, cmt := State.reset.cmt, fld.priv := 4 }; ((s.byNumber 1).getD (factoryStored identityRec))), by (repeat' apply And.intro) <;> first | decide +kernel | rfl⟩,
   ⟨(let s := wired0; (s.inField 6)), (0x4321#16), by decide +kernel⟩,
   ⟨(let s := wired0; { (s.inField 6) with fldx.mapBuilt := true, arr := State.reset.arr, cmt := State.reset.cmt, log.batch := [] }), (0x4321#16), (0), by decide +kernel⟩,
   ⟨(let s := wired0; { (s.inField 6) with fldx.mapBuilt := true, arr := State.reset.arr, cmt := State.reset.cmt, log.batchInterval := 600, log.batch := [{ seconds := 9, flags := 0#8, temp := 1, storeMv := 2, vbatMv := 3, harv := 4, voc := 5 }] }), (0x4321#16), (0), (4), (600), (sampleBytes { seconds := 9, flags := 0#8, temp := 1, storeMv := 2, vbatMv := 3, harv := 4, voc := 5 }), by decide +kernel⟩,
   ⟨(let s := wired0; { (s.inField 6) with fldx.mapBuilt := true, arr := State.reset.arr, cmt := State.reset.cmt, log.batchInterval := 600, log.batch := [{ seconds := 9, flags := 0#8, temp := 1, storeMv := 2, vbatMv := 3, harv := 4, voc := 5 }] }), (0x4321#16), (0), (4), (let s := wired0; let s : State := { (s.inField 6) with fldx.mapBuilt := true, arr := State.reset.arr, cmt := State.reset.cmt, log.batchInterval := 600, log.batch := [{ seconds := 9, flags := 0#8, temp := 1, storeMv := 2, vbatMv := 3, harv := 4, voc := 5 }] }; (min (min 4 (s.gwLimit / 16)) ((s.shippingLog 0).flatMap (fun b => b.2.2)).length)), (let s := wired0; let s : State := { (s.inField 6) with fldx.mapBuilt := true, arr := State.reset.arr, cmt := State.reset.cmt, log.batchInterval := 600, log.batch := [{ seconds := 9, flags := 0#8, temp := 1, storeMv := 2, vbatMv := 3, harv := 4, voc := 5 }] }; (s.shippingLog 0)), (let s := wired0; let s : State := { (s.inField 6) with fldx.mapBuilt := true, arr := State.reset.arr, cmt := State.reset.cmt, log.batchInterval := 600, log.batch := [{ seconds := 9, flags := 0#8, temp := 1, storeMv := 2, vbatMv := 3, harv := 4, voc := 5 }] }; ((s.shippingLog 0).flatMap (fun b => b.2.2))), by decide +kernel⟩,
   ⟨(let s := wired0; { (s.inField 6) with fldx.mapBuilt := true, arr := State.reset.arr, cmt := State.reset.cmt, fld.priv := 4 }), (0x4321#16), (0), (0), (1), (1), (1), (let s := wired0; let s : State := { (s.inField 6) with fldx.mapBuilt := true, arr := State.reset.arr, cmt := State.reset.cmt, fld.priv := 4 }; ((s.byNumber 1).getD (factoryStored identityRec))), (let s := wired0; let s : State := { (s.inField 6) with fldx.mapBuilt := true, arr := State.reset.arr, cmt := State.reset.cmt, fld.priv := 4 }; (((State.recBytes ((s.byNumber 1).getD (factoryStored identityRec)).record false).drop 32).take 32)), by (repeat' apply And.intro) <;> first | decide +kernel | rfl⟩⟩

theorem met_GweunoAndWake :
    (∃ (s : State) (hd : BitVec 16) (item : Nat) (cost : Nat) (fl : Byte) (bd : List Byte) (tv : Nat) (ra : TollRing) (rb : TollRing), runs s ∧ 5 ≤ s.fld.st ∧ hd = s.fld.handle ∧ s.cfgBit 0x2A0 0 = true ∧ s.fld.priv = 4 ∧ item < 65535 ∧ (fl = 0#8 ∨ fl = 1#8) ∧ bd.length ≤ 224 ∧ writeAdmitted s 5 item (8 + bd.length) 8 cost ∧ s.arr.tolls.length = 32 ∧ s.toll 7 = { ringA := some ra, ringB := some rb, worn := false } ∧ ra.value = some tv ∧ rb.value = some tv ∧ tv + 1 < 4294967296 ∧ ra.used + 1 < State.tollLife ∧ rb.used + 1 < State.tollLife) ∧
    (∃ (s : State) (hd : BitVec 16) (part : Nat) (k : Nat) (n : Nat) (r : Stored), runs s ∧ 5 ≤ s.fld.st ∧ hd = s.fld.handle ∧ s.cfgBit 0x2A0 0 = true ∧ s.fld.priv = 4 ∧ s.servedQueue 3 = 3 ∧ s.domOn 4 = true ∧ s.arrayError true = none ∧ part ≤ 10 ∧ part ≠ 1 ∧ 1 ≤ n ∧ n ≤ 64 ∧ (s.fromStroke part k).take n = [r] ∧ (s.guarded 2 (s.readAccess r true 0#8 0)).2 = true ∧ s.bothFailed = false ∧ s.ent.pool = [] ∧ s.wired = true ∧ s.pwr.step = 0 ∧ s.ent.a.state = 2 ∧ s.ent.b.state = 2 ∧ s.pwr.jobs = [] ∧ s.pwr.grants = [] ∧ s.verdict { id := s.cmt.nextId, queue := 3, cost := 190000, weight := 1, kind := .exportSeal } = .grant) ∧
    (∃ (s : State) (hd : BitVec 16) (n : Nat), runs s ∧ 5 ≤ s.fld.st ∧ hd = s.fld.handle ∧ s.cfgBit 0x2A0 0 = true ∧ s.exportAllowed = true ∧ s.servedQueue 4 = 4 ∧ s.fldx.container = none ∧ 1 ≤ n ∧ n ≤ 4) ∧
    (∃ (s : State) (hd : BitVec 16) (v : Bivik) (bs : List Byte), runs s ∧ 5 ≤ s.fld.st ∧ hd = s.fld.handle ∧ s.cfgBit 0x2A0 0 = true ∧ s.exportAllowed = true ∧ s.servedQueue 4 = 4 ∧ s.domOn 4 = true ∧ s.arrayError true = none ∧ s.fldx.container = some v ∧ s.fldx.ctx = none ∧ 64 ≤ State.bivikLength v ∧ 64 ≤ s.gwLimit ∧ s.verdict { id := s.cmt.nextId, queue := 4, cost := 900, weight := 0, kind := .exportSeal } = .grant ∧ s.bivikChunk v 0 64 = some bs ∧ bs.length = 64) ∧
    (∃ (s : State) (hd : BitVec 16) (v : Bivik) (bs : List Byte) (i : Nat) (n : Nat), runs s ∧ 5 ≤ s.fld.st ∧ hd = s.fld.handle ∧ s.cfgBit 0x2A0 0 = true ∧ s.exportAllowed = true ∧ s.servedQueue 4 = 4 ∧ s.domOn 4 = true ∧ s.arrayError true = none ∧ s.fldx.container = some v ∧ 1 ≤ n ∧ n ≤ 4 ∧ 64 * n ≤ s.gwLimit ∧ i + n ≤ ceilDiv (State.bivikLength v) 64 ∧ s.verdict { id := s.cmt.nextId, queue := 4, cost := 900, weight := 0, kind := .exportSeal } = .grant ∧ s.bivikChunk v (64 * i) (64 * n) = some bs) ∧
    (∃ (s : State) (hd : BitVec 16) (part : Nat) (k : Nat) (n : Nat), runs s ∧ 5 ≤ s.fld.st ∧ hd = s.fld.handle ∧ s.cfgBit 0x2A0 0 = true ∧ s.fld.priv = 4 ∧ s.servedQueue 3 = 3 ∧ s.domOn 4 = true ∧ s.arrayError true = none ∧ part ≤ 10 ∧ part ≠ 1 ∧ 1 ≤ n ∧ n ≤ 64 ∧ (s.fromStroke part k).take n ≠ [] ∧ ((s.fromStroke part k).take n).foldl (fun x r => if x.2 then x.1.guarded 2 (x.1.readAccess r true 0#8 0) else x) (s, true) = (s, true) ∧ s.bothFailed = false ∧ s.verdict { id := s.cmt.nextId, queue := 3, cost := 190000, weight := 1, kind := .exportSeal } = .grant) ∧
    (∃ (s : State) (hd : BitVec 16), runs s ∧ 5 ≤ s.fld.st ∧ hd = s.fld.handle ∧ s.cfgBit 0x2A0 0 = true ∧ s.exportAllowed = true) ∧
    (∃ (s : State) (hd : BitVec 16), runs s ∧ 5 ≤ s.fld.st ∧ hd = s.fld.handle ∧ s.cfgBit 0x2A0 0 = true ∧ 3 ≤ s.fld.priv ∧ s.rf.pend = [] ∧ s.aonRuns = true ∧ s.cfgBit 0x2A8 0 = true ∧ s.fld.wakeStart = none) ∧
    (∃ (s : State) (hd : BitVec 16), runs s ∧ 5 ≤ s.fld.st ∧ hd = s.fld.handle ∧ s.cfgBit 0x2A0 0 = true ∧ 3 ≤ s.fld.priv ∧ s.rf.pend = [] ∧ s.cfgBit 0x2A8 0 = false) ∧
    (∃ (s : State), runs s) ∧
    (∃ (s : State), runs s ∧ s.wired = true) ∧
    (∃ (s : State), runs s ∧ s.domOn 4 = true ∧ s.cmt.recovering = false ∧ s.boot.darkPending = none ∧ s.wired = true) :=
  ⟨⟨(let s := wired0; { (s.inField 6) with fldx.mapBuilt := true, arr := State.reset.arr, cmt := State.reset.cmt, fld.priv := 4, peal.lease8 := none }), (0x4321#16), (7), (let s := wired0; let s : State := { (s.inField 6) with fldx.mapBuilt := true, arr := State.reset.arr, cmt := State.reset.cmt, fld.priv := 4, peal.lease8 := none }; fieldWriteCost s.pwr.band 2), (1#8), (zeroBytes 20), (let s := wired0; let s : State := { (s.inField 6) with fldx.mapBuilt := true, arr := State.reset.arr, cmt := State.reset.cmt, fld.priv := 4, peal.lease8 := none }; s.tollValue 7), (let s := wired0; let s : State := { (s.inField 6) with fldx.mapBuilt := true, arr := State.reset.arr, cmt := State.reset.cmt, fld.priv := 4, peal.lease8 := none }; (s.toll 7).ringA.getD ⟨0, 0, 0, []⟩), (let s := wired0; let s : State := { (s.inField 6) with fldx.mapBuilt := true, arr := State.reset.arr, cmt := State.reset.cmt, fld.priv := 4, peal.lease8 := none }; (s.toll 7).ringB.getD ⟨0, 0, 0, []⟩), by decide +kernel⟩,
   ⟨(let s := wired0; { (s.inField 6) with fldx.mapBuilt := true, arr := State.reset.arr, cmt := State.reset.cmt, fld.priv := 4, ent.pool := [] }), (0x4321#16), (0), (1), (1), (let s := wired0; let s : State := { (s.inField 6) with fldx.mapBuilt := true, arr := State.reset.arr, cmt := State.reset.cmt, fld.priv := 4, ent.pool := [] }; ((s.byNumber 1).getD (factoryStored identityRec))), by (repeat' apply And.intro) <;> first | decide +kernel | rfl⟩,
   ⟨(let s := wired0; { (s.inField 6) with fld.priv := 4 }), (0x4321#16), (1), by decide +kernel⟩,
   ⟨(let s := wired0; { (s.inField 6) with fldx.mapBuilt := true, arr := State.reset.arr, cmt := State.reset.cmt, fld.priv := 4, fldx.container := some container0 }), (0x4321#16), (container0), (zeroBytes 64), by decide +kernel⟩,
   ⟨(let s := wired0; { (s.inField 6) with fldx.mapBuilt := true, arr := State.reset.arr, cmt := State.reset.cmt, fld.priv := 4, fldx.container := some container0 }), (0x4321#16), (container0), (let s := wired0; let s : State := { (s.inField 6) with fldx.mapBuilt := true, arr := State.reset.arr, cmt := State.reset.cmt, fld.priv := 4, fldx.container := some container0 }; (s.bivikChunk container0 64 64).getD []), (1), (1), by decide +kernel⟩,
   ⟨(let s := wired0; { (s.inField 6) with fldx.mapBuilt := true, arr := State.reset.arr, cmt := State.reset.cmt, fld.priv := 4, ent.pool := [] }), (0x4321#16), (0), (1), (2), by (repeat' apply And.intro) <;> first | decide +kernel | rfl⟩,
   ⟨(let s := wired0; { (s.inField 6) with fld.priv := 4 }), (0x4321#16), by decide +kernel⟩,
   ⟨(let s := wired0; { (s.inField 6) with fld.wakeStart := none }), (0x4321#16), by decide +kernel⟩,
   ⟨(let s := wired0; { (s.inField 6) with rf.inForce := [(0x2A8, 0#32)] }), (0x4321#16), by decide +kernel⟩,
   ⟨(let s := wired0; s), by decide +kernel⟩,
   ⟨(let s := wired0; s.up), by decide +kernel⟩,
   ⟨(let s := wired0; (s.inField 0)), by decide +kernel⟩⟩

theorem met_CaptureTriggers :
    (∃ (s : State) (ch : Nat) (hi : Bool), runs s ∧ ch < 8 ∧ s.domOn 18 = true ∧ s.condEnabled ch hi = true ∧ s.snr.faulty.getLsbD ch = false ∧ s.calibrating ch = false ∧ s.snr.events.any (fun x => x.ch == ch && x.high == hi) = false ∧ s.snareLive = true ∧ s.snr.capture = none ∧ s.minCh = 1 ∧ s.snr.recent = []) ∧
    (∃ (s : State) (ch : Nat) (hi : Bool) (c : Capture), runs s ∧ ch < 8 ∧ s.domOn 18 = true ∧ s.condEnabled ch hi = true ∧ s.snr.faulty.getLsbD ch = false ∧ s.calibrating ch = false ∧ s.snr.events.any (fun x => x.ch == ch && x.high == hi) = false ∧ s.snareLive = true ∧ s.snr.capture = some c) ∧
    (∃ (s : State) (ch : Nat) (hi : Bool), runs s ∧ ch < 8 ∧ s.domOn 18 = true ∧ s.condEnabled ch hi = true ∧ s.snr.faulty.getLsbD ch = false ∧ s.calibrating ch = false ∧ s.snr.events.any (fun x => x.ch == ch && x.high == hi) = false ∧ s.snareLive = false) ∧
    (∃ (s : State) (ch : Nat) (hi : Bool), runs s ∧ s.snr.events.any (fun x => x.ch == ch && x.high == hi) = true) ∧
    (∃ (s : State) (ch : Nat) (tick : Nat) (hi : Bool) (l : List ChanEvent) (tt : Nat), runs s ∧ ch < 8 ∧ s.domOn 18 = true ∧ s.condEnabled ch hi = true ∧ s.snr.faulty.getLsbD ch = false ∧ s.calibrating ch = false ∧ s.snr.events.any (fun x => x.ch == ch && x.high == hi) = false ∧ s.snareLive = true ∧ s.snr.capture = none ∧ l = s.snr.recent.filter (fun (x : ChanEvent) => tick < x.start + s.coincSpan + 16) ++ [({ ch := ch, high := hi, start := tick } : ChanEvent)] ∧ trigTick l s.coincSpan s.minCh = some tt) ∧
    (∃ (s : State) (ch : Nat) (tick : Nat) (hi : Bool) (l : List ChanEvent), runs s ∧ ch < 8 ∧ s.domOn 18 = true ∧ s.condEnabled ch hi = true ∧ s.snr.faulty.getLsbD ch = false ∧ s.calibrating ch = false ∧ s.snr.events.any (fun x => x.ch == ch && x.high == hi) = false ∧ s.snareLive = true ∧ s.snr.capture = none ∧ l = s.snr.recent.filter (fun (x : ChanEvent) => tick < x.start + s.coincSpan + 16) ++ [({ ch := ch, high := hi, start := tick } : ChanEvent)] ∧ trigTick l s.coincSpan s.minCh = none) :=
  ⟨⟨(let s := wired0; s.inSnare), (0), (true), by decide +kernel⟩,
   ⟨(let s := wired0; { s.inSnare with snr.capture := some capture0 }), (0), (true), (capture0), by decide +kernel⟩,
   ⟨(let s := wired0; { s.inSnare with snr.armed := false }), (0), (true), by decide +kernel⟩,
   ⟨(let s := wired0; { s.inSnare with snr.events := [{ ch := 0, high := true, start := 5 }] }), (0), (true), by decide +kernel⟩,
   ⟨(let s := wired0; { s.inSnare with snr.recent := [{ ch := 1, high := false, start := 999 }] }), (0), (1000), (true), (let s := wired0; let s : State := { s.inSnare with snr.recent := [{ ch := 1, high := false, start := 999 }] }; (s.snr.recent.filter (fun (x : ChanEvent) => 1000 < x.start + s.coincSpan + 16) ++ [(⟨0, true, 1000, none⟩ : ChanEvent)])), (999), by decide +kernel⟩,
   ⟨(let s := wired0; { s.inSnare with rf.inForce := [(0x360, 0x7#32), (0x324, 0x00000200#32)], snr.recent := [] }), (0), (1000), (true), (let s := wired0; let s : State := { s.inSnare with rf.inForce := [(0x360, 0x7#32), (0x324, 0x00000200#32)], snr.recent := [] }; (s.snr.recent.filter (fun (x : ChanEvent) => 1000 < x.start + s.coincSpan + 16) ++ [(⟨0, true, 1000, none⟩ : ChanEvent)])), by decide +kernel⟩⟩

theorem met_CaptureEnds :
    (∃ (s : State) (ch : Nat) (c : Capture) (e : ChanEvent), runs s ∧ s.snr.capture = some c ∧ s.snr.events.find? (fun e => e.ch == ch) = some e) ∧
    (∃ (s : State) (ch : Nat), runs s ∧ s.snr.events.find? (fun e => e.ch == ch) = none) ∧
    (∃ (s : State) (c : Capture), runs s ∧ s.snr.capture = some c ∧ c.lost = false ∧ s.snr.waiting = [] ∧ s.s1Open = false ∧ s.snr.calBusy = none ∧ s.pwr.grants = []) ∧
    (∃ (s : State) (c : Capture), runs s ∧ s.snr.capture = some c ∧ c.lost = false ∧ c.tied = false ∧ s.snr.waiting = [] ∧ s.snr.ring ≠ 2 ∧ s.s1Open = true ∧ s.cmt.s1wait = [] ∧ s.cmt.auditHeld = [] ∧ s.ownGap (s.source 2) 6 = none ∧ s.knellRunning = false ∧ s.hasRoom 6 = true ∧ s.pwr.grants = []) ∧
    (∃ (s : State), runs s ∧ s.snr.ring = 3 ∧ s.snr.waiting = [] ∧ s.snr.capture = none ∧ s.pwr.step = 0 ∧ s.rf.pend = [] ∧ s.storeCode ≠ 2 ∧ s.pwr.grants = []) ∧
    (∃ (s : State) (c : Capture), runs s ∧ s.snr.capture = some c) ∧
    (∃ (s : State) (ch : Nat) (e : ChanEvent), runs s ∧ s.snr.events.find? (fun e => e.ch == ch) = some e) ∧
    (∃ (s : State), runs s ∧ s.snr.ring = 3 ∧ s.snr.waiting.any (fun c => s.snr.tied == some c.number && !c.waves.isEmpty) = false ∧ s.snr.capture.all (fun c => !c.tied) = true ∧ s.rf.pend = []) :=
  ⟨⟨(let s := wired0; { s.inSnare with snr.events := [{ ch := 0, high := true, start := 5 }], snr.capture := some { capture0 with chans := noteEvent [] { ch := 0, high := true, start := 5 } } }), (0), ({ capture0 with chans := noteEvent [] { ch := 0, high := true, start := 5 } }), ({ ch := 0, high := true, start := 5 }), by decide +kernel⟩,
   ⟨(let s := wired0; { s.inSnare with snr.events := [] }), (0), by decide +kernel⟩,
   ⟨(let s := wired0; { s.inSnare with snr.capture := some capture0, boot.s1Stopped := true }), (capture0), by decide +kernel⟩,
   ⟨(let s := wired0; { s.inSnare with snr.ring := 0, snr.capture := some { capture0 with tied := false } }), ({ capture0 with tied := false }), by decide +kernel⟩,
   ⟨(let s := wired0; { s.inSnare with snr.ring := 3 }), by decide +kernel⟩,
   ⟨(let s := wired0; { s.inSnare with snr.capture := some capture0 }), (capture0), by decide +kernel⟩,
   ⟨(let s := wired0; { s.inSnare with snr.events := [{ ch := 0, high := true, start := 5 }] }), (0), ({ ch := 0, high := true, start := 5 }), by decide +kernel⟩,
   ⟨(let s := wired0; { s.inSnare with snr.ring := 3 }), by decide +kernel⟩⟩

theorem met_Calibrations :
    (∃ (s : State), runs s ∧ s.wired = true ∧ s.rf.pend = [] ∧ s.domOn 18 = true ∧ s.cfg 0x328 23 16 ≠ 0 ∧ s.pwr.jobs = []) ∧
    (∃ (s : State) (ch : Nat) (us : Nat) (af : Int) (ga : Int), runs s ∧ s.snr.calBusy = some (ch, 1) ∧ ch < 8 ∧ s1Takes s 2 6 32 ∧ s.snr.capture.isSome = true ∧ State.calOutcome af ga = 0 ∧ us < 1000) ∧
    (∃ (s : State) (ch : Nat) (af : Int) (ga : Int), runs s ∧ s.snr.calBusy = some (ch, 1) ∧ ch < 8 ∧ s.snr.capture.isSome = true ∧ State.calOutcome af ga ≠ 0) ∧
    (∃ (s : State) (ch : Nat) (rs : Nat), runs s ∧ s.snr.calBusy = some (ch, rs) ∧ ch < 8) :=
  ⟨⟨(let s := wired0; { s.inSnare with rf.inForce := [(0x328, 0x00100005#32)], snr.faulty := 4#8 }), by decide +kernel⟩,
   ⟨(let s := wired0; { s.inSnare with snr.calBusy := some (3, 1), snr.capture := some capture0, snr.faulty := 8#8 }), (3), (900), (-40), (300), by decide +kernel⟩,
   ⟨(let s := wired0; { s.inSnare with snr.calBusy := some (3, 1), snr.capture := some capture0 }), (3), (-41), (30), by decide +kernel⟩,
   ⟨(let s := wired0; { s.inSnare with snr.calBusy := some (3, 1) }), (3), (1), by decide +kernel⟩⟩

theorem met_BlockRelease :
    (∃ (s : State) (x : Src) (v : BitVec 1024) (nx : BitVec 128), runs s ∧ s.ent.waiting = [] ∧ s.ent.rawReq = none ∧ (windowRun s x v).failed = none ∧ (nextRun s x v nx).failed = none ∧ (s.source1 x).state = 2 ∧ s.ent.pool = [] ∧ s.bufferWants = true ∧ s.fld.ready = true) ∧
    (∃ (s : State) (x : Src) (v : BitVec 1024) (nx : BitVec 128), runs s ∧ s.ent.waiting = [] ∧ s.ent.rawReq = none ∧ (windowRun s x v).failed = none ∧ (nextRun s x v nx).failed = none ∧ (s.source1 x).state = 2 ∧ s.ent.pool = [] ∧ s.bufferWants = false ∧ s.rf.pend = [] ∧ s.fifoWants = true) ∧
    (∃ (s : State) (x : Src) (v : BitVec 1024) (nx : BitVec 128), runs s ∧ s.ent.waiting = [] ∧ s.ent.rawReq = none ∧ (windowRun s x v).failed = none ∧ (nextRun s x v nx).failed = none ∧ (s.source1 x).state = 2 ∧ s.ent.pool.length ≤ 16 ∧ s.bufferWants = false ∧ s.rf.pend = [] ∧ s.fifoWants = false ∧ s.domOn 4 = true) ∧
    (∃ (s : State) (x : Src) (v : BitVec 1024), runs s ∧ s.ent.waiting = [] ∧ s.ent.rawReq = none ∧ (windowRun s x v).failed = some 0 ∧ (s.source1 x).state = 2 ∧ regsCanonical s = true) :=
  ⟨⟨(let s := wired0; { s.inSource with pwr.domOn := List.replicate 20 true, ent.pool := [], fld.buf := [], fld.ready := true }), (.a), (goodWindow), (BitVec.ofNat 128 ((2 ^ 128 - 1) / 3)), by decide +kernel⟩,
   ⟨(let s := wired0; { s.inSource with pwr.domOn := setNth (List.replicate 20 true) 3 false, rf.inForce := [(0x3E4, 1#32)], ent.pool := [], ent.fifo := [] }), (.a), (goodWindow), (BitVec.ofNat 128 ((2 ^ 128 - 1) / 3)), by decide +kernel⟩,
   ⟨(let s := wired0; { s.inSource with pwr.domOn := setNth (List.replicate 20 true) 3 false, rf.inForce := [(0x3E4, 0#32)] }), (.a), (goodWindow), (BitVec.ofNat 128 ((2 ^ 128 - 1) / 3)), by decide +kernel⟩,
   ⟨(let s := wired0; s.inSource), (.a), (0#1024), by decide +kernel⟩⟩

theorem met_HealthTests :
    (∃ (s : State) (x : Src) (n : Nat), runs s ∧ (s.source1 x).state = 2 ∧ (s.source1 (otherSrc x)).state = 2 ∧ n ≤ 1 ∧ s.wired = true ∧ s.pwr.step = 0 ∧ s1Takes s 8 6 64 ∧ s.st.current = none ∧ s.st.queue = [] ∧ s.ent.raw = none ∧ s.ent.rawReq = none ∧ s.fld.st = 0 ∧ (s.ent.pool = [] ∨ (s.ent.waiting = [] ∧ s.bufferWants = false ∧ s.fifoWants = false))) ∧
    (∃ (s : State) (x : Src) (r : Raw), runs s ∧ (s.source1 x).state = 4 ∧ s.ent.raw = some r) ∧
    (∃ (s : State) (x : Src), runs s ∧ ((s.source1 x).state = 0 ∨ (s.source1 x).state = 5)) ∧
    (∃ (s : State) (x : Src), runs s ∧ s.wired = false ∧ s.shedSources = false ∧ s.fld.st = 0 ∧ s.ent.waiting = [] ∧ (s.source1 x).state = 2 ∧ (s.source1 x).lastRelease + 16777 ≤ s.clk.up) ∧
    (∃ (s : State) (x : Src), runs s ∧ s.clk.up < (s.source1 x).lastRelease + 16777) ∧
    (∃ (s : State) (x : Src) (n : Nat), runs s ∧ ((s.source1 x).state = 1 ∨ (s.source1 x).state = 2) ∧ n ≤ 1) ∧
    (∃ (s : State) (x : Src) (v : BitVec 1024) (nx : BitVec 128), runs s ∧ ((s.source1 x).state = 1 ∨ (s.source1 x).state = 2) ∧ (windowRun s x v).failed = none ∧ (nextRun s x v nx).failed = none) ∧
    (∃ (s : State) (x : Src) (v : BitVec 1024) (n : Nat), runs s ∧ ((s.source1 x).state = 1 ∨ (s.source1 x).state = 2) ∧ (windowRun s x v).failed = some n) :=
  ⟨⟨(let s := wired0; { s.inSource with fld.st := 0, st.current := none, st.queue := [] }), (.a), (1), by decide +kernel⟩,
   ⟨(let s := wired0; { s.inSource with ent.a.state := 4, ent.raw := some raw0 }), (.a), (raw0), by decide +kernel⟩,
   ⟨(let s := wired0; { s.inSource with ent.a.state := 5 }), (.a), by decide +kernel⟩,
   ⟨(let s := wired0; { s.inSource with fld.st := 0, clk.up := 99999999, pwr.usable := [false, true, false, true, false, true], pwr.vauxOk := false }), (.a), by decide +kernel⟩,
   ⟨(let s := wired0; { s.inSource with clk.up := 0, ent.a.lastRelease := 3 }), (.a), by decide +kernel⟩,
   ⟨(let s := wired0; { s.inSource with ent.a.state := 1 }), (.a), (1), by decide +kernel⟩,
   ⟨(let s := wired0; { s.inSource with ent.a.state := 1 }), (.a), (goodWindow), (BitVec.ofNat 128 ((2 ^ 128 - 1) / 3)), by decide +kernel⟩,
   ⟨(let s := wired0; { s.inSource with ent.a.state := 1 }), (.a), (0#1024), (0), by decide +kernel⟩⟩

theorem met_SourceTests :
    (∃ (s : State) (x : Src) (req : Nat) (v : BitVec 1024) (u : BitVec 1024), runs s ∧ s.st.current = some (req, 0x10 + srcNum x) ∧ s.st.queue = [(req, 0x10 + srcNum x)] ∧ (s.source1 x).state = 3 ∧ (s.source1 (otherSrc x)).state = 2 ∧ max (testWindow v 0 false).runMax (testWindow u (testWindow v 0 false).run (testWindow v 0 false).last).runMax < 129 ∧ max (testWindow v 0 false).cnt (testWindow u (testWindow v 0 false).run (testWindow v 0 false).last).cnt < 851) ∧
    (∃ (s : State), runs s ∧ s.st.current = none) ∧
    (∃ (s : State) (x : Src) (r : Raw) (bs : List Byte), runs s ∧ s.ent.raw = some r ∧ r.running = true ∧ r.src = x ∧ (bs.length = 131072 ∨ (bs.length < 131072 ∧ r.stop = true))) ∧
    (∃ (s : State) (x : Src) (req : Nat), runs s ∧ s.st.current = some (req, 0x10 + srcNum x) ∧ (s.source1 x).state = 3) :=
  ⟨⟨(let s := wired0; { s.inSource with ent.a.state := 3, st.current := some (7, 16), st.queue := [(7, 16)] }), (.a), (7), (goodWindow), (goodWindow), by decide +kernel⟩,
   ⟨(let s := wired0; { s.inSource with st.current := none }), by decide +kernel⟩,
   ⟨(let s := wired0; { s.inSource with ent.a.state := 4, ent.raw := some { raw0 with stop := true } }), (.a), ({ raw0 with stop := true }), ([1#8]), by decide +kernel⟩,
   ⟨(let s := wired0; { s.inSource with ent.a.state := 3, st.current := some (7, 16), st.queue := [(7, 16)] }), (.a), (7), by decide +kernel⟩⟩

theorem met_GuardsAndSessionEnds :
    (∃ (s : State) (m : Nat) (d : Bool), runs s ∧ s.grd.applyQ = [([m], d)] ∧ m < 7 ∧ m ≠ 2 ∧ s.grd.posted = [] ∧ risingFrom 0 s.grd.live = true ∧ (State.programmable m).all (fun k => State.regionValid (s.shadowRegion k)) = true) ∧
    (∃ (s : State) (m : Nat) (d : Bool), runs s ∧ s.grd.applyQ = [([m], d)] ∧ m ≠ 2 ∧ s.grd.posted = [] ∧ (State.programmable m).all (fun k => State.regionValid (s.shadowRegion k)) = false) ∧
    (∃ (s : State), runs s ∧ s.grd.applyQ = []) ∧
    (∃ (s : State) (m : Nat) (v : BitVec 64), runs s ∧ s.grd.posted = [{ master := m, port := .host 3, requester := 3, addr := 0x10C, width := 2, data := v }] ∧ s.rf.pend = [] ∧ regsCanonical s = true) ∧
    (∃ (s : State) (m : Nat) (w : Posted) (u : State × Nat), runs s ∧ s.grd.posted.find? (fun w => w.master == m) = some w ∧ u = ({ s with grd.posted := s.grd.posted.eraseP (fun x => x.master == m) }).performWrite w.port w.addr w.width w.data ∧ u.2 = 0) ∧
    (∃ (s : State), runs s ∧ s.grd.posted = []) ∧
    (∃ (s : State) (m : Nat) (a : FaultAudit), runs s ∧ s.grd.audits = [a] ∧ a.master = m ∧ m < 7 ∧ nget s.grd.auditAt m 0 = 0 ∧ s.grd.auditAt = [] ∧ s1Takes s 6 6 64) ∧
    (∃ (s : State) (m : Nat), runs s ∧ s.grd.audits.find? (fun a => a.master == m) = none) ∧
    (∃ (s : State) (c : Nat) (x : Ctx), runs s ∧ s.rf.pend = [] ∧ 4 ≤ c ∧ s.ctx c = some x ∧ x.state = .opened ∧ x.lastUse + clampTo 1 255 (s.cfg 0x4A4 31 24) * second ≤ s.clk.up) ∧
    (∃ (s : State) (c : Nat) (x : Ctx), runs s ∧ s.rf.pend = [] ∧ 4 ≤ c ∧ s.ctx c = some x ∧ s.clk.up < x.lastUse + clampTo 1 255 (s.cfg 0x4A4 31 24) * second) ∧
    (∃ (s : State) (c : Nat) (x : Ctx), runs s ∧ s.rf.pend = [] ∧ 4 ≤ c ∧ s.ctx c = some x ∧ x.state = .hello ∧ x.method = 1 ∧ x.tagPoint ≠ []) ∧
    (∃ (s : State) (c : Nat) (x : Ctx), runs s ∧ s.rf.pend = [] ∧ 4 ≤ c ∧ s.ctx c = some x ∧ x.state ≠ .hello) :=
  ⟨⟨(let s := wired0; { s.calm with grd := { applyQ := [([1], false)], shadow := allowAll } }), (1), (false), by decide +kernel⟩,
   ⟨(let s := wired0; { s.calm with grd := { applyQ := [([1], false)], shadow := [(regionKey 1 2, 1#32, regionCfg 0 false true true 11 0 0)] } }), (1), (false), by decide +kernel⟩,
   ⟨(let s := wired0; { s.calm with grd := {} }), by decide +kernel⟩,
   ⟨(let s := wired0; { s.calm with rf.pend := [], grd := { posted := [{ master := 1, port := .host 3, requester := 3, addr := 0x10C, width := 2, data := 0x1B#64 }] } }), (1), (0x1B#64), by decide +kernel⟩,
   ⟨(let s := wired0; { s.calm with rf.pend := [], grd := { posted := [{ master := 1, port := .host 3, requester := 3, addr := 0x10C, width := 2, data := 0x1B#64 }] } }), (1), ({ master := 1, port := .host 3, requester := 3, addr := 0x10C, width := 2, data := 0x1B#64 }), (let s := wired0; let s : State := { s.calm with rf.pend := [], grd := { posted := [{ master := 1, port := .host 3, requester := 3, addr := 0x10C, width := 2, data := 0x1B#64 }] } }; (({ s with grd.posted := [] }).performWrite (.host 3) 0x10C 2 0x1B#64)), by (repeat' apply And.intro) <;> first | decide +kernel | rfl⟩,
   ⟨(let s := wired0; { s.calm with grd := {} }), by decide +kernel⟩,
   ⟨(let s := wired0; { s.calm with grd := { audits := [{ master := 1, count := 3, addr := 0x10C#32, requester := 3 }] } }), (1), ({ master := 1, count := 3, addr := 0x10C#32, requester := 3 }), by decide +kernel⟩,
   ⟨(let s := wired0; { s.calm with grd := {} }), (1), by decide +kernel⟩,
   ⟨(let s := wired0; { (s.calm.setCtx 5 { (s.newCtx 3 0 1#8 []) with state := .opened, lastUse := 0 }) with rf.pend := [], clk.up := 300 * 16777216 }), (5), (let s := wired0; let s : State := { (s.calm.setCtx 5 { (s.newCtx 3 0 1#8 []) with state := .opened, lastUse := 0 }) with rf.pend := [], clk.up := 300 * 16777216 }; { (s.newCtx 3 0 1#8 []) with state := .opened, lastUse := 0 }), by decide +kernel⟩,
   ⟨(let s := wired0; { (s.calm.setCtx 5 { (s.newCtx 3 0 1#8 []) with state := .opened, lastUse := 0 }) with rf.pend := [], clk.up := 5 }), (5), (let s := wired0; let s : State := { (s.calm.setCtx 5 { (s.newCtx 3 0 1#8 []) with state := .opened, lastUse := 0 }) with rf.pend := [], clk.up := 5 }; { (s.newCtx 3 0 1#8 []) with state := .opened, lastUse := 0 }), by decide +kernel⟩,
   ⟨(let s := wired0; { (s.calm.setCtx 5 { (s.newCtx 3 1 1#8 []) with tagPoint := [1#8] }) with rf.pend := [] }), (5), (let s := wired0; let s : State := { (s.calm.setCtx 5 { (s.newCtx 3 1 1#8 []) with tagPoint := [1#8] }) with rf.pend := [] }; { (s.newCtx 3 1 1#8 []) with tagPoint := [1#8] }), by decide +kernel⟩,
   ⟨(let s := wired0; { (s.calm.setCtx 5 { (s.newCtx 3 0 1#8 []) with state := .opened, lastUse := 0 }) with rf.pend := [] }), (5), (let s := wired0; let s : State := { (s.calm.setCtx 5 { (s.newCtx 3 0 1#8 []) with state := .opened, lastUse := 0 }) with rf.pend := [] }; { (s.newCtx 3 0 1#8 []) with state := .opened, lastUse := 0 }), by decide +kernel⟩⟩

theorem met_LoggerAndClocks :
    (∃ (s : State), runs s ∧ s.pwr.mode ≠ 6 ∧ s.rf.pend = [] ∧ s.log.flushReq = false ∧ s.cfgBit 0x568 2 = false) ∧
    (∃ (s : State), runs s ∧ s.pwr.mode ≠ 6 ∧ s.rf.pend = [] ∧ s.log.extra = false ∧ s.logEn = true ∧ s.log.nextDue = 0 ∧ s.loggerActive = true ∧ s.verdict { id := s.cmt.nextId, queue := 2, cost := 270000, weight := 0, kind := .loggerSample } = .grant ∧ s.log.batch = [] ∧ 1 < s.logBatch) ∧
    (∃ (s : State), runs s ∧ s.pwr.mode ≠ 6 ∧ s.log.extra = false ∧ (s.log.nextDue ≠ 0 ∨ s.logEn = false)) ∧
    (∃ (s : State), runs s ∧ s.pwr.mode ≠ 6) ∧
    (∃ (s : State), runs s ∧ s.pwr.mode ≠ 6 ∧ s.rf.pend = [] ∧ (s.log.extra = true ∨ (s.logEn = true ∧ s.log.nextDue = 0 ∧ s.loggerActive = true)) ∧ s.verdict { id := s.cmt.nextId, queue := 2, cost := 270000, weight := 0, kind := .loggerSample } = .grant ∧ (s.log.batch = [] ∨ (s.log.batchInterval = s.logInterval ∧ s.log.batch.length + 1 < s.logBatch))) ∧
    (∃ (s : State), runs s ∧ s.pwr.mode ≠ 6 ∧ s.rf.pend = [] ∧ (s.log.extra = true ∨ (s.logEn = true ∧ s.log.nextDue = 0 ∧ s.loggerActive = true)) ∧ s.verdict { id := s.cmt.nextId, queue := 2, cost := 270000, weight := 0, kind := .loggerSample } ≠ .grant) ∧
    (∃ (s : State), runs s ∧ s.pwr.mode ≠ 6 ∧ s.log.xtal = 1) ∧
    (∃ (s : State), runs s ∧ s.pwr.mode ≠ 6 ∧ (s.log.xtal = 1 ∨ s.log.xtal = 2)) ∧
    (∃ (s : State), runs s ∧ s.pwr.mode ≠ 6 ∧ s.log.backup = false) ∧
    (∃ (s : State) (h : Bool), runs s ∧ s.pwr.mode ≠ 6 ∧ h ≠ s.log.chassisHigh) ∧
    (∃ (s : State), runs s ∧ s.pwr.mode ≠ 6) ∧
    (∃ (s : State), runs s ∧ s.pwr.mode ≠ 6 ∧ s.log.chassisDiff = 3 ∧ s.log.chassisExit = none) ∧
    (∃ (s : State), runs s ∧ s.pwr.mode ≠ 6 ∧ s.log.chassisDiff < 3) :=
  ⟨⟨(let s := wired0; { s.inLog with log.flushReq := false, log.nextDue := 30 }), by decide +kernel⟩,
   ⟨(let s := wired0; { s.inLog with rf.inForce := [(0x560, 1#32), (0x564, 0x02580402#32)], log.extra := false, log.nextDue := 0, log.batch := [] }), by decide +kernel⟩,
   ⟨(let s := wired0; { s.inLog with log.extra := false, log.nextDue := 9 }), by decide +kernel⟩,
   ⟨(let s := wired0; s.inLog), by decide +kernel⟩,
   ⟨(let s := wired0; { s.inLog with rf.inForce := [(0x560, 1#32), (0x564, 0x02580402#32)], log.extra := true, log.nextDue := 7, log.batchInterval := 600, log.batch := [{ seconds := 9, flags := 0#8, temp := 1, storeMv := 2, vbatMv := 3, harv := 4, voc := 5 }] }), by decide +kernel⟩,
   ⟨(let s := wired0; { s.inLog with rf.inForce := [(0x560, 1#32)], log.extra := true, pwr.step := 2, pwr.usable := [false, true, false, false, false, false], pwr.vauxOk := false }), by decide +kernel⟩,
   ⟨(let s := wired0; { s.inLog with log.xtal := 1 }), by decide +kernel⟩,
   ⟨(let s := wired0; { s.inLog with log.xtal := 2 }), by decide +kernel⟩,
   ⟨(let s := wired0; { s.inLog with log.backup := false }), by decide +kernel⟩,
   ⟨(let s := wired0; s.inLog), (let s := wired0; let s : State := s.inLog; !s.log.chassisHigh), by decide +kernel⟩,
   ⟨(let s := wired0; s.inLog), by decide +kernel⟩,
   ⟨(let s := wired0; { s.inLog with log.chassisDiff := 3, log.chassisExit := none }), by decide +kernel⟩,
   ⟨(let s := wired0; { s.inLog with log.chassisDiff := 2 }), by decide +kernel⟩⟩

theorem met_StartUps :
    (∃ (s : State), s.cmt.pipe = [] ∧ s.arr.tolls.length = 32 ∧ (s.toll 3).haveA = true ∧ (s.toll 3).haveB = true ∧ (s.toll 3).usedA + 1 < State.tollLife ∧ (s.toll 3).usedB + 1 < State.tollLife ∧ (s.toll 3).a = (s.toll 3).b ∧ s.tollValue 3 + 1 < 4294967296) ∧
    (∃ (s : State) (src : Nat), s.cmt.pipe = [] ∧ 1 ≤ src ∧ (src ≤ 3 ∨ src = 5) ∧ s.fld.st = 0) ∧
    (∃ (s : State) (src : Nat), s.cmt.pipe = [] ∧ (src = 0 ∨ 6 ≤ src)) ∧
    (∃ (s : State), s.cmt.pipe = [] ∧ s.pwr.mode ≠ 0 ∧ s.pwr.mode ≠ 6 ∧ s.wired = false ∧ s.pwr.step ≠ 7 ∧ 0 < s.pwr.usable.length) ∧
    (∃ (s : State), s.cmt.pipe = [] ∧ s.pwr.mode ≠ 0 ∧ s.pwr.mode ≠ 6 ∧ s.wired = false ∧ s.pwr.step = 7 ∧ s.boot.resetLow = false ∧ s.boot.darkPending = none ∧ 0 < s.pwr.usable.length ∧ s.arr.tolls.length = 32 ∧ (s.toll 3).haveA = true ∧ (s.toll 3).haveB = true ∧ (s.toll 3).usedA + 1 < State.tollLife ∧ (s.toll 3).usedB + 1 < State.tollLife ∧ (s.toll 3).a = (s.toll 3).b ∧ s.tollValue 3 + 1 < 4294967296) ∧
    (∃ (s : State), s.cmt.pipe = [] ∧ s.pwr.mode = 6 ∧ s.boot.resetLow = false ∧ s.usableSrc 5 = true ∧ s.arr.tolls.length = 32 ∧ (s.toll 3).haveA = true ∧ (s.toll 3).haveB = true ∧ (s.toll 3).usedA + 1 < State.tollLife ∧ (s.toll 3).usedB + 1 < State.tollLife ∧ (s.toll 3).a = (s.toll 3).b ∧ s.tollValue 3 + 1 < 4294967296) ∧
    (∃ (s : State), s.cmt.pipe = [] ∧ s.pwr.mode ≠ 6 ∧ s.boot.resetLow = false) ∧
    (∃ (s : State) (src : Nat), 1 ≤ src ∧ src ≤ 5) ∧
    (∃ (s : State), s.pwr.mode ≠ 0 ∧ s.pwr.mode ≠ 6 ∧ s.wired = false ∧ s.pwr.step = 7 ∧ s.boot.resetLow = false) ∧
    (∃ (s : State), s.pwr.mode = 6 ∧ s.boot.resetLow = false) ∧
    (∃ (s : State) (src : Nat), s.pwr.mode = 6 ∧ s.boot.resetLow = false ∧ (src = 2 ∨ src = 4)) :=
  ⟨⟨(let s := wired0; s.inBoot), by decide +kernel⟩,
   ⟨(let s := wired0; s.inBoot), (3), by decide +kernel⟩,
   ⟨(let s := wired0; s.inBoot), (0), by decide +kernel⟩,
   ⟨(let s := wired0; { s.calm with pwr.vauxOk := false, pwr.step := 5 }), by decide +kernel⟩,
   ⟨(let s := wired0; { s.inBoot with pwr.mode := 3, pwr.usable := [false, true, false, true, false, true], pwr.vauxOk := false, pwr.step := 7 }), by decide +kernel⟩,
   ⟨(let s := wired0; { s.inBoot with pwr.mode := 6, pwr.vauxOk := false, pwr.usable := [false, false, false, false, false, true] }), by decide +kernel⟩,
   ⟨(let s := wired0; s.calm), by decide +kernel⟩,
   ⟨(let s := wired0; s.calm), (4), by decide +kernel⟩,
   ⟨(let s := wired0; { s.inBoot with pwr.mode := 3, pwr.usable := [false, true, false, true, false, true], pwr.vauxOk := false, pwr.step := 7, boot.darkPending := some start0 }), by decide +kernel⟩,
   ⟨(let s := wired0; { s.inBoot with pwr.mode := 6, pwr.vauxOk := false, pwr.usable := [false, false, false, false, false, false] }), by decide +kernel⟩,
   ⟨(let s := wired0; { s.inBoot with pwr.mode := 6, pwr.vauxOk := false, pwr.usable := [false, false, false, false, false, false] }), (4), by decide +kernel⟩⟩

theorem met_Resets :
    (∃ (s : State), s.cmt.pipe = [] ∧ runs s ∧ s.wired = true ∧ s.knellRunning = false) ∧
    (∃ (s : State), s.cmt.pipe = [] ∧ runs s ∧ s.wired = false) ∧
    (∃ (s : State), s.cmt.pipe = [] ∧ s.boot.resetLow = true ∧ s.wired = true ∧ s.arr.tolls.length = 32 ∧ (s.toll 3).haveA = true ∧ (s.toll 3).haveB = true ∧ (s.toll 3).usedA + 1 < State.tollLife ∧ (s.toll 3).usedB + 1 < State.tollLife ∧ (s.toll 3).a = (s.toll 3).b ∧ s.tollValue 3 + 1 < 4294967296) ∧
    (∃ (s : State), s.cmt.pipe = [] ∧ s.boot.resetLow = false) ∧
    (∃ (s : State) (q : BitVec 16 × Nat), s.cmt.pipe = [] ∧ runs s ∧ s.boot.keyedPending = some q ∧ s.boot.keyedStop = true ∧ s.knellRunning = false ∧ s.wired = true ∧ s.arr.tolls.length = 32 ∧ (s.toll 3).haveA = true ∧ (s.toll 3).haveB = true ∧ (s.toll 3).usedA + 1 < State.tollLife ∧ (s.toll 3).usedB + 1 < State.tollLife ∧ (s.toll 3).a = (s.toll 3).b ∧ s.tollValue 3 + 1 < 4294967296) ∧
    (∃ (s : State), s.cmt.pipe = [] ∧ runs s ∧ s.boot.keyedPending = none) ∧
    (∃ (s : State) (f : StartFacts), s.cmt.pipe = [] ∧ runs s ∧ s.boot.darkPending = some f ∧ s.domOn 4 = true ∧ s.arr.tolls.length = 32 ∧ (s.toll 3).haveA = true ∧ (s.toll 3).haveB = true ∧ (s.toll 3).usedA + 1 < State.tollLife ∧ (s.toll 3).usedB + 1 < State.tollLife ∧ (s.toll 3).a = (s.toll 3).b ∧ s.tollValue 3 + 1 < 4294967296) ∧
    (∃ (s : State), s.cmt.pipe = [] ∧ runs s ∧ s.boot.darkPending = none) ∧
    (∃ (s : State), s.boot.resetLow = true ∧ s.wired = true) ∧
    (∃ (s : State), s.boot.resetLow = true ∧ s.wired = false) ∧
    (∃ (s : State) (q : BitVec 16 × Nat), runs s ∧ s.boot.keyedPending = some q ∧ s.boot.keyedStop = true ∧ s.knellRunning = false ∧ s.cmt.pipe = [] ∧ s.cmt.auditHeld = [] ∧ s.cmt.s1wait = []) ∧
    (∃ (s : State) (f : StartFacts), runs s ∧ s.boot.darkPending = some f ∧ s.domOn 4 = true) :=
  ⟨⟨(let s := wired0; s.calm), by decide +kernel⟩,
   ⟨(let s := wired0; { s.calm with pwr.vauxOk := false }), by decide +kernel⟩,
   ⟨(let s := wired0; { s.inBoot with boot.resetLow := true, kn.state := 0 }), by decide +kernel⟩,
   ⟨(let s := wired0; s.calm), by decide +kernel⟩,
   ⟨(let s := wired0; { s.inBoot with boot.keyedPending := some (5#16, 5), boot.keyedStop := true }), ((5#16, 5)), by decide +kernel⟩,
   ⟨(let s := wired0; s.calm), by decide +kernel⟩,
   ⟨(let s := wired0; { s.inBoot with pwr.mode := 3, pwr.usable := [false, true, false, true, false, true], pwr.vauxOk := false, pwr.step := 7, cmt.recovering := true, boot.darkPending := some start0 }), (start0), by decide +kernel⟩,
   ⟨(let s := wired0; s.calm), by decide +kernel⟩,
   ⟨(let s := wired0; { s.inBoot with boot.resetLow := true, kn.state := 0 }), by decide +kernel⟩,
   ⟨(let s := wired0; { s.inBoot with pwr.mode := 3, pwr.usable := [false, true, false, true, false, true], pwr.vauxOk := false, boot.resetLow := true, kn.state := 0 }), by decide +kernel⟩,
   ⟨(let s := wired0; { s.inBoot with boot.keyedPending := some (5#16, 5), boot.keyedStop := true }), ((5#16, 5)), by decide +kernel⟩,
   ⟨(let s := wired0; { s.inBoot with pwr.mode := 3, pwr.usable := [false, true, false, true, false, true], pwr.vauxOk := false, pwr.step := 7, cmt.recovering := true, boot.darkPending := some start0 }), (start0), by decide +kernel⟩⟩

end Sys2Proof.Tests
end

section
/-! The statements of the family of custody records. Three of them fail; the state that refutes each is
built by the model's own operations, and what the command makes of it is one evaluated fact. -/

namespace Sys2Proof.Machine

/-- Settles O8: what every command keeps (`exec_kept`) holds the toll and the lock for a command that
does not start the tag anew. -/
theorem tollAndLockPersist : Obligations.TollAndLockPersist := by
  intro c s t hanew hexec
  obtain ⟨-, -, -, hpersists⟩ := exec_kept c s t hexec
  obtain ⟨htoll, hlock⟩ := hpersists (by simp [hanew])
  exact ⟨htoll, fun hused => (hlock hused).symm⟩

/-- Settles O3, by evaluation of the reset state; its register maps are empty, so every register reads its
reset value. -/
theorem resetState : Obligations.ResetState :=
  ⟨rfl, by decide +kernel, rfl, rfl, fun _ => ⟨rfl, rfl⟩, by decide +kernel, rfl, rfl, rfl, rfl, rfl⟩

/-- A tag as manufacture leaves it, with TAG_VAUX and all its domains on. -/
def poweredTag : State :=
  { State.reset with
    pwr.mode := 1, pwr.usable := [true], pwr.vauxOk := true, pwr.domOn := List.replicate 20 true }

/-! A good frame's end after a jump: the GAP record that waits ahead of the frame's record may commit too. -/

/-- The header of an EVENT frame whose number leaves out 5 to 8, where 5 is expected. -/
def jumpHeader : EventHdr :=
  { typ := 0x10#8, first := true, last := true, bodyLen := 5, source := 0x120, seq := 9#32, ssn := 77#32 }

/-- The body of its frame. -/
def jumpBody : List Byte := [1#8, 2#8, 3#8, 4#8, 5#8]

/-- The tag after that header: the GAP record of the jump stands in the pipeline ahead of the frame's own
record, and neither may commit before the frame's end (R48, R254). -/
def awaitsJumpEnd : State :=
  (poweredTag.setStream (poweredTag.source 0x120) 1 5#32).effEventFrame .header jumpHeader []

theorem awaitsJumpEnd_checked : awaitsJumpEnd.cmt.pipe.map (fun x => (x.id, x.checked)) = [(0, false), (1, false)] := by
  decide +kernel

theorem awaitsJumpEnd_openRec :
    (awaitsJumpEnd.openRec .event).map (fun p => (p.id, p.record.hdr.length)) = some (1, 5) := by
  decide +kernel

/-- The frame's end passes both records: the GAP record has waited for it (log entry 99). -/
theorem jumpEnd_checked :
    (awaitsJumpEnd.effEventFrame (.finish .good) jumpHeader jumpBody).serveAll.cmt.pipe.map (fun x => x.checked) =
      [true, true] := by
  decide +kernel

/-- Refutes O32: the clause on a frame's good end leaves every record of the pipeline but the frame's own as it
is; after a jump the end check also frees the GAP record ahead of it, in `awaitsJumpEnd`. -/
theorem not_eventFrames : ¬ Obligations.EventFrames := by
  intro h
  obtain ⟨-, -, -, -, -, hend, -⟩ := h awaitsJumpEnd jumpHeader jumpBody 0 (by decide +kernel) (by decide +kernel)
    (by decide +kernel) (by decide +kernel)
  obtain ⟨p, hopen, hp⟩ := Option.map_eq_some_iff.1 awaitsJumpEnd_openRec
  obtain ⟨hid, hlen⟩ := Prod.mk.inj hp
  obtain ⟨t, ht, hpipe, -⟩ := hend p hopen hlen.symm
  obtain rfl := Host.Outcome.next.inj ((next_live (by decide +kernel) _).symm.trans ht)
  obtain ⟨lead, rest, hsplit, hlead, -⟩ := List.map_eq_cons_iff.1 awaitsJumpEnd_checked
  obtain ⟨hleadId, hleadChecked⟩ := Prod.mk.inj hlead
  have hfreed := jumpEnd_checked
  rw [hpipe, hsplit] at hfreed
  simp [hleadId, hid, hleadChecked] at hfreed

/-! A DEGRADE record that needs a new extent: the extent takes the checkpoint epoch of its assignment. -/

/-- A record that no peer has acknowledged after the last retry. -/
def lastAttempt : Unsettled :=
  { stroke := 2, typ := 0x10#8, degree := 1, set := 2#64, got := 0#64, attempt := 4, sends := 5, firstSent := 0
    due := false, slot := none }

/-- The engine is about to give it up. One checkpoint has committed (R108), and the head of the partition of
DEGRADE records stands at the end of its only extent. -/
def aboutToGiveUp : State :=
  { poweredTag with
    peal.unsettled := [lastAttempt]
    arr.tolls := setNth poweredTag.arr.tolls 2 (newToll 2 1 1)
  }.modPart 3 (fun x => { x with head := extSectors })

theorem aboutToGiveUp_extEpochs : aboutToGiveUp.arr.extEpochs = [] := rfl

/-- The extent that the DEGRADE record reserves has the epoch of the checkpoint (R73, R78). -/
theorem giveUp_extEpochs :
    (aboutToGiveUp.effPealRetryWaitExpiry lastAttempt.stroke).arr.extEpochs.map (fun e => e.2) = [1] := by
  decide +kernel

/-- Refutes O33: the clause on the give-up leaves the array as it is; in `aboutToGiveUp` the DEGRADE record
reserves an extent, whose assignment the array stamps with the checkpoint epoch. -/
theorem not_pealDeliveries : ¬ Obligations.PealDeliveries := by
  intro h
  obtain ⟨-, -, hgiveUp, -⟩ := h aboutToGiveUp (by decide +kernel) (by decide +kernel) (by decide +kernel)
  obtain ⟨t, ht, -, -, hframe⟩ := hgiveUp lastAttempt rfl (by decide) rfl (by decide +kernel)
  obtain rfl := Host.Outcome.next.inj ((next_live (by decide +kernel) _).symm.trans ht)
  have hstamped := giveUp_extEpochs
  rw [(congrArg State.arr hframe :), aboutToGiveUp_extEpochs] at hstamped
  simp at hstamped

/-! A session that ends while a record of its mailbox command waits for its commit point. -/

/-- The open session of host 3, last used when the tag started. -/
def idleCtx : Ctx := { poweredTag.newCtx 3 0 1#8 [] with state := .opened, lastUse := 0 }

/-- Context 5 has been idle for longer than any IDLE_S, and the TIME_SET record of its last command has not
committed: its mailbox is to be told. -/
def idleWithTimeSet : State :=
  (({ poweredTag with clk.up := 300 * second }).setCtx 5 idleCtx).create 3 0x05#8 (zeroBytes 32) (.timeSet (.session 5))

theorem idleWithTimeSet_hooks : idleWithTimeSet.cmt.pipe.map (fun p => p.hook) = [.timeSet (.session 5)] := by
  decide +kernel

/-- The close takes the record from its mailbox: it commits, and the host stands as its actor (R453). -/
theorem idleTimeout_hooks :
    (idleWithTimeSet.effSessionIdleTimeout 5).cmt.pipe.map (fun p => p.hook) = [.timeSet (.host 3)] := by
  decide +kernel

/-- Refutes O57: the clause on the idle timeout leaves the pipeline as it is; in `idleWithTimeSet` the close of
the session changes who is told of the record that its mailbox command has made. -/
theorem not_guardsAndSessionEnds : ¬ Obligations.GuardsAndSessionEnds := by
  intro h
  obtain ⟨-, -, -, -, -, -, -, -, hidle, -⟩ := h idleWithTimeSet (by decide +kernel)
  obtain ⟨t, ht, -, -, -, hframe⟩ :=
    hidle 5 idleCtx (by decide +kernel) (by decide) (by decide +kernel) rfl (by decide +kernel)
  obtain rfl := Host.Outcome.next.inj ((next_live (by decide +kernel) _).symm.trans ht)
  have hooks := idleTimeout_hooks
  rw [(congrArg State.cmt hframe :), idleWithTimeSet_hooks] at hooks
  simp at hooks

end Sys2Proof.Machine
end

section
/-! The statements of the family of the commit pipeline. What the shared operations of the array leave unchanged
is said once, as rules over an observation of the state; the statements that fail are refuted by states that the
model's own operations build, and what the command makes of each is one evaluated fact. -/

namespace Sys2Proof.Machine

/-- Settles O7: what every command keeps (`exec_kept`) holds the copies equal, and the passing of time on an
empty queue does not touch them. -/
theorem shadowCopiesAgree : Obligations.ShadowCopiesAgree := by
  intro s t hsound hstep
  unfold step at hstep
  split at hstep
  next => obtain rfl := Host.Outcome.next.inj hstep; exact hsound
  next c rest _ =>
    obtain ⟨-, -, hcopies, -⟩ := exec_kept c { s with pending := rest } t hstep
    exact hcopies hsound

/-- Settles O4, by evaluation of the reset state. -/
theorem resetMeetsInvariants : Obligations.ResetMeetsInvariants :=
  ⟨by decide +kernel, rfl, rfl, by decide +kernel⟩

/-! What the shared operations of the array leave unchanged. A rule has an observation `m` of the state, of any
type: what does not see the fields that an operation may write is the same after it. -/

/-- An observation that sees neither a held register word, nor a line tag, nor a wear gauge's note. -/
abbrev BlindToWear {β : Type} (m : State → β) : Prop :=
  ∀ (u : State) (cur : List (Nat × Word)) (tags : List (Nat × LineTag)) (wear : List Bool),
    m { u with rf.cur := cur, arr.tags := tags, cmt.wear90 := wear } = m u

theorem foldl_keeps {α β : Type} {m : State → β} {g : State → α → State} (hg : ∀ u x, m (g u x) = m u)
    (l : List α) (s : State) : m (l.foldl g s) = m s := by
  induction l generalizing s with
  | nil => rfl
  | cons x l ih => rw [List.foldl_cons, ih, hg]

theorem State.raiseBits_keeps {β : Type} {m : State → β}
    (h : ∀ (u : State) (cur : List (Nat × Word)), m { u with rf.cur := cur } = m u) (s : State) (o : Nat) (w : Word) :
    m (s.raiseBits o w) = m s := by
  unfold State.raiseBits
  dsimp only
  split
  · exact h s _
  · split
    · exact h s _
    · exact (h _ _).trans (h s _)

theorem State.raise_keeps {β : Type} {m : State → β}
    (h : ∀ (u : State) (cur : List (Nat × Word)), m { u with rf.cur := cur } = m u) (s : State) (o n : Nat) :
    m (s.raise o n) = m s := State.raiseBits_keeps h s o _

theorem State.checkWear_keeps {β : Type} {m : State → β}
    (h : ∀ (u : State) (cur : List (Nat × Word)) (wear : List Bool), m { u with rf.cur := cur, cmt.wear90 := wear } = m u)
    (s : State) : m s.checkWear = m s := by
  unfold State.checkWear
  split
  · rfl
  · refine foldl_keeps (fun u b => ?_) _ s
    dsimp only
    split
    · rfl
    · exact (State.raise_keeps (fun v cur => h v cur v.cmt.wear90) _ _ _).trans (h u u.rf.cur _)

/-- Programming lines (R72, R123). -/
theorem State.touchAll_keeps {β : Type} {m : State → β} (h : BlindToWear m) (s : State) (ls : List Prog) :
    m (s.touchAll ls) = m s :=
  (State.checkWear_keeps (fun u cur wear => h u cur u.arr.tags wear) _).trans
    (foldl_keeps (fun u _ => h u u.rf.cur _ u.cmt.wear90) ls s)

theorem State.applyAt_pend_nil {s : State} (h : s.rf.pend = []) (b : Boundary) (off : Nat) : s.applyAt b off = s := by
  unfold State.applyAt
  cases regDesc off with
  | none => rfl
  | some d => simp [State.pendBits, h, nget]

theorem State.boundary_pend_nil {s : State} (h : s.rf.pend = []) (b : Boundary) : s.boundary b = s := by
  simp [State.boundary, h]

/-- A group boundary for which nothing waits changes nothing (R87). -/
theorem State.groupBoundary_clear {s : State} (h : boundaryClear s) : s.groupBoundary = s := by
  obtain ⟨hpend, hpeers, hlease⟩ := h
  have hbits : ∀ off, s.pendBits off = 0#32 := fun off => by simp [State.pendBits, hpend, nget]
  have hkeep : ∀ w v : Word, (w &&& ~~~ 0#32) ||| (v &&& 0#32) = w := fun w v => by
    rw [BitVec.and_zero, BitVec.or_zero]; exact BitVec.and_allOnes
  have hcarillon : s.applyCarillon = s := by
    unfold State.applyCarillon
    simp only [hbits, hkeep]
    simp [State.applyAt_pend_nil hpend, State.tagIndex, State.cfg, State.cid]
  have happly : s.applyPeers = s := by simp [State.applyPeers, hbits, hpeers]
  unfold State.groupBoundary
  simp only [hcarillon, happly, State.boundary_pend_nil hpend, hlease, List.foldl_nil]
  rw [← hlease]

/-! S7 over the pipeline: what it leaves of each record, and the stroke numbers that it gives. -/

theorem resealList_sealed (s : State) (pipe : List PipeRec) (n : Nat) (prevs : List (Nat × BitVec 64)) :
    (s.resealList pipe n prevs).map (fun x => x.sealed) = pipe.map (fun x => x.sealed) := by
  induction pipe generalizing n prevs with
  | nil => rfl
  | cons p t ih =>
    unfold State.resealList
    split
    · simp [ih]
    · rfl

theorem resealList_typ (s : State) (pipe : List PipeRec) (n : Nat) (prevs : List (Nat × BitVec 64)) :
    (s.resealList pipe n prevs).map (fun x => x.record.hdr.typ) = pipe.map (fun x => x.record.hdr.typ) := by
  induction pipe generalizing n prevs with
  | nil => rfl
  | cons p t ih =>
    unfold State.resealList
    split
    · simp [ih, completeRec]
    · rfl

/-- Behind sealed records a sealed one takes the stroke number that follows theirs (R94). -/
theorem resealList_stroke (s : State) (l r : List PipeRec) (q : PipeRec) (n : Nat) (prevs : List (Nat × BitVec 64))
    (hl : l.all (fun x => x.sealed) = true) (hq : q.sealed = true) :
    ((s.resealList (l ++ q :: r) n prevs).map (fun x => x.record.hdr.stroke)).getD l.length 0 = n + l.length := by
  induction l generalizing n prevs with
  | nil => simp [State.resealList, hq, completeRec]
  | cons p l ih =>
    simp only [List.all_cons, Bool.and_eq_true] at hl
    obtain ⟨hp, hl⟩ := hl
    rw [List.cons_append]
    unfold State.resealList
    simp only [hp, if_true, List.map_cons, List.length_cons, List.getD_cons_succ]
    rw [ih _ _ hl]
    omega

theorem State.formPayload_typ (s : State) (b : List PipeRec) (p : PipeRec) :
    (s.formPayload b p).record.hdr.typ = p.record.hdr.typ := by
  unfold State.formPayload
  split
  · split
    · split <;> rfl
    · rfl
  · rfl

theorem takeWhile_sealed {l : List PipeRec} {p : PipeRec} (r : List PipeRec) (hl : l.all (fun x => x.sealed) = true)
    (hp : p.sealed = false) : (l ++ p :: r).takeWhile (fun x => x.sealed) = l := by
  rw [List.takeWhile_append_of_pos (List.all_eq_true.1 hl)]
  simp [hp]

theorem dropWhile_sealed {l : List PipeRec} {p : PipeRec} (r : List PipeRec) (hl : l.all (fun x => x.sealed) = true)
    (hp : p.sealed = false) : (l ++ p :: r).dropWhile (fun x => x.sealed) = p :: r := by
  rw [List.dropWhile_append_of_pos (List.all_eq_true.1 hl)]
  simp [hp]

/-- S7 of the first record not sealed, behind the sealed ones (R86, R94). -/
theorem State.sealNext_behind {s : State} {l r : List PipeRec} {p : PipeRec} (hpipe : s.cmt.pipe = l ++ p :: r)
    (hl : l.all (fun x => x.sealed) = true) (hp : p.sealed = false) (hg : p.granted.isSome = true) :
    s.sealNext = State.reseal { s with cmt.pipe := l ++ State.s7Grant (s.formPayload l p) :: r } := by
  unfold State.sealNext
  simp only [hpipe, takeWhile_sealed r hl hp, dropWhile_sealed r hl hp, hg, if_true]
  simp

/-- SEAL programs the lines of the record that it has sealed. -/
theorem State.effSeal_behind {s : State} {l r : List PipeRec} {p : PipeRec} (hpipe : s.cmt.pipe = l ++ p :: r)
    (hl : l.all (fun x => x.sealed) = true) (hp : p.sealed = false) (hg : p.granted.isSome = true) :
    ∃ ls, s.effSeal =
      (State.reseal { s with cmt.pipe := l ++ State.s7Grant (s.formPayload l p) :: r }).touchAll ls := by
  have hsealed := resealList_sealed { s with cmt.pipe := l ++ State.s7Grant (s.formPayload l p) :: r }
    (l ++ State.s7Grant (s.formPayload l p) :: r) (s.cmt.shadow + 1) []
  have hat := congrArg (fun m => m[l.length]?) hsealed
  simp only [List.getElem?_map, List.getElem?_append_right (le_refl l.length), Nat.sub_self, List.getElem?_cons_zero,
    Option.map_some] at hat
  obtain ⟨q, hq, hqs⟩ := Option.map_eq_some_iff.1 hat
  refine ⟨s.sealNext.sealLines q, ?_⟩
  unfold State.effSeal
  rw [hpipe, takeWhile_sealed r hl hp, State.sealNext_behind hpipe hl hp hg]
  have hget : (State.reseal { s with cmt.pipe := l ++ State.s7Grant (s.formPayload l p) :: r }).cmt.pipe[l.length]? =
    some q := hq
  simp only [hget, hqs]
  rfl

/-! COMMIT_GROUP: what a commit of a group leaves unchanged, and what that of one record writes. -/

theorem State.journal_keeps {β : Type} {m : State → β} (h : BlindToWear m)
    (hj : ∀ (u : State) (es : List Entry) (pos n : Nat),
      m { u with arr.journal := es, cmt.jpos := pos, cmt.entriesSince := n } = m u) (s : State) (es : List Entry) :
    m (s.journal es) = m s := by
  unfold State.journal
  dsimp only
  exact ((hj _ _ _ _).trans (State.touchAll_keeps h _ _)).trans (State.touchAll_keeps h _ _)

/-- One entry goes into the next journal slot (R106). -/
theorem State.journal_one (s : State) (e : Entry) :
    (s.journal [e]).cmt.jpos = (s.cmt.jpos + 1) % 8192 ∧
      (s.journal [e]).arr.journal.getLast? = some { e with slot := s.cmt.jpos % 8192 } := by
  unfold State.journal
  constructor
  · simp only [State.touchAll_keeps (m := fun u => u.cmt.jpos) (fun _ _ _ _ => rfl)]
    rfl
  · simp

/-- An observation that sees neither the registers' held words, nor the array, nor the commit engine but for the
records that wait to pass S1. -/
abbrev BlindToCommit {β : Type} (m : State → β) : Prop :=
  ∀ (u : State) (cur : List (Nat × Word)) (arr : Arr) (cmt : Cmt), cmt.s1wait = u.cmt.s1wait →
    cmt.auditHeld = u.cmt.auditHeld → m { u with rf.cur := cur, arr := arr, cmt := cmt } = m u

theorem State.enterExtents_keeps {β : Type} {m : State → β} (h : BlindToCommit m) (s : State) (p n : Nat)
    (news : List (Nat × Nat)) : m (s.enterExtents p n news) = m s := by
  refine foldl_keeps (fun u e => ?_) news s
  unfold State.enterExtent State.giveFree
  dsimp only
  split
  · exact h u u.rf.cur _ _ rfl rfl
  · exact h u u.rf.cur _ _ rfl rfl

theorem State.commitOne_keeps {β : Type} {m : State → β} (h : BlindToCommit m) (s : State) (q : PipeRec) :
    m (s.commitOne q) = m s := by
  rw [← State.enterExtents_keeps h s q.record.hdr.part q.record.hdr.stroke q.newExtents]
  exact h (s.enterExtents q.record.hdr.part q.record.hdr.stroke q.newExtents) _ _ (s.commitOne q).cmt rfl rfl

theorem State.commitGroup_keeps {β : Type} {m : State → β} (h : BlindToCommit m) (s : State) (g : List PipeRec) :
    m (s.commitGroup g) = m s := by
  have hadvance : ∀ (u : State) (n : Nat),
      m { u.advance n with cmt.pipe := (u.advance n).cmt.pipe.drop n } = m u := fun u _ =>
      h u u.rf.cur u.arr _ rfl rfl
  unfold State.commitGroup
  dsimp only
  rw [foldl_keeps (fun u q => State.commitOne_keeps h u q), hadvance,
    State.journal_keeps (fun u c _ _ => h u c _ _ rfl rfl) (fun u _ _ _ => h u u.rf.cur _ _ rfl rfl)]

/-- The commit of one record that needs no new extent (R87, R88, R100, R107). -/
theorem State.commitGroup_single (s : State) {q : PipeRec} (hnew : q.newExtents = []) :
    (s.commitGroup [q]).cmt.shadow = s.cmt.shadow + 1 ∧ (s.commitGroup [q]).cmt.shadowB = s.cmt.shadow + 1 ∧
      (s.commitGroup [q]).cmt.pipe = s.cmt.pipe.drop 1 ∧
      (s.commitGroup [q]).arr.recs =
        s.arr.recs ++ [{ record := q.record, sector := q.sector, slot := q.slot, intact := true }] ∧
      (s.commitGroup [q]).cmt.jpos = (s.cmt.jpos + 1) % 8192 ∧
      (s.commitGroup [q]).arr.journal.getLast?.map (fun e => (e.slot, e.kind, e.part, e.stroke, e.seq)) =
        some (s.cmt.jpos % 8192, .record, q.record.hdr.part, q.record.hdr.stroke, q.record.hdr.seq) := by
  obtain ⟨e, hentries, hkind, hpart, hstroke, hseq⟩ : ∃ e, s.groupEntries [q] = [e] ∧ e.kind = .record ∧
      e.part = q.record.hdr.part ∧ e.stroke = q.record.hdr.stroke ∧ e.seq = q.record.hdr.seq :=
    ⟨recordEntry q.record (if q.record.hdr.part = 4 then s.knellSector q.slot q.sector else q.sector) .record,
      by simp only [State.groupEntries, State.extentEntries, hnew, List.flatMap_cons, List.flatMap_nil, List.map_nil,
      List.nil_append, List.append_nil], rfl, rfl, rfl, rfl⟩
  obtain ⟨hpos, hlast⟩ := s.journal_one e
  have hshadow := State.journal_keeps (m := fun u => u.cmt.shadow) (fun _ _ _ _ => rfl) (fun _ _ _ _ => rfl) s [e]
  have hpipe := State.journal_keeps (m := fun u => u.cmt.pipe) (fun _ _ _ _ => rfl) (fun _ _ _ _ => rfl) s [e]
  have hrecs := State.journal_keeps (m := fun u => u.arr.recs) (fun _ _ _ _ => rfl) (fun _ _ _ _ => rfl) s [e]
  have hcommit : s.commitGroup [q] = State.commitOne
      { (s.journal [e]).advance 1 with cmt.pipe := ((s.journal [e]).advance 1).cmt.pipe.drop 1 } q := by
    simp only [State.commitGroup, hentries, List.foldl_cons, List.foldl_nil, List.length_singleton]
  rw [hcommit]
  generalize s.journal [e] = u at hpos hlast hshadow hpipe hrecs
  unfold State.commitOne
  rw [hnew, ← hshadow, ← hpipe, ← hrecs]
  refine ⟨rfl, rfl, rfl, rfl, hpos, ?_⟩
  refine (congrArg (Option.map _) hlast).trans ?_
  simp [hkind, hpart, hstroke, hseq]

/-- The record that S7 makes of the one record in the pipeline (R94, R95). -/
def sealedAlone (s : State) (p : PipeRec) : PipeRec :=
  let r := p.record
  { p with record := completeRec r (s.cmt.shadow + 1) (s.degreeFor r.hdr.typ r.hdr.length) (s.newestLink r.hdr.part) }

theorem State.reseal_single {s : State} {p : PipeRec} (hpipe : s.cmt.pipe = [p]) (hp : p.sealed = true) :
    s.reseal = { s with cmt.pipe := [sealedAlone s p] } := by
  unfold State.reseal
  rw [hpipe]
  simp only [State.resealList, hp, if_true, List.find?_nil, sealedAlone]

/-- SEAL of the one record in the pipeline (R86, R94). -/
theorem seal_single {s : State} {p : PipeRec} {g : Nat} (hpipe : s.cmt.pipe = [p]) (hhook : p.hook = .none)
    (hg : p.granted = some g) (hp : p.sealed = false) :
    ∃ ls, s.effSeal = State.touchAll
      { s with cmt.pipe := [{ sealedAlone s p with sealed := true, granted := some (min 3000 g) }] } ls := by
  obtain ⟨ls, heff⟩ := State.effSeal_behind (l := []) (r := []) hpipe rfl hp (by rw [hg]; rfl)
  have hform : s.formPayload [] p = p := by simp [State.formPayload, hhook]
  refine ⟨ls, ?_⟩
  rw [heff, hform, List.nil_append, State.reseal_single (p := State.s7Grant p) rfl rfl]
  simp only [State.s7Grant, sealedAlone, hg, Option.getD_some]
  rfl

theorem State.takeForMirror_frame (s : State) (r : Rec) : ∃ b, s.takeForMirror r = { s with peal.backlog := b } := by
  unfold State.takeForMirror
  split
  · split
    · exact ⟨_, rfl⟩
    · exact ⟨_, rfl⟩
  · exact ⟨_, rfl⟩

/-- What follows the commit point of a record for which nobody waits: the engine may take it for mirroring. -/
theorem State.committed_plain (s : State) {q : PipeRec} (hhook : q.hook = .none) (hcred : q.credits = none) :
    s.committed q = s.takeForMirror q.record := by
  unfold State.committed State.runHook State.releaseRec
  simp only [hhook, hcred]

/-- COMMIT_GROUP of the one record in the pipeline, where nothing waits for its commit point or for the boundary. -/
theorem effCommitGroup_single {s : State} {p : PipeRec} (hpipe : s.cmt.pipe = [p]) (hhook : p.hook = .none)
    (hp : p.sealed = true) (hcred : p.credits = none) (htyp : p.record.hdr.typ ≠ 0x70#8)
    (hidle : nothingWaits s) (hclear : boundaryClear s) :
    ∃ b, s.effCommitGroup =
      { State.commitGroup { s with cmt.pipe := [sealedAlone s p] } [sealedAlone s p] with peal.backlog := b } := by
  have hgroup : State.nextGroup { s with cmt.pipe := [sealedAlone s p] } = [sealedAlone s p] := by
    simp [State.nextGroup, sealedAlone, hp]
  have hnoUser : ([sealedAlone s p].any (fun q => q.record.hdr.typ == 0x70#8)) = false := by
    simpa [sealedAlone, completeRec] using htyp
  have hidle' : nothingWaits (State.commitGroup { s with cmt.pipe := [sealedAlone s p] } [sealedAlone s p]) := by
    rw [State.commitGroup_keeps (m := nothingWaits) (fun u _ _ _ hs ha => by simp only [nothingWaits, hs, ha])]
    exact hidle
  have hclear' : boundaryClear (State.commitGroup { s with cmt.pipe := [sealedAlone s p] } [sealedAlone s p]) := by
    rw [State.commitGroup_keeps (m := boundaryClear) (fun _ _ _ _ _ _ => rfl)]
    exact hclear
  obtain ⟨b, hb⟩ := State.takeForMirror_frame
    (State.commitGroup { s with cmt.pipe := [sealedAlone s p] } [sealedAlone s p]) (sealedAlone s p).record
  refine ⟨b, ?_⟩
  unfold State.effCommitGroup
  simp only [State.reseal_single hpipe hp, hgroup, List.foldl_cons, List.foldl_nil, hnoUser,
    State.committed_plain _ (q := sealedAlone s p) hhook hcred, hb]
  generalize State.commitGroup { s with cmt.pipe := [sealedAlone s p] } [sealedAlone s p] = u at hidle' hclear'
  rw [if_neg (by simp), State.groupBoundary_clear, serveAll_idle]
  · exact hidle'
  · exact hclear'

/-- The journal entries of a group advance no toll. -/
theorem State.journal_shadow (s : State) (es : List Entry) : (s.journal es).cmt.shadow = s.cmt.shadow :=
  State.journal_keeps (m := fun u => u.cmt.shadow) (fun _ _ _ _ => rfl) (fun _ _ _ _ => rfl) s es

theorem State.advance_sound (s : State) (n : Nat) : shadowSound (s.advance n) := by
  simp [shadowSound, State.advance, State.setShadow]

theorem State.advance_shadow (s : State) (n : Nat) : (s.advance n).cmt.shadow = s.cmt.shadow + n := rfl

theorem Kept.withPipe {b : Bool} {s0 s : State} (h : Kept b s0 s) (pipe : List PipeRec) :
    Kept b s0 { s with cmt.pipe := pipe } := h

/-- What a commit of a group keeps of the state in which its entries are written and the shadow has advanced. -/
theorem State.commitGroup_kept_advanced (s : State) (g : List PipeRec) :
    Kept true ((s.journal (s.groupEntries g)).advance g.length) (s.commitGroup g) := by
  unfold State.commitGroup
  dsimp only
  generalize (s.journal (s.groupEntries g)).advance g.length = u
  exact foldl_kept _ _ (fun t q ht => State.commitOne_kept t q ht) ((Kept.refl true u).withPipe _)

/-- From the commit of a group on, the two copies of the shadow agree, and nothing that follows lowers them (R41,
R100). -/
theorem effCommitGroup_advances {s : State} {g : List PipeRec} (hg : s.reseal.nextGroup = g) (hne : g ≠ []) :
    s.cmt.shadow + g.length ≤ s.effCommitGroup.cmt.shadow ∧
      s.effCommitGroup.cmt.shadow = s.effCommitGroup.cmt.shadowB := by
  have hsound := State.advance_sound (s.reseal.journal (s.reseal.groupEntries g)) g.length
  have hstart : ((s.reseal.journal (s.reseal.groupEntries g)).advance g.length).cmt.shadow = s.cmt.shadow + g.length := by
    rw [State.advance_shadow, State.journal_shadow]; rfl
  have hkept : Kept true ((s.reseal.journal (s.reseal.groupEntries g)).advance g.length) s.effCommitGroup := by
    obtain ⟨q, l, rfl⟩ := List.exists_cons_of_ne_nil hne
    unfold State.effCommitGroup
    simp only [hg]
    refine State.serveAll_kept _ (State.groupBoundary_kept _ (kept_ite _ _ _ _ _ (State.fixShadow_kept _ ?_) ?_))
    all_goals
      exact foldl_kept _ _ (fun t q ht => State.committed_kept t q ht) (State.commitGroup_kept_advanced _ _)
  obtain ⟨-, -, hcopies, hrise⟩ := hkept
  obtain ⟨hle, -⟩ := hrise rfl
  exact ⟨hstart ▸ hle hsound, (hcopies hsound).1⟩

/-- Settles O35, stage by stage: SEAL of one record (`seal_single`) and behind others (`effSeal_behind`), COMMIT_GROUP
of one record (`effCommitGroup_single`) and of a group (`effCommitGroup_advances`). -/
theorem sealAndCommit : Obligations.SealAndCommit := by
  intro s hruns
  refine ⟨?_, ?_, ?_, ?_⟩
  · intro p g hpipe hhook hg hp
    obtain ⟨ls, hseal⟩ := seal_single hpipe hhook hg hp
    refine ⟨_, next_live hruns _, ?_, ?_⟩
    · rw [hseal, State.touchAll_keeps (m := fun u => u.cmt.pipe) (fun _ _ _ _ => rfl)]
      rfl
    · rw [hseal]
      exact State.touchAll_keeps (m := fun u : State => { u with
        rf := s.rf, cmt.pipe := s.cmt.pipe, cmt.wear90 := s.cmt.wear90, arr.tags := s.arr.tags })
        (fun _ _ _ _ => rfl) _ ls
  · intro p hpipe hhook hp hcred hnew htyp hidle hclear
    obtain ⟨hshadow, hshadowB, hpipe', hrecs, hjpos, hlast⟩ :=
      State.commitGroup_single { s with cmt.pipe := [sealedAlone s p] } (q := sealedAlone s p) hnew
    have hframe := State.commitGroup_keeps (m := fun u : State => { u with
      rf := s.rf, arr := s.arr, cmt := s.cmt, peal.backlog := s.peal.backlog }) (fun _ _ _ _ _ _ => rfl)
      { s with cmt.pipe := [sealedAlone s p] } [sealedAlone s p]
    obtain ⟨b, hcommit⟩ := effCommitGroup_single hpipe hhook hp hcred htyp hidle hclear
    refine ⟨_, next_live hruns _, ?_⟩
    rw [hcommit]
    generalize State.commitGroup { s with cmt.pipe := [sealedAlone s p] } [sealedAlone s p] = u at *
    exact ⟨hshadow, hshadowB, hpipe', hrecs, hjpos, hlast, hframe⟩
  · intro l r p hpipe hl hp hg
    rw [List.append_assoc, List.singleton_append] at hpipe
    obtain ⟨ls, hseal⟩ := State.effSeal_behind hpipe hl hp hg
    have hpipe' := State.touchAll_keeps (m := fun u => u.cmt.pipe) (fun _ _ _ _ => rfl)
      (State.reseal { s with cmt.pipe := l ++ State.s7Grant (s.formPayload l p) :: r }) ls
    refine ⟨_, next_live hruns _, ?_⟩
    rw [hseal, hpipe', hpipe]
    refine ⟨?_, ?_, resealList_stroke _ l r _ _ _ hl rfl⟩
    · exact (resealList_sealed _ _ _ _).trans (by simp [State.s7Grant])
    · exact (resealList_typ _ _ _ _).trans (by simp [State.s7Grant, State.formPayload_typ])
  · intro g hg hne hle
    obtain ⟨hrise, hcopies⟩ := effCommitGroup_advances hg hne
    exact ⟨_, next_live hruns _, hrise, by rw [← hcopies]; omega⟩

/-! A context that SES_CTRL.CLOSE_SEL closes while a record of its mailbox command waits for its commit point. -/

/-- Context 5, whose TIME_SET record waits, is selected, and the register port's unlock key is armed. -/
def selectedWithTimeSet : State := { idleWithTimeSet.setReg 0x4B0 5#32 with rf.keyArmed := [.regp] }

theorem selectedWithTimeSet_hooks :
    selectedWithTimeSet.cmt.pipe.map (fun p => p.hook) = [.timeSet (.session 5)] := by decide +kernel

/-- The close takes the record from its mailbox (R453). -/
theorem closeSel_hooks :
    (selectedWithTimeSet.commandWrite .regp 0x4A0 1 2#32).cmt.pipe.map (fun p => p.hook) = [.timeSet (.host 3)] := by
  decide +kernel

/-- Refutes O20: the clause on CLOSE_SEL leaves the pipeline as it is; in `selectedWithTimeSet` the close of the
context changes who is told of the record that its mailbox command has made. -/
theorem not_commandBits : ¬ Obligations.CommandBits := by
  intro h
  obtain ⟨-, -, -, -, -, -, -, -, -, -, -, -, -, hclose⟩ := h selectedWithTimeSet (by decide +kernel)
  obtain ⟨t, ht, -, -, -, -, -, -, hframe⟩ :=
    hclose 2#32 5 idleCtx (by decide +kernel) (by decide +kernel) (by decide) (by decide) (by decide +kernel)
      (by decide +kernel)
  obtain rfl := Host.Outcome.next.inj ((next_live (by decide +kernel) _).symm.trans ht)
  have hooks := closeSel_hooks
  rw [(congrArg State.cmt hframe :), selectedWithTimeSet_hooks] at hooks
  simp at hooks

/-! Self-test requests of a bank that fails. -/

/-- The tag with partitions of one extent each: a rebuild then has little to do, and evaluates fast. -/
def smallTag : State := { poweredTag with cmt.parts := poweredTag.cmt.parts.map (fun x => { x with extents := 1 }) }

/-- A Knell runs, and a self-test of bank 0 is queued. -/
def testQueued : State := { smallTag with kn.state := 2, st.queue := [(1, 0)] }

theorem testQueued_queue : testQueued.st.queue = [(1, 0)] := rfl

/-- The failure of the bank ends the request (R536). -/
theorem bankFail_queue : (testQueued.reach (testQueued.effBankFail 0).finishRebuild).st.queue = [] := by decide +kernel

/-- Refutes O36: the clause on a bank that fails during a Knell leaves the self-tests as they are; in `testQueued`
a self-test of the bank is queued, which the failure ends with a result. -/
theorem not_pulsesAndBanks : ¬ Obligations.PulsesAndBanks := by
  intro h
  obtain ⟨-, -, -, -, hfail, -⟩ := h testQueued (by decide +kernel) rfl (by decide +kernel)
  obtain ⟨t, ht, -, -, -, -, -, -, -, hframe⟩ :=
    hfail 0 (by decide) rfl rfl rfl (by decide +kernel) (by decide +kernel) rfl
  obtain rfl := Host.Outcome.next.inj ((next_live (by decide +kernel) _).symm.trans ht)
  have hqueue := bankFail_queue
  rw [(congrArg State.st hframe :), testQueued_queue] at hqueue
  simp at hqueue

/-! A checkpoint behind a record that waits for its grant. -/

/-- A record has come to the commit queue, and a checkpoint is due. -/
def dueBehindRecord : State := { poweredTag.create 3 0x05#8 (zeroBytes 32) .none with cmt.ckptDue := true }

/-- The rings of the checkpoint counter. -/
theorem dueBehindRecord_toll : dueBehindRecord.toll 2 =
    { ringA := some ⟨2, 0, 0, [⟨0, 0, true⟩]⟩, ringB := some ⟨0, 8, 0, [⟨0, 0, true⟩]⟩, worn := false } := by
  decide +kernel

/-- The record goes first (R185): the checkpoint is queued and stays due. -/
theorem checkpoint_stays_due : (dueBehindRecord.reach dueBehindRecord.effCheckpoint).cmt.ckptDue = true := by
  decide +kernel

/-- Refutes O37: the clause on a checkpoint that is taken does not ask for an empty commit queue; in
`dueBehindRecord` a record stands before the checkpoint, which waits. -/
theorem not_backgroundWork : ¬ Obligations.BackgroundWork := by
  intro h
  obtain ⟨-, -, hckpt, -⟩ := h dueBehindRecord (by decide +kernel)
  obtain ⟨t, ht, hdue, -⟩ := hckpt 0 ⟨2, 0, 0, [⟨0, 0, true⟩]⟩ ⟨0, 8, 0, [⟨0, 0, true⟩]⟩ (by decide +kernel)
    (by decide +kernel) rfl (by decide +kernel) (by decide +kernel) (by decide +kernel) (by decide +kernel)
    (by decide +kernel) (by decide +kernel) (by decide +kernel) (by decide +kernel) dueBehindRecord_toll rfl rfl
    (by decide) (by decide) (by decide) (by decide +kernel)
  obtain rfl := Host.Outcome.next.inj ((next_live (by decide +kernel) _).symm.trans ht)
  exact absurd (checkpoint_stays_due.symm.trans hdue) (by decide)

/-! A boot counter whose two rings lie in failed banks. -/

/-- Banks 1 and 3, which hold the rings of the boot counter, have failed, the second during a Knell; no spare ring
is left, and the rebuild waits for the next power-up (R128). The first bytes of the field shadow differ from the
array, so that recovery fixes it (R326) whatever the opaque bytes of the identifier are. -/
def bootTollDead : State :=
  { smallTag with
    arr.banks := [0, 2, 0, 2], arr.spareRings := [0, 0, 0, 0], cmt.rebuilding := true
    fmem.reserved := List.replicate 8 0xFF#8 }

theorem bootTollDead_value : bootTollDead.tollValue 3 = 0 := by decide +kernel

/-- The rebuild finds no ring that could take a copy of the counter over (R105). -/
theorem powerOn_tollValue : (bootTollDead.effPowerOn true 0).tollValue 3 = 0 := by decide +kernel

/-- Refutes O59: in `bootTollDead` POWER_ON loses the boot counter in the rebuild that it repeats, and the counter
is not one higher. -/
theorem not_startUps : ¬ Obligations.StartUps := by
  intro h
  obtain ⟨hpower, -⟩ := h bootTollDead
  obtain ⟨t, ht, -, -, -, -, -, -, -, -, -, htoll⟩ := hpower 0 rfl (by decide +kernel) (by decide +kernel)
    (by decide +kernel) (by decide +kernel) (by decide +kernel) (by decide +kernel) (by decide +kernel)
  obtain rfl := Host.Outcome.next.inj ht
  rw [powerOn_tollValue, bootTollDead_value] at htoll
  exact absurd htoll (by decide)

end Sys2Proof.Machine
end

section
/-! The statements of the family of the Knell capture. Each of the four fails in one of its clauses; its refutation
evaluates the clause's command on one concrete state that meets its hypotheses. -/

namespace Sys2Proof.Machine

/-! A session that TAG_VAUX takes away while its TIME load waits for the next second. -/

/-- The Knell engine is ARMED, and the session of context 5 has a TIME load accepted that waits for the next RTC
second (R515). -/
def armedWithTimeLoad : State :=
  { poweredTag.setCtx 5 idleCtx with kn.state := 1, clk.rtcLoad := some (0, 0, .session 5, poweredTag.source 19) }

/-- Refutes O38: the clause on VAUX_FAIL leaves the clocks as they are; in `armedWithTimeLoad` shedding step 5 closes
the host session, and its waiting TIME load goes with it (R192, R453). -/
theorem not_knellStarts : ¬ Obligations.KnellStarts := by
  intro h
  obtain ⟨hvaux, -⟩ := h armedWithTimeLoad (by decide +kernel)
  obtain ⟨t, ht, -, -, -, -, -, -, -, -, -, hclk, -⟩ :=
    hvaux (by decide +kernel) (by decide +kernel) rfl rfl rfl (by decide)
  obtain rfl := Host.Outcome.next.inj ht
  have hbefore : armedWithTimeLoad.clk.rtcLoad.isSome = true := by decide +kernel
  have hafter : armedWithTimeLoad.effVauxFail.clk.rtcLoad.isSome = false := by decide +kernel
  rw [hclk, hbefore] at hafter
  cases hafter

/-! A bank whose wear gauge stands at 90 % before CMT_STATUS tells it: the next line programmed raises the bit. -/

/-- Bank 0 has one extent in service, of which every line has 90,000 cycles. Its last free extent, 752, was never
programmed; it has just been retired (R119), and without it the mean of the bank's extents is 90,000 cycles. -/
def wornBank : State :=
  let worn := codeExt (smallTag.codeOf 8 0)
  { smallTag with
    arr.free := setNth smallTag.arr.free 0 [], arr.retired := [(0, 752)]
    arr.tags := (List.range 16).map (fun l => (worn * 16 + l, { freshTag with cycles := 90000 })) }

/-- The intake of a running Knell that has taken no directory yet. -/
def openIntake (opening : Bool) : Intake :=
  { trigger := 2, opening := opening, directory := 0, sections := [], kept := [], expected := 0, bytes := []
    heldCredits := [], cutBytes := 0, segsMade := 0, segsDone := 0, target := 0, claimed := none, slotWas := emptySlot
    eline := eLine 0, plan := newPlan wornBank 2 100000000, done := false }

/-- A directory of one section of 100 bytes (R137). -/
def oneSection : List Byte :=
  let head := [1#8, 0#8, 1#8, 0#8] ++ leBytes 4 148 ++ zeroBytes 20
  let entry := [1#8, 0#8, 0#8, 0#8] ++ leBytes 4 48 ++ leBytes 4 100 ++ zeroBytes 4
  head ++ wordBytes (crc32c (head ++ entry)) ++ entry

/-- The engine is OPEN, and the opening frame with the directory has come in whole. -/
def directoryComes : State :=
  { wornBank with kn.state := 2, kn.intake := some (openIntake true), lnk.doneFrames := [[4], [], [], []] }

/-- Refutes O39: the clause on a directory leaves the commit engine as it is; in `directoryComes` the stored update of
the KNELL counter is the first program since a bank's wear gauge has reached 90 %, which the engine then notes
(R98, R123). -/
theorem not_knellIntake : ¬ Obligations.KnellIntake := by
  intro h
  obtain ⟨hdirectory, -⟩ := h directoryComes (openIntake true) (by decide +kernel) (by decide +kernel) rfl
  obtain ⟨t, ht, -, -, -, -, -, -, hframe⟩ :=
    hdirectory 4 148 0 0 false [{ code := 1, priority := 0, offset := 48, length := 100, crc := 0#32 }] oneSection
      (newRing 2 1 0 0) (newRing 0 9 0 0) rfl rfl rfl (by decide +kernel) (by decide +kernel) (by decide +kernel)
      (by decide +kernel) (by decide +kernel) (by decide +kernel) rfl rfl (by decide) (by decide) (by decide)
  have hkeeps : t.cmt.wear90 = directoryComes.cmt.wear90 := congrArg (fun u => u.cmt.wear90) hframe
  obtain rfl := Host.Outcome.next.inj ((next_live (by decide +kernel) _).symm.trans ht)
  have hbefore : directoryComes.cmt.wear90.getD 0 false = false := by decide +kernel
  have hafter : (directoryComes.reach
      (directoryComes.effKnellOpeningFrame (.finish .good) oneSection)).cmt.wear90.getD 0 false = true := by
    decide +kernel
  rw [hkeeps, hbefore] at hafter
  cases hafter

/-- The engine is OPEN, and no opening frame comes. -/
def noDirectory : State :=
  { wornBank.setForce 0x160 1#32 with kn.state := 2, kn.intake := some (openIntake false) }

/-- Refutes O40: the clause on DIR_WAIT changes nothing of the commit engine but `dirty`; in `noDirectory` the save is
the first program since a bank's wear gauge has reached 90 %, which the engine then notes (R102, R123). -/
theorem not_knellStoresAndCloses : ¬ Obligations.KnellStoresAndCloses := by
  intro h
  obtain ⟨-, hwait, -⟩ := h noDirectory (openIntake false) (by decide +kernel) rfl
  obtain ⟨t, ht, -, -, -, -, -, -, -, -, hframe⟩ :=
    hwait rfl rfl rfl (by decide +kernel) (by decide +kernel) (by decide +kernel) (by decide +kernel)
      (by decide +kernel) (by decide +kernel) (by decide +kernel) (by decide +kernel)
  have hkeeps : t.cmt.wear90 = noDirectory.cmt.wear90 := congrArg (fun u => u.cmt.wear90) hframe
  obtain rfl := Host.Outcome.next.inj ((next_live (by decide +kernel) _).symm.trans ht)
  have hbefore : noDirectory.cmt.wear90.getD 0 false = false := by decide +kernel
  have hafter : (noDirectory.reach noDirectory.effDirWaitExpiry.serveAll).cmt.wear90.getD 0 false = true := by
    decide +kernel
  rw [hkeeps, hbefore] at hafter
  cases hafter

/-! More slots than the eight of R149. -/

/-- A slot whose manifest is committed, with its K-INDEX still to come. -/
def signedSlot : Slot := { emptySlot with state := 2, number := 1, segments := 1, manifest := 2 }

/-- A K-INDEX is admitted, and the list of slots has nine, each PENDING with its manifest. -/
def nineSlots : State :=
  { smallTag with
    pwr.grants := [{ id := 0, queue := 0, cost := ckptCost, weight := 2, kind := .kIndex }]
    kn.slots := List.replicate 9 signedSlot }

/-- Refutes O41: the clause on the slots that a K-INDEX completes does not ask that there be eight, and changes every
slot of the list; K-INDEX completes slots 0 to 7 alone (R149), and in `nineSlots` the ninth stays PENDING. -/
theorem not_consolidation : ¬ Obligations.Consolidation := by
  intro h
  obtain ⟨-, -, -, hindex⟩ := h nineSlots 0 (by decide +kernel) (by decide)
  obtain ⟨t, ht, hslots, -⟩ := hindex (by decide)
  obtain rfl := Host.Outcome.next.inj ((next_live (by decide +kernel) _).symm.trans ht)
  have hstates : (nineSlots.reach nineSlots.effKIndex.shipMode).kn.slots.map (fun x => x.state) =
      [3, 3, 3, 3, 3, 3, 3, 3, 2] := by decide +kernel
  rw [hslots] at hstates
  exact absurd hstates (by decide +kernel)

end Sys2Proof.Machine
end

section
/-! The statements of the family of energy and scheduling. Each of the three fails in one of its clauses; its
refutation evaluates the clause's command on one concrete state that meets its hypotheses. -/

namespace Sys2Proof.Machine

/-! A raw capture that shedding step 4 discards. -/

/-- Both noise sources are RUNNING, and source A has begun the raw capture of a RAW_START (R413). -/
def rawCaptureRuns : State :=
  ({ poweredTag with ent.a.state := 2, ent.b.state := 2 }.rawStart).blockBoundary .a

/-- Refutes O42: the clause on the steps from 1 to 4 leaves the entropy engine as it is but for its two sources; in
`rawCaptureRuns` the raw capture is running, which step 4 discards (R192, R414). -/
theorem not_energySteps : ¬ Obligations.EnergySteps := by
  intro h
  obtain ⟨hsteps, -⟩ := h rawCaptureRuns (by decide +kernel)
  obtain ⟨t, ht, -, -, hframe⟩ := hsteps 4 (by decide) (by decide) (by decide +kernel) (by decide +kernel)
  have hkeeps : t.ent.raw = rawCaptureRuns.ent.raw := congrArg (fun u => u.ent.raw) hframe
  obtain rfl := Host.Outcome.next.inj ((next_live (by decide +kernel) _).symm.trans ht)
  have hbefore : rawCaptureRuns.ent.raw.isSome = true := by decide +kernel
  have hafter : (rawCaptureRuns.effShedStep 4).ent.raw.isSome = false := by decide +kernel
  rw [hkeeps, hbefore] at hafter
  cases hafter

/-! Fewer source flags than the six sources of R171. -/

/-- The tag runs without TAG_VAUX, and the list of usable sources ends before the flag of TAG_STORE. -/
def oneSourceFlag : State := { poweredTag with pwr.mode := 3, pwr.usable := [false], pwr.vauxOk := false }

/-- Refutes O43: the clause on a source that comes does not ask for a flag of each of the six sources (R171); in
`oneSourceFlag` the flag of TAG_STORE has no place, no source is usable, and the tag loses power (R172). -/
theorem not_sourcesAndHeat : ¬ Obligations.SourcesAndHeat := by
  intro h
  obtain ⟨hcomes, -⟩ := h oneSourceFlag (by decide)
  obtain ⟨t, ht, -, hframe⟩ := hcomes 3 (.inr (.inr rfl))
  have hkeeps : t.pwr.mode = 3 := congrArg (fun u => u.pwr.mode) hframe
  obtain rfl := Host.Outcome.next.inj ht
  have hafter : (oneSourceFlag.effSupplyChange 3 true).pwr.mode = 0 := by decide +kernel
  rw [hkeeps] at hafter
  cases hafter

/-! A scrub job that is granted while SEAL is gated. -/

/-- The scrub of one extent (R186). -/
def scrubJob : Job := { id := 0, queue := 7, cost := 2500, weight := 2, kind := .scrub }

/-- SEAL has gated after its idle time (R194), and a scrub job is all that is queued. -/
def scrubWithSealGated : State := { poweredTag.effDomainIdleGate 13 with pwr.jobs := [scrubJob] }

/-- Refutes O44: the clause on a granted job has SEAL on whatever the job is; a scrub needs CORE and the banks alone
(R194), and in `scrubWithSealGated` its grant leaves SEAL gated. -/
theorem not_admission : ¬ Obligations.Admission := by
  intro h
  obtain ⟨hgrant, -⟩ := h scrubWithSealGated 7 scrubJob (by decide +kernel) (by decide +kernel) (by decide +kernel)
    (by decide +kernel) (by decide +kernel) (by decide +kernel)
  obtain ⟨t, ht, -, -, -, -, -, hseal, -⟩ :=
    hgrant (by decide +kernel) (by decide +kernel) (by decide +kernel) rfl (by decide +kernel) (by decide +kernel) rfl
      (.inr (.inl rfl))
  obtain rfl := Host.Outcome.next.inj ((next_live (by decide +kernel) _).symm.trans ht)
  have hgated : (scrubWithSealGated.effJobAdmit 7).domOn 13 = false := by decide +kernel
  rw [hseal] at hgated
  cases hgated

end Sys2Proof.Machine
end

section
/-! The statements of the family of the Stream Port link. A packet's bytes are read back field by field; a received
packet and a packet boundary act on the link's packet state, which a lemma for each kind says. Three statements fail
in one of their clauses, each in a state written out ahead of its refutation. -/

namespace Sys2Proof.Machine

/-! Little-endian numbers as bytes (R7). -/

@[simp] theorem length_leBytes (n v : Nat) : (leBytes n v).length = n := by
  induction n generalizing v with
  | zero => rfl
  | succ n ih => simp [leBytes, ih]

theorem leBytes_two (v : Nat) : leBytes 2 v = [BitVec.ofNat 8 (v % 256), BitVec.ofNat 8 (v / 256 % 256)] := rfl

theorem slice_cons (x : Byte) (b : List Byte) (i n : Nat) : slice (x :: b) (i + 1) n = slice b i n := rfl

theorem slice_front (a b : List Byte) : slice (a ++ b) 0 a.length = a := by
  simp [slice, zeroBytes]

/-- Two bytes make a 16-bit number, the low one first; past the end they are 0. -/
theorem leNat_slice_two (b : List Byte) (k : Nat) : leNat (slice b k 2) = byteAt b k + 256 * byteAt b (k + 1) := by
  induction b generalizing k with
  | nil => simp [slice, byteAt, zeroBytes, leNat]
  | cons x b ih =>
    cases k with
    | succ k => simpa only [slice_cons, byteAt, List.getD_cons_succ] using ih k
    | zero => cases b <;> simp [slice, byteAt, zeroBytes, leNat]

theorem two_bytes {v : Nat} (h : v < 65536) :
    (BitVec.ofNat 8 (v % 256)).toNat + 256 * (BitVec.ofNat 8 (v / 256 % 256)).toNat = v := by
  simp only [BitVec.toNat_ofNat]
  omega

/-! The checks of a packet over its own bytes (R208). -/

@[simp] theorem length_bytes (p : Packet) : p.bytes.length = p.head.length + 4 := by
  simp [Packet.bytes, sealPacket, wordBytes]

theorem crcOk_bytes (p : Packet) : crcOk p.bytes = true := by
  simp [crcOk, Packet.bytes, sealPacket, wordBytes]

theorem fieldBytes_le_length (p : Packet) : p.fieldBytes ≤ p.head.length := by
  cases p
  case data seq cls sof eof ack payload => simp [Packet.fieldBytes, Packet.head, pad4]; omega
  all_goals exact Nat.le_refl _

theorem take_fieldBytes (p : Packet) : p.bytes.take p.fieldBytes = p.head.take p.fieldBytes :=
  List.take_append_of_le_length (fieldBytes_le_length p)

/-! What `readPacket` finds in the bytes of a packet, field by field (R209, R211, R212, R227). -/

theorem ofNat_two_bytes {w : Nat} (x : BitVec w) (h : w ≤ 16) :
    BitVec.ofNat w
      ((BitVec.ofNat 8 (x.toNat % 256)).toNat + 256 * (BitVec.ofNat 8 (x.toNat / 256 % 256)).toNat) = x := by
  rw [two_bytes (x.isLt.trans_le (Nat.pow_le_pow_right (by decide) h)), BitVec.ofNat_toNat, BitVec.setWidth_eq]

theorem toNat_ofNat_byte {n : Nat} (h : n < 2 ^ 8) : (BitVec.ofNat 8 n).toNat = n := by
  rw [BitVec.toNat_ofNat, Nat.mod_eq_of_lt h]

theorem ofNat_setWidth_lanes (lanes : BitVec 4) : BitVec.ofNat 4 (lanes.setWidth 8).toNat = lanes := by
  rw [BitVec.ofNat_toNat, BitVec.setWidth_setWidth_of_le lanes (by decide), BitVec.setWidth_eq]

theorem leader_read (b : Bool) : ((BitVec.ofNat 8 (bitNat b)).toNat % 2 == 1) = b := by
  cases b <;> rfl

/-- The byte of a DATA packet that holds its class, SOF and EOF. -/
theorem dataFlags_read (cls : Cls) (sof eof : Bool) :
    let f := (BitVec.ofNat 8 (cls.code + 4 * bitNat sof + 8 * bitNat eof)).toNat
    classOf f = cls ∧ (f / 4 % 2 == 1) = sof ∧ (f / 8 % 2 == 1) = eof := by
  cases cls <;> cases sof <;> cases eof <;> decide

/-- A 12-bit number with a flag in bit 15. -/
theorem flagged_read (b : Bool) (x : BitVec 12) :
    32768 * bitNat b + x.toNat < 65536 ∧ decide (32768 ≤ 32768 * bitNat b + x.toNat) = b ∧
      BitVec.ofNat 12 (32768 * bitNat b + x.toNat) = x := by
  have hx := x.isLt
  have hb : bitNat b ≤ 1 := by cases b <;> decide
  refine ⟨by omega, ?_, ?_⟩
  · cases b
    · simpa [bitNat] using (by omega : x.toNat < 32768)
    · simp [bitNat]
  · apply BitVec.eq_of_toNat_eq
    cases b <;> simp [bitNat]; omega

theorem payload_read (payload rest : List Byte) (h : payload.length ≤ 512) :
    slice (pad4 payload ++ rest) 0 (min 512 payload.length) = payload := by
  rw [Nat.min_eq_right h, pad4, List.append_assoc, slice_front]

theorem readPacket_bytes {p : Packet} (h : p.inRange = true) : readPacket p.bytes = some p := by
  cases p
  all_goals
    simp only [readPacket, Packet.bytes, sealPacket, Packet.head, leNat_slice_two, leBytes_two, zeroBytes,
      List.replicate, List.cons_append, List.nil_append, slice_cons, byteAt, List.getD_cons_succ, List.getD_cons_zero,
      BitVec.reduceToNat]
  case data seq cls sof eof ack payload =>
    simp only [Packet.inRange, Bool.and_eq_true, decide_eq_true_eq] at h
    obtain ⟨hcls, hsof, heof⟩ := dataFlags_read cls sof eof
    have hlen : payload.length < 65536 := by omega
    rw [two_bytes hlen, ofNat_two_bytes seq (by decide), hcls, hsof, heof, payload_read _ _ h.2]
    cases ack with
    | none => rfl
    | some a =>
      obtain ⟨hword, -, hnum⟩ := flagged_read true a
      simp only [bitNat, if_true, Nat.mul_one] at hword hnum
      simp only [two_bytes hword, hnum, Nat.le_add_right, if_true]
  case ack seq => rw [ofNat_two_bytes seq (by decide)]
  case nak seq reason => rw [ofNat_two_bytes seq (by decide)]
  case credit => simp only [ofNat_two_bytes (w := 16) _ (by decide)]
  case linkReq num typ lanes cap =>
    have hcap : cap < 2 ^ 8 := by simp [Packet.inRange] at h; omega
    rw [ofNat_setWidth_lanes, toNat_ofNat_byte hcap]
  case ts1 lane tid echo cap window leader =>
    obtain ⟨hlane, hcap, hwindow⟩ : lane < 2 ^ 8 ∧ cap < 2 ^ 8 ∧ window < 65536 := by
      simp [Packet.inRange] at h; omega
    rw [toNat_ofNat_byte hlane, toNat_ofNat_byte hcap, two_bytes hwindow, leader_read]
  case ts2 lane tid echo cap rx resume next window leader =>
    obtain ⟨hlane, hcap, hwindow⟩ : lane < 2 ^ 8 ∧ cap < 2 ^ 8 ∧ window < 65536 := by
      simp [Packet.inRange] at h; omega
    obtain ⟨hword, hresume, hnext⟩ := flagged_read resume next
    rw [toNat_ofNat_byte hlane, toNat_ofNat_byte hcap, ofNat_setWidth_lanes, two_bytes hword, hresume, hnext,
      two_bytes hwindow, leader_read]

/-- Settles O15: the fields are read back (`readPacket_bytes`), and the checks of R208 pass over the packet's own
bytes. -/
theorem packetsRoundTrip : Obligations.PacketsRoundTrip := by
  intro p hrange
  unfold parsePacket
  simp [readPacket_bytes hrange, hrange, crcOk_bytes, take_fieldBytes]

/-! What a received packet does to the link's packet state (R217, R234). -/

/-- A count and its status bit change the register maps alone, whatever the link holds. -/
theorem count_raise_withLnk (s : State) (l : Lnk) (c o n : Nat) :
    (State.count { s with lnk := l } c).raise o n = { s with lnk := l, rf := ((s.count c).raise o n).rf } :=
  let u : State := State.count { s with lnk := l } c
  (raise_eq u o n).trans
    (congrArg (fun rf => { s with lnk := l, rf := rf }) (raise_rf_congr (s := u) (t := s.count c) rfl o n))

/-- An acknowledgement moves the oldest outstanding number behind its own. -/
theorem oldest_add_covered (oldest seq : BitVec 12) :
    oldest + BitVec.ofNat 12 (seq - (oldest - 1#12)).toNat = seq + 1#12 := by
  rw [BitVec.ofNat_toNat, BitVec.setWidth_eq]
  bv_omega

/-- An acknowledgement inside the window releases the packets that it covers. -/
theorem rxAck_inside {s : State} {seq : BitVec 12} (h : ackCovers s seq ≤ outstanding s) :
    (s.noteRx false).rxAck seq = ({ s with lnk := released s seq }, true) := by
  refine (if_neg (Nat.not_lt.2 h)).trans ?_
  simp only [released, ← oldest_add_covered s.lnk.oldest seq]
  rfl

/-- One outside the window is counted. -/
theorem rxAck_outside {s : State} {seq : BitVec 12} (h : outstanding s < ackCovers s seq) :
    (s.noteRx false).rxAck seq =
      ({ s with lnk := goodPacket s, rf := ((s.count 0x1D4).raise 0x1AC 2).rf }, false) :=
  (if_pos h).trans (congrArg (fun t => (t, false)) (count_raise_withLnk s (goodPacket s) _ _ _))

/-- A replay of the packets that the link `l` holds. -/
theorem startReplay_held (s : State) {l : Lnk} (h : l.replay ≠ []) :
    State.startReplay { s with lnk := l } =
      { s with
        lnk := { l with cursor := 0, noProgress := l.noProgress + 1 }, rf := ((s.count 0x1D0).raise 0x1AC 1).rf } :=
  (if_neg h).trans (count_raise_withLnk s _ _ _ _)

/-- The link's packet state after a packet that fails its CRC or is malformed (R217). -/
def badPacketLink (l : Lnk) : Lnk :=
  { l with
    errHist := (true :: l.errHist).take 4096, badRun := l.badRun + 1
    nakPending := if l.nakSent then l.nakPending else some 1, nakSent := true }

theorem rxBad_eq (s : State) :
    s.rxBad = { s with lnk := badPacketLink s.lnk, rf := ((s.count 0x1CC).raise 0x1AC 0).rf } := by
  have hnoted := count_raise_withLnk s (s.noteRx true).lnk 0x1CC 0x1AC 0
  unfold State.rxBad
  rw [show s.noteRx true = { s with lnk := (s.noteRx true).lnk } from rfl]
  dsimp only
  rw [hnoted]
  unfold badPacketLink
  cases h : s.lnk.nakSent <;> simp [State.noteRx, h]

theorem effAckPacket_active {s : State} (hactive : s.linkActive = true) (seq : BitVec 12) :
    s.effAckPacket seq = ((s.noteRx false).rxAck seq).1 := if_pos hactive

theorem effNakPacket_inside {s : State} (hactive : s.linkActive = true) {seq : BitVec 12}
    (h : ackCovers s seq ≤ outstanding s) :
    s.effNakPacket seq = State.startReplay { s with lnk := released s seq } := by
  unfold State.effNakPacket
  rw [if_pos hactive, rxAck_inside h]

theorem effNakPacket_outside {s : State} (hactive : s.linkActive = true) {seq : BitVec 12}
    (h : outstanding s < ackCovers s seq) :
    s.effNakPacket seq = { s with lnk := goodPacket s, rf := ((s.count 0x1D4).raise 0x1AC 2).rf } := by
  unfold State.effNakPacket
  rw [if_pos hactive, rxAck_outside h]

theorem effBadPacket_active {s : State} (hactive : s.linkActive = true) (lane sent : Nat) {raw : List Byte}
    (hnone : parsePacket raw = none) (hidle : raw ≠ idleWord) : s.effBadPacket lane sent raw = s.rxBad := by
  unfold State.effBadPacket
  simp only [hnone, hactive, hidle, if_true, if_false]

theorem effCreditPacket_active {s : State} (hactive : s.linkActive = true) (mgmt peal : BitVec 16) :
    s.effCreditPacket mgmt peal = { s with
      lnk := { goodPacket s with
        txMgmtLimit := if s.lnk.txCredited = false ∨ (mgmt - s.lnk.txMgmtLimit).toNat < 32768 then mgmt
          else s.lnk.txMgmtLimit
        txPealLimit := if s.lnk.txCredited = false ∨ (peal - s.lnk.txPealLimit).toNat < 32768 then peal
          else s.lnk.txPealLimit
        txCredited := true } } := by
  unfold State.effCreditPacket
  rw [if_pos hactive]
  cases h : s.lnk.txCredited <;> simp [-BitVec.toNat_sub, State.noteRx, State.newLimit, goodPacket, h]

/-- A command that changes the link's packet state and the register maps, but no mailbox, serves nothing: nothing
waited. -/
theorem run_wakeDrum {s : State} (hruns : runs s) (hidle : nothingWaits s) {f : State → State} {l : Lnk} {rf : RegFile}
    (hf : f s = { s with lnk := l, rf := rf }) (hmbx : rf.mbx = s.rf.mbx) :
    s.run (fun u => (f u).wakeDrum.serveAll) = .next (State.wakeDrum { s with lnk := l, rf := rf }) := by
  obtain ⟨haudit, hs1, hevent, hcopy, hmgmt, hlen, hsnare⟩ := hidle
  rw [next_live hruns, hf]
  exact congrArg _
    (serveAll_idle ⟨haudit, hs1, hevent, hcopy, hmgmt, (congrArg Mbx.waitLen hmbx).trans hlen, hsnare⟩)

/-! DATA packets (R217, R223, R225). -/

/-- The link's packet state after the next DATA packet in order is accepted, before its frame. -/
def acceptedLink (s : State) (cls : Cls) (n : Nat) : Lnk :=
  { goodPacket s with
    expected := s.lnk.expected + 1#12, nakSent := false, unacked := s.lnk.unacked + 1
    ackPending := s.lnk.ackPending || decide (8 ≤ s.lnk.unacked + 1)
    rxUsed := modNth s.lnk.rxUsed cls.code (fun x => (x + n) % 65536)
    rxHeld := modNth s.lnk.rxHeld cls.code (fun x => x + n) }

/-- ... and the frame of its class begins, goes on or ends with its `n` credits. -/
def framedLink (l : Lnk) (cls : Cls) (sof eof : Bool) (n : Nat) : Lnk :=
  let sum := (l.openFrame.getD cls.code none).getD 0 + n
  { l with
    discard := if sof then setNth l.discard cls.code false else l.discard
    openFrame := setNth l.openFrame cls.code (if eof then none else some sum)
    doneFrames := if eof then modNth l.doneFrames cls.code (fun d => d ++ [sum]) else l.doneFrames }

theorem getD_setNth_self {α : Type} (l : List α) (i : Nat) (v : α) : (setNth l i v).getD i v = v := by
  induction l generalizing i with
  | nil => rfl
  | cons x l ih =>
    cases i with
    | zero => rfl
    | succ i => simpa [setNth] using ih i

/-- A frame that stands as its packet says, outside a Knell (R225). -/
theorem frameLayer_stands {s : State} {cls : Cls} {sof : Bool} (eof : Bool) (n : Nat) (hknell : s.knellRunning = false)
    (hopen : (s.lnk.openFrame.getD cls.code none).isSome = !sof)
    (hkept : sof = true ∨ s.lnk.discard.getD cls.code false = false) :
    s.frameLayer cls sof eof n = { s with lnk := framedLink s.lnk cls sof eof n } := by
  unfold State.frameLayer framedLink
  cases sof with
  | true =>
    have hnone : s.lnk.openFrame.getD cls.code none = none := by simpa using hopen
    have hcleared := getD_setNth_self s.lnk.discard cls.code false
    cases eof <;> simp [-List.getD_eq_getElem?_getD, hknell, hnone, hcleared]
  | false =>
    have hgone : s.lnk.discard.getD cls.code false = false := by simpa using hkept
    cases eof <;> simp [-List.getD_eq_getElem?_getD, hknell, hopen, hgone]

/-- A packet of 1 to 512 bytes that its class has the credits for is not malformed (R223). -/
theorem wellFormed_data {len d n credit : Nat} (hlow : 1 ≤ len) (hhigh : len ≤ 512) (h : d < 2048 → n ≤ credit) :
    (len = 0 || decide (512 < len) || (decide (d < 2048) && decide (credit < n))) = false := by
  by_cases hd : d < 2048
  · have := h hd; simp; omega
  · simp; omega

theorem effDataPacket_next {s : State} (hactive : s.linkActive = true) (cls : Cls) (sof eof : Bool) {len : Nat}
    (hlow : 1 ≤ len) (hhigh : len ≤ 512) (hcredit : creditsOf len ≤ s.rxCredit cls.code) :
    s.effDataPacket s.lnk.expected cls sof eof len none =
      State.frameLayer { s with lnk := acceptedLink s cls (creditsOf len) } cls sof eof (creditsOf len) := by
  unfold State.effDataPacket
  rw [if_neg (by simp [hactive])]
  dsimp only
  rw [if_neg (by rw [wellFormed_data hlow hhigh (fun _ => hcredit)]; decide), if_pos (by simp)]
  rfl

theorem effDataPacket_duplicate {s : State} (hactive : s.linkActive = true) {seq : BitVec 12} (cls : Cls)
    (sof eof : Bool) {len : Nat} (hlow : 1 ≤ len) (hhigh : len ≤ 512) (hbehind : 2048 ≤ (seq - s.lnk.expected).toNat) :
    s.effDataPacket seq cls sof eof len none =
      { s with lnk := { goodPacket s with ackPending := true }, rf := (s.count 0x1D8).rf } := by
  unfold State.effDataPacket
  rw [if_neg (by simp [hactive])]
  dsimp only
  rw [if_neg (by rw [wellFormed_data hlow hhigh (fun h => by omega)]; decide), if_neg (by omega), if_pos hbehind]
  rfl

theorem effDataPacket_ahead {s : State} (hactive : s.linkActive = true) {seq : BitVec 12} (cls : Cls)
    (sof eof : Bool) {len : Nat} (hlow : 1 ≤ len) (hhigh : len ≤ 512) (hahead : 1 ≤ (seq - s.lnk.expected).toNat)
    (hwithin : (seq - s.lnk.expected).toNat < 2048) (hcredit : creditsOf len ≤ s.rxCredit cls.code) :
    s.effDataPacket seq cls sof eof len none =
      { s with
        lnk := { goodPacket s with
          nakPending := if s.lnk.nakSent then s.lnk.nakPending else some 2, nakSent := true } } := by
  unfold State.effDataPacket
  rw [if_neg (by simp [hactive])]
  dsimp only
  rw [if_neg (by rw [wellFormed_data hlow hhigh (fun _ => hcredit)]; decide), if_neg (by omega), if_neg (by omega)]
  cases h : s.lnk.nakSent <;> simp [State.noteRx, goodPacket, h]

theorem effDataPacket_malformed {s : State} (hactive : s.linkActive = true) {seq : BitVec 12} (cls : Cls)
    (sof eof : Bool) {len : Nat} (hwithin : (seq - s.lnk.expected).toNat < 2048)
    (hcredit : s.rxCredit cls.code < creditsOf len) : s.effDataPacket seq cls sof eof len none = s.rxBad := by
  unfold State.effDataPacket
  rw [if_neg (by simp [hactive])]
  exact if_pos (by simp only [hwithin, hcredit]; simp)

/-- Settles O17, packet by packet; what the link holds after each is said by the lemmas above. -/
theorem receivedPackets : Obligations.ReceivedPackets := by
  intro s hruns hst hidle
  have hactive : s.linkActive = true := by simp [State.linkActive, hst]
  refine ⟨?ackInside, ?ackOutside, ?nakReplays, ?nakEmpty, ?nakOutside, ?noPacket, ?credit, ?next, ?duplicate, ?ahead,
    ?malformed⟩
  case ackInside =>
    intro seq hinside
    refine (next_live hruns _).trans (congrArg _ ?_)
    rw [effAckPacket_active hactive, rxAck_inside hinside]
  case ackOutside =>
    intro seq houtside
    refine ⟨_, next_live hruns _, ?_⟩
    rw [effAckPacket_active hactive, rxAck_outside houtside]
    exact ⟨rfl, rfl, rfl⟩
  case nakReplays =>
    intro seq hinside hheld
    refine ⟨_, next_live hruns _, ?_⟩
    rw [effNakPacket_inside hactive hinside, startReplay_held s hheld]
    exact ⟨rfl, rfl, rfl⟩
  case nakEmpty =>
    intro seq hinside hempty
    refine (next_live hruns _).trans (congrArg _ ?_)
    exact (effNakPacket_inside hactive hinside).trans (if_pos hempty)
  case nakOutside =>
    intro seq houtside
    refine ⟨_, next_live hruns _, ?_⟩
    rw [effNakPacket_outside hactive houtside]
    exact ⟨rfl, rfl, rfl⟩
  case noPacket =>
    intro lane sent raw hnone hword
    exact ⟨_, run_wakeDrum hruns hidle ((effBadPacket_active hactive lane sent hnone hword).trans (rxBad_eq s))
      (State.raise_rf_mbx _ _ _), rfl, rfl, rfl⟩
  case credit =>
    intro mgmt peal
    exact (next_live hruns _).trans (congrArg _ (effCreditPacket_active hactive mgmt peal))
  case next =>
    rintro seq cls sof eof len hlow hhigh rfl hcredit hknell hopen hkept
    exact ⟨_, run_wakeDrum hruns hidle ((effDataPacket_next hactive cls sof eof hlow hhigh hcredit).trans
      (frameLayer_stands (s := { s with lnk := acceptedLink s cls (creditsOf len) }) eof _ hknell hopen hkept))
      rfl, rfl, rfl⟩
  case duplicate =>
    intro seq cls sof eof len hlow hhigh hbehind
    exact ⟨_, run_wakeDrum hruns hidle (effDataPacket_duplicate hactive cls sof eof hlow hhigh hbehind) rfl,
      rfl, rfl, rfl⟩
  case ahead =>
    intro seq cls sof eof len hlow hhigh hahead hwithin hcredit
    exact ⟨_, run_wakeDrum hruns hidle
      (effDataPacket_ahead hactive cls sof eof hlow hhigh hahead hwithin hcredit) rfl, rfl, rfl⟩
  case malformed =>
    intro seq cls sof eof len _ _ hwithin hcredit
    exact ⟨_, run_wakeDrum hruns hidle
      ((effDataPacket_malformed hactive cls sof eof hwithin hcredit).trans (rxBad_eq s))
      (State.raise_rf_mbx _ _ _), rfl, rfl, rfl⟩

/-! What goes at a packet boundary (R214 to R216). -/

theorem next_packetBoundaryTransmit {s : State} (h : runs s) :
    exec .packetBoundaryTransmit s = .next s.effPacketBoundaryTransmit := next_live h _

theorem creditsOf_one {n : Nat} (h1 : 1 ≤ n) (h2 : n ≤ 64) : creditsOf n = 1 := by
  unfold creditsOf ceilDiv
  omega

/-- The first packet of the queue goes when its class has the credits for it (R216, R223). -/
theorem State.nextTx_first {s : State} {p : TxPkt} (q : List TxPkt)
    (h : creditsOf p.payload.length ≤ s.txCredit p.cls) : s.nextTx (p :: q) [] = some p := by
  simp [State.nextTx, h]

/-- Of a class whose limit is ahead of what it has used at least one credit is left. -/
theorem one_le_credit {limit used : BitVec 16} (h : used ≠ limit) : 1 ≤ (limit - used).toNat := by
  bv_omega

/-- New DATA of class MGMT of one credit, into an empty replay buffer. -/
theorem State.sendData_mgmt {s : State} {p : TxPkt} {q : List TxPkt} (hreplay : s.lnk.replay = [])
    (hcursor : s.lnk.cursor = 0) (hqueue : s.lnk.txQ = p :: q) (hcls : p.cls = .mgmt)
    (hone : creditsOf p.payload.length = 1)
    (hwindow : outstanding s < s.lnk.window) (hcredit : s.lnk.txMgmtUsed ≠ s.lnk.txMgmtLimit)
    (hknell : s.knellRunning = false) :
    s.sendData = { s with
      lnk.sent := some (.data { p with seq := s.lnk.next }
        (if s.lnk.unacked = 0 then none else some (s.lnk.expected - 1#12)))
      lnk.next := s.lnk.next + 1#12, lnk.replay := [{ p with seq := s.lnk.next }], lnk.cursor := 1, lnk.txQ := q
      lnk.unacked := 0, lnk.txMgmtUsed := s.lnk.txMgmtUsed + 1#16 } := by
  have hnext : s.nextTx (p :: q) [] = some p :=
    State.nextTx_first q (by rw [hone, hcls]; exact one_le_credit hcredit)
  have hopen : ¬ s.lnk.window ≤ (s.lnk.next - s.lnk.oldest).toNat := Nat.not_le.2 hwindow
  unfold State.sendData
  simp [-BitVec.toNat_sub, hreplay, hcursor, hqueue, hcls, hone, hknell, hopen, hnext, total,
    State.removeFirst, State.newestRx]

/-- Settles O18, item by item in the order of R214; new DATA is `sendData_mgmt`. -/
theorem transmitOrder : Obligations.TransmitOrder := by
  intro s hruns hst
  have hactive : s.linkActive = true := by simp [State.linkActive, hst]
  rw [next_packetBoundaryTransmit hruns]
  unfold State.effPacketBoundaryTransmit State.newestRx
  refine ⟨?nak, ?credit, ?ack, ?linkReq, ?replay, ?data⟩
  case nak => intro r hnak; simp [hactive, hnak]
  case credit => intro hnak hcredit hmay; simp [hactive, hnak, hcredit, hmay]
  case ack => intro hnak hcredit hack; simp [hactive, hnak, hcredit, hack]
  case linkReq =>
    intro n typ lanes hnak hcredit hack hpending hreq
    simp [hactive, hnak, hcredit, hack, hpending, hreq]
  case replay =>
    intro p hnak hcredit hack hpending hheld
    simp [hactive, hnak, hcredit, hack, hpending, hheld]
  case data =>
    intro p q hnak hcredit hack hpending hreplay hcursor hqueue hcls hlow hhigh hwindow hlimit hknell
    rw [← State.sendData_mgmt hreplay hcursor hqueue hcls (creditsOf_one hlow hhigh) hwindow hlimit hknell]
    simp [hactive, hnak, hcredit, hack, hpending, hreplay]

/-! A replay timeout after four replays without progress, with a request outstanding. -/

/-- A packet of the tag that the switch die has not acknowledged. -/
def unackedPacket : TxPkt := { cls := .mgmt, sof := true, eof := true, payload := [1#8], seq := 0#12 }

/-- It has been replayed four times without progress (R220), and the RETRAIN that STM_CTRL asked for is outstanding
and has been sent (R232). -/
def stalledWithRequest : State :=
  { poweredTag with
    stm.st := 4, stm.reqNum := 1, stm.req := some (1, 1, 0#4), stm.reqWhy := [.control]
    lnk.replay := [unackedPacket], lnk.next := 1#12, lnk.cursor := 1, lnk.noProgress := 4 }

/-- The stall is a new reason of the outstanding request, which is sent again for it (log entry 87). -/
theorem stalledWithRequest_asks : stalledWithRequest.effReplayTimeout.lnk.linkReqPending = true := by decide +kernel

/-- Refutes O16: the clause on a replay timeout with a request outstanding has nothing more sent than the replay; in
`stalledWithRequest` the stall also sends the outstanding request again. -/
theorem not_linkTimersAndFalls : ¬ Obligations.LinkTimersAndFalls := by
  intro h
  obtain ⟨-, -, -, -, -, hreplay, -⟩ := h stalledWithRequest (by decide +kernel)
  obtain ⟨t, ht, -, hlnk, -⟩ := hreplay (by decide +kernel) (by decide +kernel) (.inr (by decide +kernel))
  obtain rfl := Host.Outcome.next.inj ((next_live (by decide +kernel) _).symm.trans ht)
  have hasks := stalledWithRequest_asks
  rw [hlnk] at hasks
  revert hasks
  decide +kernel

/-! A fresh training after an offer of RESUME, with another window written. -/

/-- STM_CFG.WINDOW is written while its value in force is 256: the new one waits for a fresh training (R246). -/
def windowWritten : State :=
  ({ poweredTag with rf.keyArmed := [.regp] }).effRegisterWrite .regp 0x1A4 0x1900_0200#32

/-- The tag offers RESUME in TS2, and with it the window in force (log entry 104); three sets have come on lane 0. -/
def offersResume : State :=
  { windowWritten with stm.st := 3, stm.resumeOk := true, stm.ts2 := [3, 0, 0, 0] }

/-- The switch die declines: the training ends fresh, under the window that the tag offered. -/
theorem offersResume_window :
    (offersResume.effTs2 0 0#8 4 1#4 false 0#12 1024 8).serveAll.lnk.window = 256 := by decide +kernel

theorem offersResume_windowCfg : (offersResume.boundary .freshTraining).windowCfg = 512 := by decide +kernel

/-- Refutes O19: the clause on a fresh training has the window that the boundary brings into force, where the tag
offered RESUME too; then it has offered the window in force before, in `offersResume` another one. -/
theorem not_training : ¬ Obligations.Training := by
  intro h
  obtain ⟨-, -, -, -, -, hfresh⟩ := h offersResume (by decide +kernel)
  obtain ⟨t, ht, -, -, -, -, -, -, -, -, -, -, -, -, -, -, -, -, -, hwindow, -⟩ :=
    hfresh 0 0#8 4 1#4 false 0#12 1024 8 (by decide +kernel) (by decide +kernel) (by decide) (by decide +kernel)
      (by decide +kernel) (by decide) (by decide +kernel) (by decide +kernel) (.inr rfl) (by decide +kernel)
      (by decide +kernel)
  obtain rfl := Host.Outcome.next.inj ((next_live (by decide +kernel) _).symm.trans ht)
  rw [offersResume_windowCfg] at hwindow
  exact absurd (offersResume_window.symm.trans hwindow) (by decide)

/-! A tag whose last written STM_CTRL.EN is not the one in force. -/

/-- STM_CTRL.EN is 0 in force, so the link wakes DISABLED (R243); the value last written is 1. -/
def enabledInWords : State := (poweredTag.setForce 0x1A0 0#32).wakeLink

/-- The write of 1 to EN changes the value in force, and without the key it is refused (log entry 111). -/
theorem enabledInWords_result : (enabledInWords.enableWrite .regp 0x1A0 true).rf.result = 1 := by decide +kernel

/-- Refutes O22: the clause on EN 1 in DISABLED takes no key, since the register's last written EN is 1 already; in
`enabledInWords` the EN in force is 0, and the write needs the key (R476). -/
theorem not_engineCommands : ¬ Obligations.EngineCommands := by
  intro h
  obtain ⟨-, -, -, henable, -⟩ := h enabledInWords (by decide +kernel) (by decide +kernel)
  obtain ⟨t, ht, -, -, hresult, -⟩ :=
    henable (by decide +kernel) (by decide +kernel) (by decide +kernel) (by decide +kernel)
  obtain rfl := Host.Outcome.next.inj ((next_live (by decide +kernel) _).symm.trans ht)
  exact absurd (enabledInWords_result.symm.trans hresult) (by decide)

end Sys2Proof.Machine
end

section
/-! The statements of the family of the frames and Peal. Two statements fail, each for a request that the tag turns away
before it looks at what is asked. What a COPY frame does is said stage by stage, over an observation of the state that
leaves out what programming the array changes. -/

namespace Sys2Proof.Machine

/-! Requests that are turned away. -/

/-- A running tag that serves in-band requests; no item is staged. -/
def servesRequests : { s : State // runs s } := ⟨{ poweredTag with rf.ready := true }, by decide +kernel⟩

/-- A STAGE_PULL of the switch die that names a session, which cannot be its own (R266). -/
def pullInSession : MgmtHdr := { requester := switchDie, tag := 7#16, session := some 5, ending := .good }

/-- It is answered NO_SESSION and counts as no pull. -/
theorem pullInSession_pulls : (servesRequests.1.effStagePull pullInSession).peal.pulls = 0 := by decide +kernel

/-- Refutes O29: the clauses on STAGE_PULL do not ask that the request name no session; `pullInSession` names one and
is not counted. -/
theorem not_registerAndStageRequests : ¬ Obligations.RegisterAndStageRequests := by
  intro h
  obtain ⟨-, -, -, -, -, -, hempty, -⟩ := h servesRequests.1 servesRequests.2
  obtain ⟨t, ht, -, hpulls, -⟩ :=
    hempty pullInSession (by decide +kernel) (by decide +kernel) rfl rfl rfl (by decide +kernel) (by decide +kernel)
      (by decide +kernel) (by decide +kernel) (by decide +kernel)
  obtain rfl := Host.Outcome.next.inj ((next_live servesRequests.2 _).symm.trans ht)
  exact absurd (pullInSession_pulls.symm.trans hpulls) (by decide +kernel)

/-- Host 3 has the open session of context 5. -/
def servesSession : { s : State // runs s } := ⟨servesRequests.1.setCtx 5 idleCtx, servesRequests.2⟩

/-- Its SESSION_CLOSE, whose frame passes its end check and carries a byte of body where the opcode has none. -/
def closeWithBody : MgmtHdr :=
  { requester := 3#8, tag := 7#16, session := some 5, ending := .good, bodyRaw := some [0#8] }

/-- It is answered MALFORMED (R259, R260), and the session stays open. -/
theorem closeWithBody_ctx : ((servesSession.1.effSessionClose closeWithBody).ctx 5).isSome = true := by
  decide +kernel

/-- Refutes O31: the clause on CLOSE does not ask that the frame's body be that of its opcode; `closeWithBody` carries
another, and the context is not freed. -/
theorem not_sessionsAndLeases : ¬ Obligations.SessionsAndLeases := by
  intro h
  obtain ⟨-, -, hclose, -⟩ := h servesSession.1 servesSession.2
  obtain ⟨t, ht, -, hctx, -⟩ :=
    hclose closeWithBody 5 idleCtx (by decide +kernel) (by decide +kernel) (by decide +kernel)
  obtain rfl := Host.Outcome.next.inj ((next_live servesSession.2 _).symm.trans ht)
  have hkept := closeWithBody_ctx
  rw [hctx] at hkept
  cases hkept

/-! What a state holds besides the commit engine's own bookkeeping. -/

/-- The commit engine at reset, which stands for what an observation leaves out of it. -/
def blankCmt : Cmt := State.reset.cmt

/-- What stays of a state where the programming of lines, the pipeline's bookkeeping and the stamps are left out. -/
def outside (s : State) : State :=
  { s with
    rf.cur := [], clk.lastStamp := 0, arr.tags := [], arr.extEpochs := []
    cmt := { blankCmt with
      pipe := s.cmt.pipe, auditHeld := s.cmt.auditHeld, s1wait := s.cmt.s1wait } }

section
variable {s t : State} (h : outside t = outside s)
include h

theorem outside_pipe : t.cmt.pipe = s.cmt.pipe := (congrArg (fun u : State => u.cmt.pipe) h :)
theorem outside_s1wait : t.cmt.s1wait = s.cmt.s1wait := (congrArg (fun u : State => u.cmt.s1wait) h :)
theorem outside_auditHeld : t.cmt.auditHeld = s.cmt.auditHeld := (congrArg (fun u : State => u.cmt.auditHeld) h :)
theorem outside_txQ : t.lnk.txQ = s.lnk.txQ := (congrArg (fun u : State => u.lnk.txQ) h :)
theorem outside_tagIndex : t.tagIndex = s.tagIndex := (congrArg State.tagIndex h :)
theorem outside_cid : t.cid = s.cid := (congrArg State.cid h :)
theorem outside_knellRunning : t.knellRunning = s.knellRunning := (congrArg State.knellRunning h :)
theorem outside_pealReady : t.pealReady = s.pealReady := (congrArg State.pealReady h :)
theorem nothingWaits_outside (hs : nothingWaits s) : nothingWaits t := Eq.mpr (congrArg nothingWaits h :) hs

end

/-- The pipeline is set, whatever is left out. -/
theorem outside_withPipe {s t : State} (h : outside t = outside s) {l m : List PipeRec} (hlm : l = m) :
    outside { t with cmt.pipe := l } = outside { s with cmt.pipe := m } := by
  subst hlm
  have hl := congrArg (fun u : State => { u with cmt.pipe := l }) h
  simpa only [outside] using hl

/-- Records join the pipeline, whatever is left out. -/
theorem outside_append {s t : State} (h : outside t = outside s) (l : List PipeRec) :
    outside { t with cmt.pipe := t.cmt.pipe ++ l } = outside { s with cmt.pipe := s.cmt.pipe ++ l } :=
  outside_withPipe h (congrArg (fun u : State => u.cmt.pipe ++ l) h :)

/-- The pipeline and the link's packet state are set, whatever is left out. -/
theorem outside_withLnkPipe {s t : State} {q : List PipeRec} (h : outside t = outside { s with cmt.pipe := q })
    (l : Lnk) (p : List PipeRec) :
    outside { t with lnk := l, cmt.pipe := p } = outside { s with lnk := l, cmt.pipe := p } := by
  have hl := congrArg (fun u : State => { u with lnk := l, cmt.pipe := p }) h
  simpa only [outside] using hl

/-- The pipeline is emptied behind such a change. -/
theorem outside_withoutPipe {s w t : State} {l m : Lnk} {v : List Void} {p : List PipeRec}
    (ht : outside t = outside { w with lnk := m, arr.voids := v, cmt.pipe := [] })
    (hw : outside w = outside { s with lnk := l, cmt.pipe := p }) :
    outside t = outside { s with lnk := m, arr.voids := v, cmt.pipe := [] } := by
  have hl := congrArg (fun u : State => { u with lnk := m, arr.voids := v, cmt.pipe := [] }) hw
  refine ht.trans ?_
  simpa only [outside] using hl

/-! What the operations of the commit engine leave. -/

theorem State.touchAll_outside (s : State) (ls : List Prog) : outside (s.touchAll ls) = outside s :=
  State.touchAll_keeps (m := outside) (fun _ _ _ _ => rfl) s ls

theorem State.raise_outside (s : State) (o n : Nat) : outside (s.raise o n) = outside s :=
  State.raise_keeps (m := outside) (fun _ _ => rfl) s o n

theorem State.rejectCopy_outside (s : State) (bit : Nat) : outside (s.rejectCopy bit) = outside s :=
  State.raise_outside _ _ _

theorem State.stamp_outside (s : State) : outside s.stamp = outside s := rfl

theorem State.setSeq_outside (s : State) (loc cls : Nat) (w : Word) : outside (s.setSeq loc cls w) = outside s := by
  unfold State.setSeq
  split <;> rfl

theorem State.restoreStream_outside (s : State) (src : BitVec 16) (cls : Nat) (prev : Option Word) :
    outside (s.restoreStream src cls prev) = outside s := by
  unfold State.restoreStream
  split <;> rfl

/-- S2 in a pooled partition (R78, R83). -/
theorem State.allocate_pooled (s : State) (r : Rec) (hook : Hook) (ra checked : Bool) (credits : Option (Cls × Nat))
    (openFrame : Option Cls) (prev : Option (Option Word)) (hpart : r.hdr.part = 7) :
    ∃ id n first news, outside (s.allocate r hook ra checked 0 0 credits openFrame prev) =
      outside { s with cmt.pipe := s.cmt.pipe ++
        [newPipe id r n first 0 news ra checked hook prev openFrame credits] } := by
  unfold State.allocate
  simp only [hpart, State.roomAtHead, isLatest]
  exact ⟨_, _, _, _, rfl⟩

/-- A PEER_COPY record passes S1 (R35, R83). -/
theorem State.placeOwn_pooled (s : State) (r : Rec) (hook : Hook) (ra checked : Bool) (openFrame : Option Cls)
    (hpart : r.hdr.part = 7) :
    ∃ id n first news prev, outside (s.placeOwn r hook ra checked 0 0 openFrame) =
      outside { s with cmt.pipe := s.cmt.pipe ++
        [newPipe id (numbered s r) n first 0 news ra checked hook prev openFrame none] } := by
  unfold State.placeOwn
  extract_lets h prev q r' t
  have ht : outside t = outside s := State.setSeq_outside s _ _ _
  obtain ⟨id, n, first, news, halloc⟩ := t.allocate_pooled r' hook ra checked none openFrame (some prev) hpart
  exact ⟨id, n, first, news, some prev, halloc.trans (outside_append ht _)⟩

theorem State.runLast_outside (s : State) : outside s.runLast = outside s := by
  unfold State.runLast State.runAheadLines
  split
  · split
    · exact State.touchAll_outside _ _
    · rfl
  · rfl

/-! A frame's credits. -/

/-- Returning credits changes the link's packet state, and there nothing that is to be sent (R224). -/
theorem State.releaseCredits_lnk (s : State) (c n : Nat) :
    ∃ l, s.releaseCredits c n = { s with lnk := l } ∧ l.txQ = s.lnk.txQ := by
  unfold State.releaseCredits State.freeSpace
  dsimp only
  split
  · exact ⟨_, rfl, rfl⟩
  split
  · exact ⟨_, rfl, rfl⟩
  split
  · exact ⟨_, rfl, rfl⟩
  split
  · exact ⟨_, rfl, rfl⟩
  · unfold State.knellTurn
    split
    · exact ⟨_, rfl, rfl⟩
    · exact ⟨_, rfl, rfl⟩

theorem State.takeDone_lnk (s : State) (c : Nat) :
    ∃ l, (s.takeDone c).1 = { s with lnk := l } ∧ l.txQ = s.lnk.txQ := by
  unfold State.takeDone
  split
  · exact ⟨_, rfl, rfl⟩
  · exact ⟨_, rfl, rfl⟩

theorem State.freeFrame_lnk (s : State) (c : Nat) :
    ∃ l, s.freeFrame c = { s with lnk := l } ∧ l.txQ = s.lnk.txQ := by
  obtain ⟨l, hl, htx⟩ := s.takeDone_lnk c
  obtain ⟨m, hm, htx'⟩ := State.releaseCredits_lnk { s with lnk := l } c (s.takeDone c).2
  exact ⟨m, (congrArg (fun u => u.releaseCredits c (s.takeDone c).2) hl).trans hm, htx'.trans htx⟩

theorem State.discardFrame_lnk (s : State) (c : Nat) :
    ∃ l, s.discardFrame c = { s with lnk := l } ∧ l.txQ = s.lnk.txQ := by
  unfold State.discardFrame
  split
  · exact State.releaseCredits_lnk _ _ _
  · split
    · exact State.releaseCredits_lnk _ _ _
    · exact ⟨_, rfl, rfl⟩

/-! The frame command and the header of a COPY. -/

/-- The one COPY frame that waits is served (R85). -/
theorem State.serveFrames_copy {s u : State} {ph : FramePhase} {h : CopyHdr} {body : List Byte}
    (hevent : s.peal.eventWait = []) (hcopy : s.peal.copyWait = [.pealCopyFrame ph h body])
    (hrun : State.runCopy { s with peal.copyWait := [] } ph h body = some u) : s.serveFrames = u := by
  simp only [hevent] at hrun
  simp only [State.serveFrames, hevent, List.length_nil, State.serveEvents, hcopy, List.length_singleton,
    State.serveCopies, hrun]

/-- A whole COPY frame of a tag where nothing waits is served at once (R85, R284). -/
theorem exec_copyFrame {s u : State} {h : CopyHdr} {body : List Byte} (hruns : runs s)
    (hknell : s.knellRunning = false) (hlink : s.linkOn = true) (hidle : nothingWaits s)
    (hu : (s.copyHeader h body).map (fun v => v.copyEnd .good h body) = some u) (hidle' : nothingWaits u) :
    exec (.pealCopyFrame (.whole .good) h body) s = .next u := by
  obtain ⟨-, -, hevent, hcopy, -⟩ := hidle
  have hsame : { s with peal.copyWait := [] } = s := by rw [← hcopy]
  have hserved : s.effPealCopyFrame (.whole .good) h body = u := by
    unfold State.effPealCopyFrame
    rw [if_neg (by simp [hknell, hlink])]
    refine State.serveFrames_copy hevent (by rw [hcopy]; rfl) (Eq.trans ?_ hu)
    exact congrArg (fun v => State.runCopy v (.whole .good) h body) hsame
  exact (next_live hruns _).trans (congrArg _ ((congrArg State.serveAll hserved).trans (serveAll_idle hidle')))

/-- The tag after the header of a COPY that it takes: the frame's record `q` is alone in the pipeline, open. -/
structure CopyOpen (s v : State) (body : List Byte) (q : PipeRec) : Prop where
  rest : outside v = outside { s with cmt.pipe := [q] }
  openFrame : q.openFrame = some .peal
  unsealed : q.sealed = false
  hook : q.hook = .copy (copyIdentity body).1 (copyIdentity body).2
  length : q.record.hdr.length = body.length
  names : (q.record.hdr.typ, q.record.hdr.source, q.record.hdr.part) = (0x50#8, s.source 7, 7)

theorem slice_whole (body : List Byte) : slice body 0 body.length = body := by
  simpa using slice_front body []

section
variable {s : State} {h : CopyHdr} {body : List Byte} (hready : s.pealReady = true) (horigin : h.origin ≠ s.tagIndex)
  (hlow : 64 ≤ body.length) (hhigh : body.length ≤ 4032) (hlen : body.length = 64 + copyPayload body)
  (hnew : s.holdsCopy body = false) (hopen : s.s1Open = true) (hwait : s.cmt.s1wait = [])
  (haudit : s.cmt.auditHeld = []) (hpipe : s.cmt.pipe = [])
include hready horigin hlow hhigh hlen hnew hopen hwait haudit hpipe

/-- The header of a COPY passes its tests, and S1 takes its record at once (R284, R285). -/
theorem State.copyHeader_takes :
    ∃ ra, s.copyHeader h body = some (State.runLast (s.stamp.placeOwn
      (s.newInternal 7 3 0x50#8 (flagPeer ||| flagFirst ||| flagLast) (slice body 0 body.length))
      (.copy (copyIdentity body).1 (copyIdentity body).2) ra false 0 0 (some .peal))) := by
  have hroom : s.hasRoom (sectorsOf body.length) = true := by
    simp [State.hasRoom, State.pipeSectors, total, hpipe, sectorsOf, ceilDiv]
    omega
  have hheld : s.heldAudit = none := by simp [State.heldAudit, haudit]
  have hshort : ¬ body.length < 32 := by omega
  refine ⟨16 < sectorsOf body.length && !s.raDis, ?_⟩
  unfold State.copyHeader
  rw [← hlen]
  simp [hready, horigin, hshort, Nat.not_lt.2 hhigh, hnew, hopen, hwait, hheld, hroom]

/-- The record stands open and alone in the pipeline. -/
theorem State.copyHeader_open :
    ∃ v q, s.copyHeader h body = some v ∧ CopyOpen s v body q := by
  obtain ⟨ra, htakes⟩ :=
    State.copyHeader_takes hready horigin hlow hhigh hlen hnew hopen hwait haudit hpipe
  obtain ⟨id, n, first, news, prev, hplaced⟩ := s.stamp.placeOwn_pooled
    (s.newInternal 7 3 0x50#8 (flagPeer ||| flagFirst ||| flagLast) (slice body 0 body.length))
    (.copy (copyIdentity body).1 (copyIdentity body).2) ra false (some .peal) rfl
  exact ⟨_, _, htakes, {
    rest := ((State.runLast_outside _).trans hplaced).trans
      (outside_withPipe s.stamp_outside (congrArg (fun l => l ++ _) hpipe))
    openFrame := rfl, unsealed := rfl, hook := rfl, length := congrArg List.length (slice_whole body), names := rfl }⟩

end

/-! The end of a COPY. -/

theorem openRec_only {v : State} {q : PipeRec} (hpipe : v.cmt.pipe = [q]) (hq : q.openFrame = some .peal) :
    v.openRec .peal = some q := by
  simp [State.openRec, hpipe, hq]

theorem setPipe_only {v : State} {q p : PipeRec} (hpipe : v.cmt.pipe = [q]) (hid : q.id = p.id) :
    v.setPipe p = { v with cmt.pipe := [p] } := by
  simp [State.setPipe, hpipe, hid]

/-- The end of a COPY under the tag's own index, whose header has left no record, frees its frame (R284). -/
theorem State.copyEnd_ownIndex {v : State} {h : CopyHdr} {body : List Byte} (hpipe : v.cmt.pipe = [])
    (hready : v.pealReady = true) (horigin : h.origin = v.tagIndex) (hlen : body.length = 64 + copyPayload body) :
    v.copyEnd .good h body = v.freeFrame 3 := by
  obtain ⟨l, hl, -⟩ := v.freeFrame_lnk 3
  have hready' : (v.freeFrame 3).pealReady = true := by rw [hl]; exact hready
  have horigin' : h.origin = (v.freeFrame 3).tagIndex := by rw [hl]; exact horigin
  have hnone : v.openRec .peal = none := by simp [State.openRec, hpipe]
  have hend : v.endUnstored 3 (v.pealReady && h.origin != v.tagIndex &&
      (body.length < 32 || 4032 < 64 + copyPayload body)) (lengthCheck (64 + copyPayload body) .good body) =
      v.freeFrame 3 := by
    simp [State.endUnstored, lengthCheck, ← hlen]
  unfold State.copyEnd
  rw [hnone]
  dsimp only
  rw [hend, if_neg (by simp [← hlen]), if_neg (by simp [hready']), if_pos (by simp [horigin'])]

/-- The end of a frame that passes all its tests: its record has the frame's body and is checked (R285). -/
theorem State.copyEnd_stored {v : State} {q : PipeRec} {h : CopyHdr} {body : List Byte} (hpipe : v.cmt.pipe = [q])
    (hopen : q.openFrame = some .peal) (hlen : q.record.hdr.length = body.length) (hcid : h.cid = v.cid)
    (hverify : copyVerifies body = true) :
    ∃ l p, l.txQ = v.lnk.txQ ∧ p.record = { q.record with payload := body } ∧ p.checked = true ∧
      v.copyEnd .good h body = { v with lnk := l, cmt.pipe := [p] } := by
  obtain ⟨l, hl, htx⟩ := v.takeDone_lnk 3
  refine ⟨l, { q with
    openFrame := none, credits := some (Cls.peal, (v.takeDone 3).2), checked := true
    record := { q.record with payload := body } }, htx, rfl, rfl, ?_⟩
  have hcid' : h.cid = (v.takeDone 3).1.cid := by rw [hl]; exact hcid
  unfold State.copyEnd
  rw [openRec_only hpipe hopen]
  dsimp only
  rw [if_neg (by simp [hlen]), if_neg (by simp [← hcid']), if_neg (by simp [hverify]), hl]
  exact setPipe_only (v := { v with lnk := l }) hpipe rfl

/-- The end of a frame of another Carillon: its record goes and the origin is told (R284, R287). -/
theorem State.copyEnd_foreign {v : State} {q : PipeRec} {h : CopyHdr} {body : List Byte} (hpipe : v.cmt.pipe = [q])
    (hopen : q.openFrame = some .peal) (hlen : q.record.hdr.length = body.length) (hcid : h.cid ≠ v.cid) :
    ∃ l p, l.txQ = v.lnk.txQ ∧ p.sealed = q.sealed ∧ p.hook = q.hook ∧ v.copyEnd .good h body =
      (State.drop (State.rejectCopy { v with lnk := l, cmt.pipe := [p] } 4) p).sendPack 3 h.origin h.cid
        (copyIdentity body).2 := by
  obtain ⟨l, hl, htx⟩ := v.takeDone_lnk 3
  refine ⟨l, { q with openFrame := none, credits := some (Cls.peal, (v.takeDone 3).2) }, htx, rfl, rfl, ?_⟩
  have hcid' : h.cid ≠ (v.takeDone 3).1.cid := by rw [hl]; exact hcid
  unfold State.copyEnd
  rw [openRec_only hpipe hopen]
  dsimp only
  rw [if_neg (by simp [hlen]), if_pos (by simp [hcid']), hl]
  exact congrArg (fun u => (State.drop (State.rejectCopy u 4) _).sendPack 3 h.origin h.cid (copyIdentity body).2)
    (setPipe_only (v := { v with lnk := l }) hpipe rfl)

/-- The place of a record that is undone (R92). -/
theorem State.vacate_outside (s : State) (part sector n : Nat) (line : List Prog) :
    ∃ v, outside (s.vacate part sector n line) = outside { s with arr.voids := v } := by
  unfold State.vacate
  split
  · exact ⟨s.arr.voids, rfl⟩
  split
  · exact ⟨s.arr.voids, rfl⟩
  · exact ⟨_, State.touchAll_outside _ _⟩

theorem splitAt_only (p : PipeRec) : State.splitAt [p] p.id = ([], []) := by
  simp [State.splitAt]

/-- The one record of the pipeline is undone before S7 (R92). -/
theorem State.undoRec_only {s : State} {p : PipeRec} (hpipe : s.cmt.pipe = [p]) (hp : p.sealed = false) :
    ∃ v, outside (s.undoRec p) = outside { s with arr.voids := v, cmt.pipe := [] } := by
  unfold State.undoRec
  extract_lets q
  have hq : q = p := by simp [q, State.pipeRec, hpipe]
  clear_value q
  subst hq
  rw [hpipe, splitAt_only]
  dsimp -zeta only
  extract_lets s1 s2 s3 s4
  obtain ⟨v, hvacated⟩ := s1.vacate_outside q.record.hdr.part q.sector q.sectors (s.pipeLines q 0 1)
  have hstream : outside s3 = outside s2 := by
    unfold s3
    split
    · split
      · dsimp only
        split
        · exact (State.setSeq_outside _ _ _ _).trans (State.restoreStream_outside _ _ _ _)
        · exact State.restoreStream_outside _ _ _ _
      · rfl
    · rfl
  have hnumber : outside s4 = outside s3 := by
    unfold s4
    split
    · exact State.setSeq_outside _ _ _ _
    · rfl
  refine ⟨v, ?_⟩
  rw [if_neg (by simp [hp])]
  exact hnumber.trans (hstream.trans hvacated)

/-- The one record of the pipeline is abandoned before S7 with its frame's credits, when nothing waits for S1. -/
theorem State.drop_only {s : State} {p : PipeRec} {k n : Nat} (hpipe : s.cmt.pipe = [p]) (hp : p.sealed = false)
    (hhook : p.hook = .copy k n) (hwait : s.cmt.s1wait = []) (haudit : s.cmt.auditHeld = []) :
    ∃ l v, l.txQ = s.lnk.txQ ∧
      outside (s.drop p) = outside { s with lnk := l, arr.voids := v, cmt.pipe := [] } := by
  obtain ⟨v, hundone⟩ := State.undoRec_only hpipe hp
  have hleads : s.leads p = [] := by simp [State.leads, hpipe, splitAt_only]
  have hdropped : s.dropRec p = (s.abandon p).releaseRec p := by
    unfold State.dropRec State.noticeAbandon
    simp only [hleads, hhook]
    rfl
  have hreleased : ∃ l, (s.abandon p).releaseRec p = { s.abandon p with lnk := l } ∧
      l.txQ = (s.abandon p).lnk.txQ := by
    unfold State.releaseRec
    split
    · exact State.releaseCredits_lnk _ _ _
    · exact ⟨_, rfl, rfl⟩
  obtain ⟨l, hl, htx⟩ := hreleased
  have habandoned : outside (s.abandon p) = outside { s with arr.voids := v, cmt.pipe := [] } := hundone
  have hlnk : outside (s.dropRec p) = outside { s with lnk := l, arr.voids := v, cmt.pipe := [] } := by
    rw [hdropped, hl]
    exact congrArg (fun u : State => { u with lnk := l }) habandoned
  refine ⟨l, v, htx.trans (outside_txQ habandoned :), Eq.trans ?_ hlnk⟩
  have hw : (s.dropRec p).cmt.s1wait = [] := (outside_s1wait hlnk :).trans hwait
  have ha : (s.dropRec p).cmt.auditHeld = [] := (outside_auditHeld hlnk :).trans haudit
  simp [State.drop, State.drain, hw, ha, State.drainWait]

theorem countBy_canonical {s : State} (h : regsCanonical s = true) (o hi lo n : Nat) :
    regsCanonical (s.countBy o hi lo n) = true := by
  obtain ⟨-, hmaps, -⟩ := State.countBy_kept s o hi lo n (Kept.refl false s)
  obtain ⟨hcur, hforce, hpend⟩ := hmaps h
  simp only [regsCanonical, hcur, hforce, hpend, Bool.and_self]

/-- A bit of PEAL_STATUS, which feeds no source of the Tocsin (R288, R495). -/
theorem raise_pealStatus {s : State} (h : regsCanonical s = true) {n : Nat} (hn : (Word.oneBit n).getLsbD n = true) :
    ((s.raise 0x230 n).reg 0x230).bit n = true := by
  have hraise : s.raise 0x230 n = s.setReg 0x230 (s.reg 0x230 ||| Word.oneBit n) := rfl
  rw [hraise, State.setReg_reg _ _ _ h]
  simp [Word.bit, hn]

theorem State.rejectCopy_rf (s : State) (bit : Nat) : s.rejectCopy bit = { s with rf := (s.rejectCopy bit).rf } :=
  raise_eq _ _ _

theorem State.sendPack_eq {s : State} (hknell : s.knellRunning = false) (result origin : Nat) (cid : Word)
    (stroke : Nat) :
    s.sendPack result origin cid stroke = { s with
      lnk.txQ := s.lnk.txQ ++ cutPackets .peal 64 true (frameBytes
        ([2#8, BitVec.ofNat 8 s.tagIndex, BitVec.ofNat 8 result, BitVec.ofNat 8 origin] ++ wordBytes cid ++
          leBytes 8 stroke) []) } :=
  if_neg (by simp [hknell])

/-- A COPY under the tag's own index is rejected at its header, and its frame leaves nothing (R284). -/
theorem copyFrame_ownIndex {s : State} {h : CopyHdr} {body : List Byte} (hready : s.pealReady = true)
    (hpipe : s.cmt.pipe = []) (horigin : h.origin = s.tagIndex) (hlen : body.length = 64 + copyPayload body) :
    ∃ l, l.txQ = s.lnk.txQ ∧ (s.copyHeader h body).map (fun v => v.copyEnd .good h body) =
      some { s.rejectCopy 8 with lnk := l } := by
  have hheader : s.copyHeader h body = some ((s.rejectCopy 8).discardFrame 3) := by
    simp [State.copyHeader, hready, horigin]
  have hkept := s.rejectCopy_outside 8
  rw [hheader, Option.map_some]
  generalize s.rejectCopy 8 = w at hkept ⊢
  obtain ⟨l, hl, htx⟩ := w.discardFrame_lnk 3
  obtain ⟨m, hm, htx'⟩ := State.freeFrame_lnk { w with lnk := l } 3
  have hpipe' : w.cmt.pipe = [] := (outside_pipe hkept :).trans hpipe
  have hready' : w.pealReady = true := (outside_pealReady hkept :).trans hready
  have horigin' : h.origin = w.tagIndex := horigin.trans (outside_tagIndex hkept :).symm
  refine ⟨m, htx'.trans (htx.trans (outside_txQ hkept :)), congrArg some ?_⟩
  rw [hl]
  exact (State.copyEnd_ownIndex (v := { w with lnk := l }) hpipe' hready' horigin' hlen).trans hm

/-- The packets of the PACK that answers a COPY of another Carillon (R277, R287; log entry 53). -/
def foreignPack (s : State) (h : CopyHdr) (body : List Byte) : List TxPkt :=
  cutPackets .peal 64 true (frameBytes ([2#8, BitVec.ofNat 8 s.tagIndex, 3#8, BitVec.ofNat 8 h.origin] ++
    wordBytes h.cid ++ leBytes 8 (copyIdentity body).2) [])

/-- A COPY of another Carillon: its record goes at the frame's end, and the origin is told (R284, R287). -/
theorem copyEnd_foreign_outside {s v : State} {h : CopyHdr} {body : List Byte} {q : PipeRec}
    (hopen : CopyOpen s v body q) (hknell : s.knellRunning = false) (hwait : s.cmt.s1wait = [])
    (haudit : s.cmt.auditHeld = []) (hcid : h.cid ≠ s.cid) :
    ∃ l voids, outside (v.copyEnd .good h body) =
      outside { s with lnk := l, arr.voids := voids, cmt.pipe := [] } ∧
      l.txQ = s.lnk.txQ ++ foreignPack s h body := by
  obtain ⟨hrest, hframe, hunsealed, hhook, hlength, -⟩ := hopen
  have hpipe : v.cmt.pipe = [q] := (outside_pipe hrest :)
  have hcid' : h.cid ≠ v.cid := hcid.trans_eq (outside_cid hrest :).symm
  obtain ⟨l, p, htx, hsealed, hphook, hend⟩ := State.copyEnd_foreign hpipe hframe hlength hcid'
  have hrejected := State.rejectCopy_outside { v with lnk := l, cmt.pipe := [p] } 4
  generalize State.rejectCopy { v with lnk := l, cmt.pipe := [p] } 4 = w at hend hrejected
  have hw : outside w = outside { s with lnk := l, cmt.pipe := [p] } :=
    hrejected.trans (outside_withLnkPipe hrest l [p])
  have hwpipe : w.cmt.pipe = [p] := (outside_pipe hw :)
  have hwwait : w.cmt.s1wait = [] := (outside_s1wait hw :).trans hwait
  have hwaudit : w.cmt.auditHeld = [] := (outside_auditHeld hw :).trans haudit
  obtain ⟨m, voids, htx', hdrop⟩ :=
    State.drop_only hwpipe (hsealed.trans hunsealed) (hphook.trans hhook) hwwait hwaudit
  have hgone : outside (w.drop p) = outside { s with lnk := m, arr.voids := voids, cmt.pipe := [] } :=
    outside_withoutPipe hdrop hw
  have hqueue : m.txQ = s.lnk.txQ :=
    htx'.trans ((outside_txQ hw :).trans (htx.trans (outside_txQ hrest :)))
  generalize w.drop p = d at hend hgone
  have hquiet : d.knellRunning = false := (outside_knellRunning hgone :).trans hknell
  have hindex : d.tagIndex = s.tagIndex := (outside_tagIndex hgone :)
  have hsent : d.lnk.txQ = s.lnk.txQ := (outside_txQ hgone :).trans hqueue
  rw [hend, State.sendPack_eq hquiet, hindex, hsent]
  exact ⟨{ m with txQ := s.lnk.txQ ++ foreignPack s h body }, voids,
    congrArg (fun u : State => { u with lnk.txQ := s.lnk.txQ ++ foreignPack s h body }) hgone, rfl⟩

/-- Settles O34, clause by clause: a COPY that is stored, one under the tag's own index, one of another Carillon, and
the start of a bundle's mirroring. -/
theorem copiesAndBundles : Obligations.CopiesAndBundles := by
  intro s hruns hknell hready
  refine ⟨?stored, ?ownIndex, ?foreign, ?bundle⟩
  case stored =>
    intro h body n hidle hlink hopen hpipe hlen hlow hhigh hnew _ horigin hcid hverify
    obtain ⟨haudit, hwait, -⟩ := id hidle
    obtain ⟨v, q, hheader, hcopy⟩ :=
      State.copyHeader_open hready horigin hlow hhigh hlen hnew hopen hwait haudit hpipe
    obtain ⟨hrest, hframe, -, -, hlength, hnames⟩ := hcopy
    have hpipe' : v.cmt.pipe = [q] := (outside_pipe hrest :)
    have hcid' : h.cid = v.cid := hcid.trans (outside_cid hrest :).symm
    obtain ⟨l, p, htx, hrecord, hchecked, hend⟩ := State.copyEnd_stored hpipe' hframe hlength hcid' hverify
    have hidle' : nothingWaits v := nothingWaits_outside (s := { s with cmt.pipe := [q] }) hrest hidle
    refine ⟨_, exec_copyFrame hruns hknell hlink hidle ((congrArg _ hheader).trans (congrArg some hend)) hidle',
      ?_, ?_, ?_⟩
    · simp only [Prod.mk.injEq] at hnames
      obtain ⟨htyp, hsource, hpart⟩ := hnames
      simp [hrecord, hchecked, htyp, hsource, hpart]
    · exact htx.trans (outside_txQ hrest :)
    · exact congrArg (fun u : State => { u with
        rf := s.rf, lnk := s.lnk, pwr.domOn := s.pwr.domOn, cmt := s.cmt, clk.lastStamp := s.clk.lastStamp
        arr.tags := s.arr.tags, arr.extEpochs := s.arr.extEpochs }) hrest
  case ownIndex =>
    intro h body n hidle hlink hopen hpipe hlen hlow hhigh hnew _ horigin
    obtain ⟨l, htx, hframe⟩ := copyFrame_ownIndex hready hpipe horigin hlen
    have hkept := s.rejectCopy_outside 8
    have hidle' : nothingWaits (s.rejectCopy 8) := nothingWaits_outside hkept hidle
    refine ⟨_, exec_copyFrame hruns hknell hlink hidle hframe hidle',
      (outside_pipe hkept :).trans hpipe, htx, ?_, ?_⟩
    · intro hcanonical
      exact raise_pealStatus (countBy_canonical hcanonical 0x240 31 16 1) (by decide)
    · rw [State.rejectCopy_rf]
  case foreign =>
    intro h body n hidle hlink hopen hpipe hlen hlow hhigh hnew _ horigin hcid
    obtain ⟨haudit, hwait, -⟩ := id hidle
    obtain ⟨v, q, hheader, hcopy⟩ :=
      State.copyHeader_open hready horigin hlow hhigh hlen hnew hopen hwait haudit hpipe
    obtain ⟨l, voids, hgone, htold⟩ := copyEnd_foreign_outside hcopy hknell hwait haudit hcid
    exact ⟨_, exec_copyFrame hruns hknell hlink hidle (congrArg _ hheader) (nothingWaits_outside hgone hidle),
      (outside_pipe hgone :), (outside_txQ hgone :).trans htold⟩
  case bundle =>
    intro k q d hwired hactive hslots hunsettled hbacklog hdegree hd
    obtain ⟨r, hr, hdr⟩ := List.map_eq_singleton_iff.1 hdegree
    have hstart : s.effKnellMirrorStart = { s with
        peal.backlog :=
          [{ stroke := r.record.hdr.stroke, degree := d, set := s.peal.peers.getD 1 0#64, slot := some k }] } := by
      simp [State.effKnellMirrorStart, hwired, hknell, hactive, hready, hslots, hunsettled, hbacklog, hr, hdr, hd,
        State.settleSlot]
    refine ⟨_, next_live hruns _, ?_, ?_⟩
    · rw [hstart, hr]; rfl
    · rw [hstart, ← hbacklog]

end Sys2Proof.Machine
end

section
/-! The statements of the family of the field memory and its commands. What the field engine answers, what brings a
field write to its admission, and what an admitted one leaves are lemmas of their own; the clauses are short uses of
them. One statement fails, where a configuration word that waits for the admission changes its verdict. -/

namespace Sys2Proof.Machine

/-! The registers that a field command writes. -/

/-- A bit of a status register that feeds no source of the Tocsin (R495). -/
theorem State.raise_setReg {o : Nat} (hsrc : alertSource o = none) (s : State) (n : Nat) :
    s.raise o n = s.setReg o (s.reg o ||| Word.oneBit n) := by
  unfold State.raise State.raiseBits
  rw [hsrc]

theorem raise_bit {s : State} (h : regsCanonical s = true) {o n : Nat} (hsrc : alertSource o = none)
    (hn : (Word.oneBit n).getLsbD n = true) : ((s.raise o n).reg o).bit n = true := by
  rw [State.raise_setReg hsrc, State.setReg_reg _ _ _ h]
  simp [Word.bit, hn]

theorem raise_canonical {s : State} (h : regsCanonical s = true) (o n : Nat) : regsCanonical (s.raise o n) = true := by
  obtain ⟨-, hmaps, -⟩ := State.raise_kept s o n (Kept.refl false s)
  obtain ⟨hcur, hforce, hpend⟩ := hmaps h
  simp only [regsCanonical, hcur, hforce, hpend, Bool.and_self]

theorem countBy_reg_other (s : State) {o p : Nat} (hi lo n : Nat) (h : p ≠ o) :
    (s.countBy o hi lo n).reg p = s.reg p :=
  State.setReg_reg_other s o p _ h

/-- A counter that fills its register (R12). -/
theorem count_reg {s : State} (h : regsCanonical s = true) (o : Nat) :
    (s.count o).reg o = BitVec.ofNat 32 (saturate 4294967295 ((s.reg o).toNat + 1)) := by
  have hnone : s.reg o &&& ~~~ (Word.maskOf 31 0) = 0#32 := by
    rw [show ~~~ (Word.maskOf 31 0) = 0#32 from by decide, BitVec.and_zero]
  have hfield : (s.reg o).field 31 0 = (s.reg o).toNat := by
    simp only [Word.field, Nat.pow_zero, Nat.div_one]
    exact Nat.mod_eq_of_lt (s.reg o).isLt
  refine (State.setReg_reg s o _ h).trans ?_
  rw [hnone, hfield, BitVec.zero_or]
  simp [Word.place]

/-- A counter in the last byte of its register (R362). -/
theorem countBy_lastByte {s : State} (h : regsCanonical s = true) (o : Nat) :
    (s.countBy o 7 0 1).reg o =
      (s.reg o &&& 0xFFFFFF00#32) ||| BitVec.ofNat 32 (saturate 255 ((s.reg o).toNat % 256 + 1)) := by
  refine (State.setReg_reg s o _ h).trans ?_
  rw [show ~~~ (Word.maskOf 7 0) = 0xFFFFFF00#32 from by decide]
  simp [Word.place, Word.field]

/-! What the field engine sends. -/

/-- The field engine answers: a field session runs and FLD_CTRL.EN is set (R292, R312). -/
abbrev answers (s : State) : Prop := 5 ≤ s.fld.st ∧ s.cfgBit 0x2A0 0 = true

theorem State.backscatter_answers {s : State} (h : answers s) (r : Reply) :
    s.backscatter r = { s with fldx.reply := r } := by
  obtain ⟨hst, hen⟩ := h
  have hne : s.fld.st ≠ 0 := by omega
  simp [State.backscatter, hen, hne]

theorem State.answerData_answers {s : State} (h : answers s) (b : List Byte) :
    s.answerData b = State.countBy { s with fldx.reply := .data b } 0x2D8 15 0 1 := by
  unfold State.answerData
  rw [State.backscatter_answers h]
  rfl

/-- An error reply changes the counters of refusals only (R362). -/
theorem State.fieldError_answers {s : State} (h : answers s) (code : Nat) :
    s.fieldError code = { s with fldx.reply := .error code, rf := (s.fieldError code).rf } := by
  unfold State.fieldError
  rw [State.backscatter_answers h]
  dsimp only
  rw [if_neg (by simp)]
  split
  · rfl
  split
  · rfl
  split
  · rfl
  split <;> rfl

/-- Insufficient power is not a refusal that is counted (R362). -/
theorem State.fieldError_power {s : State} (h : answers s) :
    s.fieldError 0x0B = { s with fldx.reply := .error 0x0B } := by
  unfold State.fieldError
  rw [State.backscatter_answers h]
  rfl

theorem State.fieldError_busy {s : State} (h : answers s) :
    s.fieldError 0x0F = State.countBy { s with fldx.reply := .error 0x0F } 0x2DC 7 0 1 := by
  unfold State.fieldError
  rw [State.backscatter_answers h]
  rfl

theorem State.fieldError_locked {s : State} (h : answers s) :
    s.fieldError 0x04 = State.countBy { s with fldx.reply := .error 0x04 } 0x2DC 31 24 1 := by
  unfold State.fieldError
  rw [State.backscatter_answers h]
  rfl

theorem answers_raise {s : State} (h : answers s) (o n : Nat) : answers (s.raise o n) := by
  rw [answers, raise_eq s o n, State.cfgBit]
  exact ⟨h.1, (congrArg (fun w => Word.bit w 0) (raise_force s o n 0x2A0)).trans h.2⟩

/-- A field write refused for a lock: only the registers and the reply change (R331). -/
theorem State.refuseWrite_lock {s : State} (h : answers s) :
    s.refuseWrite false = { s with fldx.reply := .error 0x04, rf := (s.refuseWrite false).rf } := by
  unfold State.refuseWrite
  rw [State.fieldError_locked (answers_raise h _ _), raise_eq]
  rfl

theorem State.refuseWrite_writeLocked {s : State} (h : answers s) (hcanonical : regsCanonical s = true) :
    ((s.refuseWrite false).reg 0x2D0).bit 1 = true := by
  unfold State.refuseWrite
  rw [State.fieldError_locked (answers_raise h _ _), countBy_reg_other _ _ _ _ (by decide)]
  exact raise_bit hcanonical (by decide) (by decide)

/-- What a field write refused for a lock answers and leaves (R331). -/
theorem State.refuseWrite_answer {s : State} (h : answers s) :
    (s.refuseWrite false).fldx.reply = .error 0x04 ∧
      (regsCanonical s = true → ((s.refuseWrite false).reg 0x2D0).bit 1 = true) ∧
      { s.refuseWrite false with rf := s.rf, fldx.reply := s.fldx.reply } = s := by
  refine ⟨?_, State.refuseWrite_writeLocked h, ?_⟩
  · rw [State.refuseWrite_lock h]
  · rw [State.refuseWrite_lock h]

/-! The access commands, down to the operation of each. -/

theorem State.access_own {s : State} (h : answers s) (f : State → State) : s.access s.fld.handle f = f s := by
  unfold State.access
  rw [if_pos h.1, if_pos rfl]

section
variable {s : State} (hruns : runs s) (h : answers s)
include hruns h

theorem exec_read (bank w n : Nat) : exec (.read s.fld.handle bank w n) s = .next (s.doRead bank w n) :=
  (next_liveAir hruns _).trans (congrArg _ (State.access_own h _))

theorem exec_write (bank w : Nat) (d : BitVec 16) :
    exec (.write s.fld.handle bank w d) s = .next (s.doWrite bank w [d ^^^ s.fld.rn16]) :=
  (next_liveAir hruns _).trans (congrArg _ (State.access_own h _))

theorem exec_blockWrite (bank w : Nat) (ds : List (BitVec 16)) :
    exec (.blockWrite s.fld.handle bank w ds) s = .next (s.doWrite bank w ds) :=
  (next_liveAir hruns _).trans (congrArg _ (State.access_own h _))

theorem exec_lock_refused {m a : BitVec 10} (hpriv : s.fld.priv ≠ 1)
    (href : lockRefused s.fmem.lock (lockAfter s.fmem.lock m a) = true) :
    exec (.lock s.fld.handle m a) s = .next (s.refuseWrite false) := by
  refine (next_liveAir hruns _).trans (congrArg _ ((State.access_own h _).trans ?_))
  rw [if_neg hpriv, if_pos href]

theorem exec_lock {m a : BitVec 10} (hpriv : s.fld.priv ≠ 1)
    (href : lockRefused s.fmem.lock (lockAfter s.fmem.lock m a) = false) :
    exec (.lock s.fld.handle m a) s =
      .next (s.fieldWrite 4 0 (beBytes 2 (lockAfter s.fmem.lock m a).toNat) false) := by
  refine (next_liveAir hruns _).trans (congrArg _ ((State.access_own h _).trans ?_))
  rw [if_neg hpriv, if_neg (by simp [href])]

theorem exec_gStageWrite {item : Nat} {fl : Byte} (vs : Word) {bd : List Byte} (hpriv : s.fld.priv = 4)
    (hitem : item < 65535) (hfl : fl = 0#8 ∨ fl = 1#8) (hbd : bd.length ≤ 224) :
    exec (.gStageWrite s.fld.handle item fl vs bd) s =
      .next (s.fieldWrite 5 item (leBytes 2 item ++ [fl, 0#8] ++ wordBytes vs ++ bd) true) := by
  refine (next_liveAir hruns _).trans (congrArg _ ((State.access_own h _).trans ?_))
  have hreserved : fl &&& 0xFE#8 = 0#8 := by
    rcases hfl with rfl | rfl <;> decide
  have hnot : item ≠ 0xFFFF := by omega
  rw [if_neg (by simp [hpriv]), if_neg (by simp [hreserved, hnot, hbd])]

end

/-- A write whose span is allowed, and that no lock holds, comes to its admission (R329, R330). -/
theorem State.doWrite_writable {s : State} {bank w : Nat} {ds : List (BitVec 16)} (h : writable s bank w ds) :
    s.doWrite bank w ds = s.fieldWrite bank w (windowOf ds) false := by
  obtain ⟨hbank, hlow, hhigh, hend, hblock, hfirst, hsecond, hlock, hpassword⟩ := h
  have htid : bank ≠ 2 := by omega
  have hkill : ¬ (bank = 0 ∧ w < 2) := by omega
  have hcrc : ¬ (bank = 1 ∧ w = 0) := by omega
  have hpc : ¬ ((bank = 1 ∧ w = 1) ∧ (ds.headD 0#16).getLsbD 9 = true) := by
    rintro ⟨⟨hb, hw⟩, hd⟩
    rw [hsecond hb hw] at hd
    cases hd
  have hspan : ¬ (((ds.length < 1 ∨ 116 < ds.length) ∨ bankWords bank < w + ds.length) ∨
      2 * w / 256 ≠ (2 * (w + ds.length) - 1) / 256) := by omega
  unfold State.doWrite
  dsimp only
  rw [if_neg htid, if_neg (by simpa using hspan), if_neg (by simpa using hkill), if_neg (by simpa using hcrc),
    if_neg (by simpa using hpc), if_neg (by simp [hlock]), if_neg (by simp [hpassword])]

/-- The tag-identity bank is never written (R331). -/
theorem State.doWrite_tid (s : State) (w : Nat) (ds : List (BitVec 16)) : s.doWrite 2 w ds = s.refuseWrite false := by
  unfold State.doWrite
  rw [if_pos rfl]

/-- The identifier bank under its write lock (R330). -/
theorem State.doWrite_lockedIdent {s : State} {w : Nat} {ds : List (BitVec 16)} (hlock : s.fmem.lock.getLsbD 4 = true)
    (hw : 2 ≤ w) (hlow : 1 ≤ ds.length) (hend : w + ds.length ≤ 32) : s.doWrite 1 w ds = s.refuseWrite false := by
  have hblock : 2 * w / 256 = (2 * (w + ds.length) - 1) / 256 := by omega
  have hspan : ¬ (((ds.length < 1 ∨ 116 < ds.length) ∨ bankWords 1 < w + ds.length) ∨
      2 * w / 256 ≠ (2 * (w + ds.length) - 1) / 256) := by simp only [bankWords]; omega
  have hcrc : w ≠ 0 := by omega
  have hpc : w ≠ 1 := by omega
  unfold State.doWrite
  dsimp only
  rw [if_neg (by decide), if_neg (by simpa using hspan), if_neg (by simp), if_neg (by simp [hcrc]),
    if_neg (by simp [hpc]), if_pos (by simpa [lockShift] using hlock)]

theorem State.fieldGuard_ok {s : State} {a n : Nat} {rd wr se recW : Bool}
    (h : (s.fieldGuard a n rd wr se recW).2 = true) : s.fieldGuard a n rd wr se recW = (s, true) :=
  guarded_ok h

/-- A read of the identifier or tag-identity bank answers from the shadow (R329). -/
theorem State.doRead_shadow {s : State} {bank w n : Nat} (hbank : bank = 1 ∨ bank = 2) (hlow : 1 ≤ n)
    (hhigh : n ≤ 128) (hend : w + n ≤ bankWords bank)
    (hguard : (s.fieldGuard (bankWindow bank + 2 * w) (2 * n) true false false false).2 = true) :
    s.doRead bank w n = s.answerData (slice (if bank = 1 then s.identBank else s.fmem.tid) (2 * w) (2 * n)) := by
  have hspan : ¬ (((128 < n ∨ n = 0 ∧ bank = 3) ∨ bankWords bank ≤ w) ∨ bankWords bank < w + n) := by omega
  have hn : n ≠ 0 := by omega
  unfold State.doRead
  dsimp only
  rw [if_neg (by simpa using hspan)]
  rcases hbank with rfl | rfl <;> simp [hn, State.fieldGuard_ok hguard]

/-- A read past the end of its bank (R329). -/
theorem State.doRead_pastEnd {s : State} {bank w n : Nat} (hend : bankWords bank < w + n) :
    s.doRead bank w n = s.fieldError 0x03 := by
  unfold State.doRead
  dsimp only
  rw [if_pos (by simp [hend])]

/-! A field write up to its admission (R350 step 1). -/

/-- `w` is `s` after CORE has been woken: domains are on, that of CORE among them. -/
structure Woken (s w : State) : Prop where
  domains : ∃ l, w = { s with pwr.domOn := l }
  core : w.domOn 4 = true

/-- CORE wakes for the field session where it is on already, and no boundary is awaited (R313). -/
theorem State.fieldWakeCore_woken {s : State} (hpend : s.rf.pend = []) (hdom : s.domOn 4 = true) :
    Woken s ((s.fieldWakeCore).boundary .admission) := by
  have hwoken : Woken s s.fieldWakeCore := by
    unfold State.fieldWakeCore
    dsimp only
    split
    · exact ⟨⟨s.pwr.domOn, rfl⟩, hdom⟩
    split
    · exact ⟨⟨_, rfl⟩, by simp [State.domOn, State.wakeArray, State.wakeDoms]⟩
    · exact ⟨⟨s.pwr.domOn, rfl⟩, hdom⟩
  have hpend' : s.fieldWakeCore.rf.pend = [] := by
    obtain ⟨l, hl⟩ := hwoken.domains
    rw [hl]
    exact hpend
  rwa [State.boundary_pend_nil hpend']

/-- What does not look at the domains is the same. -/
theorem Woken.same {s w : State} (h : Woken s w) {β : Type} {m : State → β}
    (hm : ∀ l, m { s with pwr.domOn := l } = m s) : m w = m s := by
  obtain ⟨l, rfl⟩ := h.domains
  exact hm l

theorem State.arrayBusy_free {s : State} {g : Bool} (h : s.arrayBusy g = none) : s.knellRunning = false ∧
    (s.cmt.recovering || s.cmt.rebuilding || s.boot.darkPending.isSome) = false := by
  unfold State.arrayBusy at h
  split at h
  · cases h
  next hrun =>
    split at h
    · cases h
    next hstart =>
      simp only [Bool.or_eq_true, not_or, Bool.not_eq_true] at hrun
      exact ⟨hrun.1, Bool.eq_false_iff.2 hstart⟩

theorem Woken.arrayBusy {s w : State} (h : Woken s w) {g : Bool} (hbusy : s.arrayBusy g = none) :
    w.arrayBusy g = none := by
  obtain ⟨hknell, hstart⟩ := State.arrayBusy_free hbusy
  have hknell' : w.knellRunning = false := (h.same (m := State.knellRunning) fun _ => rfl).trans hknell
  have hstart' : (w.cmt.recovering || w.cmt.rebuilding || w.boot.darkPending.isSome) = false :=
    (h.same (m := fun u => u.cmt.recovering || u.cmt.rebuilding || u.boot.darkPending.isSome) fun _ => rfl).trans hstart
  unfold State.arrayBusy
  rw [if_neg (by simp [hknell', h.core]), if_neg (by simp [hstart'])]

theorem Woken.verdict {s w : State} (h : Woken s w) (j : Job) : w.verdict j = s.verdict j :=
  h.same (m := fun u => u.verdict j) fun _ => rfl

/-- The conditions that an admission looks at first are met in the woken state (R350). -/
theorem writeReady_woken {s : State} {target : Nat} (h : writeReady s target) :
    ∃ w, (s.fieldWakeCore).boundary .admission = w ∧ Woken s w ∧ (∀ g, w.arrayBusy g = none) ∧
      (if target = 5 then w.peal.lease8 else w.peal.lease9) = none := by
  obtain ⟨⟨hpend, hdom, hbusy, hbusyG⟩, hlease⟩ := h
  have hw := s.fieldWakeCore_woken hpend hdom
  refine ⟨_, rfl, hw, fun g => hw.arrayBusy ?_, ?_⟩
  · cases g
    · exact hbusy
    · exact hbusyG
  · rw [hw.same (m := fun u => u.peal) fun _ => rfl]
    exact hlease

section
variable {s : State} {target addr : Nat} {data : List Byte} (g : Bool)

/-- The next journal entry would lie on a pending one (R354). -/
theorem State.fieldWrite_blocked (h : journalBlocked s target data.length) :
    ∃ w, Woken s w ∧ s.fieldWrite target addr data g = w.fieldError 0x0F := by
  obtain ⟨hready, hblocked⟩ := h
  obtain ⟨w, hwake, hw, hfree, hlease⟩ := writeReady_woken hready
  have hblocked' : (w.fjPending.any (fun e => (fjSectors e).any (fun q =>
      (List.range (ceilDiv (24 + data.length) 32)).any (fun i => (w.fmem.head + i) % 256 == q)))) = true :=
    (hw.same (m := fun u => u.fjPending.any (fun e => (fjSectors e).any (fun q =>
      (List.range (ceilDiv (24 + data.length) 32)).any (fun i => (u.fmem.head + i) % 256 == q)))) fun _ => rfl).trans
      hblocked
  refine ⟨w, hw, ?_⟩
  unfold State.fieldWrite
  simp only [hwake, hfree]
  rw [if_neg (by rw [hlease]; simp), if_pos hblocked']

/-- The scheduler refuses the grant (R187, R353). -/
theorem State.fieldWrite_refused (h : writeRefused s target addr data.length) :
    ∃ w, Woken s w ∧ s.fieldWrite target addr data g = ((w.raise 0x070 6).count 0x0A4).fieldError 0x0B := by
  obtain ⟨hready, hclear, hopen, hverdict⟩ := h
  obtain ⟨w, hwake, hw, hfree, hlease⟩ := writeReady_woken hready
  have hclear' : w.fjPending = [] := (hw.same (m := State.fjPending) fun _ => rfl).trans hclear
  have hopen' : w.s1Open = true := (hw.same (m := State.s1Open) fun _ => rfl).trans hopen
  have hjob : ∀ c, w.verdict { id := w.cmt.nextId, queue := 1, cost := c, weight := 1, kind := .fieldWrite } =
      s.verdict (writeJob s c) := fun c => by
    rw [hw.verdict, hw.same (m := fun u => u.cmt) fun _ => rfl]; rfl
  have hband : w.pwr.band = s.pwr.band := hw.same (m := fun u => u.pwr.band) fun _ => rfl
  refine ⟨w, hw, ?_⟩
  unfold State.fieldWrite
  simp only [hwake, hfree, hclear', hjob, hband]
  rw [if_neg (by rw [hlease]; simp), if_neg (by simp), if_neg (by simp [hopen']), if_pos (by simpa using hverdict)]

end

/-! A field write that is turned away at its admission. -/

theorem Woken.answers {s w : State} (h : Woken s w) (hs : answers s) : answers w :=
  (h.same (m := Machine.answers) fun _ => rfl).mpr hs

theorem Woken.canonical {s w : State} (h : Woken s w) (hs : regsCanonical s = true) : regsCanonical w = true :=
  (h.same (m := regsCanonical) fun _ => rfl).trans hs

theorem Woken.reg {s w : State} (h : Woken s w) (o : Nat) : w.reg o = s.reg o :=
  h.same (m := fun u => u.reg o) fun _ => rfl

/-- Only the registers, the reply and the domains that are on have changed. -/
abbrev onlyAnswered (s t : State) : Prop :=
  { t with rf := s.rf, fldx.reply := s.fldx.reply, pwr.domOn := s.pwr.domOn } = s

theorem Woken.onlyAnswered {s w : State} (h : Woken s w) (r : RegFile) (a : Reply) :
    onlyAnswered s { w with rf := r, fldx.reply := a } := by
  obtain ⟨l, rfl⟩ := h.domains
  rfl

/-- What a field write that R187 refuses answers, counts and leaves (R353). -/
abbrev powerRefused (s t : State) : Prop :=
  t.fldx.reply = .error 0x0B ∧
  (regsCanonical s = true → (t.reg 0x070).bit 6 = true ∧
    t.reg 0x0A4 = BitVec.ofNat 32 (saturate 4294967295 ((s.reg 0x0A4).toNat + 1))) ∧
  onlyAnswered s t

/-- What a field write whose entry would overwrite a pending one answers, counts and leaves (R354). -/
abbrev journalFull (s t : State) : Prop :=
  t.fldx.reply = .error 0x0F ∧
  (regsCanonical s = true → t.reg 0x2DC =
    (s.reg 0x2DC &&& 0xFFFFFF00#32) ||| BitVec.ofNat 32 (saturate 255 ((s.reg 0x2DC).toNat % 256 + 1))) ∧
  onlyAnswered s t

section
variable {s : State} {target addr : Nat} {data : List Byte} (hs : answers s) (g : Bool)
include hs

theorem State.fieldWrite_powerRefused (h : writeRefused s target addr data.length) :
    powerRefused s (s.fieldWrite target addr data g) := by
  obtain ⟨w, hw, hwrite⟩ := State.fieldWrite_refused g h
  have hanswers : answers ((w.raise 0x070 6).count 0x0A4) := answers_raise (hw.answers hs) _ _
  rw [hwrite, State.fieldError_power hanswers]
  refine ⟨rfl, fun hcanonical => ⟨?_, ?_⟩, ?_⟩
  · exact (congrArg (fun v => Word.bit v 6) (countBy_reg_other _ 31 0 1 (by decide))).trans
      (raise_bit (hw.canonical hcanonical) (by decide) (by decide))
  · refine (count_reg (raise_canonical (hw.canonical hcanonical) _ _) _).trans ?_
    rw [State.raise_setReg (by decide), State.setReg_reg_other _ _ _ _ (by decide), hw.reg]
  · rw [raise_eq]
    exact hw.onlyAnswered _ _

theorem State.fieldWrite_journalFull (h : journalBlocked s target data.length) :
    journalFull s (s.fieldWrite target addr data g) := by
  obtain ⟨w, hw, hwrite⟩ := State.fieldWrite_blocked (addr := addr) g h
  rw [hwrite, State.fieldError_busy (hw.answers hs)]
  refine ⟨rfl, fun hcanonical => ?_, hw.onlyAnswered _ _⟩
  rw [← hw.reg]
  exact countBy_lastByte (s := { w with fldx.reply := .error 0x0F }) (hw.canonical hcanonical) 0x2DC

end

theorem beBytes_length (n v : Nat) : (beBytes n v).length = n := by
  simp [beBytes]

theorem windowOf_length (ds : List (BitVec 16)) : (windowOf ds).length = 2 * ds.length := by
  simp [windowOf, wordPair, List.length_flatMap, beBytes_length, mul_comm]

/-- The item of a G_STAGE_WRITE takes 8 bytes beside its body (R344). -/
theorem stageItem_length (item : Nat) (fl : Byte) (vs : Word) (bd : List Byte) :
    (leBytes 2 item ++ [fl, 0#8] ++ wordBytes vs ++ bd).length = 8 + bd.length := by
  simp [wordBytes]
  omega

/-- Settles O11: each of the four commands comes to the admission of one field write (`doWrite_writable`, `exec_lock`,
`exec_gStageWrite`), which the scheduler refuses (`fieldWrite_powerRefused`). -/
theorem fieldWriteRefused : Obligations.FieldWriteRefused := by
  intro s hruns hst hen
  have hs : answers s := ⟨hst, hen⟩
  refine ⟨fun bank w d hd href => ?_, fun bank w ds hds href => ?_, fun m a hpriv hlock href => ?_,
    fun item fl vs bd hpriv hitem hfl hbd href => ?_⟩
  · refine ⟨_, exec_write hruns hs _ _ _, ?_⟩
    rw [State.doWrite_writable hd]
    exact State.fieldWrite_powerRefused hs _ (by rwa [windowOf_length])
  · refine ⟨_, exec_blockWrite hruns hs _ _ _, ?_⟩
    rw [State.doWrite_writable hds]
    exact State.fieldWrite_powerRefused hs _ (by rwa [windowOf_length])
  · exact ⟨_, exec_lock hruns hs hpriv hlock, State.fieldWrite_powerRefused hs _ (by rwa [beBytes_length])⟩
  · exact ⟨_, exec_gStageWrite hruns hs vs hpriv hitem hfl hbd,
      State.fieldWrite_powerRefused hs _ (by rwa [stageItem_length])⟩

/-- Settles O12: the same four commands, whose journal entry would overwrite a pending one
(`fieldWrite_journalFull`). -/
theorem fieldJournalFull : Obligations.FieldJournalFull := by
  intro s hruns hst hen
  have hs : answers s := ⟨hst, hen⟩
  refine ⟨fun bank w d hd hfull => ?_, fun bank w ds hds hfull => ?_, fun m a hpriv hlock hfull => ?_,
    fun item fl vs bd hpriv hitem hfl hbd hfull => ?_⟩
  · refine ⟨_, exec_write hruns hs _ _ _, ?_⟩
    rw [State.doWrite_writable hd]
    exact State.fieldWrite_journalFull hs _ (by rwa [windowOf_length])
  · refine ⟨_, exec_blockWrite hruns hs _ _ _, ?_⟩
    rw [State.doWrite_writable hds]
    exact State.fieldWrite_journalFull hs _ (by rwa [windowOf_length])
  · exact ⟨_, exec_lock hruns hs hpriv hlock, State.fieldWrite_journalFull hs _ (by rwa [beBytes_length])⟩
  · exact ⟨_, exec_gStageWrite hruns hs vs hpriv hitem hfl hbd,
      State.fieldWrite_journalFull hs _ (by rwa [stageItem_length])⟩

/-! What an admitted field write leaves: its record, its journal entry, and toll counter 7 (R350). -/

section
variable {s t : State} (h : outside t = outside s)
include h

theorem outside_tolls : t.arr.tolls = s.arr.tolls := (congrArg (fun u : State => u.arr.tolls) h :)
theorem outside_toll (c : Nat) : t.toll c = s.toll c := (congrArg (fun u : State => u.toll c) h :)
theorem outside_fmem : t.fmem = s.fmem := (congrArg (fun u : State => u.fmem) h :)
theorem outside_answers (hs : answers s) : answers t := Eq.mpr (congrArg answers h :) hs

theorem outside_withTolls {l m : List Toll} (hlm : l = m) :
    outside { t with arr.tolls := l } = outside { s with arr.tolls := m } := by
  subst hlm
  exact (congrArg (fun u : State => { u with arr.tolls := l }) h :)

theorem outside_withReply (r : Reply) : outside { t with fldx.reply := r } = outside { s with fldx.reply := r } :=
  (congrArg (fun u : State => { u with fldx.reply := r }) h :)

theorem outside_withFmem {f k : FMem} (hfk : f = k) : outside { t with fmem := f } = outside { s with fmem := k } := by
  subst hfk
  exact (congrArg (fun u : State => { u with fmem := f }) h :)

end

theorem setNth_eq_set {α : Type} (l : List α) (i : Nat) (v : α) : setNth l i v = l.set i v := by
  induction l generalizing i with
  | nil => rfl
  | cons x l ih => cases i with
    | zero => rfl
    | succ i => exact congrArg (x :: ·) (ih i)

/-- The higher of a value read so far and that of a cell (R97). -/
def higher (m : Option Nat) (c : TollCell) : Option Nat := match m with
  | none => some c.value
  | some v => some (max v c.value)

theorem TollRing.value_eq (r : TollRing) : r.value = (r.cells.filter (fun c => c.valid)).foldl higher none := rfl

theorem foldl_higher_bound {l : List TollCell} {o : Option Nat} {v : Nat} (h : l.foldl higher o = some v) :
    (∀ m, o = some m → m ≤ v) ∧ ∀ c ∈ l, c.value ≤ v := by
  induction l generalizing o with
  | nil => exact ⟨fun m hm => (Option.some.inj (hm.symm.trans h)).le, by simp⟩
  | cons c l ih =>
    obtain ⟨hstart, hrest⟩ := ih h
    cases o with
    | none => exact ⟨by simp, List.forall_mem_cons.2 ⟨hstart _ rfl, hrest⟩⟩
    | some m =>
      have hmax := hstart _ rfl
      exact ⟨fun k hk => by cases hk; omega, List.forall_mem_cons.2 ⟨by omega, hrest⟩⟩

theorem foldl_higher_top {l : List TollCell} {v : Nat} (h : ∀ c ∈ l, c.value ≤ v) :
    l.foldl higher (some v) = some v := by
  induction l with
  | nil => rfl
  | cons c l ih =>
    obtain ⟨hc, hl⟩ := List.forall_mem_cons.1 h
    rw [List.foldl_cons, higher, Nat.max_eq_left hc, ih hl]

/-- A ring shows a value put into its next cell that is above its own (R97, R98). -/
theorem TollRing.put_value {r : TollRing} {m v : Nat} (hr : r.value = some m) (hm : m ≤ v) :
    (State.TollRing.put r v).value = some v := by
  obtain ⟨-, hcells⟩ := foldl_higher_bound (r.value_eq.symm.trans hr)
  refine foldl_higher_top fun c hc => ?_
  simp only [List.mem_filter] at hc
  exact (hcells c (List.mem_filter.2 ⟨hc.1.1, hc.2⟩)).trans hm

theorem State.tollWriteA_outside {s : State} {c : Nat} {r : TollRing} (hr : (s.toll c).ringA = some r) (v : Nat) :
    outside (s.tollWriteA c v) = outside { s with
      arr.tolls := setNth s.arr.tolls c { s.toll c with ringA := some (TollRing.put r v) } } := by
  unfold State.tollWriteA
  rw [hr]
  exact State.touchAll_outside _ _

theorem State.tollWriteB_outside {s : State} {c : Nat} {r : TollRing} (hr : (s.toll c).ringB = some r) (v : Nat) :
    outside (s.tollWriteB c v) = outside { s with
      arr.tolls := setNth s.arr.tolls c { s.toll c with ringB := some (TollRing.put r v) } } := by
  unfold State.tollWriteB
  rw [hr]
  exact State.touchAll_outside _ _

/-- A counter both of whose rings have life left for one more stored update (R105). -/
structure TollSound (s : State) (c : Nat) (ra rb : TollRing) : Prop where
  listed : c < s.arr.tolls.length
  rings : s.toll c = { ringA := some ra, ringB := some rb, worn := false }
  lifeA : ra.used + 1 < State.tollLife
  lifeB : rb.used + 1 < State.tollLife

/-- The counter after a stored update of both copies. -/
def updatedToll (ra rb : TollRing) (v : Nat) : Toll :=
  { ringA := some (State.TollRing.put ra v), ringB := some (State.TollRing.put rb v), worn := false }

theorem State.toll_set {s : State} {l : List Toll} {c : Nat} {x : Toll} (hl : s.arr.tolls = l.set c x)
    (hc : c < l.length) : s.toll c = x := by
  simp [State.toll, hl, hc]

/-- A counter whose rings have life left moves neither (R105). -/
theorem State.tollAge_young {s : State} {c : Nat} (hA : (s.toll c).usedA < tollLife)
    (hB : (s.toll c).usedB < tollLife) : s.tollAge c = s := by
  unfold State.tollAge
  simp only [if_neg (Nat.not_le.2 hA), if_neg (Nat.not_le.2 hB)]

/-- A stored update of a sound counter writes its next two cells, and moves no ring (R98, R105). -/
theorem State.tollUpdate_outside {s : State} {c : Nat} {ra rb : TollRing} (h : TollSound s c ra rb) (v : Nat) :
    outside (s.tollUpdate c v) = outside { s with arr.tolls := s.arr.tolls.set c (updatedToll ra rb v) } := by
  obtain ⟨hlisted, hrings, hlifeA, hlifeB⟩ := h
  have hA := State.tollWriteA_outside (s := s) (c := c) (r := ra) (by rw [hrings]) v
  rw [hrings, setNth_eq_set] at hA
  have htollA := State.toll_set (outside_tolls hA) hlisted
  have hB := State.tollWriteB_outside (s := s.tollWriteA c v) (c := c) (r := rb) (by rw [htollA]) v
  rw [htollA, outside_tolls hA, setNth_eq_set, List.set_set] at hB
  have hboth : outside ((s.tollWriteA c v).tollWriteB c v) =
      outside { s with arr.tolls := s.arr.tolls.set c (updatedToll ra rb v) } :=
    hB.trans (outside_withTolls hA rfl)
  have htollB := State.toll_set (outside_tolls hboth) hlisted
  unfold State.tollUpdate
  rw [State.tollAge_young (by rw [htollB]; exact hlifeA) (by rw [htollB]; exact hlifeB)]
  exact hboth

/-- The value that a counter shows after a stored update of both copies (R98). -/
theorem tollValue_updated {s : State} {c m v : Nat} {ra rb : TollRing} (htoll : s.toll c = updatedToll ra rb v)
    (ha : ra.value = some m) (hb : rb.value = some m) (hm : m ≤ v) : s.tollValue c = v := by
  simp [State.tollValue, State.tollStored, htoll, updatedToll, Toll.haveA, Toll.haveB, Toll.valA, Toll.valB,
    TollRing.put_value ha hm, TollRing.put_value hb hm]

/-! The record of a field write. -/

/-- The next `n` sectors of a partition need no more logical extents than it has free: nothing is compacted (R79). -/
abbrev fitsAtHead (s : State) (p n : Nat) : Prop := (s.newLogical p (s.part p).head n).length ≤ s.freeLogical p

theorem State.roomAtHead_fits {s : State} {p n : Nat} (h : fitsAtHead s p n) : s.roomAtHead p n = s := by
  unfold State.roomAtHead
  split
  · rw [State.compact, if_pos h]
  · rfl

theorem State.setSeq_fits (s : State) (loc cls p n : Nat) (w : Word) :
    fitsAtHead (s.setSeq loc cls w) p n ↔ fitsAtHead s p n := by
  unfold State.setSeq
  split <;> exact Iff.rfl

/-- S2 in a partition of latest values that has room at its head (R78, R83). -/
theorem State.allocate_latest {s : State} {r : Rec} (hook : Hook) (ra checked : Bool) (prev : Option (Option Word))
    (hpart : isLatest r.hdr.part = true) (hfits : fitsAtHead s r.hdr.part (sectorsOf r.hdr.length)) :
    ∃ p, outside (s.allocate r hook ra checked 0 0 none none prev) =
        outside { s with cmt.pipe := s.cmt.pipe ++ [p] } ∧ p.hook = hook ∧ p.record = r := by
  have hpart' : r.hdr.part = 8 ∨ r.hdr.part = 9 := by simpa [isLatest] using hpart
  have hnot : r.hdr.part ≠ 4 := by omega
  have hlow : ¬ r.hdr.part ≤ 1 := by omega
  unfold State.allocate
  simp only [State.roomAtHead_fits hfits, hnot, hlow, if_false, decide_false, Bool.or_self, Bool.false_eq_true]
  exact ⟨_, rfl, rfl, rfl⟩

/-- A record of latest values passes S1 (R35, R83). -/
theorem State.placeOwn_latest {s : State} {r : Rec} (hook : Hook) (ra checked : Bool)
    (hpart : isLatest r.hdr.part = true) (hfits : fitsAtHead s r.hdr.part (sectorsOf r.hdr.length)) :
    ∃ p, outside (s.placeOwn r hook ra checked 0 0 none) = outside { s with cmt.pipe := s.cmt.pipe ++ [p] } ∧
      p.hook = hook ∧ p.record = numbered s r := by
  unfold State.placeOwn
  extract_lets h prev q r' t
  have ht : outside t = outside s := State.setSeq_outside s _ _ _
  obtain ⟨p, halloc, hhook, hrecord⟩ := State.allocate_latest (s := t) (r := r') hook ra checked (some prev) hpart
    ((s.setSeq_fits _ _ _ _ _).2 hfits)
  exact ⟨p, halloc.trans (outside_append ht _), hhook, hrecord⟩

/-- S1 takes a record of the tag's own at once, with no GAP record ahead of it (R37, R85). -/
theorem State.admitInternal_takes {s : State} {r : Rec} (hook : Hook)
    (hs1 : s.s1Open = true ∧ s.cmt.s1wait = [] ∧ s.cmt.auditHeld = [] ∧ s.snareSetOpen = false)
    (hgap : s.ownGap r.hdr.source r.hdr.cls = none) (hroom : s.hasRoom (sectorsOf r.hdr.length) = true)
    (hcls : r.hdr.cls ≠ 6) (haudit : r.hdr.typ ≠ 0x80#8) :
    s.admitInternal r hook = s.placeOwn r hook false true 0 0 none := by
  obtain ⟨hopen, hwait, hheld, hset⟩ := hs1
  have hpass : s.mayPass r = true := by
    simpa [State.mayPass, State.roomOwn, State.ownGaps, hgap, State.hasRoomN, State.hasRoom, hset] using hroom
  unfold State.admitInternal
  rw [if_neg (by simp [State.holdsAudit, haudit]), if_pos (by simp [hopen, hwait, State.heldAudit, hheld, hpass])]
  unfold State.passOwn
  simp only [hgap, hcls, decide_false, Bool.and_false, Bool.false_eq_true, if_false, ite_self]

/-- The record of a field write as it comes to S1 (R39, R351). -/
def writeRecord (s : State) (target : Nat) (payload : List Byte) : Rec :=
  noBracket (s.newInternal 4 4 (if target = 5 then 0x60#8 else 0x70#8) (flagFirst ||| flagLast) payload)

theorem writeRecord_part (s : State) (target : Nat) (payload : List Byte) :
    (writeRecord s target payload).hdr.part = if target = 5 then 8 else 9 := by
  simp only [writeRecord, noBracket, State.newInternal]
  split <;> rfl

theorem writeRecord_typ_ne_audit (s : State) (target : Nat) (payload : List Byte) :
    (writeRecord s target payload).hdr.typ ≠ 0x80#8 := by
  simp only [writeRecord, noBracket, State.newInternal]
  split <;> decide

/-- S1 takes the record of a field write, which is alone in the pipeline then (R350 step 2). -/
theorem State.writeRecord_placed {s : State} {target : Nat} {payload : List Byte} (hook : Hook)
    (htakes : s1Takes s 4 4 payload.length) (hpipe : s.cmt.pipe = [])
    (hfits : fitsAtHead s (if target = 5 then 8 else 9) (sectorsOf payload.length)) :
    ∃ p, outside (s.stamp.admitInternal (writeRecord s target payload) hook) = outside { s with cmt.pipe := [p] } ∧
      p.hook = hook ∧ p.record = numbered s.stamp (writeRecord s target payload) := by
  obtain ⟨hs1, hgap, hroom, -⟩ := htakes
  rw [← writeRecord_part s target payload] at hfits
  have hlatest : isLatest (writeRecord s target payload).hdr.part = true := by
    rw [writeRecord_part]; split <;> rfl
  have hadmit := State.admitInternal_takes (s := s.stamp) (r := writeRecord s target payload) hook hs1 hgap hroom
    (show (4 : Nat) ≠ 6 by decide) (writeRecord_typ_ne_audit _ _ _)
  obtain ⟨p, hplaced, hhook, hrecord⟩ :=
    State.placeOwn_latest (s := s.stamp) (r := writeRecord s target payload) hook false true hlatest hfits
  exact ⟨p, (congrArg outside hadmit).trans
    (hplaced.trans (outside_withPipe s.stamp_outside (congrArg (fun l => l ++ _) hpipe))), hhook, hrecord⟩

/-- The record of a field write, with the write's grant, is alone in the pipeline (R186). -/
theorem State.fieldRecord_outside {s : State} {e : FJEntry} {payload : List Byte} (cost : Nat)
    (htakes : s1Takes s 4 4 payload.length) (hpipe : s.cmt.pipe = [])
    (hfits : fitsAtHead s (if e.target = 5 then 8 else 9) (sectorsOf payload.length)) :
    ∃ p, outside (s.fieldRecord e payload cost) = outside { s with cmt.pipe := [p] } ∧
      (p.record.hdr.typ, p.record.hdr.source, p.record.hdr.seq, p.granted) =
        ((if e.target = 5 then 0x60#8 else 0x70#8), s.source 4, s.ownNumber (s.source 4) 4, some cost) := by
  obtain ⟨p, hput, hhook, hrecord⟩ := State.writeRecord_placed (.fieldWrite e.value) htakes hpipe hfits
  refine ⟨{ p with
    granted := some cost
    band := (s.stamp.admitInternal (writeRecord s e.target payload) (.fieldWrite e.value)).pwr.band },
    outside_withPipe hput ((congrArg (List.map _) (outside_pipe hput)).trans ?_), ?_⟩
  · simp only [List.map_cons, List.map_nil, hhook, BEq.rfl, if_true, writeRecord]
  · rw [hrecord]; rfl

/-! The journal entry of a field write, and its admission as a whole. -/

theorem State.countBy_outside (s : State) (o hi lo n : Nat) : outside (s.countBy o hi lo n) = outside s := rfl

/-- FJOURNAL with a new entry, which takes the place of those on its sectors (R348). -/
def journaled (f : FMem) (e : FJEntry) : FMem :=
  { f with
    journal := f.journal.filter (fun x => !((fjSectors x).any (fun q => (fjSectors e).contains q))) ++ [e]
    head := (f.head + e.count) % 256 }

/-- The steps of a field write after its record: the journal entry, FJOURNAL, the shadow and the counts (R350). -/
def State.journalWrite (s : State) (e : FJEntry) : State :=
  let u := s.fjProgram (fjSectors e)
  let v := { u with fmem := journaled u.fmem e }
  (((v.tollUpdate 7 e.value).fixShadow).raise 0x2D0 0).countBy 0x2D8 31 16 1

theorem State.journalWrite_outside {s : State} {ra rb : TollRing} (e : FJEntry) (h : TollSound s 7 ra rb) :
    ∃ f, outside (s.journalWrite e) =
        outside { s with fmem := f, arr.tolls := s.arr.tolls.set 7 (updatedToll ra rb e.value) } ∧
      f.journal = (journaled s.fmem e).journal ∧ f.head = (journaled s.fmem e).head := by
  unfold State.journalWrite
  extract_lets u v
  have hu : outside u = outside s := State.touchAll_outside _ _
  have hv : outside v = outside { s with fmem := journaled s.fmem e } :=
    outside_withFmem hu (congrArg (fun f => journaled f e) (outside_fmem hu))
  clear_value v
  have hsound : TollSound v 7 ra rb :=
    ⟨by rw [outside_tolls hv]; exact h.listed, (outside_toll hv 7).trans h.rings, h.lifeA, h.lifeB⟩
  have htoll := (State.tollUpdate_outside hsound e.value).trans
    (outside_withTolls hv (congrArg (fun l => l.set 7 (updatedToll ra rb e.value)) (outside_tolls hv)))
  generalize v.tollUpdate 7 e.value = w at htoll
  have hkept : w.fmem = journaled s.fmem e := outside_fmem htoll
  refine ⟨w.shadowWanted, ?_, ?_, ?_⟩
  · exact (State.countBy_outside _ _ _ _ _).trans ((State.raise_outside _ _ _).trans (outside_withFmem htoll rfl))
  · show w.fmem.journal = _
    rw [hkept]
  · show w.fmem.head = _
    rw [hkept]

theorem State.guarded_passes (s : State) (master : Nat) (x : Access) :
    (s.guarded master x).2 = true ↔ s.guardCheck master x = none := by
  unfold State.guarded
  split
  next h => simp [h]
  next h => simp [h]

/-- The guard of a field write after its check of the bank window, where there is one (R422). -/
theorem State.guardWrite_window {s : State} {target addr len : Nat} (part head n : Nat)
    (h : target ≤ 4 → (s.fieldGuard (bankWindow target + 2 * addr) len false true false false).2 = true) :
    s.guardWrite target addr len part head n = s.guarded 2 (s.recAccess part head n false true true true 0#8 0) := by
  unfold State.guardWrite
  by_cases htarget : target ≤ 4
  · simp only [htarget, if_true, State.fieldGuard_ok (h htarget)]
  · simp only [htarget, if_false]

theorem State.guardWrite_passes {s : State} {target addr len part head n : Nat}
    (h : (s.guardWrite target addr len part head n).2 = true) :
    (target ≤ 4 → (s.fieldGuard (bankWindow target + 2 * addr) len false true false false).2 = true) ∧
      (s.guarded 2 (s.recAccess part head n false true true true 0#8 0)).2 = true := by
  have hwindow : target ≤ 4 →
      (s.fieldGuard (bankWindow target + 2 * addr) len false true false false).2 = true := by
    intro htarget
    by_contra hno
    unfold State.guardWrite at h
    simp only [htarget, if_true] at h
    generalize s.fieldGuard (bankWindow target + 2 * addr) len false true false false = x at h hno
    obtain ⟨u, b⟩ := x
    cases b
    · cases h
    · exact hno rfl
  exact ⟨hwindow, by rwa [State.guardWrite_window part head n hwindow] at h⟩

theorem State.guardWrite_ok {s : State} {target addr len part head n : Nat}
    (h : (s.guardWrite target addr len part head n).2 = true) :
    s.guardWrite target addr len part head n = (s, true) := by
  obtain ⟨hwindow, hrecord⟩ := State.guardWrite_passes h
  rw [State.guardWrite_window part head n hwindow, guarded_ok hrecord]

/-- The guard looks at the live policy alone (R424). -/
theorem State.firstFailure_domains (s : State) (l : List Bool) (master : Nat) (x : Access) (points : List Nat)
    (attr : Option Nat) : State.firstFailure { s with pwr.domOn := l } master x points attr =
      s.firstFailure master x points attr := by
  induction points generalizing attr with
  | nil => rfl
  | cons a points ih =>
    have hdeciding : State.deciding { s with pwr.domOn := l } master a = s.deciding master a := rfl
    simp only [State.firstFailure, hdeciding, ih]

theorem Woken.guarded {s w : State} (h : Woken s w) {master : Nat} {x : Access}
    (hpass : (s.guarded master x).2 = true) : (w.guarded master x).2 = true := by
  rw [State.guarded_passes] at hpass ⊢
  exact (h.same (m := fun u => u.guardCheck master x) fun l => s.firstFailure_domains l _ _ _ _).trans hpass

theorem Woken.guardWrite {s w : State} (h : Woken s w) {target addr len part head n : Nat}
    (hpass : (s.guardWrite target addr len part head n).2 = true) :
    (w.guardWrite target addr len part head n).2 = true := by
  obtain ⟨hwindow, hrecord⟩ := State.guardWrite_passes hpass
  have haccess : w.recAccess part head n false true true true 0#8 0 =
      s.recAccess part head n false true true true 0#8 0 :=
    h.same (m := fun u => u.recAccess part head n false true true true 0#8 0) fun _ => rfl
  rw [State.guardWrite_window part head n fun htarget => h.guarded (hwindow htarget), haccess]
  exact h.guarded hrecord

theorem fieldPayload_length (e : FJEntry) (p : Nat) :
    (State.fieldPayload e p).length = if e.target = 5 then e.data.length else 16 + 32 * p := by
  unfold State.fieldPayload
  split
  · rfl
  · simp [zeroBytes]

/-- What an admission rests on is the same in the woken state. -/
theorem Woken.admitted {s w : State} (h : Woken s w) {target addr len part cost : Nat}
    (ha : writeAdmitted s target addr len part cost) : writeAdmitted w target addr len part cost := by
  obtain ⟨⟨hpend, -, hbusy, hbusyG⟩, hpart, hcost, hclear, htakes, hroom, hverdict, hfits, hguard⟩ := ha
  have hpart' : w.part part = s.part part := h.same (m := fun u => u.part part) fun _ => rfl
  refine ⟨⟨?_, h.core, h.arrayBusy hbusy, h.arrayBusy hbusyG⟩, hpart, ?_, ?_, ?_, ?_, ?_, ?_, ?_⟩
  · exact (h.same (m := fun u => u.rf.pend) fun _ => rfl).trans hpend
  · exact hcost.trans (h.same (m := fun u => fieldWriteCost u.pwr.band _) fun _ => rfl).symm
  · exact Eq.mpr (h.same (m := fun u =>
      (if target = 5 then u.peal.lease8 else u.peal.lease9) = none ∧ u.fjPending = []) fun _ => rfl) hclear
  · exact Eq.mpr (h.same (m := fun u => s1Takes u 4 4 _) fun _ => rfl) htakes
  · exact Eq.mpr (h.same (m := fun u => u.cmt.pipe = [] ∧ fitsAtHead u part _) fun _ => rfl) hroom
  · exact (h.same (m := fun u => u.verdict (writeJob u cost)) fun _ => rfl).trans hverdict
  · exact (h.same (m := fun u => u.partRoom part _) fun _ => rfl).trans hfits
  · rw [hpart']
    exact h.guardWrite hguard

/-- A field write that is admitted makes its record and its journal entry, and answers (R350). -/
theorem State.fieldWrite_admitted {s : State} {target addr part cost : Nat} {data : List Byte} (g : Bool)
    (h : writeAdmitted s target addr data.length part cost) :
    ∃ w, Woken s w ∧ s.fieldWrite target addr data g =
      ((w.fieldRecord (fieldEntry w target addr data) (State.fieldPayload (fieldEntry w target addr data)
        (writeSpan target addr data.length).2) cost).journalWrite (fieldEntry w target addr data)).backscatter
        (if target = 5 then .data (zeroBytes 8) else .done) := by
  obtain ⟨hcore, -, -, ⟨hunleased, -⟩, -⟩ := id h
  obtain ⟨w, hwake, hw, hfree, hlease⟩ := writeReady_woken ⟨hcore, hunleased⟩
  obtain ⟨-, hpart, hcost, ⟨-, hclear⟩, htakes, ⟨-, hroom⟩, hverdict, hfits, hguard⟩ := hw.admitted h
  obtain ⟨⟨hopen, hwait, -⟩, -⟩ := htakes
  have hseq : w.fieldSeq = w.ownNumber (w.source 4) 4 := by simp [State.fieldSeq, hwait]
  subst hpart hcost
  have hhead := State.roomAtHead_fits hroom
  have hpass := State.guardWrite_ok hguard
  simp only [writeSectors] at hhead hpass hfits
  refine ⟨w, hw, ?_⟩
  unfold State.fieldWrite
  simp only [hwake, hfree, hclear]
  rw [if_neg (by rw [hlease]; simp), if_neg (by simp), if_neg (by simp [hopen]),
    if_neg (by simpa [writeJob] using hverdict), if_neg (by simp [hfits])]
  simp only [hhead, hpass, hseq]
  split <;> rfl

/-- Toll counter 7 before a field write: sound, both copies at `v`, and its next value fits (R97, R98). -/
structure TollAt (s : State) (v : Nat) (ra rb : TollRing) : Prop where
  sound : TollSound s 7 ra rb
  valueA : ra.value = some v
  valueB : rb.value = some v
  next : v + 1 < 4294967296

theorem TollAt.tollValue {s : State} {v : Nat} {ra rb : TollRing} (h : TollAt s v ra rb) : s.tollValue 7 = v := by
  simp [State.tollValue, State.tollStored, h.sound.rings, Toll.haveA, Toll.haveB, Toll.valA, Toll.valB, h.valueA,
    h.valueB]

theorem TollAt.congr {s t : State} {v : Nat} {ra rb : TollRing} (h : TollAt s v ra rb)
    (ht : t.arr.tolls = s.arr.tolls) : TollAt t v ra rb := by
  refine ⟨⟨by rw [ht]; exact h.sound.listed, ?_, h.sound.lifeA, h.sound.lifeB⟩, h.valueA, h.valueB, h.next⟩
  rw [← h.sound.rings, State.toll, State.toll, ht]

theorem fieldEntry_woken {s w : State} (h : Woken s w) (target addr : Nat) (data : List Byte) :
    fieldEntry w target addr data = fieldEntry s target addr data :=
  h.same (m := fun u => fieldEntry u target addr data) fun _ => rfl

/-- What an admitted field write leaves: its record alone in the pipeline, FJOURNAL with its entry, and toll counter 7
advanced (R348 to R352). -/
theorem State.fieldWrite_outside {s : State} {target addr part cost v : Nat} {data : List Byte} {ra rb : TollRing}
    (hs : answers s) (g : Bool) (h : writeAdmitted s target addr data.length part cost) (htoll : TollAt s v ra rb) :
    ∃ w p f, Woken s w ∧ outside (s.fieldWrite target addr data g) = outside { w with
        cmt.pipe := [p], fmem := f, arr.tolls := s.arr.tolls.set 7 (updatedToll ra rb (v + 1))
        fldx.reply := if target = 5 then .data (zeroBytes 8) else .done } ∧
      (p.record.hdr.typ, p.record.hdr.source, p.record.hdr.seq, p.granted) =
        ((if target = 5 then 0x60#8 else 0x70#8), s.source 4, s.ownNumber (s.source 4) 4, some cost) ∧
      f.journal = (journaled s.fmem (fieldEntry s target addr data)).journal ∧
      f.head = (journaled s.fmem (fieldEntry s target addr data)).head := by
  obtain ⟨w, hw, hwrite⟩ := State.fieldWrite_admitted g h
  obtain ⟨-, hpart, -, -, htakes, ⟨hpipe, hroom⟩, -⟩ := hw.admitted h
  rw [fieldEntry_woken hw] at hwrite
  have hvalue : (fieldEntry s target addr data).value = v + 1 := by
    simp only [fieldEntry, htoll.tollValue, Nat.mod_eq_of_lt htoll.next]
  have hlength := fieldPayload_length (fieldEntry s target addr data) (writeSpan target addr data.length).2
  obtain ⟨p, hrecord, hnames⟩ := State.fieldRecord_outside (s := w) (e := fieldEntry s target addr data) cost
    (by rw [hlength]; exact htakes) hpipe (by rw [hlength]; exact hpart ▸ hroom)
  generalize w.fieldRecord (fieldEntry s target addr data)
    (State.fieldPayload (fieldEntry s target addr data) (writeSpan target addr data.length).2) cost = u
    at hwrite hrecord
  have htolls : u.arr.tolls = s.arr.tolls :=
    (outside_tolls hrecord).trans (hw.same (m := fun x => x.arr.tolls) fun _ => rfl)
  obtain ⟨f, hjournal, hentries, hhead⟩ :=
    State.journalWrite_outside (fieldEntry s target addr data) (htoll.congr htolls).sound
  have hset : u.arr.tolls.set 7 (updatedToll ra rb (fieldEntry s target addr data).value) =
      s.arr.tolls.set 7 (updatedToll ra rb (v + 1)) := by rw [htolls, hvalue]
  have hwritten := hjournal.trans (outside_withFmem (outside_withTolls hrecord hset) rfl)
  have hfmem : u.fmem = s.fmem :=
    (outside_fmem hrecord).trans (hw.same (m := fun u => u.fmem) fun _ => rfl)
  rw [hfmem] at hentries hhead
  rw [hwrite, State.backscatter_answers (outside_answers hwritten (hw.answers hs))]
  refine ⟨w, p, f, hw, outside_withReply hwritten _, ?_, hentries, hhead⟩
  rw [hnames]
  exact hw.same (m := fun u => ((if target = 5 then 0x60#8 else 0x70#8), u.source 4, u.ownNumber (u.source 4) 4,
    some cost)) fun _ => rfl

/-- An admitted field write is taken and answered (R348 to R352). -/
theorem State.fieldWrite_taken {s : State} {target addr part cost v : Nat} {data : List Byte} {ra rb : TollRing}
    (hs : answers s) (g : Bool) (h : writeAdmitted s target addr data.length part cost) (htoll : TollAt s v ra rb) :
    (s.fieldWrite target addr data g).fldx.reply = (if target = 5 then .data (zeroBytes 8) else .done) ∧
      writeTaken s (s.fieldWrite target addr data g) target addr cost data := by
  obtain ⟨w, p, f, hw, hwritten, hnames, hentries, hhead⟩ := State.fieldWrite_outside hs g h htoll
  generalize s.fieldWrite target addr data g = t at hwritten
  have hfmem : t.fmem = f := outside_fmem hwritten
  have hpipe : t.cmt.pipe = [p] := outside_pipe hwritten
  refine ⟨(congrArg (fun u : State => u.fldx.reply) hwritten :), ?_, ?_, ?_, ?_, ?_⟩
  · rw [hpipe]
    exact congrArg (fun x => [x]) hnames
  · rw [hfmem, hentries]
    simp [journaled]
  · rw [hfmem, hhead]
    rfl
  · rw [tollValue_updated (State.toll_set (outside_tolls hwritten) htoll.sound.listed) htoll.valueA htoll.valueB
      (Nat.le_succ v), htoll.tollValue, Nat.mod_eq_of_lt htoll.next]
  · obtain ⟨l, rfl⟩ := hw.domains
    exact congrArg (fun u : State => { u with
      rf := s.rf, fmem := s.fmem, cmt := s.cmt, clk.lastStamp := s.clk.lastStamp, fldx.reply := s.fldx.reply
      arr.tags := s.arr.tags, arr.extEpochs := s.arr.extEpochs, arr.tolls := s.arr.tolls
      arr.spareRings := s.arr.spareRings, pwr.domOn := s.pwr.domOn }) hwritten

/-- An admitted write of words to a bank is taken and answered with DONE (R350). -/
theorem State.doWrite_taken {s : State} {bank w part cost v : Nat} {ds : List (BitVec 16)} {ra rb : TollRing}
    (hs : answers s) (hwritable : writable s bank w ds) (h : writeAdmitted s bank w (2 * ds.length) part cost)
    (htoll : TollAt s v ra rb) :
    (s.doWrite bank w ds).fldx.reply = .done ∧ writeTaken s (s.doWrite bank w ds) bank w cost (windowOf ds) := by
  have hbank : bank ≠ 5 := by
    obtain ⟨hbank, -⟩ := hwritable
    omega
  rw [State.doWrite_writable hwritable]
  have htaken := State.fieldWrite_taken hs false (data := windowOf ds) (by rwa [windowOf_length]) htoll
  rwa [if_neg hbank] at htaken

/-- Settles O48: the reads by the two outcomes of `doRead`, the refusals by `doWrite` and `lockRefused`, and the three
admitted writes by what every admitted field write leaves (`fieldWrite_taken`). -/
theorem fieldMemory : Obligations.FieldMemory := by
  intro s hruns hst hen
  have hs : answers s := ⟨hst, hen⟩
  refine ⟨?shadow, ?pastEnd, ?tid, ?locked, ?lockRefused, ?lock, ?write, ?blockWrite⟩
  case shadow =>
    intro bank w n hbank hlow hhigh hend hguard
    refine ⟨_, exec_read hruns hs _ _ _, ?_⟩
    rw [State.doRead_shadow hbank hlow hhigh hend hguard, State.answerData_answers hs]
    exact ⟨rfl, rfl⟩
  case pastEnd =>
    intro bank w n hend _
    refine ⟨_, exec_read hruns hs _ _ _, ?_⟩
    rw [State.doRead_pastEnd hend, State.fieldError_answers hs]
    exact ⟨rfl, rfl⟩
  case tid =>
    intro w d
    refine ⟨_, exec_write hruns hs _ _ _, ?_⟩
    rw [State.doWrite_tid, State.refuseWrite_lock hs]
    exact ⟨rfl, rfl⟩
  case locked =>
    intro w ds hlock hw hlow _ hend
    refine ⟨_, exec_blockWrite hruns hs _ _ _, ?_⟩
    rw [State.doWrite_lockedIdent hlock hw hlow hend]
    exact State.refuseWrite_answer hs
  case lockRefused =>
    intro m a hpriv href
    exact ⟨_, exec_lock_refused hruns hs hpriv href, State.refuseWrite_answer hs⟩
  case lock =>
    intro m a cost v ra rb hpriv href hadmitted hlisted hrings ha hb hnext hlifeA hlifeB
    have htoll : TollAt s v ra rb := ⟨⟨by omega, hrings, hlifeA, hlifeB⟩, ha, hb, hnext⟩
    exact ⟨_, exec_lock hruns hs hpriv href,
      State.fieldWrite_taken hs false (by rwa [beBytes_length]) htoll⟩
  case write =>
    intro bank w cost d v ra rb hwritable hadmitted hlisted hrings ha hb hnext hlifeA hlifeB
    have htoll : TollAt s v ra rb := ⟨⟨by omega, hrings, hlifeA, hlifeB⟩, ha, hb, hnext⟩
    have hcover : (d ^^^ s.fld.rn16) ^^^ s.fld.rn16 = d := by
      rw [BitVec.xor_assoc, BitVec.xor_self, BitVec.xor_zero]
    refine ⟨_, exec_write hruns hs _ _ _, ?_⟩
    rw [hcover]
    exact State.doWrite_taken hs hwritable hadmitted htoll
  case blockWrite =>
    intro bank w cost ds v ra rb hwritable hadmitted hlisted hrings ha hb hnext hlifeA hlifeB
    have htoll : TollAt s v ra rb := ⟨⟨by omega, hrings, hlifeA, hlifeB⟩, ha, hb, hnext⟩
    exact ⟨_, exec_blockWrite hruns hs _ _ _, State.doWrite_taken hs hwritable hadmitted htoll⟩

/-! A reserve that waits for the next admission. -/

/-- PWR_CFG.RESERVE_UJ is written as 255 µJ; the 20 µJ in force stay so until the next admission (R201). -/
def reserveWritten : State :=
  ({ poweredTag with rf.keyArmed := [.regp] }).effRegisterWrite .regp 0x064 0x00FF_000F#32

/-- An exported container without records. -/
def emptyContainer : Bivik :=
  { header := zeroBytes 64, sig := zeroBytes 64, strokes := [], sizes := [], sealed := false, created := 0, part := 0 }

/-- TAG_VAUX has gone, and 85 µJ of the holding capacitor count; a field session in SECURED-A has the container
open. -/
def exportsOnHold : State :=
  { reserveWritten with
    pwr.usable := [false, true], pwr.vauxOk := false, pwr.capUf := 10, pwr.gauge.holdMv := 5000
    fld.st := 6, fld.priv := 4, fldx.mapBuilt := true, fldx.container := some emptyContainer }

/-- The read of a chunk is the next admission: the new reserve comes into force, and the chunk is not admitted. -/
theorem exportsOnHold_reply :
    ((exportsOnHold.serveHigher 4).effGExportChunk exportsOnHold.fld.handle 0 1).fldx.reply = .error 0x0B := by
  decide +kernel

/-- Refutes O50: the clause on the CHUNK of an open container has the scheduler's verdict under the configuration in
force before the admission; in `exportsOnHold` a written reserve comes into force there, and the verdict changes. -/
theorem not_gweunoAndWake : ¬ Obligations.GweunoAndWake := by
  intro h
  obtain ⟨-, -, -, hchunk, -⟩ := h exportsOnHold (by decide +kernel)
  obtain ⟨t, ht, hreply, -⟩ :=
    hchunk exportsOnHold.fld.handle emptyContainer (zeroBytes 64) (by decide +kernel) rfl (by decide +kernel)
      (by decide +kernel) (by decide +kernel) (by decide +kernel) (by decide +kernel) rfl (by decide +kernel)
      (by decide +kernel) (by decide +kernel) (by decide +kernel) (by decide +kernel) (by decide +kernel)
  obtain rfl := Host.Outcome.next.inj ((next_liveAir (by decide +kernel) _).symm.trans ht)
  rw [exportsOnHold_reply] at hreply
  cases hreply

end Sys2Proof.Machine
end

section
/-! The statements of the family of the Snare. Two of them fail in one of their clauses; the refutation of each
evaluates the command of the clause on one concrete state that meets its hypotheses. The third is about the register
SNR_CTRL: what a write of it stores, what the arm boundary makes of its EN and what its commands leave are lemmas of
their own, and its clauses are short uses of them. -/

namespace Sys2Proof.Machine

/-! A periodic calibration that finds CORE gated. -/

/-- CORE has gated after its idle time (R194); the calibrations of reset are in force. -/
def coreGated : State := poweredTag.effDomainIdleGate 4

/-- Refutes O53: the clause on the period leaves the domains as they are; in `coreGated` the calibrations that the
period queues wake CORE, as every job does (R194). -/
theorem not_calibrations : ¬ Obligations.Calibrations := by
  intro h
  obtain ⟨hperiod, -⟩ := h coreGated (by decide +kernel)
  obtain ⟨t, ht, -, -, hframe⟩ := hperiod (by decide +kernel) (by decide +kernel) (by decide +kernel)
    (by decide +kernel) (by decide +kernel)
  have hkeeps : t.domOn 4 = coreGated.domOn 4 := congrArg (fun u => u.domOn 4) hframe
  obtain rfl := Host.Outcome.next.inj ((next_live (by decide +kernel) _).symm.trans ht)
  have hbefore : coreGated.domOn 4 = false := by decide +kernel
  have hafter : coreGated.effPeriodicCalibration.domOn 4 = true := by decide +kernel
  rw [hkeeps, hbefore] at hafter
  cases hafter

/-! A capture whose SNARE_TRIG record needs a new extent. -/

/-- FORCE has opened a capture while the rings were off. One checkpoint has committed (R108), and the head of the
Snare's partition stands at the end of its only extent. -/
def captureAtExtentEnd : State :=
  { poweredTag with
    snr.armed := true
    arr.tolls := setNth poweredTag.arr.tolls 2 (newToll 2 1 1)
  }.snareForce.modPart (partOf 0x30#8) (fun x => { x with head := extSectors })

/-- Refutes O52: the clause on a capture without wave data leaves the array as it is; in `captureAtExtentEnd` its
SNARE_TRIG record reserves an extent, whose assignment the array stamps with the checkpoint epoch (R73, R78). -/
theorem not_captureEnds : ¬ Obligations.CaptureEnds := by
  intro h
  obtain ⟨-, -, -, hpasses, -⟩ := h captureAtExtentEnd (by decide +kernel)
  have hopen : captureAtExtentEnd.snr.capture.isSome = true := by decide +kernel
  obtain ⟨c, hc⟩ := Option.isSome_iff_exists.1 hopen
  have hlost : captureAtExtentEnd.snr.capture.map (fun c => (c.lost, c.tied)) = some (false, false) := by
    decide +kernel
  rw [hc, Option.map_some, Option.some.injEq, Prod.mk.injEq] at hlost
  obtain ⟨t, ht, -, -, -, hframe⟩ := hpasses c [] hc hlost.1 hlost.2 (by decide +kernel) (by decide +kernel)
    (by decide +kernel) (by decide +kernel) (by decide +kernel) (by decide +kernel) (by decide +kernel)
    (by decide +kernel) (by decide +kernel)
  have hkeeps : t.arr.extEpochs = captureAtExtentEnd.arr.extEpochs := congrArg (fun u => u.arr.extEpochs) hframe
  obtain rfl := Host.Outcome.next.inj ((next_live (by decide +kernel) _).symm.trans ht)
  have hbefore : captureAtExtentEnd.arr.extEpochs.length = 0 := by decide +kernel
  have hafter : (captureAtExtentEnd.effPostWindowEnd []).wakeDrum.arr.extEpochs.length = 1 := by decide +kernel
  rw [hkeeps, hbefore] at hafter
  cases hafter

/-! The register maps after a write, and a status bit that a later event leaves up. -/

theorem State.setForce_force {s : State} (h : regsCanonical s = true) (o : Nat) (v : Word) :
    (s.setForce o v).force o = v := by
  simp only [regsCanonical, canonical, Bool.and_eq_true] at h
  exact nget_nset_same _ _ _ _ h.1.2.1

theorem State.setForce_force_other (s : State) {o p : Nat} (v : Word) (h : p ≠ o) :
    (s.setForce o v).force p = s.force p := nget_nset_other _ _ _ _ _ _ h

theorem State.setPend_pendBits {s : State} (h : regsCanonical s = true) (o : Nat) (v : Word) :
    (s.setPend o v).pendBits o = v := by
  simp only [regsCanonical, canonical, Bool.and_eq_true] at h
  exact nget_nset_same _ _ _ _ h.2.1

/-- What a shared operation keeps (`Kept`) has the register maps canonical. -/
theorem Kept.canonical {b : Bool} {s t : State} (h : Kept b s t) (hs : regsCanonical s = true) :
    regsCanonical t = true := by
  obtain ⟨-, hmaps, -⟩ := h
  obtain ⟨hcur, hforce, hpend⟩ := hmaps hs
  simp only [regsCanonical, hcur, hforce, hpend, Bool.and_self]

/-- An event bit reaches its own register and GLB_ALERT (R495). -/
theorem State.raise_reg_other (s : State) {o n p : Nat} (h : p ≠ o) (halert : p ≠ 0x01C) :
    (s.raise o n).reg p = s.reg p := by
  unfold State.raise State.raiseBits
  dsimp only
  split
  · exact State.setReg_reg_other _ _ _ _ h
  · split
    · exact State.setReg_reg_other _ _ _ _ h
    · exact (State.setReg_reg_other _ _ _ _ halert).trans (State.setReg_reg_other _ _ _ _ h)

theorem State.raise_reg {s : State} (h : regsCanonical s = true) {o : Nat} (n : Nat) (halert : o ≠ 0x01C) :
    (s.raise o n).reg o = s.reg o ||| Word.oneBit n := by
  have hset := State.setReg_reg s o (s.reg o ||| Word.oneBit n) h
  unfold State.raise State.raiseBits
  dsimp only
  split
  · exact hset
  · split
    · exact hset
    · exact (State.setReg_reg_other _ _ _ _ halert).trans hset

theorem State.applyAt_reg (s : State) (b : Boundary) (o p : Nat) : (s.applyAt b o).reg p = s.reg p := by
  unfold State.applyAt
  split
  · rfl
  · dsimp only
    split <;> rfl

theorem State.applyAt_force_other (s : State) (b : Boundary) {o p : Nat} (h : p ≠ o) :
    (s.applyAt b o).force p = s.force p := by
  unfold State.applyAt
  split
  · rfl
  · dsimp only
    split
    · rfl
    · exact State.setForce_force_other s _ h

/-- Bit `k` of SNR_STATUS is up, in canonical register maps. -/
abbrev snareTells (s : State) (k : Nat) : Prop := regsCanonical s = true ∧ (s.reg 0x32C).bit k = true

theorem snareTells_raised {s : State} (h : regsCanonical s = true) {k : Nat} (hk : (Word.oneBit k).getLsbD k = true) :
    snareTells (s.raise 0x32C k) k := by
  refine ⟨raise_canonical h _ _, ?_⟩
  rw [State.raise_reg h k (by decide)]
  simp [Word.bit, hk]

theorem snareTells.raise {s : State} {k : Nat} (h : snareTells s k) (n : Nat) : snareTells (s.raise 0x32C n) k := by
  obtain ⟨hs, hk⟩ := h
  refine ⟨raise_canonical hs _ _, ?_⟩
  rw [State.raise_reg hs n (by decide)]
  simp only [Word.bit] at hk
  simp [Word.bit, hk]

theorem snareTells.countBy {s : State} {k : Nat} (h : snareTells s k) {o : Nat} (ho : 0x32C ≠ o) (hi lo n : Nat) :
    snareTells (s.countBy o hi lo n) k := by
  obtain ⟨hs, hk⟩ := h
  exact ⟨countBy_canonical hs _ _ _ _, by rwa [countBy_reg_other s hi lo n ho]⟩

/-- What a state holds besides the register maps, the Snare and the supply of the domains. -/
def besidesSnare (s : State) : State := { s with rf := {}, snr := {}, pwr.domOn := [] }

theorem besidesSnare_frame {s t : State} (h : besidesSnare t = besidesSnare s) :
    { t with rf := s.rf, pwr.domOn := s.pwr.domOn, snr := s.snr } = s :=
  congrArg (fun u : State => { u with rf := s.rf, pwr.domOn := s.pwr.domOn, snr := s.snr }) h

theorem State.raise_besidesSnare (s : State) (o n : Nat) : besidesSnare (s.raise o n) = besidesSnare s :=
  State.raise_keeps (fun _ _ => rfl) s o n

/-! A write of SNR_CTRL through the register port (R391). -/

/-- The register's fields: EN, CAL_REQ and FORCE. -/
def snrCtrl : RegDesc :=
  { off := 0x320, block := .snr, rw := 1#32, wo := 0xFF00#32, wok := 0x1_0000#32, bounds := [(1#32, .snrArm)] }

theorem regDesc_snrCtrl : regDesc 0x320 = some snrCtrl := by decide +kernel

/-- A write of a whole register stores the written configuration bits (R475). -/
theorem newConfig_register (old v cfg : Word) : newConfig 0 (old &&& cfg) v allBits cfg = v &&& cfg := by
  have hall : allBits = BitVec.allOnes 32 := rfl
  simp only [newConfig, hall, BitVec.and_allOnes, BitVec.allOnes_and]
  simp [BitVec.and_assoc]

theorem commandBits_snrCtrl (v : Word) : commandBits 0 snrCtrl v allBits = v &&& 0x1FF00#32 := by
  have hall : allBits = BitVec.allOnes 32 := rfl
  simp only [commandBits, hall, BitVec.and_allOnes]
  rfl

theorem lockHit_snrCtrl (locked old new cmd : Word) : lockHit locked snrCtrl old new cmd = false := by
  simp [lockHit, snrCtrl, Block.pendBit, grdLocked]

/-- FORCE alone asks for the key (R12, R391). -/
theorem keyGuarded_snrCtrl (old now new v : Word) :
    keyGuarded 0 snrCtrl old now new (commandBits 0 snrCtrl v allBits) = v.bit 16 := by
  have hforce : commandBits 0 snrCtrl v allBits &&& snrCtrl.wok = v &&& BitVec.twoPow 32 16 := by
    rw [commandBits_snrCtrl, BitVec.and_assoc]; rfl
  unfold keyGuarded
  rw [hforce, BitVec.and_twoPow, Word.bit]
  cases v.getLsbD 16 with
  | false => simp [snrCtrl]
  | true => simp [snrCtrl]; decide

/-- The state in which a written EN is stored and waits for the arm boundary. -/
def State.storeEn (s : State) (en : Word) : State :=
  ((s.wakeFor .regp).disarmKey .regp).storeConfig snrCtrl en 1#32

/-- The commands of a written word: CAL_REQ for each channel named, and FORCE. -/
def State.snrCommands (s : State) (v : Word) : State :=
  (s.requestCal 2 ((List.range 8).filter (fun n => v.bit (8 + n)))).onBit v 16 State.snareForce

theorem State.runCommand_snrCtrl (s : State) (p : Port) (v : Word) (armed : Bool) :
    s.runCommand p 0x320 (commandBits 0 snrCtrl v allBits) armed = (s.snrCommands v, stOk) := by
  have hnamed : ∀ n ∈ List.range 8, (0x1FF00#32).getLsbD (8 + n) = true := by decide
  have hcal : (List.range 8).filter (fun n => (v &&& 0x1FF00#32).bit (8 + n)) =
      (List.range 8).filter (fun n => v.bit (8 + n)) :=
    List.filter_congr (fun n hn => by simp [Word.bit, hnamed n hn])
  have hforce : (v &&& 0x1FF00#32).bit 16 = v.bit 16 := by simp [Word.bit]
  unfold State.snrCommands
  rw [commandBits_snrCtrl, ← hcal]
  simp only [State.runCommand, State.onBit, hforce]

/-- SNR_CTRL is written: EN is stored and acts at once, and then the commands run. FORCE asks for the key. -/
theorem State.portWrite_snrCtrl {s : State} {v : Word} (hruns : runs s) (hport : portReady s 0x320)
    (hkey : v.bit 16 = true → keyReady s) :
    s.portWrite .regp 0x320 v =
      (((s.storeEn (v &&& 1#32)).afterStore .regp 0x320 (v &&& 1#32)).snrCommands v).endTransaction
        (s.wakeFor .regp).statusByte 0 (zeroBytes 6) := by
  obtain ⟨hwired, hguard⟩ := hport
  have hopen : s.portOpen .regp = true := by simp [State.portOpen, hwired, hruns.2]
  have hconfig : ((s.wakeFor .regp).disarmKey .regp).configOf .regp snrCtrl = s.reg 0x320 &&& snrCtrl.config := rfl
  have hwrite := wordWrite_command (s := s.wakeFor .regp) (p := .regp) (a := 0x320) (v := v) regDesc_snrCtrl rfl rfl
    (lockHit_snrCtrl _ _ _ _) (fun h => hkey ((keyGuarded_snrCtrl _ _ _ _).symm.trans h)) (by decide)
  have htouched : touchedBits 0 v allBits snrCtrl.config = 1#32 := by
    rw [touchedBits, if_pos rfl]; decide
  have hen : snrCtrl.config = 1#32 := by decide
  rw [hconfig, newConfig_register, htouched, hen] at hwrite
  rw [portWrite_regp hopen (regpGuard_ok hguard), hwrite]
  rw [show regOff 0x320 = 0x320 from rfl, State.runCommand_snrCtrl]
  rfl

/-- What the store of EN leaves: the register maps and the supply of CORE and REGP have changed. -/
theorem State.storeEn_eq (s : State) (en : Word) :
    s.storeEn en = { s with rf := (s.storeEn en).rf, pwr.domOn := (s.storeEn en).pwr.domOn } := by
  unfold State.storeEn
  rw [storeConfig_eq]
  rfl

theorem State.storeEn_canonical {s : State} (h : regsCanonical s = true) (en : Word) :
    regsCanonical (s.storeEn en) = true :=
  (State.storeConfig_kept _ _ _ _ (State.disarmKey_kept _ _ (State.wakeFor_kept _ _ (Kept.refl false s)))).canonical h

theorem State.storeEn_reg {s : State} (h : regsCanonical s = true) (en : Word) :
    ((s.storeEn en).reg 0x320).bit 0 = en.bit 0 := by
  have hset := State.setReg_reg ((s.wakeFor .regp).disarmKey .regp) 0x320 ((s.reg 0x320 &&& ~~~ (1#32)) ||| en) h
  have hreg : (s.storeEn en).reg 0x320 = (s.reg 0x320 &&& ~~~ (1#32)) ||| en := hset
  rw [hreg]
  simp [Word.bit]

/-- The supply of the Snare's own domain stays. -/
theorem State.storeEn_domOn (s : State) (en : Word) : (s.storeEn en).domOn 18 = s.domOn 18 := by
  have hdom : (s.storeEn en).pwr.domOn = setNth (setNth s.pwr.domOn 4 true) 19 true := by rw [State.storeEn_eq]; rfl
  rw [State.domOn, hdom]
  simp [setNth_eq_set, State.domOn]

theorem State.storeEn_besidesSnare (s : State) (en : Word) : besidesSnare (s.storeEn en) = besidesSnare s := by
  rw [State.storeEn_eq]; rfl

theorem State.storeEn_snr (s : State) (en : Word) : (s.storeEn en).snr = s.snr := by rw [State.storeEn_eq]

theorem State.storeEn_clk (s : State) (en : Word) : (s.storeEn en).clk = s.clk := by rw [State.storeEn_eq]

theorem State.storeEn_wired (s : State) (en : Word) : (s.storeEn en).wired = s.wired := by rw [State.storeEn_eq]; rfl

theorem State.storeEn_pendBits {s : State} (h : regsCanonical s = true) (en : Word) :
    ((s.storeEn en).pendBits 0x320).bit 0 = true := by
  have hset := fun (v : Word) => State.setPend_pendBits (s := (((s.wakeFor .regp).disarmKey .regp).setReg 0x320
    ((s.reg 0x320 &&& ~~~ (1#32)) ||| en)).setForce 0x320 ((s.force 0x320 &&& ~~~ (0#32)) ||| (en &&& 0#32)))
    ((State.setForce_kept _ _ _ (State.setReg_kept _ _ _ (Kept.refl false _))).canonical h) 0x320 v
  have hpend : ∃ x : Word, (s.storeEn en).pendBits 0x320 = (s.pendBits 0x320 ||| 1#32) ||| x := ⟨_, hset _⟩
  obtain ⟨x, hx⟩ := hpend
  rw [hx]
  simp [Word.bit]

/-! The arm boundary (R390). -/

theorem State.applyAt_snrCtrl (s : State) :
    s.applyAt .snrArm 0x320 =
      if (s.pendBits 0x320).bit 0 then
        (s.setForce 0x320 ((s.force 0x320 &&& ~~~ (1#32)) ||| (s.reg 0x320 &&& 1#32))).setPend 0x320
          (s.pendBits 0x320 &&& ~~~ (1#32))
      else s := by
  have hat : snrCtrl.at .snrArm = 1#32 := by decide
  have hwaits : 1#32 &&& s.pendBits 0x320 = if (s.pendBits 0x320).bit 0 then 1#32 else 0#32 := by
    rw [show (1#32) = BitVec.twoPow 32 0 from rfl, BitVec.twoPow_and]; rfl
  unfold State.applyAt
  rw [regDesc_snrCtrl]
  dsimp only
  rw [hat, hwaits]
  cases (s.pendBits 0x320).bit 0 <;> rfl

/-- EN comes into force as it is stored. -/
theorem State.applyAt_enables {s : State} (h : regsCanonical s = true) (hpend : (s.pendBits 0x320).bit 0 = true) :
    (s.applyAt .snrArm 0x320).cfgBit 0x320 0 = (s.reg 0x320).bit 0 := by
  rw [State.applyAt_snrCtrl, if_pos hpend, State.cfgBit, State.setPend_force, State.setForce_force h]
  simp [Word.bit]

/-- An observation that sees neither what the configuration of SNR_CFG and the channels is nor when their ADCs
have started. -/
structure BlindToChannels {β : Type} (m : State → β) : Prop where
  applyAt : ∀ (u : State) (o : Nat), o ≠ 0x320 → m (u.applyAt .snrArm o) = m u
  setPend : ∀ (u : State) (o : Nat) (w : Word), m (u.setPend o w) = m u
  raise : ∀ u : State, m (u.raise 0x32C 10) = m u
  ringSince : ∀ (u : State) (l : List Nat), m { u with snr.ringSince := l } = m u

theorem State.applyChannel_keeps {β : Type} {m : State → β} (h : BlindToChannels m) (s : State) (n : Nat) :
    m (s.applyChannel n) = m s := by
  have happlied : m ((s.applyAt .snrArm (0x360 + 8 * n)).applyAt .snrArm (0x364 + 8 * n)) = m s :=
    (h.applyAt _ _ (by omega)).trans (h.applyAt _ _ (by omega))
  unfold State.applyChannel
  dsimp only
  split
  · rfl
  · split
    · rfl
    · split
      · exact (h.raise _).trans ((h.setPend _ _ _).trans (h.setPend _ _ _))
      · split
        · exact happlied
        · exact (h.ringSince _ _).trans happlied

/-- The configuration that comes into force at the arm boundary. -/
def State.applyArm (s : State) : State :=
  (List.range 8).foldl (fun s n => s.applyChannel n) ((s.applyAt .snrArm 0x320).applyAt .snrArm 0x324)

theorem State.armBoundary_idle {s : State} (h : s.snr.capture = none) :
    s.armBoundary = s.applyArm.tryArm.ringStart := by
  unfold State.armBoundary
  rw [h]
  rfl

theorem State.armBoundary_busy {s : State} (h : s.snr.capture.isSome = true) : s.armBoundary = s := by
  unfold State.armBoundary
  rw [if_pos h]

theorem State.applyArm_keeps {β : Type} {m : State → β} (h : BlindToChannels m) (s : State) :
    m s.applyArm = m (s.applyAt .snrArm 0x320) :=
  (foldl_keeps (State.applyChannel_keeps h) _ _).trans (h.applyAt _ _ (by decide))

theorem blindToChannels_reg : BlindToChannels (fun u => u.reg 0x320) where
  applyAt _ _ _ := State.applyAt_reg ..
  setPend _ _ _ := rfl
  raise u := State.raise_reg_other u (by decide) (by decide)
  ringSince _ _ := rfl

theorem blindToChannels_cfgBit : BlindToChannels (fun u => u.cfgBit 0x320 0) where
  applyAt u _ ho := congrArg (fun w : Word => w.bit 0) (State.applyAt_force_other u .snrArm ho.symm)
  setPend _ _ _ := rfl
  raise u := congrArg (fun w : Word => w.bit 0) (raise_force u 0x32C 10 0x320)
  ringSince _ _ := rfl

/-- What a state holds besides the register maps and the times at which the rings' ADCs have started. -/
def besidesChannels (s : State) : State := { s with rf := {}, snr.ringSince := [] }

theorem blindToChannels_besides : BlindToChannels besidesChannels where
  applyAt u _ _ := by rw [applyAt_eq]; rfl
  setPend _ _ _ := rfl
  raise u := by rw [raise_eq]; rfl
  ringSince _ _ := rfl

theorem State.applyArm_besides (s : State) : besidesChannels s.applyArm = besidesChannels s :=
  (State.applyArm_keeps blindToChannels_besides s).trans (by rw [applyAt_eq]; rfl)

/-- An observation that sees neither the rings' state nor what comes into force with it. -/
theorem State.ringStart_keeps {β : Type} {m : State → β} (hboundary : ∀ u : State, m (u.boundary .snrArmed) = m u)
    (hring : ∀ (u : State) (r : Nat) (l : List Nat), m { u with snr.ring := r, snr.ringSince := l } = m u) (s : State) :
    m s.ringStart = m s := by
  unfold State.ringStart State.ringArm
  dsimp only
  split
  · split
    · exact (hring _ 0 _).trans (hboundary s)
    · exact (hring _ 1 _).trans (hboundary s)
  · rfl

/-- What a state holds besides the register maps and the rings. -/
def besidesRings (s : State) : State := { s with rf := {}, snr.ring := 0, snr.ringSince := [] }

section
variable {s t : State} (h : besidesChannels t = besidesChannels s)
include h

theorem besidesChannels_rings : besidesRings t = besidesRings s :=
  (congrArg (fun u : State => { u with snr.ring := 0 }) h :)
theorem besidesChannels_snare : besidesSnare t = besidesSnare s :=
  (congrArg besidesSnare h :)
theorem besidesChannels_ring : t.snr.ring = s.snr.ring := (congrArg (fun u : State => u.snr.ring) h :)

end

section
variable {s t : State} (h : besidesRings t = besidesRings s)
include h

theorem besidesRings_snare : besidesSnare t = besidesSnare s := (congrArg besidesSnare h :)
theorem besidesRings_clk : t.clk = s.clk := (congrArg (fun u : State => u.clk) h :)
theorem besidesRings_wired : t.wired = s.wired := (congrArg State.wired h :)
theorem besidesRings_armed : t.snr.armed = s.snr.armed := (congrArg (fun u : State => u.snr.armed) h :)
theorem besidesRings_capture : t.snr.capture = s.snr.capture := (congrArg (fun u : State => u.snr.capture) h :)
theorem besidesRings_capNum : t.snr.capNum = s.snr.capNum := (congrArg (fun u : State => u.snr.capNum) h :)
theorem besidesRings_arm : besidesRings { t with snr.armed := true } = besidesRings { s with snr.armed := true } :=
  (congrArg (fun u : State => { u with snr.armed := true }) h :)

end

theorem State.applyArm_besidesRings (s : State) : besidesRings s.applyArm = besidesRings s :=
  besidesChannels_rings (State.applyArm_besides s)

theorem State.ringStart_besidesRings (s : State) : besidesRings s.ringStart = besidesRings s :=
  State.ringStart_keeps (fun u => by rw [boundary_eq]; rfl) (fun _ _ _ => rfl) s

theorem State.boundary_reg (s : State) (b : Boundary) (p : Nat) : (s.boundary b).reg p = s.reg p :=
  foldl_keeps (m := fun u : State => u.reg p) (fun u o => State.applyAt_reg u b o p) _ s

theorem State.ringStart_reg (s : State) (p : Nat) : s.ringStart.reg p = s.reg p :=
  State.ringStart_keeps (m := fun u => u.reg p) (fun u => State.boundary_reg u _ p) (fun _ _ _ => rfl) s

theorem State.tryArm_armed {s : State} (h : s.snr.armed = true) : s.tryArm = s := by
  simp [State.tryArm, h]

theorem State.tryArm_disabled {s : State} (h : s.cfgBit 0x320 0 = false) : s.tryArm = s := by
  simp [State.tryArm, h]

theorem State.ringStart_unarmed {s : State} (h : s.snr.armed = false) : s.ringStart = s := by
  simp [State.ringStart, h]

theorem State.reg_withArmed (s : State) (b : Bool) (p : Nat) :
    ({ s with snr.armed := b } : State).reg p = s.reg p := rfl

/-- But for EN, nothing is in the way of arming (R382, R385). -/
abbrev mayArm (s : State) : Prop :=
  s.wired = true ∧ s.knellRunning = false ∧ s.pwr.step = 0 ∧ s.snr.armed = false ∧ s.domOn 18 = true ∧
    s.snr.calFirst = false ∧ s.snr.startCals = []

theorem mayArm_besidesRings {s t : State} (h : besidesRings t = besidesRings s) (hs : mayArm s) : mayArm t :=
  Eq.mpr (congrArg mayArm h :) hs

theorem State.tryArm_arms {s : State} (hen : s.cfgBit 0x320 0 = true) (h : mayArm s) :
    s.tryArm = ({ s with snr.armed := true } : State).ringStart := by
  obtain ⟨hwired, hknell, hstep, harmed, hdom, hfirst, hstart⟩ := h
  have hcal : s.calFirstArm = s := by simp [State.calFirstArm, hfirst]
  unfold State.tryArm
  rw [if_pos (by simp [hen, hwired, hknell, hstep, harmed, hdom]), hcal]
  exact if_pos hstart

/-- The arm boundary of an armed Snare: the rings may start. -/
theorem State.armBoundary_armed {s : State} (hidle : s.snr.capture = none) (harmed : s.snr.armed = true) :
    besidesRings s.armBoundary = besidesRings s := by
  have hkeeps : s.applyArm.snr.armed = s.snr.armed := besidesRings_armed s.applyArm_besidesRings
  rw [State.armBoundary_idle hidle, State.tryArm_armed (hkeeps.trans harmed)]
  exact (State.ringStart_besidesRings _).trans s.applyArm_besidesRings

/-- The arm boundary at which EN comes into force (R382, R390). -/
theorem State.armBoundary_arms {s : State} (hidle : s.snr.capture = none)
    (hen : (s.applyAt .snrArm 0x320).cfgBit 0x320 0 = true) (h : mayArm s) :
    besidesRings s.armBoundary = besidesRings { s with snr.armed := true } ∧ s.armBoundary.reg 0x320 = s.reg 0x320 := by
  have hforce : s.applyArm.cfgBit 0x320 0 = true := (State.applyArm_keeps blindToChannels_cfgBit s).trans hen
  have hmay : mayArm s.applyArm := mayArm_besidesRings s.applyArm_besidesRings h
  rw [State.armBoundary_idle hidle, State.tryArm_arms hforce hmay]
  constructor
  · rw [State.ringStart_besidesRings, State.ringStart_besidesRings]
    exact besidesRings_arm s.applyArm_besidesRings
  · rw [State.ringStart_reg, State.ringStart_reg, State.reg_withArmed, State.applyArm_keeps blindToChannels_reg,
      State.applyAt_reg]

/-- The arm boundary of a Snare that is not armed, with EN 0 in force. -/
theorem State.armBoundary_disabled {β : Type} {m : State → β} (h : BlindToChannels m) {s : State}
    (hpend : (s.pendBits 0x320).bit 0 = false) (hforce : s.cfgBit 0x320 0 = false) (harmed : s.snr.armed = false) :
    m s.armBoundary = m s := by
  have happly : s.applyAt .snrArm 0x320 = s := by rw [State.applyAt_snrCtrl, hpend]; rfl
  cases hcapture : s.snr.capture with
  | some c => rw [State.armBoundary_busy (by rw [hcapture]; rfl)]
  | none =>
    have hen := State.applyArm_keeps blindToChannels_cfgBit s
    have hunarmed : s.applyArm.snr.armed = s.snr.armed :=
      besidesRings_armed s.applyArm_besidesRings
    have hkeeps := State.applyArm_keeps h s
    rw [happly] at hen hkeeps
    rw [State.armBoundary_idle hcapture, State.tryArm_disabled (hen.trans hforce),
      State.ringStart_unarmed (hunarmed.trans harmed), hkeeps]

/-! The Snare is disarmed (R375, R387). -/

theorem State.dropWaves_keeps {β : Type} {m : State → β} (hsnr : ∀ (u : State) (l : List Capture) (c : Option Capture)
      (w : Option Word), m { u with snr.waiting := l, snr.capture := c, snr.tied := w } = m u)
    (hcut : ∀ (u : State) (n : Nat), m ((u.countBy 0x344 31 16 n).raise 0x32C 5) = m u) (s : State) :
    m s.dropWaves = m s := by
  unfold State.dropWaves
  dsimp only
  split
  · exact hsnr _ _ _ _
  · exact (hcut _ _).trans (hsnr _ _ _ _)

theorem State.disarm_uncalibrated {s : State} (h : s.snr.calBusy = none) :
    s.disarm = { s.dropWaves with snr.armed := false, snr.ring := 0 } := by
  have habort : s.abortCal true = s := by unfold State.abortCal; rw [h]
  unfold State.disarm
  rw [habort, ite_self]

/-- What EN 0 brings about as it is stored: the Snare is disarmed, and nothing of EN waits (R391). -/
def State.disarmNow (s : State) : State :=
  (s.disarm.setForce 0x320 (s.force 0x320 &&& ~~~ (1#32))).setPend 0x320 (s.pendBits 0x320 &&& ~~~ (1#32))

/-- The Snare of `t` is disarmed with its rings off (R375, R391); besides the Snare, the register maps and the supply
of the domains `t` is as `s`, and SNR_CTRL reads the same. -/
structure Disarmed (s t : State) : Prop where
  besides : besidesSnare t = besidesSnare s
  reg : t.reg 0x320 = s.reg 0x320
  armed : t.snr.armed = false
  ring : t.snr.ring = 0

theorem State.disarmNow_armBoundary {s : State} (h : regsCanonical s = true) (hcal : s.snr.calBusy = none) :
    Disarmed s s.disarmNow.armBoundary := by
  have hdropped := State.disarm_uncalibrated hcal
  have hcanonical : regsCanonical s.disarm = true := (State.disarm_kept s (Kept.refl false s)).canonical h
  have hpend : (s.disarmNow.pendBits 0x320).bit 0 = false := by
    have hset := State.setPend_pendBits ((State.setForce_kept _ 0x320 (s.force 0x320 &&& ~~~ (1#32))
      (Kept.refl false _)).canonical hcanonical) 0x320 (s.pendBits 0x320 &&& ~~~ (1#32))
    rw [State.disarmNow, hset]
    simp [Word.bit]
  have hforce : s.disarmNow.cfgBit 0x320 0 = false := by
    rw [State.disarmNow, State.cfgBit, State.setPend_force, State.setForce_force hcanonical]
    simp [Word.bit]
  have harmed : s.disarmNow.snr.armed = false := by rw [State.disarmNow, hdropped]; rfl
  have hring : s.disarmNow.snr.ring = 0 := by rw [State.disarmNow, hdropped]; rfl
  have hbesides : besidesChannels s.disarmNow.armBoundary = besidesChannels s.disarmNow :=
    State.armBoundary_disabled blindToChannels_besides hpend hforce harmed
  constructor
  case besides =>
    refine (besidesChannels_snare hbesides).trans ?_
    have hdrop : besidesSnare s.dropWaves = besidesSnare s :=
      State.dropWaves_keeps (fun _ _ _ _ => rfl) (fun u n => State.raise_besidesSnare _ _ _) s
    rw [← hdrop, State.disarmNow, hdropped]
    rfl
  case reg =>
    refine (State.armBoundary_disabled blindToChannels_reg hpend hforce harmed).trans ?_
    have hdrop : s.dropWaves.reg 0x320 = s.reg 0x320 :=
      State.dropWaves_keeps (m := fun u => u.reg 0x320) (fun _ _ _ _ => rfl)
        (fun u n => (State.raise_reg_other _ (by decide) (by decide)).trans
          (countBy_reg_other u 31 16 n (by decide))) s
    rw [← hdrop, State.disarmNow, hdropped]
    rfl
  case armed => exact (besidesRings_armed (besidesChannels_rings hbesides)).trans harmed
  case ring => exact (besidesChannels_ring hbesides).trans hring

/-! FORCE opens a capture, or adds a secondary to the open one (R367, R368). -/

/-- What SNR_STATUS and the counters tell of a capture that has opened (R367, R371, R376, R384). -/
def State.tellOpened (s : State) (short : Bool) (ring late : Nat) : State :=
  let s := (s.raise 0x32C 0).count 0x340
  let s := if short then s.raise 0x32C 3 else s
  let s := if ring = 1 then s else s.raise 0x32C 4
  let s := if late != 0 then s.raise 0x32C 7 else s
  if s.knellRunning then (s.countBy 0x344 15 0 1).raise 0x32C 6 else s

/-- What holds once TRIGGER is up and the capture is counted, and is kept by a further event and by the count of a
lost one. -/
theorem State.tellOpened_ind {P : State → Prop} {s : State} (hopened : P ((s.raise 0x32C 0).count 0x340))
    (hraise : ∀ (u : State) (n : Nat), P u → P (u.raise 0x32C n))
    (hcount : ∀ u : State, P u → P (u.countBy 0x344 15 0 1))
    (short : Bool) (ring late : Nat) : P (s.tellOpened short ring late) := by
  have hite : ∀ (c : Prop) [Decidable c] {u v : State}, P u → P v → P (if c then u else v) := by
    intro c _ u v hu hv
    split <;> assumption
  have hshort := hite (short = true) (hraise _ 3 hopened) hopened
  have htied := hite (ring = 1) hshort (hraise _ 4 hshort)
  have hlate := hite ((late != 0) = true) (hraise _ 7 htied) htied
  exact hite _ (hraise _ 6 (hcount _ hlate)) hlate

theorem State.tellOpened_keeps {β : Type} {m : State → β}
    (h : ∀ (u : State) (cur : List (Nat × Word)), m { u with rf.cur := cur } = m u) (s : State) (short : Bool)
    (ring late : Nat) : m (s.tellOpened short ring late) = m s :=
  State.tellOpened_ind (P := fun u => m u = m s) ((h _ _).trans (State.raise_keeps h _ _ _))
    (fun u n hu => (State.raise_keeps h u _ n).trans hu) (fun u hu => (h u _).trans hu) short ring late

theorem State.tellOpened_tells {s : State} (h : regsCanonical s = true) (short : Bool) (ring late : Nat) :
    snareTells (s.tellOpened short ring late) 0 :=
  State.tellOpened_ind (P := fun u => snareTells u 0) ((snareTells_raised h (by decide)).countBy (by decide) ..)
    (fun _ n hu => hu.raise n)
    (fun _ hu => hu.countBy (by decide) ..) short ring late

/-- A capture that opens has the next number; its time is that of its trigger tick (R367, R369, R379). -/
theorem State.openCapture_eq (s : State) (mask : BitVec 8) (cause tick : Nat) (evs : List ChanEvent) :
    ∃ (u : State) (short : Bool) (late : Nat),
      s.openCapture mask cause tick evs = u.tellOpened short s.snr.ring late ∧
      u.snr.capNum = s.snr.capNum + 1#32 ∧
      u.snr.capture.map (fun c => (c.number, c.cause, c.mask, c.time, c.bracket)) =
        some (s.snr.capNum + 1#32, cause, mask, s.tickTime tick, s.clk.bracket) ∧
      regsCanonical u = regsCanonical s ∧ besidesSnare u = besidesSnare s := by
  unfold State.openCapture
  refine ⟨_, _, _, rfl, ?_⟩
  exact ⟨rfl, rfl, rfl, rfl⟩

theorem State.openCapture_opens (s : State) (mask : BitVec 8) (cause tick : Nat) (evs : List ChanEvent) :
    (s.openCapture mask cause tick evs).snr.capNum = s.snr.capNum + 1#32 ∧
      (s.openCapture mask cause tick evs).snr.capture.map (fun c => (c.number, c.cause, c.mask, c.time, c.bracket)) =
        some (s.snr.capNum + 1#32, cause, mask, s.tickTime tick, s.clk.bracket) ∧
      besidesSnare (s.openCapture mask cause tick evs) = besidesSnare s ∧
      (regsCanonical s = true → snareTells (s.openCapture mask cause tick evs) 0) := by
  obtain ⟨u, short, late, hopened, hnumber, hcapture, hcanonical, hbesides⟩ :=
    s.openCapture_eq mask cause tick evs
  have hsnr := u.tellOpened_keeps (m := State.snr) (fun _ _ => rfl) short s.snr.ring late
  have hbeside := u.tellOpened_keeps (m := besidesSnare) (fun _ _ => rfl) short s.snr.ring late
  rw [hopened, hsnr, hbeside]
  exact ⟨hnumber, hcapture, hbesides, fun h => State.tellOpened_tells (hcanonical.trans h) short s.snr.ring late⟩

/-- The first tick of a fraction unit lies in it: a capture that FORCE opens has the tag time of the write. -/
theorem State.tickTime_firstTick (s : State) : s.tickTime (firstTick s.clk.up) = s.clk.rtc := by
  have hunit : firstTick s.clk.up * second / tickRate = s.clk.up := by
    unfold firstTick ceilDiv second tickRate
    omega
  rw [State.tickTime, hunit, Nat.sub_self, Nat.sub_zero]

theorem State.snareForce_opens {s : State} (harmed : s.snr.armed = true) (hwired : s.wired = true)
    (hidle : s.snr.capture = none) : s.snareForce = s.openCapture 0#8 2 (firstTick s.clk.up) [] := by
  simp [State.snareForce, harmed, hwired, hidle]

theorem State.snareForce_secondary {s : State} {c : Capture} (harmed : s.snr.armed = true) (hwired : s.wired = true)
    (hopen : s.snr.capture = some c) : s.snareForce = s.addSecondary c none := by
  simp [State.snareForce, harmed, hwired, hopen]

/-- A secondary without an event of its own (R368). -/
theorem State.addSecondary_eq (s : State) (c : Capture) :
    s.addSecondary c none = { s with
      snr.capture := some { c with secondaries := saturate 255 (c.secondaries + 1) }
      snr.last := (s.addSecondary c none).snr.last, rf := (s.addSecondary c none).rf } := by
  unfold State.addSecondary
  rw [raise_eq]
  rfl

/-! CAL_REQ queues one job for each channel (R385). -/

/-- The job will calibrate the channel. -/
def calibrates (ch : Nat) (j : Job) : Bool := match j.kind with
  | .calibrate c _ => c == ch
  | .selftest _ u => u == 0x20 + ch
  | _ => false

/-- Jobs have joined the queues of `s`. -/
structure JobsJoined (s t : State) : Prop where
  jobs : s.pwr.jobs <+: t.pwr.jobs
  frame : { t with
    rf := s.rf, pwr.domOn := s.pwr.domOn, pwr.jobs := s.pwr.jobs, cmt.nextId := s.cmt.nextId } = s

theorem JobsJoined.enqueue {s t : State} (h : JobsJoined s t) (queue cost weight : Nat) (kind : JobKind) :
    JobsJoined s (t.enqueue queue cost weight kind) :=
  ⟨h.jobs.trans (List.prefix_append _ _), h.frame⟩

theorem State.requestCal_cons (s : State) (reason ch : Nat) (chs : List Nat) :
    s.requestCal reason (ch :: chs) =
      (if s.pwr.jobs.any (calibrates ch) then s
        else s.enqueue 6 30000 0 (.calibrate ch reason)).requestCal reason chs := rfl

theorem JobsJoined.requestCal {s t : State} (h : JobsJoined s t) (reason : Nat) (chs : List Nat) :
    JobsJoined s (t.requestCal reason chs) := by
  induction chs generalizing t with
  | nil => exact h
  | cons ch chs ih =>
    rw [State.requestCal_cons]
    refine ih ?_
    split
    · exact h
    · exact h.enqueue _ _ _ _

theorem State.requestCal_jobs (s : State) (reason : Nat) (chs : List Nat) :
    s.pwr.jobs <+: (s.requestCal reason chs).pwr.jobs :=
  (JobsJoined.requestCal ⟨List.prefix_refl _, rfl⟩ reason chs).jobs

/-- Each channel asked for has a job that calibrates it. -/
theorem State.requestCal_calibrates (s : State) (reason : Nat) {chs : List Nat} {ch : Nat} (h : ch ∈ chs) :
    (s.requestCal reason chs).pwr.jobs.any (calibrates ch) = true := by
  induction chs generalizing s with
  | nil => cases h
  | cons c chs ih =>
    rw [State.requestCal_cons]
    rcases List.mem_cons.1 h with rfl | h
    · refine List.any_eq_true.2 ?_
      have hjob : ∃ j ∈ (if s.pwr.jobs.any (calibrates ch) then s
          else s.enqueue 6 30000 0 (.calibrate ch reason)).pwr.jobs, calibrates ch j = true := by
        split
        next hwaits => exact List.any_eq_true.1 hwaits
        next => exact ⟨_, List.mem_append_right _ (List.mem_singleton_self _), by simp [calibrates]⟩
      obtain ⟨j, hj, hcal⟩ := hjob
      exact ⟨j, (State.requestCal_jobs _ reason chs).subset hj, hcal⟩
    · exact ih _ h

/-! The commands that a written word carries. -/

/-- The word names no channel to calibrate. -/
abbrev namesNone (v : Word) : Prop := ∀ n, n < 8 → v.bit (8 + n) = false

theorem namesNone_of_field {v : Word} (h : v.field 15 8 = 0) : namesNone v := by
  intro n hn
  have hbit := congrArg (fun x => x.testBit n) h
  simp only [Word.field, Nat.testBit_mod_two_pow, Nat.testBit_div_two_pow, Nat.zero_testBit] at hbit
  rw [Nat.add_comm, Word.bit, BitVec.getLsbD]
  simpa [hn] using hbit

theorem State.snrCommands_none {s : State} {v : Word} (hcal : namesNone v) :
    s.snrCommands v = s.onBit v 16 State.snareForce := by
  have hchs : (List.range 8).filter (fun n => v.bit (8 + n)) = [] := by
    refine List.filter_eq_nil_iff.2 (fun n hn => ?_)
    simp [hcal n (List.mem_range.1 hn)]
  rw [State.snrCommands, hchs]
  rfl

/-! The commands of SNR_CTRL, each from its write to what it leaves. -/

theorem State.endTransaction_reg (s : State) (first : Byte) (r : Nat) (bytes : List Byte) (p : Nat) :
    (s.endTransaction first r bytes).reg p = s.reg p := rfl

theorem and_one_of_bit {v : Word} {en : Bool} (h : v.bit 0 = en) : v &&& 1#32 = if en then 1#32 else 0#32 := by
  subst h
  exact BitVec.and_twoPow v 0

/-- A write with EN 1 (R390, R391). -/
theorem State.portWrite_snrCtrl_on {s : State} {v : Word} (hruns : runs s) (hport : portReady s 0x320)
    (hkey : v.bit 16 = true → keyReady s) (hen : v.bit 0 = true) :
    s.portWrite .regp 0x320 v =
      ((s.storeEn 1#32).armBoundary.snrCommands v).endTransaction (s.wakeFor .regp).statusByte 0 (zeroBytes 6) := by
  rw [State.portWrite_snrCtrl hruns hport hkey, and_one_of_bit hen]
  rfl

/-- A write with EN 0 disarms (R391). -/
theorem State.portWrite_snrCtrl_off {s : State} {v : Word} (hruns : runs s) (hport : portReady s 0x320)
    (hkey : v.bit 16 = true → keyReady s) (hen : v.bit 0 = false) :
    s.portWrite .regp 0x320 v =
      ((s.storeEn 0#32).disarmNow.armBoundary.snrCommands v).endTransaction (s.wakeFor .regp).statusByte 0
        (zeroBytes 6) := by
  rw [State.portWrite_snrCtrl hruns hport hkey, and_one_of_bit hen]
  rfl

/-- EN is the only configuration bit of SNR_CTRL. -/
theorem State.enableWrite_snrCtrl (s : State) (en : Bool) :
    s.enableWrite .regp 0x320 en = s.portWrite .regp 0x320 (if en then 1#32 else 0#32) := by
  have hword : s.withBits .regp 0x320 1#32 (if en then 1#32 else 0#32) = if en then 1#32 else 0#32 := by
    have hold : s.configOf .regp snrCtrl = s.reg 0x320 &&& 1#32 := rfl
    rw [State.withBits, regDesc_snrCtrl]
    dsimp only
    rw [hold, BitVec.and_assoc]
    cases en <;> simp
  rw [State.enableWrite, hword]

theorem bit_withForce (v : Word) {n : Nat} (h : n < 16) : (v ||| Word.oneBit 16).bit n = v.bit n := by
  have hone : (Word.oneBit 16).getLsbD n = false := by
    rw [show Word.oneBit 16 = BitVec.twoPow 32 16 from rfl, BitVec.getLsbD_twoPow]
    simp; omega
  simp [Word.bit, hone]

/-- FORCE with EN 1 and no channel named. -/
theorem State.commandWrite_force {s : State} {v : Word} (hruns : runs s) (hport : portReady s 0x320)
    (hkey : keyReady s) (hen : v.bit 0 = true) (hcal : v.field 15 8 = 0) :
    s.commandWrite .regp 0x320 16 v =
      (s.storeEn 1#32).armBoundary.snareForce.endTransaction (s.wakeFor .regp).statusByte 0 (zeroBytes 6) := by
  have hnone : namesNone (v ||| Word.oneBit 16) := fun n hn =>
    (bit_withForce v (by omega)).trans (namesNone_of_field hcal n hn)
  have hforce : (v ||| Word.oneBit 16).bit 16 = true := by
    have hone : (Word.oneBit 16).getLsbD 16 = true := by decide
    simp [Word.bit, hone]
  rw [State.commandWrite, State.portWrite_snrCtrl_on hruns hport (fun _ => hkey)
      ((bit_withForce v (by decide)).trans hen), State.snrCommands_none hnone, State.onBit, if_pos hforce]

theorem State.snrCommands_enable (s : State) (en : Bool) : s.snrCommands (if en then 1#32 else 0#32) = s := by
  have hnone : namesNone (if en then 1#32 else 0#32) := by
    intro n hn
    cases en <;> simp [Word.bit]
  have hforce : (if en then 1#32 else 0#32 : Word).bit 16 = false := by cases en <;> rfl
  rw [State.snrCommands_none hnone, State.onBit, hforce]
  rfl

/-- FORCE of an armed Snare without an open capture, where the rings may have started since `s`. -/
theorem State.snareForce_ringsStarted {s t : State} (h : besidesRings t = besidesRings s)
    (hcanonical : regsCanonical t = true) (harmed : s.snr.armed = true) (hwired : s.wired = true)
    (hidle : s.snr.capture = none) :
    t.snareForce.snr.capNum = s.snr.capNum + 1#32 ∧
      t.snareForce.snr.capture.map (fun c => (c.number, c.cause, c.mask, c.time, c.bracket)) =
        some (s.snr.capNum + 1#32, 2, 0#8, s.clk.rtc, s.clk.bracket) ∧
      besidesSnare t.snareForce = besidesSnare s ∧ snareTells t.snareForce 0 := by
  obtain ⟨hnumber, hcapture, hbesides, htells⟩ := t.openCapture_opens 0#8 2 (firstTick t.clk.up) []
  rw [State.snareForce_opens ((besidesRings_armed h).trans harmed) ((besidesRings_wired h).trans hwired)
    ((besidesRings_capture h).trans hidle), ← besidesRings_capNum h, ← besidesRings_clk h]
  rw [State.tickTime_firstTick] at hcapture
  exact ⟨hnumber, hcapture, hbesides.trans (besidesRings_snare h), htells hcanonical⟩

/-- A secondary is told in SNR_STATUS (R368, R391). -/
theorem State.addSecondary_tells {s : State} (h : regsCanonical s = true) (c : Capture) (e : Option ChanEvent) :
    snareTells (s.addSecondary c e) 2 := by
  unfold State.addSecondary
  exact snareTells_raised (k := 2) h (by decide)

/-- Settles O23: each clause is the write of SNR_CTRL (`portWrite_snrCtrl`), what the arm boundary then makes of EN,
and what the commands of the word make of that. -/
theorem snareCommands : Obligations.SnareCommands := by
  intro s v hruns hport hcanonical
  have hwired := hport.1
  have hstored : ∀ en, regsCanonical (s.storeEn en) = true := State.storeEn_canonical hcanonical
  have hsnr := s.storeEn_snr
  refine ⟨?secondary, ?opens, ?calReq, ?enable, ?disable⟩
  case secondary =>
    intro hkey hen hcal harmed hopen
    obtain ⟨c, hc⟩ := Option.isSome_iff_exists.1 hopen
    refine ⟨_, next_live hruns _, ?_⟩
    rw [State.commandWrite_force hruns hport hkey hen hcal, State.armBoundary_busy (by rwa [hsnr]),
      State.snareForce_secondary (by rwa [hsnr]) (by rwa [State.storeEn_wired]) ((congrArg _ (hsnr _)).trans hc)]
    refine ⟨?_, (State.addSecondary_tells (hstored _) c none).2, rfl, ?_⟩
    · rw [hc]; rfl
    · rw [State.addSecondary_eq, State.storeEn_eq]; rfl
  case opens =>
    intro hkey hen hcal harmed hidle
    have hrings := State.armBoundary_armed (s := s.storeEn 1#32) (by rwa [hsnr]) (by rwa [hsnr])
    have hboundary := (State.armBoundary_kept _ (Kept.refl false (s.storeEn 1#32))).canonical (hstored _)
    obtain ⟨hnumber, hcapture, hbesides, htells⟩ :=
      State.snareForce_ringsStarted hrings hboundary (by rwa [hsnr]) (by rwa [State.storeEn_wired]) (by rwa [hsnr])
    rw [hsnr] at hnumber hcapture
    rw [State.storeEn_clk] at hcapture
    refine ⟨_, next_live hruns _, ?_⟩
    rw [State.commandWrite_force hruns hport hkey hen hcal]
    exact ⟨hnumber, hcapture, htells.2, rfl, besidesSnare_frame (hbesides.trans (s.storeEn_besidesSnare _))⟩
  case calReq =>
    intro hen hforce hopen
    have hjoined : JobsJoined s (s.storeEn 1#32) := ⟨by rw [State.storeEn_eq], by rw [State.storeEn_eq]⟩
    have hasked := hjoined.requestCal 2 ((List.range 8).filter (fun n => v.bit (8 + n)))
    refine ⟨_, next_live hruns _, ?_⟩
    rw [State.portWrite_snrCtrl_on hruns hport (fun h => absurd (h.symm.trans hforce) (by decide)) hen,
      State.armBoundary_busy (by rwa [hsnr]), State.snrCommands, State.onBit, hforce]
    refine ⟨fun ch hch hnamed => ?_, (List.prefix_iff_eq_take.1 hasked.jobs).symm, rfl, hasked.frame⟩
    exact State.requestCal_calibrates _ _ (List.mem_filter.2 ⟨List.mem_range.2 hch, hnamed⟩)
  case enable =>
    intro harmed hidle hstart hfirst hdom hstep hknell
    have hmay : mayArm (s.storeEn 1#32) :=
      ⟨by rwa [State.storeEn_wired], by rw [State.storeEn_eq]; exact hknell, by rw [State.storeEn_eq]; exact hstep,
        by rwa [hsnr], by rwa [State.storeEn_domOn], by rwa [hsnr], by rwa [hsnr]⟩
    have hen : ((s.storeEn 1#32).applyAt .snrArm 0x320).cfgBit 0x320 0 = true :=
      (State.applyAt_enables (hstored _) (State.storeEn_pendBits hcanonical _)).trans (State.storeEn_reg hcanonical _)
    obtain ⟨hrings, hreg⟩ := State.armBoundary_arms (by rwa [hsnr]) hen hmay
    refine ⟨_, next_live hruns _, ?_⟩
    rw [State.enableWrite_snrCtrl, State.portWrite_snrCtrl_on hruns hport (fun h => absurd h (by decide)) (by decide),
      State.snrCommands_enable _ true]
    refine ⟨besidesRings_armed hrings, ?_, rfl, ?_⟩
    · rw [State.endTransaction_reg, hreg, State.storeEn_reg hcanonical]; rfl
    · exact besidesSnare_frame ((besidesRings_snare hrings).trans (s.storeEn_besidesSnare 1#32))
  case disable =>
    intro harmed hcal
    have hdone := State.disarmNow_armBoundary (hstored 0#32) (by rwa [hsnr])
    refine ⟨_, next_live hruns _, ?_⟩
    rw [State.enableWrite_snrCtrl, State.portWrite_snrCtrl_off hruns hport (fun h => absurd h (by decide)) (by decide),
      State.snrCommands_enable _ false]
    refine ⟨hdone.armed, hdone.ring, ?_, rfl, ?_⟩
    · rw [State.endTransaction_reg, hdone.reg, State.storeEn_reg hcanonical]; rfl
    · exact besidesSnare_frame (hdone.besides.trans (s.storeEn_besidesSnare _))

end Sys2Proof.Machine
end

section
/-! The statements of the family of the entropy source. Two of them fail in one of their clauses; the refutation of
each evaluates the command of the clause on one concrete state that meets its hypotheses. For the third, what a source
holds after it has failed is followed through all that its failure brings about. -/

namespace Sys2Proof.Machine

/-! The tests of R398 over the samples of a window. -/

/-- What holds before the first sample, and of one more sample where it held before, holds of the whole window. -/
theorem testSamples_induct {n : Nat} (w : BitVec n) (run : Nat) (last : Bool) {P : Nat → TestRun → Prop}
    (hfresh : P 0 (freshRun run last))
    (hsample : ∀ k t, k < n → P k t → P (k + 1) (if t.failed.isSome then t else countSample t (w.getLsbD k) k)) :
    P n (testSamples w run last) := by
  suffices h : ∀ m, m ≤ n → P m ((List.range m).foldl
      (fun t k => if t.failed.isSome then t else countSample t (w.getLsbD k) k) (freshRun run last)) from h n le_rfl
  intro m
  induction m with
  | zero => exact fun _ => hfresh
  | succ m ih =>
    intro hm
    rw [List.range_succ, List.foldl_append]
    exact hsample m _ hm (ih (by omega))

/-- Only a run or a count that has reached its cutoff fails a test (R398). -/
def failsAtCutoff (t : TestRun) : Prop := t.failed = none ∨ rctCutoff ≤ t.runMax ∨ aptCutoff ≤ t.cnt

theorem countSample_failsAtCutoff (t : TestRun) (b : Bool) (k : Nat) : failsAtCutoff (countSample t b k) := by
  unfold failsAtCutoff countSample
  extract_lets run ref cnt
  dsimp only
  split
  · next hrun => exact .inr (.inl (hrun.trans (le_max_right _ _)))
  · split
    · next hcnt => exact .inr (.inr hcnt)
    · exact .inl rfl

theorem testSamples_failsAtCutoff {n : Nat} (w : BitVec n) (run : Nat) (last : Bool) :
    failsAtCutoff (testSamples w run last) := by
  refine testSamples_induct w run last (P := fun _ t => failsAtCutoff t) (.inl rfl) fun k t _ ht => ?_
  split
  · exact ht
  · exact countSample_failsAtCutoff t _ k

theorem testWindow_passes {w : BitVec 1024} {run : Nat} {last : Bool} (hrun : (testWindow w run last).runMax < 129)
    (hcnt : (testWindow w run last).cnt < 851) : (testWindow w run last).failed = none := by
  obtain h | h | h := testSamples_failsAtCutoff w run last
  · exact h
  · exact absurd hrun (Nat.not_lt.2 h)
  · exact absurd hcnt (Nat.not_lt.2 h)

/-- Alternating samples, the first of them a 1. -/
abbrev alternating (k : Nat) : BitVec (2 * k) := BitVec.replicate k 1#2

theorem alternating_getLsbD {k i : Nat} (h : i < 2 * k) : (alternating k).getLsbD i = decide (i % 2 = 0) := by
  rw [BitVec.getLsbD_replicate, decide_eq_true h, Bool.true_and]
  obtain hi | hi := Nat.mod_two_eq_zero_or_one i <;> rw [hi] <;> rfl

/-- What the tests have counted over `k` alternating samples: no run, and every other sample as the first. -/
def alternatingRun (k : Nat) : TestRun :=
  { run := 1, last := decide (k % 2 = 1), ref := true, cnt := (k + 1) / 2, runMax := 1, failed := none }

theorem countSample_alternatingRun {k : Nat} (hpos : k ≠ 0) (hk : k < 1700) :
    countSample (alternatingRun k) (decide (k % 2 = 0)) k = alternatingRun (k + 1) := by
  have hturns : decide (k % 2 = 0) ≠ decide (k % 2 = 1) := by
    obtain h | h := Nat.mod_two_eq_zero_or_one k <;> simp [h]
  have hcnt : (if decide (k % 2 = 0) = true then (k + 1) / 2 + 1 else (k + 1) / 2) = (k + 1 + 1) / 2 := by
    simp only [decide_eq_true_eq]
    split <;> omega
  have hhalf : ¬ 851 ≤ (k + 1 + 1) / 2 := by omega
  simp only [countSample, alternatingRun, if_neg hpos, hturns, hcnt]
  simp [rctCutoff, aptCutoff, hhalf]
  omega

/-- The tests over alternating samples, with which a run before them does not go on. -/
theorem testSamples_alternating {k : Nat} (hpos : k ≠ 0) (hk : k ≤ 850) {run : Nat} {last : Bool}
    (h : run = 0 ∨ last = false) : testSamples (alternating k) run last = alternatingRun (2 * k) := by
  have hall := testSamples_induct (alternating k) run last
    (P := fun i t => t = if i = 0 then freshRun run last else alternatingRun i) rfl fun i t hi ht => ?_
  · rwa [if_neg (by omega)] at hall
  · rw [ht, alternating_getLsbD hi, if_neg (Nat.succ_ne_zero i)]
    by_cases hi0 : i = 0
    · subst hi0
      obtain rfl | rfl := h <;> simp [countSample, freshRun, alternatingRun, rctCutoff, aptCutoff]
    · rw [if_neg hi0]
      exact countSample_alternatingRun hi0 (by omega)

/-! A self-test that waits for the block boundary of its source. -/

/-- The tests run over the samples of a source that is on. -/
theorem State.effBlockRelease_on {s : State} {x : Src} (hon : (s.source1 x).state = 1 ∨ (s.source1 x).state = 2)
    (v : BitVec 1024) (nx : BitVec 128) :
    s.effBlockRelease x v nx =
      s.afterTest x (takenWindow s x v) nx (s.source1 x) (windowRun s x v) (nextRun s x v nx) := by
  have hoff : ((s.source1 x).state ≠ 1 && (s.source1 x).state ≠ 2) ≠ true := by
    obtain h | h := hon <;> simp [h]
  exact if_neg hoff

/-- Both sources run, and the self-test of ENTA has been granted: it begins at the source's block boundary (R411). The
field buffer's domain is gated, and the host FIFO is on, as reset leaves it. -/
def awaitsTest : State :=
  { poweredTag.setDom 3 false with
    ent.a.state := 2, ent.b.state := 2, st.current := some (1, 0x10), st.queue := [(1, 0x10)] }

/-- Refutes O54: the clause on the host FIFO has the source RUNNING after its release; in `awaitsTest` the self-test
that waits for the block boundary begins there, and the source is in TEST (R411). -/
theorem not_blockRelease : ¬ Obligations.BlockRelease := by
  intro h
  obtain ⟨-, hfifo, -⟩ := h awaitsTest .a (alternating 512) (alternating 64) (by decide +kernel) rfl rfl
  have hwindow : windowRun awaitsTest .a (alternating 512) = alternatingRun 1024 :=
    testSamples_alternating (k := 512) (by decide) (by decide) (.inl rfl)
  have hnext : nextRun awaitsTest .a (alternating 512) (alternating 64) = alternatingRun 128 := by
    unfold nextRun
    rw [hwindow]
    exact testSamples_alternating (k := 64) (by decide) (by decide) (.inr rfl)
  obtain ⟨t, ht, hsource, -⟩ := hfifo (congrArg TestRun.failed hwindow) (congrArg TestRun.failed hnext) rfl rfl
    (by decide +kernel) rfl (by decide +kernel)
  obtain rfl := Host.Outcome.next.inj ((next_liveAir (by decide +kernel) _).symm.trans ht)
  have hstate := congrArg Source.state hsource
  rw [State.effBlockRelease_on (.inr rfl), hnext, hwindow] at hstate
  exact absurd hstate (by decide +kernel)

/-! A failure whose audit record needs a new extent. -/

/-- Both sources run, the checkpoint counter stands at 1 (R108), and the head of the audit partition stands at the end
of its extent. -/
def auditAtExtentEnd : State :=
  { poweredTag with
    ent.a.state := 2, ent.b.state := 2, arr.tolls := setNth poweredTag.arr.tolls 2 (newToll 2 1 1)
  }.modPart (partOf 0x80#8) (fun x => { x with head := extSectors })

/-- Refutes O55: the clause on a RUNNING source leaves the array as it is; in `auditAtExtentEnd` the audit record
reserves an extent, whose assignment the array stamps with the checkpoint epoch (R73, R78). -/
theorem not_healthTests : ¬ Obligations.HealthTests := by
  intro h
  obtain ⟨hfails, -⟩ := h auditAtExtentEnd .a 0 0 (by decide +kernel)
  obtain ⟨t, ht, -, -, -, -, -, -, -, hframe⟩ := hfails 0 rfl rfl (by decide) (by decide +kernel) rfl
    (by decide +kernel) rfl rfl rfl rfl rfl (Or.inl rfl)
  have hkeeps : t.arr.extEpochs = auditAtExtentEnd.arr.extEpochs := congrArg (fun u => u.arr.extEpochs) hframe
  obtain rfl := Host.Outcome.next.inj ((next_liveAir (by decide +kernel) _).symm.trans ht)
  have hbefore : auditAtExtentEnd.arr.extEpochs.length = 0 := by decide +kernel
  have hafter : (auditAtExtentEnd.effHealthTestFail .a 0 0 0).arr.extEpochs.length = 1 := by decide +kernel
  rw [hkeeps, hbefore] at hafter
  cases hafter

/-! What the commit engine leaves of the entropy engine. -/

theorem State.moveRec_ent (s : State) (p : Nat) (r : Stored) : (s.moveRec p r).ent = s.ent := by
  unfold State.moveRec
  rw [State.journal_keeps (m := State.ent) (fun _ _ _ _ => rfl) (fun _ _ _ _ => rfl)]
  exact (State.enterExtents_keeps (m := State.ent) (fun _ _ _ _ _ _ => rfl) _ _ _ _).trans
    (State.touchAll_keeps (m := State.ent) (fun _ _ _ _ => rfl) _ _)

theorem State.compactOnce_ent (s : State) (p : Nat) : (s.compactOnce p).ent = s.ent := by
  unfold State.compactOnce State.giveFree
  dsimp only
  split
  · rfl
  · split
    · split
      · exact foldl_keeps (m := State.ent) (fun u r => u.moveRec_ent p r) _ _
      · exact foldl_keeps (m := State.ent) (fun u r => u.moveRec_ent p r) _ _
    · exact foldl_keeps (m := State.ent) (fun u r => u.moveRec_ent p r) _ _

theorem State.compact_ent (s : State) (p need fuel : Nat) : (s.compact p need fuel).ent = s.ent := by
  induction fuel generalizing s with
  | zero => rfl
  | succ fuel ih =>
    unfold State.compact
    split
    · rfl
    · rw [ih, State.compactOnce_ent]

theorem State.roomAtHead_ent (s : State) (p n : Nat) : (s.roomAtHead p n).ent = s.ent := by
  unfold State.roomAtHead
  split
  · exact s.compact_ent _ _ _
  · rfl

theorem State.allocate_ent (s : State) (r : Rec) (hook : Hook) (ra checked : Bool) (slot place : Nat)
    (credits : Option (Cls × Nat)) (openFrame : Option Cls) (prev : Option (Option Word)) :
    (s.allocate r hook ra checked slot place credits openFrame prev).ent = s.ent := by
  rw [← s.roomAtHead_ent r.hdr.part (sectorsOf r.hdr.length)]
  unfold State.allocate
  dsimp only
  split <;> split <;> rfl

theorem State.setSeq_ent (s : State) (loc cls : Nat) (w : Word) : (s.setSeq loc cls w).ent = s.ent := by
  unfold State.setSeq
  split <;> rfl

theorem State.placeOwn_ent (s : State) (r : Rec) (hook : Hook) (ra checked : Bool) (slot place : Nat)
    (openFrame : Option Cls) : (s.placeOwn r hook ra checked slot place openFrame).ent = s.ent :=
  (State.allocate_ent _ _ _ _ _ _ _ _ _ _).trans (s.setSeq_ent _ _ _)

theorem State.closeZero_ent (s : State) (part : Nat) (checked : Bool) : (s.closeZero part checked).ent = s.ent := by
  unfold State.closeZero
  split
  · rfl
  · exact s.stamp.placeOwn_ent _ _ _ _ _ _ _

theorem State.gapAhead_ent (s : State) (src : BitVec 16) (cls part : Nat) (g : Word × Word) (checked : Bool) :
    (s.gapAhead src cls part g checked).ent = s.ent :=
  (State.placeOwn_ent _ _ _ _ _ _ _ _).trans (s.closeZero_ent part checked)

theorem State.passOwn_ent (s : State) (r : Rec) (hook : Hook) (ra checked : Bool) (slot place : Nat)
    (openFrame : Option Cls) : (s.passOwn r hook ra checked slot place openFrame).ent = s.ent := by
  unfold State.passOwn
  dsimp only
  rw [State.placeOwn_ent]
  split
  · rfl
  · split
    · exact s.closeZero_ent _ _
    · split
      · rfl
      · exact s.gapAhead_ent _ _ _ _ _

theorem State.auditSelf_ent (s : State) (loc code obj : Nat) (detail : List Byte) :
    (s.auditSelf loc code obj detail).ent = s.ent := by
  unfold State.auditSelf State.audit State.create State.createCls State.admitInternal
  dsimp only
  split
  · exact State.raise_ent _ _ _
  · split
    · exact s.stamp.passOwn_ent _ _ _ _ _ _ _
    · rfl

/-! What the ends of self-tests leave of the entropy engine. -/

theorem State.endTest_ent (s : State) (req unit outcome detail value back : Nat) (audit : Option Nat) :
    (s.endTest req unit outcome detail value back audit).ent = s.ent := by
  unfold State.endTest
  dsimp only
  split
  · split
    · rw [State.auditSelf_ent, State.raise_ent, State.raise_ent]; rfl
    · rw [State.raise_ent, State.raise_ent]; rfl
  · rw [State.raise_ent]; rfl

theorem State.endSelftest_ent (s : State) (outcome detail value back : Nat) (audit : Option Nat) :
    (s.endSelftest outcome detail value back audit).ent = s.ent := by
  unfold State.endSelftest
  split
  · rfl
  · exact s.endTest_ent _ _ _ _ _ _ _

theorem State.startNextTest_ent (s : State) : s.startNextTest.ent = s.ent := by
  unfold State.startNextTest
  split
  · rfl
  · split
    · rfl
    · dsimp only
      split
      · rfl
      · split <;> rfl

theorem State.endTests_ent (s : State) (unit detail loc : Nat) : (s.endTests unit detail loc).ent = s.ent :=
  (State.startNextTest_ent _).trans (foldl_keeps (m := State.ent) (fun u _ => u.endTest_ent _ _ _ _ _ _ _) _ s)

/-! What the consumers of blocks leave of the entropy engine. -/

theorem State.boundary_ent (s : State) (b : Boundary) : (s.boundary b).ent = s.ent := by rw [boundary_eq]

theorem State.wakeTrigger_ent (s : State) (code : Nat) : (s.wakeTrigger code).1.ent = s.ent := by
  unfold State.wakeTrigger
  extract_lets w
  have hw : w.ent = s.ent := s.boundary_ent _
  split
  · exact hw
  · split
    · exact (State.raise_ent _ _ _).trans hw
    · exact (State.raise_ent _ _ _).trans ((w.boundary_ent _).trans hw)

theorem State.checkReady_ent (s : State) : s.checkReady.ent = s.ent := by
  unfold State.checkReady
  dsimp only
  split
  · split
    · rfl
    · rw [State.wakeTrigger_ent]
  · rfl

theorem State.complete_ent (s : State) (h : MgmtHdr) (op status flags : Nat) (fields body : List Byte) :
    (s.complete h op status flags fields body).ent = s.ent := by
  unfold State.complete State.sendFrame
  dsimp only
  split <;> split <;> rfl

theorem State.helloFinish_ent {s u : State} {h : MgmtHdr} {c : Nat} {x : Ctx} {b : BitVec 256}
    (hu : s.helloFinish h c x b = some u) : u.ent = s.ent := by
  unfold State.helloFinish at hu
  extract_lets rights req comp sig y t at hu
  split at hu
  · cases hu
  · obtain rfl := Option.some.inj hu
    refine (State.complete_ent _ _ _ _ _ _ _).trans ?_
    unfold t
    split
    · exact (State.countBy_ent _ _ _ _ _).trans (State.raise_ent _ _ _)
    · rfl

theorem State.helloBlock_ent {s u : State} {prio : Nat} {h : MgmtHdr} {c : Nat} {b : BitVec 256}
    (hu : s.helloBlock prio h c b = some u) : u.ent = s.ent := by
  unfold State.helloBlock at hu
  split at hu
  · obtain rfl := Option.some.inj hu; rfl
  · split at hu
    · obtain rfl := Option.some.inj hu; rfl
    · split at hu
      · cases hu
      · split at hu
        · obtain rfl := Option.some.inj hu; rfl
        · exact State.helloFinish_ent hu

theorem State.finishSign_ent (s : State) (k : Nat) (payload : List Byte) : (s.finishSign k payload).ent = s.ent := by
  unfold State.finishSign State.passManifest
  dsimp only
  split
  · exact s.stamp.passOwn_ent _ (.manifest k) false true k _ none
  · rfl

theorem State.kSignBlock_ent {s u : State} {k : Nat} {b : BitVec 256} (hu : s.kSignBlock k b = some u) :
    u.ent = s.ent := by
  unfold State.kSignBlock at hu
  dsimp only at hu
  split at hu
  · cases hu
  · obtain rfl := Option.some.inj hu
    exact State.finishSign_ent _ _ _

theorem State.auditExport_ent (s : State) (p : Nat) (strokes : List Nat) : (s.auditExport p strokes).ent = s.ent :=
  foldl_keeps (m := State.ent) (fun u _ => u.auditSelf_ent _ _ _ _) _ s

theorem State.modMbx_ent (s : State) (p : Port) (f : Mbx → Mbx) : (s.modMbx p f).ent = s.ent := by
  cases p <;> rfl

theorem State.bivikBlock_ent {s u : State} {p : Port} {b : BitVec 256} (hu : s.bivikBlock p b = some u) :
    u.ent = s.ent := by
  have hexport (part : Nat) (l : List Nat) : ((s.endJob (.bivik p)).auditExport part l).ent = s.ent :=
    State.auditExport_ent _ _ _
  unfold State.bivikBlock State.endMbx at hu
  dsimp only at hu
  split at hu
  · cases hu
  · split at hu
    · obtain rfl := Option.some.inj hu
      rw [State.modMbx_ent, hexport]
    · split at hu
      · obtain rfl := Option.some.inj hu
        rw [State.modMbx_ent, hexport]
      · obtain rfl := Option.some.inj hu
        rw [State.modMbx_ent, State.modMbx_ent, hexport]

theorem State.fieldError_ent (s : State) (code : Nat) : (s.fieldError code).ent = s.ent := by
  unfold State.fieldError
  dsimp only
  (repeat' split) <;> rfl

theorem State.exportBlock_ent {s u : State} {b : BitVec 256} (hu : s.exportBlock b = some u) : u.ent = s.ent := by
  unfold State.exportBlock at hu
  split at hu
  · obtain rfl := Option.some.inj hu; rfl
  · split at hu
    · cases hu
    · dsimp only at hu
      split at hu
      · obtain rfl := Option.some.inj hu
        exact (State.fieldError_ent _ _).trans (State.auditExport_ent _ _ _)
      · obtain rfl := Option.some.inj hu
        exact State.auditExport_ent _ _ _

/-- A use of a block (R406). -/
theorem State.useBlock_ent {s u : State} {r : EntReq} {b : BitVec 256} (hu : s.useBlock r b = some u) :
    u.ent = s.ent := by
  unfold State.useBlock at hu
  split at hu
  · exact State.helloBlock_ent hu
  · exact State.kSignBlock_ent hu
  · exact State.bivikBlock_ent hu
  · exact State.exportBlock_ent hu

/-! What the pool and its consumers leave of the sources. -/

theorem source1_of_ent {s t : State} (h : t.ent = s.ent) : t.source1 = s.source1 := by
  funext x
  simp only [State.source1, h]

theorem State.raise_source1 (s : State) (o n : Nat) : (s.raise o n).source1 = s.source1 :=
  source1_of_ent (s.raise_ent o n)

theorem source1_ite {p : Prop} [Decidable p] {t u : State} {x : Src} {v : Source} (ht : t.source1 x = v)
    (hu : u.source1 x = v) : (if p then t else u).source1 x = v := by
  split
  · exact ht
  · exact hu

theorem State.consume_source1 (s : State) (x : Src) (b : BitVec 256) : (s.consume x b).1.source1 = s.source1 := by
  unfold State.consume
  split
  · exact source1_of_ent (State.checkReady_ent _)
  · split
    · dsimp only
      split
      · next hu =>
        have huse := source1_of_ent (State.useBlock_ent hu)
        exact huse
      · rfl
    · split <;> rfl

theorem State.servePool_source1 (s : State) (fuel : Nat) : (s.servePool fuel).source1 = s.source1 := by
  induction fuel generalizing s with
  | zero => rfl
  | succ fuel ih =>
    unfold State.servePool
    split
    · rfl
    · next x b l _ =>
      have hconsume := { s with ent.pool := l }.consume_source1 x b
      split
      · next u hu =>
        rw [hu] at hconsume
        exact (ih u).trans hconsume
      · rfl

theorem State.feed_source1 (s : State) : s.feed.source1 = s.source1 := s.servePool_source1 17

theorem State.closeCtx_source1 (s : State) (c : Nat) : (s.closeCtx c).source1 = s.source1 := by
  unfold State.closeCtx
  split
  · rfl
  · rw [State.raise_source1]
    rfl

theorem State.refuseUse_source1 (s : State) (r : EntReq) : (s.refuseUse r).source1 = s.source1 := by
  unfold State.refuseUse
  split
  · split
    · exact (source1_of_ent ((State.complete_ent _ _ _ _ _ _ _).trans
        ((State.countBy_ent _ _ _ _ _).trans (State.raise_ent _ _ _)))).trans (s.closeCtx_source1 _)
    · rfl
  · exact source1_of_ent (s.finishSign_ent _ _)
  · exact source1_of_ent (State.modMbx_ent _ _ _)
  · exact source1_of_ent (State.fieldError_ent _ _)

theorem State.refuseAll_source1 (s : State) : s.refuseAll.source1 = s.source1 :=
  (foldl_keeps (m := State.source1) (fun u _ => u.refuseUse_source1 _) _ _).trans
    (foldl_keeps (m := State.source1) (fun u _ => u.refuseUse_source1 _) _ _)

/-! A FAILED source stays as it is (R403). -/

@[simp] theorem State.setSource_source1 (s : State) (x : Src) (v : Source) : (s.setSource x v).source1 x = v := by
  cases x <;> rfl

theorem State.setSource_source1_other {x y : Src} (h : y ≠ x) (s : State) (v : Source) :
    (s.setSource x v).source1 y = s.source1 y := by
  cases x with
  | a => cases y with
    | a => exact absurd rfl h
    | b => rfl
  | b => cases y with
    | a => rfl
    | b => exact absurd rfl h

section
variable {s : State} {x : Src} {v : Source} (hv : v.state = 5) (h : s.source1 x = v)
include hv h

/-- A source that is written only where it is not FAILED. -/
theorem State.setSource_failed {y : Src} {w : Source} (hw : (s.source1 y).state = 5 → w = s.source1 y) :
    (s.setSource y w).source1 x = v := by
  by_cases hxy : x = y
  · subst hxy
    rw [State.setSource_source1, hw (by rw [h, hv]), h]
  · rw [State.setSource_source1_other hxy, h]

theorem State.wakeSource_failed (y : Src) : (s.wakeSource y).source1 x = v := by
  unfold State.wakeSource
  split
  · exact s.setSource_failed hv h (fun h5 => by omega)
  · exact h

theorem State.leaveTest_failed (y : Src) : (s.leaveTest y).source1 x = v := by
  unfold State.leaveTest
  dsimp only
  split
  · exact s.setSource_failed hv h (fun h5 => by omega)
  · exact h

theorem State.abortTest_failed : s.abortTest.source1 x = v := by
  unfold State.abortTest
  split
  · exact h
  · next req unit _ =>
    dsimp only
    have hbanks : (if unit < 4 && nth s.arr.banks unit = 1 then
        { s with arr.banks := setNth s.arr.banks unit 0 } else s).source1 x = v := source1_ite h h
    have hleaves := State.leaveTest_failed hv (State.leaveTest_failed hv hbanks .a) .b
    rw [source1_of_ent (State.startNextTest_ent _)]
    refine source1_ite ?_ ?_
    · rwa [State.raise_source1, source1_of_ent (State.endSelftest_ent _ _ _ _ _ _)]
    · rwa [source1_of_ent (State.endSelftest_ent _ _ _ _ _ _)]

theorem State.gateSource_failed (y : Src) : (s.gateSource y).source1 x = v := by
  have habort : (if (s.source1 y).state = 3 then s.abortTest else s).source1 x = v :=
    source1_ite (s.abortTest_failed hv h) h
  unfold State.gateSource
  split
  · exact h
  · exact State.setSource_failed hv habort (fun h5 => if_pos h5)

theorem State.abortRaw_failed : s.abortRaw.source1 x = v := by
  unfold State.abortRaw
  split
  · next r _ =>
    split
    · rw [State.raise_source1]
      dsimp only
      split
      · next h4 =>
        exact State.setSource_failed (s := { s with ent.raw := none }) hv h
          (fun h5 => absurd (h4.symm.trans h5) (by decide))
      · exact h
    · exact h
  · split
    · rw [State.raise_source1]
      exact h
    · exact h

theorem State.entPower_failed : s.entPower.source1 x = v := by
  have hwake (b : Bool) (y : Src) {t : State} (ht : t.source1 x = v) :
      (if b then t.wakeSource y else t).source1 x = v := source1_ite (State.wakeSource_failed hv ht y) ht
  have hgate (b : Bool) (y : Src) {t : State} (ht : t.source1 x = v) :
      (if b then t.gateSource y else t).source1 x = v := source1_ite (State.gateSource_failed hv ht y) ht
  exact hgate _ _ (hgate _ _ (hwake _ _ (hwake _ _ h)))

end

/-- A source that fails is FAILED with its code (R400, R403). -/
theorem State.failSource_source1 (s : State) (x : Src) (code count window : Nat) :
    (s.failSource x code count window).source1 x = { s.source1 x with state := 5, code := code, fast := false } := by
  unfold State.failSource
  extract_lets v held s1 s2 unit s3 o
  set f : Source := { v with state := 5, code := code, fast := false }
  have h2 : s2.source1 x = f := s.setSource_source1 x f
  have h3 : s3.source1 x = f :=
    source1_ite (by rwa [State.raise_source1, source1_of_ent (State.endTests_ent _ _ _ _)]) h2
  have hpurge : (if code = 5 then s3.purge x else (s3, 0)).1.source1 x = f := by split <;> exact h3
  split
  next s4 purged hp =>
  rw [hp] at hpurge
  extract_lets n s5 s6 s7 src s8 s9 s10 s11
  have h5 : s5.source1 x = f := source1_ite hpurge (by rwa [State.raise_source1])
  have h8 : s8.source1 x = f := by
    have h7 : s7.source1 = s6.source1 := source1_of_ent (State.auditSelf_ent _ _ _ _ _)
    rw [State.raise_source1] at h7
    exact (congrFun h7 x).trans h5
  have h9 : s9.source1 x = f := source1_ite (State.abortTest_failed rfl h8) h8
  have h10 : s10.source1 x = f := State.abortRaw_failed rfl h9
  have h11 : s11.source1 x = f := source1_ite (by rwa [State.raise_source1]) h10
  refine source1_ite ?_ ?_
  · rwa [State.refuseAll_source1, State.raise_source1]
  · rw [State.feed_source1]
    exact State.entPower_failed rfl h11

/-! The end of a self-test of a source (R411, R412). -/

theorem State.setSource_setSource (s : State) (x : Src) (v w : Source) :
    (s.setSource x v).setSource x w = s.setSource x w := by
  cases x <;> rfl

@[simp] theorem State.setSource_clk (s : State) (x : Src) (v : Source) : (s.setSource x v).clk = s.clk := by
  cases x <;> rfl

@[simp] theorem State.setSource_st (s : State) (x : Src) (v : Source) : (s.setSource x v).st = s.st := by
  cases x <;> rfl

/-- A source that has passed its self-test with the two window tests `t` and `u`: RUNNING, its longest run and its
highest count in its margins. -/
def passedSource (v : Source) (t u : TestRun) : Source :=
  { v with
    state := 2, run := u.run, last := u.last, windows := v.windows + 2
    rctMax := saturate 255 (max v.rctMax (max t.runMax u.runMax)), aptMax := max v.aptMax (max t.cnt u.cnt) }

/-- The self-tests after the only request has ended with `r`. -/
def endedTests (st : SelfTest) (r : TestResult) : SelfTest :=
  { st with current := none, queue := [], results := (r :: st.results).take 8 }

/-- The only self-test request ends, with no failure. -/
theorem State.endSelftest_only {s : State} {req unit : Nat} (hcurrent : s.st.current = some (req, unit))
    (hqueue : s.st.queue = [(req, unit)]) (value back : Nat) :
    s.endSelftest 0 0 value back none =
      { s with
        st := endedTests s.st { req := req, unit := unit, outcome := 0, detail := 0, begun := s.st.begun, back := back
                                value := value }
        pwr.jobs := s.pwr.jobs.filter (fun j => j.kind != JobKind.selftest req unit)
        pwr.grants := s.pwr.grants.filter (fun j => j.kind != JobKind.selftest req unit) }.raise 0x014 3 := by
  simp [State.endSelftest, State.endTest, hcurrent, hqueue, endedTests, State.endJob, State.dropKind]

theorem State.startNextTest_none {s : State} (hqueue : s.st.queue = []) : s.startNextTest = s := by
  unfold State.startNextTest
  rw [hqueue]
  split <;> rfl

/-- ST_DONE and the source's own bit tell of the end. -/
theorem testEnd_tells {s : State} (h : regsCanonical s = true) :
    (((s.raise 0x014 3).raise 0x3E8 6).reg 0x014).bit 3 = true ∧
      (((s.raise 0x014 3).raise 0x3E8 6).reg 0x3E8).bit 6 = true := by
  rw [State.raise_reg_other _ (by decide) (by decide), State.raise_reg h 3 (by decide),
    State.raise_reg (raise_canonical h _ _) 6 (by decide)]
  simp [Word.bit, Word.oneBit]

/-- The known answer is right and both windows pass. -/
theorem State.effEntSelftest_passes {s : State} {x : Src} {req : Nat} {v u : BitVec 1024} {t t' : TestRun}
    (hcurrent : s.st.current = some (req, 0x10 + srcNum x)) (hstate : (s.source1 x).state = 3)
    (ht : testWindow v 0 false = t) (ht' : testWindow u t.run t.last = t')
    (hpass : t.failed = none) (hpass' : t'.failed = none) :
    s.effEntSelftest x true v u =
      (((s.setSource x (passedSource (s.source1 x) t t')).endSelftest 0 0
        (saturate 255 (max t.runMax t'.runMax) + 256 * max t.cnt t'.cnt) s.clk.rtc none).raise 0x3E8 6).startNextTest
    := by
  simp [State.effEntSelftest, hcurrent, hstate, ht, hpass, ht', hpass', State.markMargins, State.setSource_setSource,
    passedSource]

/-- A wrong known answer fails the source with code 5, and the request ends with it. -/
theorem State.effEntSelftest_wrong {s : State} {x : Src} {req : Nat} (v u : BitVec 1024)
    (hcurrent : s.st.current = some (req, 0x10 + srcNum x)) (hstate : (s.source1 x).state = 3) :
    s.effEntSelftest x false v u = ((((s.markMargins x 0 0).failSource x 5 0 (s.source1 x).windows).endSelftest 1 5 0 0
      (some 8)).raise 0x3E8 6).startNextTest := by
  simp [State.effEntSelftest, hcurrent, hstate, bitNat, saturate]

/-- A raw capture that is over starts its source up again (R414). -/
theorem State.effRawCaptureEnd_over {s : State} {r : Raw} {bs : List Byte} (hraw : s.ent.raw = some r)
    (hruns : r.running = true) (hover : bs.length = 131072 ∨ (bs.length < 131072 ∧ r.stop = true)) :
    ∃ v, v.state = 1 ∧ s.effRawCaptureEnd bs =
      { s.setSource r.src v with
        ent.raw := some { r with
          running := false, bytes := bs
          rct := saturate 15 (rawTests bs (s.source1 r.src).run (s.source1 r.src).last).rct
          apt := saturate 15 (rawTests bs (s.source1 r.src).run (s.source1 r.src).last).apt } }.raise 0x3E8 7 := by
  have hends : (!r.running || 131072 < bs.length || (bs.length < 131072 && !r.stop)) ≠ true := by
    obtain h | ⟨h, hstop⟩ := hover
    · simp [hruns, h]
    · simp [hruns, hstop]; omega
  unfold State.effRawCaptureEnd
  simp only [hraw]
  rw [if_neg hends]
  simp only [State.markMargins, State.setSource_setSource, State.setSource_source1]
  exact ⟨_, rfl, rfl⟩

/-- Settles O56: the self-test that passes (`effEntSelftest_passes`) ends as the only request, the raw capture that is
over starts its source again (`effRawCaptureEnd_over`), and the source that a wrong known answer fails stays FAILED
(`failSource_source1`). -/
theorem sourceTests : Obligations.SourceTests := by
  intro s x hruns
  refine ⟨?passes, ?idle, ?capture, ?wrong⟩
  case passes =>
    intro req v u hcurrent hqueue hstate hother hrct hapt
    obtain ⟨hrun, hrun'⟩ := max_lt_iff.1 hrct
    obtain ⟨hcnt, hcnt'⟩ := max_lt_iff.1 hapt
    refine ⟨_, next_live hruns _, ?_⟩
    rw [State.effEntSelftest_passes hcurrent hstate rfl rfl (testWindow_passes hrun hcnt)
        (testWindow_passes hrun' hcnt'),
      State.endSelftest_only (by rwa [State.setSource_st]) (by rwa [State.setSource_st]),
      State.startNextTest_none (by rw [State.raise_st, State.raise_st]; rfl)]
    simp only [State.raise_st, State.raise_source1]
    refine ⟨rfl, rfl, rfl, by cases x <;> rfl, by cases x <;> rfl, by cases x <;> rfl, by cases x <;> rfl,
      fun hcanonical => ?_, ?_⟩
    · exact testEnd_tells (by cases x <;> exact hcanonical)
    · rw [raise_eq, raise_eq]
      cases x <;> rfl
  case idle =>
    intro k v u hcurrent
    refine (next_live hruns _).trans ?_
    simp only [State.effEntSelftest, hcurrent]
  case capture =>
    intro r bs rc ap hraw hrunning hsrc hover
    subst hsrc
    obtain ⟨v, hv, heff⟩ := State.effRawCaptureEnd_over hraw hrunning hover
    refine ⟨_, next_live hruns _, ?_⟩
    rw [heff]
    refine ⟨by rw [State.raise_ent], ?_, ?_, ?_, ?_⟩
    · rw [State.raise_source1]
      cases r.src <;> exact hv
    · rw [State.raise_source1]
      cases r.src <;> rfl
    · exact raise_rf_congr (by cases r.src <;> rfl) _ _
    · rw [raise_eq]
      cases r.src <;> rfl
  case wrong =>
    intro req v u hcurrent hstate
    refine ⟨_, next_live hruns _, ?_⟩
    rw [State.effEntSelftest_wrong v u hcurrent hstate, source1_of_ent (State.startNextTest_ent _), State.raise_source1,
      source1_of_ent (State.endSelftest_ent _ _ _ _ _ _), State.failSource_source1]
    exact ⟨rfl, rfl⟩

end Sys2Proof.Machine
end

section
/-! The statements of the family of the guards, keys and sessions. Which region decides an access is a search from the
highest number down; an access of the register port to GLB and GRD passes its guard, and no write status behind the
guard is GUARD_FAULT. The other two statements fail in one of their clauses; the refutation of each evaluates the
clause's command on one concrete state that meets its hypotheses. -/

namespace Sys2Proof.Machine

/-! The region that decides (R424). -/

/-- The search from the highest number down ends at the highest that is wanted. -/
theorem find?_reverse_range {p : Nat → Bool} {n r : Nat} (hr : r < n) (hp : p r = true)
    (habove : ∀ q, r < q → q < n → p q = false) : (List.range n).reverse.find? p = some r := by
  induction n with
  | zero => omega
  | succ n ih =>
    rw [List.range_succ, List.reverse_append]
    obtain rfl | hlt := Nat.eq_or_lt_of_le (Nat.le_of_lt_succ hr)
    · simp [hp]
    · simp [habove n hlt (Nat.lt_succ_self n), ih hlt fun q hq hqn => habove q hq (Nat.lt_succ_of_lt hqn)]

theorem State.deciding_highest {s : State} {m a r : Nat} (hr : r < 16) (hspace : guardedSpace a = true)
    (hcovers : regionCovers (s.liveRegion (regionKey m r)) a = true)
    (habove : ∀ q, r < q → q < 16 → regionCovers (s.liveRegion (regionKey m q)) a = false) :
    s.deciding m a = some (s.liveRegion (regionKey m r)).2 := by
  unfold State.deciding
  rw [if_pos hspace, find?_reverse_range hr hcovers habove, Option.map_some]

theorem State.deciding_uncovered {s : State} {m a : Nat}
    (hnone : ∀ r, r < 16 → regionCovers (s.liveRegion (regionKey m r)) a = false) : s.deciding m a = none := by
  unfold State.deciding
  split
  · rw [Option.map_eq_none_iff, List.find?_eq_none]
    intro r hr
    rw [List.mem_reverse, List.mem_range] at hr
    simp [hnone r hr]
  · rfl

/-! An access at a byte that no region covers faults (R430, R431). -/

theorem mem_insertNat {l : List Nat} {a n : Nat} : a ∈ insertNat l n ↔ a = n ∨ a ∈ l := by
  induction l with
  | nil => simp [insertNat]
  | cons x t ih =>
    unfold insertNat
    split
    · rw [List.mem_cons]
    · split
      · next heq => simp [heq]
      · rw [List.mem_cons, ih, List.mem_cons, or_left_comm]

theorem mem_sortNats {l : List Nat} {a : Nat} : a ∈ sortNats l ↔ a ∈ l := by
  have hfold : ∀ (l m : List Nat), a ∈ l.foldl insertNat m ↔ a ∈ m ∨ a ∈ l := by
    intro l
    induction l with
    | nil => simp
    | cons x t ih => intro m; rw [List.foldl_cons, ih, mem_insertNat, List.mem_cons, or_left_comm, or_assoc]
  simp [sortNats, hfold]

theorem State.addr_mem_checkPoints (s : State) (m : Nat) (x : Access) : x.addr ∈ s.checkPoints m x := by
  unfold State.checkPoints State.rangePoints
  rw [mem_sortNats]
  exact List.mem_cons_self

/-- A check fails when a point of it is decided by no region, there or at a point before. -/
theorem State.firstFailure_undecided {s : State} {m a : Nat} {x : Access} (hnone : s.deciding m a = none)
    {points : List Nat} (hmem : a ∈ points) (attr : Option Nat) : s.firstFailure m x points attr ≠ none := by
  induction points generalizing attr with
  | nil => cases hmem
  | cons b t ih =>
    unfold State.firstFailure
    dsimp only
    split
    · next hpass =>
      obtain rfl | hmem := List.mem_cons.1 hmem
      · simp [hnone, pointReason] at hpass
      · exact ih hmem _
    · exact Option.some_ne_none _

theorem State.guarded_undecided {s : State} {m : Nat} {x : Access} (hnone : s.deciding m x.addr = none) :
    (s.guarded m x).2 = false := by
  unfold State.guarded
  cases hcheck : s.guardCheck m x with
  | none => exact absurd hcheck (s.firstFailure_undecided hnone (s.addr_mem_checkPoints m x) none)
  | some f => rfl

/-! A disabled sub-region (R423). -/

theorem regionCovers_disabled {r : Word × Word} {a k : Nat} (hbit : r.2.bit (8 + k) = true)
    (hlow : r.1.toNat + k * 2 ^ (regionSz r.2 - 3) ≤ a) (hhigh : a < r.1.toNat + (k + 1) * 2 ^ (regionSz r.2 - 3)) :
    regionCovers r a = false := by
  have hsub : (a - r.1.toNat) / 2 ^ (regionSz r.2 - 3) = k := Nat.div_eq_of_lt_le (by omega) (by omega)
  simp [regionCovers, hsub, hbit]

/-- Settles O9: the search of `deciding` ends at the highest region that covers the byte, the access's own address is
among its check points, and the sub-region of a byte is the one that its offset falls in. -/
theorem decidingRegion : Obligations.DecidingRegion := by
  intro s m a
  refine ⟨fun r hr hspace hcovers habove => State.deciding_highest hr hspace hcovers habove, ?_,
    fun r k _ hbit hlow hhigh => regionCovers_disabled hbit hlow hhigh⟩
  rintro x rfl hnone
  exact State.guarded_undecided (State.deciding_uncovered hnone)

/-! The register port's accesses to the GLB and GRD blocks (R421). -/

theorem State.regpGuard_open (s : State) {a : Nat} (w : Bool)
    (hopen : regOff a < 0x60 ∨ (0x420 ≤ regOff a ∧ regOff a < 0x4A0)) : s.regpGuard a w = (s, true) := by
  unfold State.regpGuard
  simp [hopen]

/-- No command field of a register is refused by a guard. -/
theorem State.runCommand_ne_stGuard (s : State) (p : Port) (off : Nat) (c : Word) (armed : Bool) :
    (s.runCommand p off c armed).2 ≠ stGuard := by
  have hok : stOk ≠ stGuard := by decide
  unfold State.runCommand
  split
  case h_6 => -- TOLL_INC
    split
    · exact hok
    · exact (by decide : stValue ≠ stGuard)
  case h_15 => -- MBX_CTL
    split
    · show (if _ then stLate else stOk) ≠ stGuard
      split <;> decide
    · exact (by decide : stBusy ≠ stGuard)
  all_goals exact hok

/-- What stands behind the guard refuses with other codes. -/
theorem State.wordWrite_ne_stGuard (s : State) (p : Port) (a : Nat) (v mask : Word) :
    (s.wordWrite p a v mask).2 ≠ stGuard := by
  have hok : stOk ≠ stGuard := by decide
  unfold State.wordWrite
  dsimp only
  split
  · exact hok
  · split
    · exact (by decide : stWonce ≠ stGuard)
    · split
      · exact (by decide : stKey ≠ stGuard)
      · split
        · exact State.runCommand_ne_stGuard _ _ _ _ _
        · exact hok

theorem resultCode_ne_three {st : Nat} (h : st ≠ stGuard) : resultCode st ≠ 3 := by
  unfold resultCode
  rw [if_neg h]
  split_ifs <;> decide

theorem firstBad_single (r : Nat) : firstBad [r] = r := by
  by_cases hr : r = 0 <;> simp [firstBad, hr]

theorem State.transaction_result {s : State} (hsees : s.regpSees = true) (f : State → State × Nat × List Byte) :
    (s.transaction f).rf.result = (f (s.wakeFor .regp)).2.1 := by
  unfold State.transaction
  rw [if_neg (by simp [hsees])]
  rfl

section
variable {a : Nat} (haddr : addrOk a = true) (hopen : regOff a < 0x60 ∨ (0x420 ≤ regOff a ∧ regOff a < 0x4A0))
include haddr hopen

theorem State.readWords_open (s : State) : (s.readWords a 0 [true]).2.1 = 0 := by
  have hwindow : inWindow a 0 = true := by simp [inWindow]; omega
  simp [State.readWords, haddr, State.burstRead, hwindow, State.regpReadWord, s.regpGuard_open false hopen,
    firstBad_single]

theorem State.writeWords_open (s : State) (v : Word) : (s.writeWords a [v] false).2.1 ≠ 3 := by
  have hwindow : inWindow a 0 = true := by simp [inWindow]; omega
  simp [State.writeWords, haddr, State.burstWrite, hwindow, State.regpWord, s.regpGuard_open true hopen,
    firstBad_single, resultCode_ne_three (s.wordWrite_ne_stGuard .regp a v allBits)]

end

/-- Settles O10: the guard passes every access to GLB and GRD (`regpGuard_open`), a read of one word then ends OK
(`readWords_open`), and a write ends with the status of the register behind the guard (`writeWords_open`). -/
theorem portNeverLockedOut : Obligations.PortNeverLockedOut := by
  intro s a hruns hwired halign hopen
  have hsees : s.regpSees = true := by simp [State.regpSees, State.portOpen, hwired, hruns.2]
  have haddr (hlt : a < 8192) : addrOk a = true := by simp [addrOk, halign, hlt]
  have hread (hlt : a < 8192) : (s.effRegpRead a true).rf.result = 0 :=
    (State.transaction_result hsees _).trans (State.readWords_open (haddr hlt) hopen _)
  refine ⟨fun hlt => ⟨_, next_live hruns _, hread (by omega)⟩, fun hlt => ⟨_, next_live hruns _, ?_⟩,
    fun v hlt => ⟨_, next_live hruns _, ?_⟩⟩
  · rw [hread hlt]
    decide
  · exact (State.transaction_result hsees _).trans_ne (State.writeWords_open (haddr hlt) hopen _ v)

/-! A record of the board controller that needs a new extent. -/

/-- REC_WRITE of a record of type 0xB0 without payload is staged, with number 7, the next of source 5. One checkpoint
has committed (R108), and the head of the record's partition stands at the end of its only extent. -/
def recordAtExtentEnd : State :=
  ({ poweredTag with
    arr.tolls := setNth poweredTag.arr.tolls 2 (newToll 2 1 1), rf.ready := true, rf.mbx.sel := 0x080000#32
    rf.mbx.inbuf := [0xB0#8, 3#8, 0#8, 0#8] ++ leBytes 4 7 ++ zeroBytes 8
  }.setStream (poweredTag.source 5) 5 7#32).modPart (partOf 0xB0#8) (fun x => { x with head := extSectors })

theorem recordAtExtentEnd_extEpochs : recordAtExtentEnd.arr.extEpochs = [] := rfl

/-- The extent that the record reserves has the epoch of the checkpoint (R73, R78). -/
theorem recWrite_extEpochs :
    (recordAtExtentEnd.commitItem .regp 0x08 16).arr.extEpochs.map (fun e => e.2) = [1] := by decide +kernel

/-- Refutes O27: the second clause on REC_WRITE leaves the array as it is; in `recordAtExtentEnd` the record reserves
an extent, whose assignment the array stamps with the checkpoint epoch. -/
theorem not_mailboxRecords : ¬ Obligations.MailboxRecords := by
  intro h
  obtain ⟨-, hwrite, -⟩ := h recordAtExtentEnd (by decide +kernel)
  obtain ⟨t, ht, -, -, -, hframe⟩ := hwrite 16 7#32 (by decide +kernel) rfl rfl rfl (by decide +kernel)
    (by decide +kernel) rfl rfl (by decide +kernel) (by decide +kernel) (by decide) (by decide) (by decide +kernel)
    (by decide +kernel) (by decide +kernel)
  obtain rfl := Host.Outcome.next.inj ((next_live (by decide +kernel) _).symm.trans ht)
  have hstamped := recWrite_extEpochs
  rw [(congrArg State.arr hframe :), recordAtExtentEnd_extEpochs] at hstamped
  simp at hstamped

/-! A boot counter whose two rings lie in failed banks, as TAG_RESET_N is released. -/

/-- The reset of `bootTollDead` is asserted. -/
def resetTollDead : State := { bootTollDead with boot.resetLow := true }

theorem resetTollDead_value : resetTollDead.tollValue 3 = 0 := by decide +kernel

/-- The rebuild finds no ring that could take a copy of the counter over (R105). -/
theorem pinReset_tollValue : resetTollDead.effPinReset.tollValue 3 = 0 := by decide +kernel

/-- Refutes O60: in `resetTollDead` PIN_RESET loses the boot counter in the rebuild that it repeats (R128), and the
counter is not one higher. -/
theorem not_resets : ¬ Obligations.Resets := by
  intro h
  obtain ⟨-, -, hrelease, -⟩ := h resetTollDead
  obtain ⟨t, ht, -, -, -, -, -, -, -, -, htoll⟩ := hrelease rfl rfl (by decide +kernel) (by decide +kernel)
    (by decide +kernel) (by decide +kernel) (by decide +kernel) (by decide +kernel) (by decide +kernel)
    (by decide +kernel)
  obtain rfl := Host.Outcome.next.inj ht
  rw [pinReset_tollValue, resetTollDead_value] at htoll
  exact absurd htoll (by decide)

end Sys2Proof.Machine
end

section
/-! The statements of the register port and the register reference, and those of the machine as a whole. What
every command keeps settles the invariants. Four statements fail in one of their clauses; the state that refutes each is
built by the model's own operations, and what the command makes of it is one evaluated fact. -/

namespace Sys2Proof.Machine

/-- Settles O1: `step` is defined by the front of the queue. -/
theorem stepRunsFront : Obligations.StepRunsFront := by
  refine ⟨fun c rest s => rfl, fun s hempty => ?_⟩
  unfold step
  rw [hempty]

/-- Settles O5, by what every command keeps (`exec_kept`). -/
theorem queueUntouched : Obligations.QueueUntouched := by
  intro c s t hexec
  obtain ⟨hqueue, -⟩ := exec_kept c s t hexec
  exact hqueue

/-- Settles O6: what every command keeps (`exec_kept`) holds the three register maps canonical, and the passing of time
on an empty queue does not touch them. -/
theorem registersStayCanonical : Obligations.RegistersStayCanonical := by
  intro s t hcanonical hstep
  unfold step at hstep
  split at hstep
  next => obtain rfl := Host.Outcome.next.inj hstep; exact hcanonical
  next c rest _ =>
    obtain ⟨-, hmaps, -⟩ := exec_kept c { s with pending := rest } t hstep
    obtain ⟨hcur, hforce, hpend⟩ := hmaps hcanonical
    simp [regsCanonical, hcur, hforce, hpend]

/-! Records of the tag's own that need a new extent. -/

theorem auditAtExtentEnd_extEpochs : auditAtExtentEnd.arr.extEpochs = [] := rfl

/-- The UNLOCK_MISUSE record of a write of GLB_LOCK without the key reserves an extent, which has the epoch of the
checkpoint (R73, R78). -/
theorem lockWithoutKey_extEpochs :
    (auditAtExtentEnd.portWrite .regp 0x028 1#32).arr.extEpochs.map (fun e => e.2) = [1] := by decide +kernel

/-- Refutes O21: the clause on a write of GLB_LOCK without the key leaves the array as it is; in `auditAtExtentEnd` the
audit record reserves an extent, whose assignment the array stamps with the checkpoint epoch. -/
theorem not_keyLockAndReset : ¬ Obligations.KeyLockAndReset := by
  intro h
  obtain ⟨-, -, -, -, hmisuse, -⟩ := h auditAtExtentEnd (by decide +kernel)
  obtain ⟨t, ht, -, -, -, -, hframe⟩ := hmisuse 1#32 rfl rfl rfl (by decide +kernel) rfl
  obtain rfl := Host.Outcome.next.inj ((next_live (by decide +kernel) _).symm.trans ht)
  have hstamped := lockWithoutKey_extEpochs
  rw [(congrArg State.arr hframe :), auditAtExtentEnd_extEpochs] at hstamped
  simp at hstamped

/-- The board controller has committed a TIME item, which waits for the next RTC second (R515); the head of the
partition of TIME_SET records, which is that of the audit records, stands at the end of its extent. -/
def timeSetAtExtentEnd : State :=
  { auditAtExtentEnd with clk.rtcLoad := some (5000, 0, .regp, auditAtExtentEnd.source 5) }

/-- The TIME_SET record reserves an extent, which has the epoch of the checkpoint (R73, R78). -/
theorem timeRtcLoad_extEpochs :
    timeSetAtExtentEnd.effTimeRtcLoad.arr.extEpochs.map (fun e => e.2) = [1] := by decide +kernel

/-- Refutes O28: the clause on the RTC's load leaves the array as it is; in `timeSetAtExtentEnd` the TIME_SET record
reserves an extent, whose assignment the array stamps with the checkpoint epoch. -/
theorem not_rtcEntropyAndBankTest : ¬ Obligations.RtcEntropyAndBankTest := by
  intro h
  obtain ⟨hload, -⟩ := h timeSetAtExtentEnd (by decide +kernel)
  obtain ⟨t, ht, -, -, -, -, -, -, hframe⟩ := hload 5000 0 .regp _ rfl (by decide +kernel) rfl
  obtain rfl := Host.Outcome.next.inj ((next_live (by decide +kernel) _).symm.trans ht)
  have hstamped := timeRtcLoad_extEpochs
  rw [(congrArg State.arr hframe :), show timeSetAtExtentEnd.arr.extEpochs = [] from auditAtExtentEnd_extEpochs]
    at hstamped
  simp at hstamped

/-! A burst that reaches MBX_CTL while the mailbox is busy. -/

/-- A command of the register port's mailbox runs. -/
def busyMailbox : State := { poweredTag with rf.mbx.busy := true }

/-- A write of MBX_CTL that starts a READ answers BUSY, code 8 (R472, R486). -/
theorem writeIncMbxCtl_result : (busyMailbox.effWriteInc 0x524 [1#32] false).rf.result = 8 := by decide +kernel

/-- Refutes O24: the clause on write bursts within the window has RESULT below 5, the codes of single words among them
no BUSY and no VALUE; in `busyMailbox` a burst of one word to MBX_CTL ends with BUSY. -/
theorem not_portReadsAndWrites : ¬ Obligations.PortReadsAndWrites := by
  intro h
  obtain ⟨-, -, -, -, -, -, -, -, -, -, -, -, -, hburst, -⟩ := h busyMailbox (by decide +kernel) rfl
  obtain ⟨t, ht, -, hresult⟩ := hburst 0x524 [1#32] (by decide) (by decide) (by decide)
  obtain rfl := Host.Outcome.next.inj ((next_live (by decide +kernel) _).symm.trans ht)
  rw [writeIncMbxCtl_result] at hresult
  exact absurd hresult (by decide)

/-! A batch of one sample. -/

/-- LOG_CFG.BATCH is 1, and the extra sample of SAMPLE_NOW is due (R509). -/
def oneSampleBatches : State := { poweredTag with log.extra := true, rf.inForce := [(0x564, 0x0258_0103#32)] }

/-- The sample fills the batch, whose record enters the pipeline at once: the open batch is empty again (R510). -/
theorem oneSampleBatches_batch : (oneSampleBatches.effLoggerSample 0).log.batch = [] := by decide +kernel

/-- Refutes O58: the clause on a granted sample keeps it in the open batch, also where the batch was empty and BATCH is
1; in `oneSampleBatches` the batch of the one sample is committed at once. -/
theorem not_loggerAndClocks : ¬ Obligations.LoggerAndClocks := by
  intro h
  obtain ⟨-, -, -, -, hsample, -⟩ := h oneSampleBatches (by decide +kernel) (by decide)
  obtain ⟨t, ht, hbatch, -⟩ := hsample 0 rfl (.inl rfl) (by decide +kernel) (.inl rfl)
  obtain rfl := Host.Outcome.next.inj ((next_live (by decide +kernel) _).symm.trans ht)
  rw [oneSampleBatches_batch, show oneSampleBatches.log.batch = [] from rfl] at hbatch
  simp at hbatch

end Sys2Proof.Machine
end

section
/-! The statement on the mailbox. A write of MBX_CTL through the register port runs the mailbox's command on the state
in which the port has been woken and its key consumed; a lemma for each item says what its COMMIT leaves. -/

namespace Sys2Proof.Machine

/-! Bytes by their positions, and words of four of them (R7). -/

theorem slice_eq_map (b : List Byte) (i n : Nat) :
    slice b i n = (List.range n).map (fun k => b.getD (i + k) 0#8) := by
  refine List.ext_getElem (by simp [slice, zeroBytes]) (fun k _ hk => ?_)
  have hkn : k < n := by simpa using hk
  simp only [slice, zeroBytes, List.getElem_append, List.getElem_map, List.getElem_range, List.getD_eq_getElem?_getD]
  split
  next hin =>
    have hlt : i + k < b.length := by simp at hin; omega
    simp [hlt]
  next hout =>
    have hge : b.length ≤ i + k := by simp at hout; omega
    simp [hge]

@[simp] theorem length_slice (b : List Byte) (i n : Nat) : (slice b i n).length = n := by
  simp [slice_eq_map]

theorem slice_take (b : List Byte) {i n k : Nat} (h : i + n ≤ k) : slice (b.take k) i n = slice b i n := by
  rw [slice_eq_map, slice_eq_map]
  refine List.map_congr_left (fun j hj => ?_)
  have hlt : i + j < k := by have := List.mem_range.1 hj; omega
  simp [hlt]

theorem byteAt_take (b : List Byte) {i k : Nat} (h : i < k) : byteAt (b.take k) i = byteAt b i := by
  simp [byteAt, h]

theorem slice_append (b : List Byte) (i m n : Nat) : slice b i m ++ slice b (i + m) n = slice b i (m + n) := by
  simp [slice_eq_map, List.range_add, Nat.add_assoc]

theorem leNat_lt (b : List Byte) : leNat b < 256 ^ b.length := by
  induction b with
  | nil => simp [leNat]
  | cons x b ih =>
    have hx := x.isLt
    simp only [leNat, List.length_cons, Nat.pow_succ]
    omega

theorem leBytes_leNat (b : List Byte) : leBytes b.length (leNat b) = b := by
  induction b with
  | nil => rfl
  | cons x b ih =>
    have hx := x.isLt
    have hmod : (x.toNat + 256 * leNat b) % 256 = x.toNat := by omega
    have hdiv : (x.toNat + 256 * leNat b) / 256 = leNat b := by omega
    simp only [List.length_cons, leBytes, leNat, hmod, hdiv, ih]
    simp

theorem wordBytes_leNat {b : List Byte} (h : b.length = 4) : wordBytes (BitVec.ofNat 32 (leNat b)) = b := by
  have hlt := leNat_lt b
  rw [h] at hlt
  rw [wordBytes, BitVec.toNat_ofNat, Nat.mod_eq_of_lt (hlt.trans_eq (by norm_num)), ← h, leBytes_leNat]

/-- MBX_D0 to MBX_D3 hold the 16 bytes of a reply (R487). -/
theorem fourWords {b : List Byte} (h : b.length = 16) :
    wordBytes (BitVec.ofNat 32 (leNat (slice b 0 4))) ++ wordBytes (BitVec.ofNat 32 (leNat (slice b 4 4))) ++
      wordBytes (BitVec.ofNat 32 (leNat (slice b 8 4))) ++ wordBytes (BitVec.ofNat 32 (leNat (slice b 12 4))) = b := by
  simp only [wordBytes_leNat (length_slice _ _ 4)]
  rw [slice_append b 0 4 4, slice_append b 0 8 4, slice_append b 0 12 4]
  simpa [h] using slice_whole b

/-! A write of MBX_CTL through the register port (R484 to R486, R489). -/

/-- The register's fields: the command bits alone. -/
def mbxCtl : RegDesc := { off := 0x524, block := .mbx, wo := allBits }

theorem regDesc_mbxCtl : regDesc 0x524 = some mbxCtl := by decide +kernel

/-- MBX_CTL meets no lock and asks for no key: a write of it runs the mailbox's command. -/
theorem State.wordWrite_mbxCtl (s : State) (p : Port) (v : Word) :
    s.wordWrite p 0x524 v allBits = (s.disarmKey p).runCommand p 0x524 v (s.rf.keyArmed.contains p) := by
  have hall : allBits = BitVec.allOnes 32 := rfl
  have hcmd : commandBits 0 mbxCtl v allBits = v := by simp [commandBits, mbxCtl, hall, -BitVec.reduceAllOnes]
  have hkey (old now new cmd : Word) : keyGuarded 0 mbxCtl old now new cmd = false := by simp [keyGuarded, mbxCtl]
  rw [wordWrite_command (a := 0x524) regDesc_mbxCtl rfl rfl rfl
    (fun h => absurd (h.symm.trans (hkey _ _ _ _)) (by decide)) (by decide), hcmd]
  rfl

/-- The state in which the mailbox's command runs: the port is awake, and its key is consumed. -/
def State.mbxReached (s : State) : State :=
  { s with
    rf.keyArmed := s.rf.keyArmed.filter (fun (q : Port) => q != .regp)
    pwr.domOn := setNth (setNth s.pwr.domOn 4 true) 19 true }

theorem State.mbxReached_eq (s : State) : (s.wakeFor .regp).disarmKey .regp = s.mbxReached := rfl

/-- ... and a READ, STAGE or COMMIT has begun. -/
def State.mbxBegun (s : State) : State :=
  { s with
    rf.keyArmed := s.rf.keyArmed.filter (fun (q : Port) => q != .regp)
    rf.mbx := { s.rf.mbx with busy := true, valid := false }
    pwr.domOn := setNth (setNth s.pwr.domOn 4 true) 19 true }

theorem State.mbxBegun_eq (s : State) :
    s.mbxReached.modMbx .regp (fun m => { m with busy := true, valid := false }) = s.mbxBegun := rfl

/-- A command that the mailbox takes answers OK, but for the COMMIT of a used key slot (R444). -/
theorem State.portWrite_mbxCtl {s u : State} {v : Word} (hruns : runs s) (hport : portReady s 0x524)
    (hctl : s.mbxReached.mbxControl .regp v (s.rf.keyArmed.contains .regp) = (u, true))
    (hslot : v.field 1 0 = 3 → u.slotUsedNow .regp = false) :
    s.portWrite .regp 0x524 v = u.endTransaction (s.wakeFor .regp).statusByte 0 (zeroBytes 6) := by
  obtain ⟨hwired, hguard⟩ := hport
  have hopen : s.portOpen .regp = true := by simp [State.portOpen, hwired, hruns.2]
  have hlate : (v.field 1 0 = 3 && !v.bit 2 && u.slotUsedNow .regp) = false := by
    cases hfield : decide (v.field 1 0 = 3) with
    | false => rfl
    | true => rw [hslot (of_decide_eq_true hfield), Bool.and_false]
  have hrun : s.mbxReached.runCommand .regp 0x524 v (s.rf.keyArmed.contains .regp) = (u, stOk) := by
    simp only [State.runCommand, hctl, hlate]
    rfl
  have hwrite : (s.wakeFor .regp).wordWrite .regp 0x524 v allBits = (u, stOk) :=
    (State.wordWrite_mbxCtl _ _ _).trans hrun
  rw [portWrite_regp hopen (regpGuard_ok hguard), hwrite]
  rfl

theorem State.mbxControl_abort (s : State) (p : Port) (armed : Bool) :
    s.mbxControl p 4#32 armed = (s.mbxDoAbort p, true) := rfl

section
variable {s : State} (hidle : s.rf.mbx.busy = false) (armed : Bool)
include hidle

theorem State.mbxControl_read : s.mbxReached.mbxControl .regp 1#32 armed = (s.mbxBegun.mbxDoRead .regp, true) := by
  have hbusy : (s.mbxReached.mbx .regp).busy = false := hidle
  unfold State.mbxControl
  rw [if_neg (by decide), if_neg (by simp [hbusy])]
  rfl

theorem State.mbxControl_stage : s.mbxReached.mbxControl .regp 2#32 armed = (s.mbxBegun.mbxDoStage .regp, true) := by
  have hbusy : (s.mbxReached.mbx .regp).busy = false := hidle
  unfold State.mbxControl
  rw [if_neg (by decide), if_neg (by simp [hbusy])]
  rfl

theorem State.mbxControl_commit {v : Word} (habort : v.bit 2 = false) (hcmd : v.field 1 0 = 3) :
    s.mbxReached.mbxControl .regp v armed = (s.mbxBegun.mbxDoCommit .regp (v.field 31 16) armed, true) := by
  have hbusy : (s.mbxReached.mbx .regp).busy = false := hidle
  unfold State.mbxControl
  rw [if_neg (by simp [habort]), if_neg (by simp [hbusy]), hcmd]
  rfl

end

/-! What the mailbox's commands leave (R484 to R487, R513). -/

/-- The items do not depend on what a command's beginning changes. -/
theorem State.itemBytes_mbxBegun (s : State) (code : Nat) :
    s.mbxBegun.itemBytes .regp code = s.itemBytes .regp code := by
  unfold State.itemBytes
  split <;> rfl

/-- The end of an operation that leaves a reply (R484, R487). -/
theorem State.endMbx_reply (s : State) (result detail : Nat) {reply : List Byte} (h : reply ≠ []) :
    s.endMbx .regp result detail reply = { s with rf.mbx := { s.rf.mbx with
      busy := false, valid := result == 0, result := result, detail := detail, len := reply.length, waitLen := none
      d0 := BitVec.ofNat 32 (leNat (slice reply 0 4)), d1 := BitVec.ofNat 32 (leNat (slice reply 4 4))
      d2 := BitVec.ofNat 32 (leNat (slice reply 8 4)), d3 := BitVec.ofNat 32 (leNat (slice reply 12 4)) } } := by
  have hreply : reply.isEmpty = false := by simp [h]
  simp only [State.endMbx, State.modMbx, hreply, Bool.false_eq_true, if_false]

/-- The end of a READ with data: MBX_D0 to MBX_D3 present its first 16 bytes (R484, R486). -/
theorem State.endRead_eq (s : State) (len : Nat) (bytes : List Byte) :
    s.endRead .regp len bytes = { s with rf.mbx := { s.rf.mbx with
      busy := false, valid := true, result := 0, detail := 0, len := len, waitLen := none
      d0 := BitVec.ofNat 32 (leNat (slice (slice bytes 0 16) 0 4))
      d1 := BitVec.ofNat 32 (leNat (slice (slice bytes 0 16) 4 4))
      d2 := BitVec.ofNat 32 (leNat (slice (slice bytes 0 16) 8 4))
      d3 := BitVec.ofNat 32 (leNat (slice (slice bytes 0 16) 12 4)) } } := by
  have hreply : slice bytes 0 16 ≠ [] := List.ne_nil_of_length_pos (by rw [length_slice]; decide)
  unfold State.endRead
  rw [State.endMbx_reply s 0 0 hreply]
  rfl

/-- A READ at index 0 takes a snapshot of the item and presents its first bytes (R485). -/
theorem State.mbxDoRead_first {s : State} {r : ItemRule} {bytes : List Byte} (hready : s.rf.ready = true)
    (hindex : s.rf.mbx.sel.field 15 0 = 0) (hrule : itemRule (s.rf.mbx.sel.field 23 16) = some r)
    (hreads : r.reads = true) (hdirect : State.directItem (s.rf.mbx.sel.field 23 16) = false)
    (hbytes : s.itemBytes .regp (s.rf.mbx.sel.field 23 16) = some bytes) :
    s.mbxDoRead .regp =
      (s.modMbx .regp (fun m => { m with snap := some (s.rf.mbx.sel.field 23 16, bytes) })).endRead .regp bytes.length
        bytes := by
  unfold State.mbxDoRead
  simp [State.mbx, hrule, hreads, hready, hdirect, hindex, hbytes]

theorem State.mbxDoStage_block {s : State} (hindex : s.rf.mbx.sel.field 15 0 < 16) :
    s.mbxDoStage .regp = { s with rf.mbx := { s.rf.mbx with
      inbuf := overlay (slice s.rf.mbx.inbuf 0 256) (16 * s.rf.mbx.sel.field 15 0)
        (wordBytes s.rf.mbx.d0 ++ wordBytes s.rf.mbx.d1 ++ wordBytes s.rf.mbx.d2 ++ wordBytes s.rf.mbx.d3)
      valid := true, busy := false, result := 0, detail := 0, waitLen := none } } := by
  have hblock : ¬ 15 < s.rf.mbx.sel.field 15 0 := by omega
  simp [State.mbxDoStage, State.mbx, hblock, State.failRead, State.endMbx, State.modMbx]

/-- ABORT of a BIVIK_OPEN whose signature job still waits ends it (R486). -/
theorem State.mbxDoAbort_waiting {s : State} (hbusy : s.rf.mbx.busy = true)
    (hwaits : s.pwr.jobs.any (fun j => j.kind == .bivik .regp) = true) :
    s.mbxDoAbort .regp = (s.dropKind (.bivik .regp)).endMbx .regp 7 0 [] := by
  simp [State.mbxDoAbort, State.mbx, hbusy, hwaits]

theorem State.mbxDoAbort_idle {s : State} (hidle : s.rf.mbx.busy = false) : s.mbxDoAbort .regp = s := by
  simp [State.mbxDoAbort, State.mbx, hidle]

/-- A COMMIT by the board controller of an item that asks for no key, with a length that its rule allows (R484,
R513). -/
theorem State.mbxDoCommit_unkeyed {s : State} {r : ItemRule} {lo hi len : Nat} (armed : Bool)
    (hready : s.rf.ready = true) (hrule : itemRule (s.rf.mbx.sel.field 23 16) = some r)
    (hcommits : r.commits = some (lo, hi)) (hkeyed : r.keyed = false) (hlo : lo ≤ len) (hhi : len ≤ hi) :
    s.mbxDoCommit .regp len armed = s.itemCommit .regp (s.rf.mbx.sel.field 23 16) len := by
  unfold State.mbxDoCommit
  have hlen : ¬ (len < lo ∨ hi < len) := by omega
  simp [State.mbx, hrule, hcommits, hkeyed, hready, hlen]

/-! The commits of single items (R291, R515, R532). -/

/-- The command word of a COMMIT of `len` bytes. -/
abbrev commitWord (len : Nat) : Word := fields [(len % 65536, 16), (3, 0)]

/-- A mailbox that does not name KEY_LOAD reports no used key slot. -/
theorem State.slotUsedNow_other {s : State} (h : s.rf.mbx.sel.field 23 16 ≠ 0x21) : s.slotUsedNow .regp = false := by
  simp [State.slotUsedNow, State.mbx, h]

/-- A COMMIT of an item other than KEY_LOAD that asks for no key, down to what it gives its item. -/
theorem State.commitItem_unkeyed {s u : State} {r : ItemRule} {code lo hi len : Nat} (hruns : runs s)
    (hport : portReady s 0x524) (hidle : s.rf.mbx.busy = false) (hready : s.rf.ready = true)
    (hsel : s.rf.mbx.sel.field 23 16 = code) (hother : code ≠ 0x21) (hrule : itemRule code = some r)
    (hcommits : r.commits = some (lo, hi)) (hkeyed : r.keyed = false) (hlo : lo ≤ len) (hhi : len ≤ hi)
    (hword : (commitWord len).bit 2 = false ∧ (commitWord len).field 1 0 = 3 ∧ (commitWord len).field 31 16 = len)
    (hitem : s.mbxBegun.itemCommit .regp code len = u) (hkeeps : u.rf.mbx.sel = s.rf.mbx.sel) :
    s.commitItem .regp code len = u.endTransaction (s.wakeFor .regp).statusByte 0 (zeroBytes 6) := by
  obtain ⟨habort, hcmd, hlen⟩ := hword
  have hslot : u.slotUsedNow .regp = false := State.slotUsedNow_other (by rw [hkeeps, hsel]; exact hother)
  have hcommit : s.mbxBegun.mbxDoCommit .regp len (s.rf.keyArmed.contains .regp) = u := by
    rw [← hsel] at hrule hitem
    rw [← hitem]
    exact State.mbxDoCommit_unkeyed _ hready hrule hcommits hkeyed hlo hhi
  have hctl := State.mbxControl_commit hidle (s.rf.keyArmed.contains .regp) habort hcmd
  rw [hlen, hcommit] at hctl
  unfold State.commitItem
  rw [if_pos (show (s.mbx .regp).sel.field 23 16 = code from hsel)]
  exact State.portWrite_mbxCtl hruns hport hctl (fun _ => hslot)

theorem itemRule_time : itemRule 0x02 = some ⟨0x02, true, some (8, 8), 0x01#8, 0x04#8, false⟩ := by decide +kernel

theorem itemRule_peers : itemRule 0x10 = some ⟨0x10, true, some (48, 48), 0x01#8, 0x08#8, false⟩ := by
  decide +kernel

theorem itemRule_selftest : itemRule 0x50 = some ⟨0x50, false, some (8, 8), 0#8, 0x04#8, false⟩ := by decide +kernel

/-- TIME keeps its value for the next RTC second (R515). -/
theorem State.mbxTime_waits {s : State} (p : Port) (d : List Byte) (hstep : s.pwr.step < 2) (hopen : s.s1Open = true)
    (hfree : s.clk.rtcLoad = none) :
    s.mbxTime p d = { s with clk.rtcLoad := some (leNat (slice d 0 8), s.clk.up, p, s.portActor p) } := by
  unfold State.mbxTime
  rw [if_neg (by omega), if_neg (by simp [hopen, hfree])]

/-- The peer sets wait for the group boundary (R291). -/
theorem State.mbxPeers_waits {s : State} (p : Port) (d : List Byte) (hwaits : s.atBoundary = false) :
    s.mbxPeers p d = ({ s with
      peal.peersWant := (List.range 6).map (fun i => BitVec.ofNat 64 (leNat (slice d (8 * i) 8)))
      peal.peersWait := true } : State).endMbx p 0 0 [] := by
  have hatBoundary (want : List (BitVec 64)) :
      ({ s with peal.peersWant := want, peal.peersWait := true } : State).atBoundary = false := hwaits
  unfold State.mbxPeers State.tryBoundary
  simp only [hatBoundary]
  rfl

/-- A self-test request takes the next number and joins the queue (R532). -/
def State.takeTest (s : State) (unit : Nat) : State :=
  { s with st.queue := s.st.queue ++ [(s.st.next, unit)], st.next := s.st.next + 1 }

theorem State.mbxSelftest_taken {s : State} (p : Port) (d : List Byte) (hunit : s.unitRefusal (byteAt d 0) = none)
    (hzero : slice d 1 7 = zeroBytes 7) (hnew : s.queuedTests.find? (fun q => q.2 == byteAt d 0) = none)
    (hroom : s.queuedTests.length < 8) :
    s.mbxSelftest p d = (s.takeTest (byteAt d 0)).startNextTest.endMbx p 0 0 (leBytes 4 s.st.next) := by
  have hfull : ¬ 8 ≤ s.queuedTests.length := by omega
  unfold State.mbxSelftest
  simp only [hunit, hzero, hnew, if_neg hfull]
  rfl

/-- Queueing the next test's job leaves the requests as they are. -/
theorem State.startNextTest_keeps {β : Type} {m : State → β}
    (h : ∀ (u : State) (jobs : List Job) (dom : List Bool) (id : Nat),
      m { u with pwr.jobs := jobs, pwr.domOn := dom, cmt.nextId := id } = m u) (s : State) :
    m s.startNextTest = m s := by
  unfold State.startNextTest
  split
  · rfl
  · split
    · rfl
    · dsimp only
      split
      · rfl
      · split
        · exact h s _ _ _
        · exact h s _ _ _

/-- With no other request and no other job, the job of the new request is queued (R534). -/
theorem State.takeTest_startNext {s : State} {unit : Nat} (hqueue : s.st.queue = []) (hcurrent : s.st.current = none)
    (hjobs : s.pwr.jobs = []) (hgrants : s.pwr.grants = []) :
    (s.takeTest unit).startNextTest =
      (s.takeTest unit).enqueue 6 (State.testCost unit).1 (State.testCost unit).2 (.selftest s.st.next unit) := by
  simp [State.startNextTest, State.takeTest, State.hasJob, State.isGranted, hqueue, hcurrent, hjobs, hgrants]

/-- The unit that a SELFTEST_REQ in the input buffer names (R532). -/
abbrev State.askedUnit (s : State) : Nat := byteAt (s.rf.mbx.inbuf ++ zeroBytes 256) 0

/-- The COMMIT of a SELFTEST_REQ of a unit that may be tested and is not yet asked for (R532). -/
theorem State.commitItem_selftest {s : State} (hruns : runs s) (hport : portReady s 0x524)
    (hidle : s.rf.mbx.busy = false) (hready : s.rf.ready = true) (hsel : s.rf.mbx.sel.field 23 16 = 0x50)
    (hzero : slice (s.rf.mbx.inbuf ++ zeroBytes 256) 1 7 = zeroBytes 7) (hunit : s.unitRefusal s.askedUnit = none)
    (hnew : s.queuedTests.find? (fun q => q.2 == s.askedUnit) = none) (hroom : s.queuedTests.length < 8) :
    s.commitItem .regp 0x50 8 =
      ((s.mbxBegun.takeTest s.askedUnit).startNextTest.endMbx .regp 0 0 (leBytes 4 s.st.next)).endTransaction
        (s.wakeFor .regp).statusByte 0 (zeroBytes 6) := by
  have hbyte : byteAt ((s.rf.mbx.inbuf ++ zeroBytes 256).take 8) 0 = s.askedUnit := byteAt_take _ (by decide)
  have htaken := State.mbxSelftest_taken (s := s.mbxBegun) .regp ((s.rf.mbx.inbuf ++ zeroBytes 256).take 8)
    (by rw [hbyte]; exact hunit) (by rw [slice_take _ (by decide)]; exact hzero) (by rw [hbyte]; exact hnew) hroom
  rw [hbyte] at htaken
  refine State.commitItem_unkeyed hruns hport hidle hready hsel (by decide) itemRule_selftest rfl rfl le_rfl le_rfl
    (by decide) htaken ?_
  have hregs := State.startNextTest_keeps (m := fun u => u.rf) (fun _ _ _ _ => rfl) (s.mbxBegun.takeTest s.askedUnit)
  exact (congrArg (fun r : RegFile => r.mbx.sel) hregs :)

/-- The request's number stands in MBX_D0 (R532). -/
theorem State.endMbx_number (s : State) (n : Nat) :
    wordBytes (s.endMbx .regp 0 0 (leBytes 4 n)).rf.mbx.d0 = leBytes 4 n := by
  have hreply : leBytes 4 n ≠ [] := List.ne_nil_of_length_pos (by rw [length_leBytes]; decide)
  rw [State.endMbx_reply s 0 0 hreply]
  exact (wordBytes_leNat (length_slice _ _ _)).trans (by simpa using slice_whole (leBytes 4 n))

/-- Settles O26: each clause is the write of MBX_CTL (`portWrite_mbxCtl`) with what its command or its item leaves. -/
theorem mailboxItems : Obligations.MailboxItems := by
  intro s hruns
  refine ⟨fun r bytes hport hidle hready hindex hrule hreads hdirect hbytes _ => ⟨_, next_live hruns _, ?_⟩,
    fun hport hidle hindex => ⟨_, next_live hruns _, ?_⟩, fun hport hbusy hwaits => ⟨_, next_live hruns _, ?_⟩,
    fun hport hidle => ⟨_, next_live hruns _, ?_⟩,
    fun hport hidle hready hsel hstep hopen hfree => ⟨_, next_live hruns _, ?_⟩,
    fun hport hidle hready hsel hwaits => ⟨_, next_live hruns _, ?_⟩,
    fun hport hidle hready hsel hzero hunit hnew hroom => ⟨_, next_live hruns _, ?_⟩,
    fun hport hidle hready hsel hzero hunit hqueue hcurrent hjobs hgrants => ⟨_, next_live hruns _, ?_⟩⟩
  · -- READ
    rw [State.portWrite_mbxCtl hruns hport (State.mbxControl_read hidle _) (fun h => absurd h (by decide)),
      State.mbxDoRead_first (s := s.mbxBegun) hready hindex hrule hreads hdirect
        ((State.itemBytes_mbxBegun s _).trans hbytes), State.endRead_eq]
    exact ⟨rfl, rfl, rfl, fourWords (length_slice bytes 0 16), rfl, rfl, rfl, rfl⟩
  · -- STAGE
    rw [State.portWrite_mbxCtl hruns hport (State.mbxControl_stage hidle _) (fun h => absurd h (by decide)),
      State.mbxDoStage_block (s := s.mbxBegun) hindex]
    dsimp only [State.endTransaction]
    exact ⟨rfl, rfl, rfl, rfl, rfl, rfl⟩
  · -- ABORT of a command that has not been acted on
    rw [State.portWrite_mbxCtl hruns hport (State.mbxControl_abort _ _ _) (fun h => absurd h (by decide)),
      State.mbxDoAbort_waiting (s := s.mbxReached) hbusy hwaits]
    exact ⟨rfl, rfl, rfl, rfl, rfl, rfl⟩
  · -- ABORT of nothing
    rw [State.portWrite_mbxCtl hruns hport (State.mbxControl_abort _ _ _) (fun h => absurd h (by decide)),
      State.mbxDoAbort_idle (s := s.mbxReached) hidle]
    exact ⟨rfl, rfl, rfl⟩
  · -- TIME
    rw [State.commitItem_unkeyed hruns hport hidle hready hsel (by decide) itemRule_time rfl rfl le_rfl le_rfl
      (by decide) (State.mbxTime_waits (s := s.mbxBegun) .regp _ hstep hopen hfree) rfl, slice_take _ (by decide)]
    exact ⟨rfl, rfl, rfl, rfl⟩
  · -- PEAL_PEERS
    rw [State.commitItem_unkeyed hruns hport hidle hready hsel (by decide) itemRule_peers rfl rfl le_rfl le_rfl
      (by decide) (State.mbxPeers_waits (s := s.mbxBegun) .regp _ hwaits) rfl]
    refine ⟨List.map_congr_left (fun i hi => ?_), rfl, rfl, rfl, rfl, rfl⟩
    have hlast : 8 * i + 8 ≤ 48 := by have := List.mem_range.1 hi; omega
    rw [slice_take _ hlast]
    rfl
  · -- SELFTEST_REQ
    have hst := State.startNextTest_keeps (m := fun u => u.st) (fun _ _ _ _ => rfl) (s.mbxBegun.takeTest s.askedUnit)
    rw [State.commitItem_selftest hruns hport hidle hready hsel hzero hunit hnew hroom]
    exact ⟨congrArg SelfTest.queue hst, congrArg SelfTest.next hst, State.endMbx_number _ _, rfl, rfl, rfl⟩
  · -- SELFTEST_REQ of an idle tag
    have hnone : s.queuedTests = [] := by rw [State.queuedTests, hqueue]; rfl
    have hstarted := State.takeTest_startNext (s := s.mbxBegun) (unit := s.askedUnit) hqueue hcurrent hjobs hgrants
    rw [State.commitItem_selftest hruns hport hidle hready hsel hzero hunit (by rw [hnone]; rfl)
      (by rw [hnone]; decide), hstarted]
    refine ⟨?_, ?_, State.endMbx_number _ _, rfl, rfl, rfl, rfl⟩
    · show ({ s.st with queue := s.st.queue ++ _, next := _ } : SelfTest) = _
      rw [hqueue]
      rfl
    · show (s.pwr.jobs ++ _).map _ = _
      rw [hjobs]
      rfl

end Sys2Proof.Machine
end
